-- ==== Sys2Proof/Word.lean ====
section
/-! DEFINITION. The words of the block: registers are 32 or 64 bits wide (00 R6, R8), the native word of store and
lanes is 72 bits (00 R10, "word"). Field values are kept as `Nat`, cut to the field's width when they are written. -/

namespace Sys2Proof

/-- A register word as the host transfers it (00, Registers: 32 bits wide, little-endian). -/
abbrev Word32 := BitVec 32

/-- A 64-bit register or request (00 R8). -/
abbrev Word64 := BitVec 64

/-- The native word of fabric, store and lanes (00 R10). -/
abbrev Word72 := BitVec 72

end Sys2Proof
end

