-- ==== Sys2Proof/Syntax.lean ====
section
/-! DEFINITION. The commands of the block: one constructor of `Instr` per row of spec/opcode_table.json, with the
operands the rule of the row gives it. What the environment decides (an error a read meets, a level a land has, a
result of an analogue test) is an operand; what the device decides is computed by the machine. -/

namespace Sys2Proof

/-- What a read of a store word finds (05 R123): the row of the syndrome table that applies. -/
inductive Syndrome where
  | zero
  | single
  | address
  | other (s : Nat)
  deriving DecidableEq, Repr

/-- What a read of a written flash code word finds (13 R357). -/
inductive FlashRead where
  | good
  | corrected
  | bad
  deriving DecidableEq, Repr

/-- What a read of a scratchpad word finds (02 R63). -/
inductive SpadRead where
  | good
  | single
  | uncorrectable
  deriving DecidableEq, Repr

/-- What the reads of a command find: by store word address (05 R123), and by flash code word (13 R357), word `c` of sector `s` of bank
`b` at `(1536b + s) × 4096 + c`. A word that is not listed shows no error. -/
structure Found where
  words : List (Nat × Syndrome) := []
  codes : List (Nat × FlashRead) := []
  deriving DecidableEq, Repr

/-- Who presents an access to the central store (05 R120, R129, R134); a contracted ticket's access carries the ticket's deadline.
`flow` and `design` are confined to buffers when they carry an address; the other requesters have their own paths. -/
inductive Requester where
  | promenade
  | contracted (deadline : Nat)
  | guard
  | config
  | steward
  | relocation
  | bestEffort
  | hostDma
  | flow
  | design
  deriving DecidableEq, Repr

/-- How the self-test of a frame ended (14 R396): a fault in a cell, or in signal `signal` of the configuration group that carries the
frame's bits 64`group` to 64`group` + 63. -/
inductive FrameTest where
  | pass
  | cell
  | signal (group signal : Nat)
  deriving DecidableEq, Repr

/-- Which ring transfer failed (02 R36, R47 event 0xD009). -/
inductive DmaKind where
  | fetch
  | completion
  | event
  | writeback
  deriving DecidableEq, Repr

/-- An access of the fabric management port to the scratchpad (02 R59, R60, R62). -/
inductive SpadAccess where
  | read
  | write (data : Nat)
  | add (operand : Nat)
  | swap (operand : Nat)
  deriving DecidableEq, Repr

/-- What every PTP message carries that the PTP function checks (03 R71): its domain, whether it came over IPv6, its interval as
the base-2 logarithm of seconds, its sequence number. -/
structure PtpHeader where
  domain : Nat
  ipv6 : Bool
  logInterval : Int
  seq : Nat
  deriving DecidableEq, Repr

/-- What an Announce message tells of its grandmaster (03 R71, R72). -/
structure PtpMaster where
  gmId : Nat
  priority1 : Nat
  clockClass : Nat
  accuracy : Nat
  variance : Nat
  priority2 : Nat
  stepsRemoved : Nat
  todValid : Bool
  utcOffset : Int
  utcValid : Bool
  deriving DecidableEq, Repr

/-- A PTP message as the Caller's PTP function sees it (03 R71, R72). Times are ns of TAI: `origin` and `receive` are the
master's, `sent` and `returned` the device's own timestamps of a delay request and of its answer; `correction` is in ns. -/
inductive PtpMessage where
  | announce (header : PtpHeader) (master : PtpMaster)
  | sync (header : PtpHeader) (twoStep : Bool) (origin correction : Int)
  | followUp (header : PtpHeader) (origin correction : Int)
  | delayResp (header : PtpHeader) (sent receive correction : Int)
  | peerDelayResp (header : PtpHeader) (sent receive answered returned : Int)
  | metadata (header : PtpHeader) (bytes : List Nat)
  | other
  deriving DecidableEq, Repr

/-- A sample row data header of ST 2110-20 (07 R185): octets of its samples, field, row, pixel offset. -/
structure SrdHeader where
  length : Nat
  second : Bool
  row : Nat
  offset : Nat
  deriving DecidableEq, Repr

/-- A received Ethernet frame as the checks and the match of 07 R182 see it. `payload` is the octets that follow the last
header: UDP's for KIND 0x1 and 0x2, RTP's (and the sample row data headers') for the others. -/
structure Frame where
  length : Nat
  fcsOk : Bool
  isPtp : Bool
  isMacControl : Bool
  ipHeaderOk : Bool
  fragment : Bool
  ipv6 : Bool
  isUdp : Bool
  udpChecksumOk : Bool
  vlan : Bool
  vid : Nat
  dstIp : Nat
  srcIp : Nat
  dstPort : Nat
  srcPort : Nat
  pt : Nat
  ssrc : Nat
  rtpSeq : Nat
  seqIsExtended : Bool
  marker : Bool
  srd : List SrdHeader
  payload : List Nat
  endsInError : Bool
  deriving DecidableEq, Repr

/-- An ancillary packet (07 R187): its place, its header words, its user data words, its checksum word. -/
structure AncPacket where
  line : Nat
  offset : Nat
  c : Bool
  stream : Nat
  did : Nat
  sdid : Nat
  count : Nat
  user : List Nat
  checksum : Nat
  deriving DecidableEq, Repr

/-- A line of an SDI signal as received (07 R194): TRS in place, the line number of its LN words, its CRC words match, the active
words of each of its data streams; or an ancillary packet of its blanking. -/
structure SdiLine where
  trsOk : Bool
  lineNo : Nat
  crcOk : Bool
  streams : List (List Nat)
  anc : Option AncPacket
  deriving DecidableEq, Repr

/-- One access of a tile memory port at a clock edge (10 R262). -/
structure TileAccess where
  en : Bool
  we : Nat
  addr : Nat
  din : Nat
  deriving DecidableEq, Repr

/-- The inputs of a mix slice at a clock edge (10 R268). -/
structure MixInput where
  ce : Bool
  x : Nat
  b : Nat
  pre : Nat
  zsel : Nat
  deriving DecidableEq, Repr

/-- The commands (spec/opcode_table.json, in its order). -/
inductive Instr where
  | registerWrite (addr size data : Nat)
  | reg64LowRead (addr size : Nat)
  | reg64HighRead (addr : Nat)
  | reg64LowWrite (addr data : Nat)
  | reg64HighWrite (addr data : Nat)
  | bar2Read (offset length : Nat) (found : List FlashRead)
  | cmdDoorbell (tail : Nat)
  | cplHeadWrite (head : Nat)
  | evtHeadWrite (head : Nat)
  | ringEnable (value : Nat)
  | ringReset (value : Nat)
  | commandFetch
  | commandDispatch
  | commandTimeout (id : Nat)
  | completionWrite
  | hostDmaFault (kind : DmaKind)
  | commandDataDmaError (id offset : Nat)
  | eventRingWrite
  | irqHoldoffExpiry (vector : Nat)
  | designIrqSet (n : Nat)
  | pcieLinkChange (up : Bool) (widthRate : Nat)
  | perstAssert
  | nop (id : Nat)
  | logRead (id : Nat) (found : Found)
  | stewardInfo (id : Nat)
  | mailboxGo
  | mbEvtRead
  | spiRead (addr words : Nat) (lastWhole : Bool)
  | spiWrite (addr : Nat) (groups : List Nat)
  | spiStatus
  | spiFrameError (command : Nat)
  | smbusRead (target code : Nat)
  | smbusAlertRead
  | stewardWatchdogExpiry
  | stewardLockstepMismatch
  | stewardPoisonedFetch
  | stewardRestartDone
  | spadHostRead (offset size : Nat) (found : SpadRead)
  | spadReadAbandon (word : Nat)
  | spadHostWrite (offset size data : Nat) (found : SpadRead)
  | spadFabricAccess (word : Nat) (access : SpadAccess) (found : SpadRead)
  | atomicAdd (found : SpadRead)
  | atomicSwap (found : SpadRead)
  | refclkLoss
  | refclkReturn
  | ptpMessage (port : Nat) (message : PtpMessage)
  | announceTimeout (port : Nat)
  | refaEdge (falling : Bool)
  | refbEdge (falling : Bool)
  | hokutuTimeMessage (bond lane frame : Nat) (alignErr : Int)
  | referenceLost (slot : Nat)
  | referenceValid (slot : Nat)
  | servoUpdate
  | holdoverExpiry
  | reselect
  | forceFreerun (value : Nat)
  | setTime (ns delay : Nat)
  | timeNsRead
  | posTickRead (grid : Nat)
  | gridEnable (grid value : Nat)
  | gridDisable (grid value : Nat)
  | pulseEnable (output value : Nat)
  | pulseOutputPulse (output : Nat)
  | alarmArm (comparator value : Nat)
  | alarmFire (comparator : Nat)
  | timeMessageSend
  | dncEntryWordStage (addr data : Nat)
  | dncEntryCommit (addr size data : Nat)
  | dncCopy
  | dncCopyDone
  | dncEnable (value : Nat)
  | dncSwapArm (value : Nat)
  | dncSwapCheckDone
  | dncSwapCancel
  | dncBankSwap
  | dncEntryDue
  | dncTurn
  | dncPark
  | dncUnpark
  | dncCapture
  | dncWindow
  | dncDeadline
  | dncRelease
  | dncGpioSet
  | dncGpioClear
  | dncGpioPulse
  | gpioPulseEnd (land : Nat)
  | dncEvent
  | dncAlarm
  | dncFence
  | dncLogWrite
  | storeWrite (requester : Requester) (number addr data : Nat) (poison : Bool)
  | storeRead (requester : Requester) (number addr : Nat) (found : Syndrome)
  | storeCorrectedWriteback
  | patrolRead (far : Bool) (found : Syndrome)
  | bufferDefine (buffer value : Nat)
  | bufferEffective (buffer : Nat) (found : Found)
  | bufferRemove (buffer value : Nat)
  | storeInitDone (far : Bool)
  | relocationDone (far : Bool) (unit : Nat) (found : Found)
  | admitFlow (id : Nat)
  | admissionCheckDone
  | withdraw (id : Nat)
  | withdrawDone (flow : Nat)
  | contractQuery (id : Nat)
  | ticketCreate (flow words : Nat)
  | ticketDelivered (ticket : Nat)
  | ticketDeadline (ticket : Nat)
  | recheckDone
  | flowTableWrite (addr data : Nat)
  | pairRecordWrite (addr data : Nat)
  | flowEnable (id : Nat)
  | flowDisable (id : Nat)
  | flowDisableDone (flow : Nat)
  | flowStats (id : Nat)
  | inject (id : Nat)
  | injectFrameSend (lane : Nat)
  | injectTokenRefill
  | ingressFrame (lane : Nat) (frame : Frame)
  | mergeSkewExpiry (record : Nat)
  | pathLossTimeout (record : Nat) (pathB : Bool)
  | sdiLine (flow : Nat) (line : SdiLine)
  | substituteTicketCreate (flow : Nat)
  | egressPacketSend (flow : Nat) (found : Found)
  | egressSdiLine (flow : Nat) (found : Found)
  | laneCtrlWrite (lane value : Nat)
  | lanePrbsWrite (lane value : Nat)
  | quadPllLockChange (quad pll : Nat) (lock : Bool)
  | laneUp (lane : Nat) (sdiRate : Nat) (sdiFrac : Bool)
  | laneLinkDown (lane : Nat) (remote : Bool)
  | laneFault (lane trigger : Nat)
  | laneTestDone (lane : Nat) (pass : Bool)
  | bondEnable (bond value : Nat)
  | hokutuTrainReq (bond position : Nat) (blocks : List Nat) (turnaround : Nat)
  | hokutuTrainAck (bond position : Nat) (blocks : List Nat) (fixedDelay : Nat)
  | bondTrainingDone (bond : Nat) (farMatches : Bool)
  | bondRetrain (bond : Nat)
  | hokutuTicketReceive (bond : Nat) (arrived : List (List Nat))
  | bondSpareSwitch (bond : Nat)
  | rawPcsReceive (lane word : Nat)
  | gpioWrite (land value : Nat)
  | viobFault (bank millivolts : Nat)
  | viobRestore (bank millivolts : Nat)
  | bypass
  | idcode
  | samplePreload (cells : List (Nat × Bool))
  | extest
  | extestPulse
  | extestTrain
  | clamp
  | highz
  | jtagTrst
  | fpllLock (pll : Nat)
  | fpllRefLost (pll : Nat)
  | fpllRealignDone (pll : Nat)
  | expressConflict (column row tap : Nat)
  | gsrRelease (region : Nat)
  | tileMemoryAccess (region tile : Nat) (a b : TileAccess) (sameCycle bLater : Bool) (foundA foundB : SpadRead)
  | tileEccWriteback (region tile : Nat) (portB : Bool)
  | mixSliceEdge (column slice : Nat) (input : MixInput)
  | packFifoWrite (port data : Nat) (wend : Bool) (wbytes : Nat)
  | packFifoReaderTake (port : Nat)
  | packFifoNotice (port : Nat)
  | deliveryPortPlace (port ticket : Nat) (found : Syndrome)
  | deliveryPortRead (port : Nat)
  | bufferReadRequest (port offset words : Nat)
  | streamStage (id : Nat)
  | streamLoad (id : Nat)
  | streamDiscard (id : Nat)
  | cfgDiscardWrite (value : Nat)
  | loadChecksDone (found : Found)
  | fullLoadCommit (found : Found)
  | backgroundLoadCommit (found : Found)
  | ctxTurn (id : Nat)
  | ctxPark (id : Nat)
  | ctxUnpark (id : Nat)
  | ctxCapture (id : Nat)
  | ctxResume (id : Nat)
  | ctxReadback (id : Nat)
  | ctxGoldenSave (id : Nat)
  | goldenSaveDone (ok : Bool)
  | turnEffect (region : Nat)
  | turnNoClock (region : Nat)
  | parkEffect (region : Nat)
  | parkForced (region : Nat)
  | unparkRelease (region : Nat)
  | captureTaken
  | flashErase (id : Nat)
  | flashEraseDone (bank : Nat) (verified : Bool)
  | flashProgram (id : Nat)
  | flashProgramDone (bank : Nat) (failedWord : Option Nat)
  | flashSuspend (id : Nat)
  | flashResume (id : Nat)
  | flashSectorInfo (id : Nat)
  | flashCalRead (id : Nat)
  | flashBootSwap (id : Nat) (found : Found)
  | stewardOffBank
  | recordSectorEraseDone (sector : Nat)
  | frameUpsetDetect (context physical frame : Nat) (found : Found)
  | frameSelfTestDone (context physical frame : Nat) (found : FrameTest)
  | columnRelocationDone (region : Nat) (found : Found)
  | guardTmrCorrect (physical : Nat)
  | guardFailed (physical : Nat) (inactiveLimit : Bool)
  | stewardScrubMismatch (context physical frame : Nat) (found : Found)
  | riserTransferError (interface group : Nat)
  | expressTapMismatch (group : Nat)
  | riserTestDone (interface group : Nat) (failedSignal : Option Nat)
  | storeBankTestDone (bank : Nat) (pass : Bool)
  | farChannelTestDone (channel : Nat) (pass : Bool)
  | hltAffectedFlows (id : Nat)
  | hltRecords (id : Nat)
  | hltTest (id : Nat)
  | vinMeasurement (millivolts milliamps milliwatts : Nat)
  | vinLockout
  | vinPowerUp (millivolts : Nat)
  | currentLimit (holding : Bool)
  | budgetUpdate
  | powerSample (rails regions : List Nat)
  | droopSample (rail : Nat) (droops : List Nat)
  | flowSample (millilitres : Nat)
  | tempSample (readings : List Int)
  | clearSuspect
  | policyEvaluate
  | glbResetWrite (value : Nat)
  | coldReset
  | warmReset
  | railsGood
  | stewardBootDone (found : Found)
  | contextRestoreDone (found : Found)
  | bootTagVerified (found : Found)
  | bootDone
  | pwrEnter (id : Nat)
  | pwrQuiesceDone
  | pwrCommit
  | pwrExit (id : Nat)
  | serviceEnter (id : Nat)
  | wakeInput (level : Bool)
  | wakeDone
  | firstAccessWake (far : Bool) (stallNs : Nat)
  | farStoreIdleTimeout
  | promReqInput (low : Bool)
  | promEnter (id : Nat)
  | promExit (id : Nat)
  | frameSyncInputFrame (route : Nat) (whole crosses : Bool) (words : List (Nat × Bool))
  | frameSyncOutputFrame (route : Nat) (crosses : Bool) (found : Found)
  | resClaim (id : Nat)
  | resRelease (id : Nat)
  | lcsInfo (id : Nat)
  | lcsChallenge (id : Nat)
  | lcsKeyWrite (id : Nat)
  | lcsTransition (id : Nat)
  | repeatTransition (id : Nat)
  | privilegedStepDone
  | dbgChallenge
  | dbgResponse (slot tag : Nat)
  | dbgAccess (write : Bool) (offset data : Nat)
  | dbgHalt
  | dbgResume
  | dbgReset
  | dbgLock
  | perstRelease
  | alwaysOnPowerLoss (millivolts : Nat)
  | routeStateChange (route : Nat) (up : Bool)
  | qrefclkPresenceChange (quad kilohertz : Nat)
  | patrolPeriodElapsed (far : Bool)
  deriving DecidableEq, Repr

end Sys2Proof
end

