-- ==== Sys2Proof/Decode.lean ====
section
/-! DEFINITION. The command that a word spells by the bits of spec/opcode_table.json. No row of the table gives bits: the
block takes commands as host accesses, protocol frames and events, and a ring command's 64-byte record is decoded by
COMMAND_DISPATCH (Machine/Ops.lean, `opcodeInfo`; 02 R37, R46). -/

namespace Sys2Proof

/-- The command that the `nbits` bits of `w` spell: none, since no row of the table has bits. -/
def decodeTableWord (_nbits _w : Nat) : Option Instr := none

end Sys2Proof
end

