-- ==== Sys2Proof/Config.lean ====
section
/-! DEFINITION. What one device fixes and the spec does not: the words of its calibration row, the functions of
AES-256 that the spec names without giving them, and the free values. Each is a constant without a body, so no proof
can see what it is. -/

namespace Sys2Proof

/-- DESIGN CHOICE (log 1): the free values. The step applies it to the counter `State.fresh`, which it advances, so
that every value the spec leaves open is a new one that nothing constrains. -/
opaque Config.freeValue : Nat → Nat

/-- DESIGN CHOICE (log 149): the level that the board gives a land at a tick; none where it drives nothing. -/
opaque Config.boardLevel : (tick land : Nat) → Option Bool

/-- DESIGN CHOICE (log 149): the level that the design's user logic drives on a land it owns at a tick; none where it drives nothing. -/
opaque Config.designLevel : (tick land : Nat) → Option Bool

/-- DESIGN CHOICE (log 132): the filtered offset that the servo makes of the one before and of the offset measured, both in ns: 03
R73 names the filter and does not give it. -/
opaque Config.offsetFilter : Int → Int → Int

/-- DESIGN CHOICE (log 4): GLB_ID.REV, from the calibration row (16 R458). -/
opaque Config.revision : Nat

/-- DESIGN CHOICE (log 4): GLB_ID.GRADE, from the calibration row (00 R3, 16 R458): 0 = commercial, 1 = extended. -/
opaque Config.grade : Nat

/-- DESIGN CHOICE (log 4): GLB_SERIAL, from the calibration row (16 R458). -/
opaque Config.serial : Nat

/-- DESIGN CHOICE (log 4): the factory MAC address of lane 0, from the calibration row (08 R211). -/
opaque Config.factoryMac : Nat

/-- DESIGN CHOICE (log 4): coefficient a of the L2 temperature model in mK/W (15 R425), from the calibration row. -/
opaque Config.thermalA : Nat

/-- DESIGN CHOICE (log 4): coefficient b of the L2 temperature model in mK/W (15 R425). -/
opaque Config.thermalB : Nat

/-- DESIGN CHOICE (log 4): coefficient c of the L2 temperature model in mK/W (15 R425). -/
opaque Config.thermalC : Nat

/-- DESIGN CHOICE (log 4): the 144 data bits of code word `n` of the calibration row (13 R383). -/
opaque Config.calibration : Nat → Nat

/-- DESIGN CHOICE (log 136): the riser signals steered to spares at the factory, from code words 2 to 113 of the calibration row (01
R16, 13 R383), whose layout the spec does not give: INDEX of the group (14 R406) and the signal. -/
opaque Config.factorySteering : List (Nat × Nat)

/-- DESIGN CHOICE (log 4): the steward firmware version that MBX_STW_VER shows for a boot block (02 R64). -/
opaque Config.firmwareVersion : Nat → Nat

/-- PRESUMED (log 34): code word `key` of the maker's firmware in the boot blocks of a device as shipped. -/
opaque Config.factoryWord : Nat → Nat

/-- PRESUMED (log 7): the 128-bit AES-256-GCM tag of the additional data `aad` and the ciphertext `ct` under the key `key` and the
96-bit IV `iv` (11 R291; NIST SP 800-38D is outside the spec's text). -/
opaque Config.gcmTag : (key iv : Nat) → (aad ct : List Nat) → BitVec 128

/-- PRESUMED (log 7): AES-256-GCM decryption of `bytes` under the key `key` and the 96-bit IV `iv` (11 R291). -/
opaque Config.gcmDecrypt : (key iv : Nat) → (bytes : List Nat) → List Nat

/-- PRESUMED (log 7): the key check value of a 256-bit key (19 R500). -/
opaque Config.keyCheckValue : Nat → Nat

/-- DESIGN CHOICE (log 29): the 8 check bits that a tile memory port computes over 64 data bits (10 R266); the spec names
the code and does not give its matrix. -/
opaque Config.tileCheck : Nat → Nat

end Sys2Proof
end

