-- ==== Sys2Proof/Machine/Field.lean ====
section
/-! DEFINITION. What a register field is (00 R6 to R9): where it lies, how it is accessed, what it resets to; and the
reset values that the spec gives by a rule and not by a number. -/

namespace Sys2Proof.Machine

/-- The access codes of 00 R6. -/
inductive Access where
  | ro
  | rw
  | w1c
  | w1s
  | wo
  | rws
  | rwl
  deriving DecidableEq, Repr

/-- A row of a register map. `addr` is the BAR0 byte address of the register's low word, `lo` the field's lowest bit;
instance `i` lies `stride * i` bytes higher. A write of a value outside `vmin` to `vmax` stores the nearest limit. -/
structure Field where
  addr : Nat
  lo : Nat
  width : Nat
  acc : Access
  reset : Nat → Nat := fun _ => 0
  stride : Nat := 0
  count : Nat := 1
  vmin : Nat := 0
  vmax : Nat := 0xFFFFFFFF

/-- The bit address of instance `i`: what names the field in `State.regs`. -/
def Field.key (f : Field) (i : Nat) : Nat := 8 * (f.addr + f.stride * i) + f.lo

/-- A value cut to the field's width. -/
def Field.cut (f : Field) (v : Nat) : Nat := v % 2 ^ f.width

/-- Owner of an alarm comparator (03 R85): 0 = dance card engine, 1 = power manager, 2 = steward, 3 = host. -/
def almOwner (a : Nat) : Nat :=
  if a < 24 then 0 else if a = 24 then 1 else if a < 27 then 2 else 3

/-- First word address of partition `p` (05 R118). -/
def partBase (p : Nat) : Nat :=
  match p with
  | 0 => 0x0000_0000
  | 1 => 0x0280_0000
  | 2 => 0x0480_0000
  | 3 => 0x04A0_0000
  | 4 => 0x4000_0000
  | _ => 0x4020_0000

/-- Words of partition `p` (05 R118). -/
def partWords (p : Nat) : Nat :=
  match p with
  | 0 => 41943040
  | 1 => 33554432
  | 2 => 2097152
  | 3 => 459276288
  | 4 => 2097152
  | _ => 6291456

/-- Reset of LNE_LN_MAC of lane `n` (08 R211): lane 0's factory address with `n` added to its low 24 bits. -/
def factoryMacOf (n : Nat) : Nat :=
  (Config.factoryMac % 2 ^ 48) / 2 ^ 24 * 2 ^ 24 + (Config.factoryMac % 2 ^ 24 + n) % 2 ^ 24

/-- Bits 31 to 0 of lane `n`'s factory address (08 R211). -/
def macLow (n : Nat) : Nat := factoryMacOf n % 2 ^ 32

/-- Bits 47 to 32 of lane `n`'s factory address (08 R211). -/
def macHigh (n : Nat) : Nat := factoryMacOf n / 2 ^ 32 % 2 ^ 16

/-- A sector that holds the maker's firmware as shipped (PRESUMED, log 34): sectors 0 to 11 of banks 0 and 1, WRITTEN. The
index is 1,536 × bank + sector. -/
def shippedState (i : Nat) : Nat := if i / 1536 < 2 ∧ i % 1536 < 12 then 1 else 0

/-- The four column types in FAB_COLMAP.TYPE's encoding: type of the column at offset `j` of its region (09 R233);
offsets 96 and 97 are the spare logic columns. -/
def offsetType (j : Nat) : Nat :=
  if 96 ≤ j then 0
  else
    let i := j % 32
    if i = 0 then 3
    else if i = 4 ∨ i = 12 ∨ i = 20 ∨ i = 28 then 1
    else if i = 8 ∨ i = 16 ∨ i = 24 then 2
    else 0

/-- Type of logical column `c` (09 R233). -/
def columnType (c : Nat) : Nat := offsetType (c % 96)

/-- Physical column of logical column `c` with no retirement (09 R235). -/
def columnUnsteered (c : Nat) : Nat := 98 * (c / 96) + c % 96

end Sys2Proof.Machine
end

