-- ==== Sys2Proof/Machine/RegsFabric.lean ====
section
/-! DEFINITION. The register fields of the FAB, HB blocks, one definition per row of the register maps of the spec. -/

namespace Sys2Proof.Machine

-- 09 R260, FAB register map
def FAB_STATUS_THROTTLED : Field :=
  { addr := 0x400000, lo := 16, width := 16, acc := .ro, vmax := 0xFFFF }
def FAB_STATUS_RETIRED : Field :=
  { addr := 0x400000, lo := 0, width := 16, acc := .ro, vmax := 0xFFFF }
def FAB_ERR_FMAX_REFUSED : Field :=
  { addr := 0x400004, lo := 2, width := 1, acc := .w1c, vmax := 0x1 }
def FAB_ERR_GRID_LOST : Field :=
  { addr := 0x400004, lo := 1, width := 1, acc := .w1c, vmax := 0x1 }
def FAB_ERR_XCONF : Field :=
  { addr := 0x400004, lo := 0, width := 1, acc := .w1c, vmax := 0x1 }
def FAB_XCONF_CNT : Field :=
  { addr := 0x400008, lo := 0, width := 32, acc := .rw }
def FAB_XCONF_LAST_POS : Field :=
  { addr := 0x40000C, lo := 20, width := 5, acc := .ro, vmax := 0x1F }
def FAB_XCONF_LAST_SEGMENT : Field :=
  { addr := 0x40000C, lo := 0, width := 20, acc := .ro, vmax := 0xFFFFF }
def FAB_GCLK_ACTIVE : Field :=
  { addr := 0x400100, lo := 8, width := 1, acc := .ro, stride := 4, count := 48, vmax := 0x1 }
def FAB_GCLK_SRC : Field :=
  { addr := 0x400100, lo := 0, width := 8, acc := .ro, reset := fun _ => 0xFF, stride := 4, count := 48, vmax := 0xFF }
def FAB_PLL_CTRL_EN : Field :=
  { addr := 0x400200, lo := 31, width := 1, acc := .ro, stride := 32, count := 16, vmax := 0x1 }
def FAB_PLL_CTRL_MODE : Field :=
  { addr := 0x400200, lo := 28, width := 2, acc := .ro, stride := 32, count := 16, vmax := 0x3 }
def FAB_PLL_CTRL_GRID : Field :=
  { addr := 0x400200, lo := 24, width := 3, acc := .ro, stride := 32, count := 16, vmax := 0x7 }
def FAB_PLL_CTRL_REF : Field :=
  { addr := 0x400200, lo := 0, width := 8, acc := .ro, stride := 32, count := 16, vmax := 0xFF }
def FAB_PLL_MN_M : Field :=
  { addr := 0x400204, lo := 16, width := 12, acc := .ro, reset := fun _ => 1, stride := 32, count := 16, vmax := 0xFFF }
def FAB_PLL_MN_N : Field :=
  { addr := 0x400204, lo := 0, width := 8, acc := .ro, reset := fun _ => 1, stride := 32, count := 16, vmax := 0xFF }
def FAB_PLL_K : Field :=
  { addr := 0x400208, lo := 0, width := 24, acc := .ro, reset := fun _ => 1, stride := 32, count := 16, vmax := 0xFFFFFF }
def FAB_PLL_DIV_D3 : Field :=
  { addr := 0x40020C, lo := 24, width := 8, acc := .ro, reset := fun _ => 2, stride := 32, count := 16, vmax := 0xFF }
def FAB_PLL_DIV_D2 : Field :=
  { addr := 0x40020C, lo := 16, width := 8, acc := .ro, reset := fun _ => 2, stride := 32, count := 16, vmax := 0xFF }
def FAB_PLL_DIV_D1 : Field :=
  { addr := 0x40020C, lo := 8, width := 8, acc := .ro, reset := fun _ => 2, stride := 32, count := 16, vmax := 0xFF }
def FAB_PLL_DIV_D0 : Field :=
  { addr := 0x40020C, lo := 0, width := 8, acc := .ro, reset := fun _ => 2, stride := 32, count := 16, vmax := 0xFF }
def FAB_PLL_STATUS_LOCK : Field :=
  { addr := 0x400210, lo := 31, width := 1, acc := .ro, stride := 32, count := 16, vmax := 0x1 }
def FAB_PLL_STATUS_ALIGNED : Field :=
  { addr := 0x400210, lo := 30, width := 1, acc := .ro, stride := 32, count := 16, vmax := 0x1 }
def FAB_PLL_STATUS_HOLDOVER : Field :=
  { addr := 0x400210, lo := 29, width := 1, acc := .ro, stride := 32, count := 16, vmax := 0x1 }
def FAB_PLL_STATUS_GRID_LOST : Field :=
  { addr := 0x400210, lo := 28, width := 1, acc := .ro, stride := 32, count := 16, vmax := 0x1 }
def FAB_PLL_STATUS_FMAX_REFUSED : Field :=
  { addr := 0x400210, lo := 27, width := 1, acc := .ro, stride := 32, count := 16, vmax := 0x1 }
def FAB_PLL_STATUS_F0_KHZ : Field :=
  { addr := 0x400210, lo := 0, width := 20, acc := .ro, stride := 32, count := 16, vmax := 0xFFFFF }
def FAB_PLL_LOCK_LOSS_CNT : Field :=
  { addr := 0x400214, lo := 0, width := 32, acc := .rw, stride := 32, count := 16 }
def FAB_REGION_CLK_RCLK3 : Field :=
  { addr := 0x400400, lo := 24, width := 7, acc := .ro, reset := fun _ => 0x7F, stride := 64, count := 16, vmax := 0x7F }
def FAB_REGION_CLK_RCLK2 : Field :=
  { addr := 0x400400, lo := 16, width := 7, acc := .ro, reset := fun _ => 0x7F, stride := 64, count := 16, vmax := 0x7F }
def FAB_REGION_CLK_RCLK1 : Field :=
  { addr := 0x400400, lo := 8, width := 7, acc := .ro, reset := fun _ => 0x7F, stride := 64, count := 16, vmax := 0x7F }
def FAB_REGION_CLK_RCLK0 : Field :=
  { addr := 0x400400, lo := 0, width := 7, acc := .ro, reset := fun _ => 0x7F, stride := 64, count := 16, vmax := 0x7F }
def FAB_REGION_CTRL_THROTTLEABLE : Field :=
  { addr := 0x400404, lo := 31, width := 1, acc := .ro, stride := 64, count := 16, vmax := 0x1 }
def FAB_REGION_CTRL_THR_DIV : Field :=
  { addr := 0x400404, lo := 30, width := 1, acc := .ro, stride := 64, count := 16, vmax := 0x1 }
def FAB_REGION_CTRL_TURN_CLK : Field :=
  { addr := 0x400404, lo := 28, width := 2, acc := .ro, stride := 64, count := 16, vmax := 0x3 }
def FAB_REGION_FMAX1 : Field :=
  { addr := 0x400408, lo := 16, width := 10, acc := .ro, stride := 64, count := 16, vmax := 0x3FF }
def FAB_REGION_FMAX0 : Field :=
  { addr := 0x400408, lo := 0, width := 10, acc := .ro, stride := 64, count := 16, vmax := 0x3FF }
def FAB_REGION_FMAX3 : Field :=
  { addr := 0x40040C, lo := 16, width := 10, acc := .ro, stride := 64, count := 16, vmax := 0x3FF }
def FAB_REGION_FMAX2 : Field :=
  { addr := 0x40040C, lo := 0, width := 10, acc := .ro, stride := 64, count := 16, vmax := 0x3FF }
def FAB_REGION_RETIRED : Field :=
  { addr := 0x400410, lo := 31, width := 1, acc := .ro, stride := 64, count := 16, vmax := 0x1 }
def FAB_REGION_THROTTLED : Field :=
  { addr := 0x400410, lo := 30, width := 1, acc := .ro, stride := 64, count := 16, vmax := 0x1 }
def FAB_REGION_RSR_HELD : Field :=
  { addr := 0x400410, lo := 29, width := 1, acc := .ro, stride := 64, count := 16, vmax := 0x1 }
def FAB_REGION_GSR_HELD : Field :=
  { addr := 0x400410, lo := 28, width := 1, acc := .ro, reset := fun _ => 1, stride := 64, count := 16, vmax := 0x1 }
def FAB_REGION_WAIT_LOCK : Field :=
  { addr := 0x400410, lo := 27, width := 1, acc := .ro, stride := 64, count := 16, vmax := 0x1 }
def FAB_REGION_WAIT_CLK : Field :=
  { addr := 0x400410, lo := 26, width := 1, acc := .ro, stride := 64, count := 16, vmax := 0x1 }
def FAB_REGION_SPARES_USED : Field :=
  { addr := 0x400410, lo := 8, width := 2, acc := .ro, stride := 64, count := 16, vmax := 0x3 }
def FAB_REGION_CLK_RUN : Field :=
  { addr := 0x400410, lo := 0, width := 4, acc := .ro, stride := 64, count := 16, vmax := 0xF }
def FAB_COLMAP_TYPE : Field :=
  { addr := 0x401000, lo := 30, width := 2, acc := .ro, reset := columnType, stride := 4, count := 1536, vmax := 0x3 }
def FAB_COLMAP_STEERED : Field :=
  { addr := 0x401000, lo := 15, width := 1, acc := .ro, stride := 4, count := 1536, vmax := 0x1 }
def FAB_COLMAP_PHYS : Field :=
  { addr := 0x401000, lo := 0, width := 11, acc := .ro, reset := columnUnsteered, stride := 4, count := 1536, vmax := 0x7FF }

/-- Fields of the FAB map, part 0. -/
def fabFields0 : List Field :=
  [FAB_STATUS_THROTTLED, FAB_STATUS_RETIRED, FAB_ERR_FMAX_REFUSED, FAB_ERR_GRID_LOST,
   FAB_ERR_XCONF, FAB_XCONF_CNT, FAB_XCONF_LAST_POS, FAB_XCONF_LAST_SEGMENT,
   FAB_GCLK_ACTIVE, FAB_GCLK_SRC, FAB_PLL_CTRL_EN, FAB_PLL_CTRL_MODE,
   FAB_PLL_CTRL_GRID, FAB_PLL_CTRL_REF, FAB_PLL_MN_M, FAB_PLL_MN_N,
   FAB_PLL_K, FAB_PLL_DIV_D3, FAB_PLL_DIV_D2, FAB_PLL_DIV_D1,
   FAB_PLL_DIV_D0, FAB_PLL_STATUS_LOCK, FAB_PLL_STATUS_ALIGNED, FAB_PLL_STATUS_HOLDOVER,
   FAB_PLL_STATUS_GRID_LOST, FAB_PLL_STATUS_FMAX_REFUSED, FAB_PLL_STATUS_F0_KHZ, FAB_PLL_LOCK_LOSS_CNT,
   FAB_REGION_CLK_RCLK3, FAB_REGION_CLK_RCLK2, FAB_REGION_CLK_RCLK1, FAB_REGION_CLK_RCLK0,
   FAB_REGION_CTRL_THROTTLEABLE, FAB_REGION_CTRL_THR_DIV, FAB_REGION_CTRL_TURN_CLK, FAB_REGION_FMAX1,
   FAB_REGION_FMAX0, FAB_REGION_FMAX3, FAB_REGION_FMAX2, FAB_REGION_RETIRED]
/-- Fields of the FAB map, part 1. -/
def fabFields1 : List Field :=
  [FAB_REGION_THROTTLED, FAB_REGION_RSR_HELD, FAB_REGION_GSR_HELD, FAB_REGION_WAIT_LOCK,
   FAB_REGION_WAIT_CLK, FAB_REGION_SPARES_USED, FAB_REGION_CLK_RUN, FAB_COLMAP_TYPE,
   FAB_COLMAP_STEERED, FAB_COLMAP_PHYS]
/-- The fields of the FAB register map. -/
def fabFields : List Field := fabFields0 ++ fabFields1

-- 10 R287, HB register map
def HB_ERR_PF_DAMAGED : Field :=
  { addr := 0x408000, lo := 2, width := 1, acc := .w1c, vmax := 0x1 }
def HB_ERR_TM_UNCORR : Field :=
  { addr := 0x408000, lo := 1, width := 1, acc := .w1c, vmax := 0x1 }
def HB_ERR_TM_CORR : Field :=
  { addr := 0x408000, lo := 0, width := 1, acc := .w1c, vmax := 0x1 }
def HB_LAST_UNCORR_REGION : Field :=
  { addr := 0x408004, lo := 28, width := 4, acc := .ro, vmax := 0xF }
def HB_LAST_UNCORR_TILE : Field :=
  { addr := 0x408004, lo := 20, width := 8, acc := .ro, vmax := 0xFF }
def HB_LAST_UNCORR_ROW : Field :=
  { addr := 0x408004, lo := 0, width := 10, acc := .ro, vmax := 0x3FF }
def HB_TM_CORR_CNT : Field :=
  { addr := 0x408100, lo := 0, width := 32, acc := .rw, stride := 16, count := 16 }
def HB_TM_UNCORR_CNT : Field :=
  { addr := 0x408104, lo := 0, width := 32, acc := .rw, stride := 16, count := 16 }
def HB_TM_BUSY_CNT : Field :=
  { addr := 0x408108, lo := 0, width := 32, acc := .rw, stride := 16, count := 16 }
def PF_CFG_BIND : Field :=
  { addr := 0x409000, lo := 30, width := 2, acc := .ro, stride := 16, count := 256, vmax := 0x3 }
def PF_CFG_MODE : Field :=
  { addr := 0x409000, lo := 29, width := 1, acc := .ro, stride := 16, count := 256, vmax := 0x1 }
def PF_CFG_WIDTH : Field :=
  { addr := 0x409000, lo := 27, width := 2, acc := .ro, stride := 16, count := 256, vmax := 0x3 }
def PF_CFG_AF_LEVEL : Field :=
  { addr := 0x409000, lo := 18, width := 9, acc := .ro, reset := fun _ => 0x100, stride := 16, count := 256, vmax := 0x1FF }
def PF_CFG_TARGET : Field :=
  { addr := 0x409000, lo := 0, width := 14, acc := .ro, stride := 16, count := 256, vmax := 0x3FFF }
def PF_STATUS_FULL : Field :=
  { addr := 0x409004, lo := 31, width := 1, acc := .ro, stride := 16, count := 256, vmax := 0x1 }
def PF_STATUS_OVERRUN : Field :=
  { addr := 0x409004, lo := 30, width := 1, acc := .w1c, stride := 16, count := 256, vmax := 0x1 }
def PF_STATUS_OPEN : Field :=
  { addr := 0x409004, lo := 29, width := 1, acc := .ro, stride := 16, count := 256, vmax := 0x1 }
def PF_STATUS_LEVEL : Field :=
  { addr := 0x409004, lo := 0, width := 10, acc := .ro, stride := 16, count := 256, vmax := 0x3FF }
def PF_PACKET_CNT : Field :=
  { addr := 0x409008, lo := 0, width := 32, acc := .ro, stride := 16, count := 256 }
def PF_DAMAGED_CNT : Field :=
  { addr := 0x40900C, lo := 0, width := 32, acc := .rw, stride := 16, count := 256 }
def DP_CFG_BIND : Field :=
  { addr := 0x40A000, lo := 30, width := 2, acc := .ro, stride := 16, count := 256, vmax := 0x3 }
def DP_CFG_TARGET : Field :=
  { addr := 0x40A000, lo := 0, width := 14, acc := .ro, stride := 16, count := 256, vmax := 0x3FFF }
def DP_STATUS_VALID : Field :=
  { addr := 0x40A004, lo := 31, width := 1, acc := .ro, stride := 16, count := 256, vmax := 0x1 }
def DP_STATUS_QUEUED : Field :=
  { addr := 0x40A004, lo := 10, width := 4, acc := .ro, stride := 16, count := 256, vmax := 0xF }
def DP_STATUS_LEVEL : Field :=
  { addr := 0x40A004, lo := 0, width := 10, acc := .ro, stride := 16, count := 256, vmax := 0x3FF }
def DP_WORD_CNT : Field :=
  { addr := 0x40A008, lo := 0, width := 32, acc := .ro, stride := 16, count := 256 }
def DP_FLAG_CNT : Field :=
  { addr := 0x40A00C, lo := 0, width := 32, acc := .rw, stride := 16, count := 256 }

/-- Fields of the HB map, part 0. -/
def hbFields0 : List Field :=
  [HB_ERR_PF_DAMAGED, HB_ERR_TM_UNCORR, HB_ERR_TM_CORR, HB_LAST_UNCORR_REGION,
   HB_LAST_UNCORR_TILE, HB_LAST_UNCORR_ROW, HB_TM_CORR_CNT, HB_TM_UNCORR_CNT,
   HB_TM_BUSY_CNT, PF_CFG_BIND, PF_CFG_MODE, PF_CFG_WIDTH,
   PF_CFG_AF_LEVEL, PF_CFG_TARGET, PF_STATUS_FULL, PF_STATUS_OVERRUN,
   PF_STATUS_OPEN, PF_STATUS_LEVEL, PF_PACKET_CNT, PF_DAMAGED_CNT,
   DP_CFG_BIND, DP_CFG_TARGET, DP_STATUS_VALID, DP_STATUS_QUEUED,
   DP_STATUS_LEVEL, DP_WORD_CNT, DP_FLAG_CNT]
/-- The fields of the HB register map. -/
def hbFields : List Field := hbFields0

end Sys2Proof.Machine
end

