-- ==== Sys2Proof/Machine/RegsHealth.lean ====
section
/-! DEFINITION. The register fields of the HLT, THM, PWR, PRM, LCS blocks, one definition per row of the register maps of the spec. -/

namespace Sys2Proof.Machine

-- 14 R413, HLT register map
def HLT_STATUS_DEGRADED : Field :=
  { addr := 0x500000, lo := 31, width := 1, acc := .ro, vmax := 0x1 }
def HLT_STATUS_RECORDS_FULL : Field :=
  { addr := 0x500000, lo := 30, width := 1, acc := .ro, vmax := 0x1 }
def HLT_STATUS_UNGUARDED_CNT : Field :=
  { addr := 0x500000, lo := 16, width := 11, acc := .ro, vmax := 0x7FF }
def HLT_STATUS_RETIRED_REGIONS : Field :=
  { addr := 0x500000, lo := 0, width := 16, acc := .ro, vmax := 0xFFFF }
def HLT_ERR_RECORDS_FULL : Field :=
  { addr := 0x500004, lo := 4, width := 1, acc := .w1c, vmax := 0x1 }
def HLT_ERR_RETIRED : Field :=
  { addr := 0x500004, lo := 3, width := 1, acc := .w1c, vmax := 0x1 }
def HLT_ERR_GUARD_FAILED : Field :=
  { addr := 0x500004, lo := 2, width := 1, acc := .w1c, vmax := 0x1 }
def HLT_ERR_UNREPAIRABLE : Field :=
  { addr := 0x500004, lo := 1, width := 1, acc := .w1c, vmax := 0x1 }
def HLT_ERR_UPSET : Field :=
  { addr := 0x500004, lo := 0, width := 1, acc := .w1c, vmax := 0x1 }
def HLT_UPSET_CNT : Field :=
  { addr := 0x500008, lo := 0, width := 32, acc := .rw }
def HLT_TRANSIENT_CNT : Field :=
  { addr := 0x50000C, lo := 0, width := 32, acc := .rw }
def HLT_PERMANENT_CNT : Field :=
  { addr := 0x500010, lo := 0, width := 32, acc := .rw }
def HLT_TMR_CNT : Field :=
  { addr := 0x500014, lo := 0, width := 32, acc := .rw }
def HLT_SCRUB_PASS_CNT : Field :=
  { addr := 0x500018, lo := 0, width := 32, acc := .ro }
def HLT_RECORD_CNT : Field :=
  { addr := 0x50001C, lo := 0, width := 13, acc := .ro, vmax := 0x1FFF }
def HLT_LAST_UPSET : Field :=
  { addr := 0x500020, lo := 0, width := 21, acc := .ro, vmax := 0x1FFFFF }
def HLT_LAST_RETIRE_KIND : Field :=
  { addr := 0x500024, lo := 28, width := 4, acc := .ro, vmax := 0xF }
def HLT_LAST_RETIRE_INDEX : Field :=
  { addr := 0x500024, lo := 0, width := 28, acc := .ro, vmax := 0xFFFFFFF }
def HLT_AFFECTED_CNT : Field :=
  { addr := 0x500028, lo := 0, width := 15, acc := .ro, vmax := 0x7FFF }
def HLT_REGION_UPSET_ACTION : Field :=
  { addr := 0x500100, lo := 30, width := 2, acc := .rws, stride := 16, count := 16, vmax := 0x3 }
def HLT_REGION_RELOCATE_PENDING : Field :=
  { addr := 0x500100, lo := 29, width := 1, acc := .ro, stride := 16, count := 16, vmax := 0x1 }
def HLT_REGION_RETIRED : Field :=
  { addr := 0x500100, lo := 28, width := 1, acc := .ro, stride := 16, count := 16, vmax := 0x1 }
def HLT_REGION_UPSET_CNT : Field :=
  { addr := 0x500104, lo := 0, width := 32, acc := .rw, stride := 16, count := 16 }
def HLT_REGION_RESTART_CNT : Field :=
  { addr := 0x500108, lo := 0, width := 32, acc := .rw, stride := 16, count := 16 }
def HLT_GUARD_FAILED : Field :=
  { addr := 0x500200, lo := 0, width := 32, acc := .ro, stride := 4, count := 49 }
def HLT_COL_RETIRED : Field :=
  { addr := 0x500300, lo := 0, width := 32, acc := .ro, stride := 4, count := 49 }
def HLT_RISER_SPARES_USED : Field :=
  { addr := 0x500410, lo := 0, width := 32, acc := .ro, stride := 16, count := 7 }
def HLT_RISER_HALF_CNT : Field :=
  { addr := 0x500414, lo := 0, width := 16, acc := .ro, stride := 16, count := 7, vmax := 0xFFFF }
def HLT_RISER_RETIRED_CNT : Field :=
  { addr := 0x500418, lo := 0, width := 16, acc := .ro, stride := 16, count := 7, vmax := 0xFFFF }
def HLT_RISER_TRANSFER_ERR_CNT : Field :=
  { addr := 0x50041C, lo := 0, width := 32, acc := .rw, stride := 16, count := 7 }

/-- Fields of the HLT map, part 0. -/
def hltFields0 : List Field :=
  [HLT_STATUS_DEGRADED, HLT_STATUS_RECORDS_FULL, HLT_STATUS_UNGUARDED_CNT, HLT_STATUS_RETIRED_REGIONS,
   HLT_ERR_RECORDS_FULL, HLT_ERR_RETIRED, HLT_ERR_GUARD_FAILED, HLT_ERR_UNREPAIRABLE,
   HLT_ERR_UPSET, HLT_UPSET_CNT, HLT_TRANSIENT_CNT, HLT_PERMANENT_CNT,
   HLT_TMR_CNT, HLT_SCRUB_PASS_CNT, HLT_RECORD_CNT, HLT_LAST_UPSET,
   HLT_LAST_RETIRE_KIND, HLT_LAST_RETIRE_INDEX, HLT_AFFECTED_CNT, HLT_REGION_UPSET_ACTION,
   HLT_REGION_RELOCATE_PENDING, HLT_REGION_RETIRED, HLT_REGION_UPSET_CNT, HLT_REGION_RESTART_CNT,
   HLT_GUARD_FAILED, HLT_COL_RETIRED, HLT_RISER_SPARES_USED, HLT_RISER_HALF_CNT,
   HLT_RISER_RETIRED_CNT, HLT_RISER_TRANSFER_ERR_CNT]
/-- The fields of the HLT register map. -/
def hltFields : List Field := hltFields0

-- 15 R434, THM register map
def THM_CTRL_CLEAR_SUSPECT : Field :=
  { addr := 0x540000, lo := 0, width := 1, acc := .wo, vmax := 0x1 }
def THM_STATUS_STEP : Field :=
  { addr := 0x540004, lo := 29, width := 3, acc := .ro, vmax := 0x7 }
def THM_STATUS_CAUSE : Field :=
  { addr := 0x540004, lo := 16, width := 4, acc := .ro, vmax := 0xF }
def THM_STATUS_OVERVOLT : Field :=
  { addr := 0x540004, lo := 9, width := 1, acc := .ro, vmax := 0x1 }
def THM_STATUS_ILIMIT : Field :=
  { addr := 0x540004, lo := 8, width := 1, acc := .ro, vmax := 0x1 }
def THM_STATUS_VIN_LOW : Field :=
  { addr := 0x540004, lo := 7, width := 1, acc := .ro, vmax := 0x1 }
def THM_STATUS_FLOW_SUSPECT : Field :=
  { addr := 0x540004, lo := 6, width := 1, acc := .ro, vmax := 0x1 }
def THM_STATUS_FLOW_STATE : Field :=
  { addr := 0x540004, lo := 4, width := 2, acc := .ro, vmax := 0x3 }
def THM_STATUS_L2_SUSPECT : Field :=
  { addr := 0x540004, lo := 3, width := 1, acc := .ro, vmax := 0x1 }
def THM_ALERT : Field :=
  { addr := 0x540008, lo := 0, width := 8, acc := .w1c, vmax := 0xFF }
def THM_LIMITS_WARN_C : Field :=
  { addr := 0x54000C, lo := 8, width := 8, acc := .rws, reset := fun _ => 0x5C, vmax := 0xFF }
def THM_LIMITS_SHED_C : Field :=
  { addr := 0x54000C, lo := 0, width := 8, acc := .rws, reset := fun _ => 0x5A, vmax := 0xFF }
def THM_VIN_MV : Field :=
  { addr := 0x540010, lo := 0, width := 17, acc := .ro, vmax := 0x1FFFF }
def THM_IIN_MA : Field :=
  { addr := 0x540014, lo := 0, width := 14, acc := .ro, vmax := 0x3FFF }
def THM_PIN_MW : Field :=
  { addr := 0x540018, lo := 0, width := 19, acc := .ro, vmax := 0x7FFFF }
def THM_PSTACK_MW : Field :=
  { addr := 0x54001C, lo := 0, width := 18, acc := .ro, vmax := 0x3FFFF }
def THM_BUDGET_LIMIT : Field :=
  { addr := 0x540020, lo := 28, width := 4, acc := .ro, reset := fun _ => 4, vmax := 0xF }
def THM_BUDGET_BUDGET_MW : Field :=
  { addr := 0x540020, lo := 0, width := 18, acc := .ro, reset := fun _ => 0x3BD08, vmax := 0x3FFFF }
def THM_B_VIN_MW : Field :=
  { addr := 0x540024, lo := 0, width := 18, acc := .ro, vmax := 0x3FFFF }
def THM_B_INLET_MW : Field :=
  { addr := 0x540028, lo := 0, width := 18, acc := .ro, reset := fun _ => 0x3BD08, vmax := 0x3FFFF }
def THM_B_FLOW_MW : Field :=
  { addr := 0x54002C, lo := 0, width := 18, acc := .ro, reset := fun _ => 0x3BD08, vmax := 0x3FFFF }
def THM_BUDGET_CAP_MW : Field :=
  { addr := 0x540030, lo := 0, width := 18, acc := .rws, reset := fun _ => 0x3BD08, vmin := 35000, vmax := 245000 }
def THM_TPOL : Field :=
  { addr := 0x540040, lo := 0, width := 16, acc := .ro, vmax := 0xFFFF }
def THM_L2_L2_INF : Field :=
  { addr := 0x540044, lo := 16, width := 16, acc := .ro, vmax := 0xFFFF }
def THM_L2_L2_OWN : Field :=
  { addr := 0x540044, lo := 0, width := 16, acc := .ro, vmax := 0xFFFF }
def THM_COOLANT_OUTLET : Field :=
  { addr := 0x540048, lo := 16, width := 16, acc := .ro, vmax := 0xFFFF }
def THM_COOLANT_INLET : Field :=
  { addr := 0x540048, lo := 0, width := 16, acc := .ro, vmax := 0xFFFF }
def THM_STRATA_B_OUT : Field :=
  { addr := 0x54004C, lo := 16, width := 16, acc := .ro, vmax := 0xFFFF }
def THM_STRATA_A_OUT : Field :=
  { addr := 0x54004C, lo := 0, width := 16, acc := .ro, vmax := 0xFFFF }
def THM_STRATA2_C_OUT : Field :=
  { addr := 0x540050, lo := 0, width := 16, acc := .ro, vmax := 0xFFFF }
def THM_FLOW_FLOW_EST_ML : Field :=
  { addr := 0x540054, lo := 16, width := 12, acc := .ro, vmax := 0xFFF }
def THM_FLOW_FLOW_ML : Field :=
  { addr := 0x540054, lo := 0, width := 12, acc := .ro, vmax := 0xFFF }
def THM_MODEL_B_MK : Field :=
  { addr := 0x540058, lo := 16, width := 16, acc := .ro, reset := fun _ => Config.thermalB % 2 ^ 16, vmax := 0xFFFF }
def THM_MODEL_A_MK : Field :=
  { addr := 0x540058, lo := 0, width := 16, acc := .ro, reset := fun _ => Config.thermalA % 2 ^ 16, vmax := 0xFFFF }
def THM_MODEL_C_MK : Field :=
  { addr := 0x54005C, lo := 0, width := 16, acc := .ro, reset := fun _ => Config.thermalC % 2 ^ 16, vmax := 0xFFFF }
def THM_SHED_CNT : Field :=
  { addr := 0x540060, lo := 0, width := 32, acc := .rw }
def THM_THROTTLE_CNT : Field :=
  { addr := 0x540064, lo := 0, width := 32, acc := .rw }
def THM_PROM_CNT : Field :=
  { addr := 0x540068, lo := 0, width := 32, acc := .rw }
def THM_ILIMIT_CNT : Field :=
  { addr := 0x54006C, lo := 0, width := 32, acc := .rw }
def THM_SENSOR_FAULT_CNT : Field :=
  { addr := 0x540070, lo := 0, width := 32, acc := .rw }
def THM_TRIP_VALID : Field :=
  { addr := 0x540080, lo := 31, width := 1, acc := .w1c, vmax := 0x1 }
def THM_TRIP_CAUSE : Field :=
  { addr := 0x540080, lo := 16, width := 4, acc := .ro, vmax := 0xF }
def THM_TRIP_TEMP : Field :=
  { addr := 0x540080, lo := 0, width := 16, acc := .ro, vmax := 0xFFFF }
def THM_SENSOR_FAULTY : Field :=
  { addr := 0x540100, lo := 31, width := 1, acc := .ro, stride := 4, count := 101, vmax := 0x1 }
def THM_SENSOR_TEMP : Field :=
  { addr := 0x540100, lo := 0, width := 16, acc := .ro, stride := 4, count := 101, vmax := 0xFFFF }
def THM_REGION_OVER_DECL : Field :=
  { addr := 0x540300, lo := 31, width := 1, acc := .ro, stride := 4, count := 16, vmax := 0x1 }
def THM_REGION_P_MW : Field :=
  { addr := 0x540300, lo := 0, width := 18, acc := .ro, stride := 4, count := 16, vmax := 0x3FFFF }
def THM_RAIL_FAULT : Field :=
  { addr := 0x540340, lo := 31, width := 1, acc := .ro, stride := 4, count := 6, vmax := 0x1 }
def THM_RAIL_DROOP_NOW : Field :=
  { addr := 0x540340, lo := 16, width := 8, acc := .ro, stride := 4, count := 6, vmax := 0xFF }
def THM_RAIL_DROOP_MAX : Field :=
  { addr := 0x540340, lo := 8, width := 8, acc := .rw, stride := 4, count := 6, vmax := 0xFF }
def THM_RAIL_WARN_CNT : Field :=
  { addr := 0x540340, lo := 0, width := 8, acc := .rw, stride := 4, count := 6, vmax := 0xFF }

/-- Fields of the THM map, part 0. -/
def thmFields0 : List Field :=
  [THM_CTRL_CLEAR_SUSPECT, THM_STATUS_STEP, THM_STATUS_CAUSE, THM_STATUS_OVERVOLT,
   THM_STATUS_ILIMIT, THM_STATUS_VIN_LOW, THM_STATUS_FLOW_SUSPECT, THM_STATUS_FLOW_STATE,
   THM_STATUS_L2_SUSPECT, THM_ALERT, THM_LIMITS_WARN_C, THM_LIMITS_SHED_C,
   THM_VIN_MV, THM_IIN_MA, THM_PIN_MW, THM_PSTACK_MW,
   THM_BUDGET_LIMIT, THM_BUDGET_BUDGET_MW, THM_B_VIN_MW, THM_B_INLET_MW,
   THM_B_FLOW_MW, THM_BUDGET_CAP_MW, THM_TPOL, THM_L2_L2_INF,
   THM_L2_L2_OWN, THM_COOLANT_OUTLET, THM_COOLANT_INLET, THM_STRATA_B_OUT,
   THM_STRATA_A_OUT, THM_STRATA2_C_OUT, THM_FLOW_FLOW_EST_ML, THM_FLOW_FLOW_ML,
   THM_MODEL_B_MK, THM_MODEL_A_MK, THM_MODEL_C_MK, THM_SHED_CNT,
   THM_THROTTLE_CNT, THM_PROM_CNT, THM_ILIMIT_CNT, THM_SENSOR_FAULT_CNT]
/-- Fields of the THM map, part 1. -/
def thmFields1 : List Field :=
  [THM_TRIP_VALID, THM_TRIP_CAUSE, THM_TRIP_TEMP, THM_SENSOR_FAULTY,
   THM_SENSOR_TEMP, THM_REGION_OVER_DECL, THM_REGION_P_MW, THM_RAIL_FAULT,
   THM_RAIL_DROOP_NOW, THM_RAIL_DROOP_MAX, THM_RAIL_WARN_CNT]
/-- The fields of the THM register map. -/
def thmFields : List Field := thmFields0 ++ thmFields1

-- 16 R459, PWR register map
def PWR_CTRL_LOCK : Field :=
  { addr := 0x580000, lo := 31, width := 1, acc := .rws, vmax := 0x1 }
def PWR_CTRL_PERST_WAKE_EN : Field :=
  { addr := 0x580000, lo := 8, width := 1, acc := .rws, vmax := 0x1 }
def PWR_CTRL_ALARM_WAKE_EN : Field :=
  { addr := 0x580000, lo := 6, width := 1, acc := .rws, reset := fun _ => 1, vmax := 0x1 }
def PWR_CTRL_WAKE_LEVEL : Field :=
  { addr := 0x580000, lo := 5, width := 1, acc := .rws, vmax := 0x1 }
def PWR_CTRL_WAKE_POL : Field :=
  { addr := 0x580000, lo := 4, width := 1, acc := .rws, vmax := 0x1 }
def PWR_CTRL_WAKE_EN : Field :=
  { addr := 0x580000, lo := 3, width := 1, acc := .rws, reset := fun _ => 1, vmax := 0x1 }
def PWR_STATUS_STATE : Field :=
  { addr := 0x580004, lo := 29, width := 3, acc := .ro, vmax := 0x7 }
def PWR_STATUS_ENTERING : Field :=
  { addr := 0x580004, lo := 28, width := 1, acc := .ro, vmax := 0x1 }
def PWR_STATUS_FAR_REFRESH : Field :=
  { addr := 0x580004, lo := 1, width := 1, acc := .ro, vmax := 0x1 }
def PWR_STATUS_FABRIC_GATED : Field :=
  { addr := 0x580004, lo := 0, width := 1, acc := .ro, vmax := 0x1 }
def PWR_REFUSE_CNT : Field :=
  { addr := 0x580008, lo := 0, width := 32, acc := .rw }
def PWR_LAST_REFUSER_CODE : Field :=
  { addr := 0x58000C, lo := 24, width := 8, acc := .ro, vmax := 0xFF }
def PWR_LAST_REFUSER_TARGET : Field :=
  { addr := 0x58000C, lo := 20, width := 4, acc := .ro, vmax := 0xF }
def PWR_LAST_REFUSER_MODE : Field :=
  { addr := 0x58000C, lo := 16, width := 4, acc := .ro, vmax := 0xF }
def PWR_WAKE_CAUSE : Field :=
  { addr := 0x580010, lo := 0, width := 4, acc := .ro, vmax := 0xF }
def PWR_FIRST_ACCESS_CNT : Field :=
  { addr := 0x580014, lo := 0, width := 32, acc := .rw }
def PWR_STALL_MAX_NS : Field :=
  { addr := 0x580018, lo := 0, width := 16, acc := .rw, vmax := 0xFFFF }
def PWR_ENTRY_CNT : Field :=
  { addr := 0x58001C, lo := 0, width := 32, acc := .ro }

/-- Fields of the PWR map, part 0. -/
def pwrFields0 : List Field :=
  [PWR_CTRL_LOCK, PWR_CTRL_PERST_WAKE_EN, PWR_CTRL_ALARM_WAKE_EN, PWR_CTRL_WAKE_LEVEL,
   PWR_CTRL_WAKE_POL, PWR_CTRL_WAKE_EN, PWR_STATUS_STATE, PWR_STATUS_ENTERING,
   PWR_STATUS_FAR_REFRESH, PWR_STATUS_FABRIC_GATED, PWR_REFUSE_CNT, PWR_LAST_REFUSER_CODE,
   PWR_LAST_REFUSER_TARGET, PWR_LAST_REFUSER_MODE, PWR_WAKE_CAUSE, PWR_FIRST_ACCESS_CNT,
   PWR_STALL_MAX_NS, PWR_ENTRY_CNT]
/-- The fields of the PWR register map. -/
def pwrFields : List Field := pwrFields0

-- 17 R473, PRM register map
def PRM_STATUS_ACTIVE : Field :=
  { addr := 0x5C0000, lo := 31, width := 1, acc := .ro, vmax := 0x1 }
def PRM_STATUS_CTX_INTACT : Field :=
  { addr := 0x5C0000, lo := 30, width := 1, acc := .ro, reset := fun _ => 1, vmax := 0x1 }
def PRM_STATUS_ROUTES_UP : Field :=
  { addr := 0x5C0000, lo := 0, width := 6, acc := .ro, vmax := 0x3F }
def PRM_CAUSE : Field :=
  { addr := 0x5C0004, lo := 0, width := 9, acc := .ro, vmax := 0x1FF }
def PRM_PENDING : Field :=
  { addr := 0x5C0008, lo := 0, width := 9, acc := .ro, vmax := 0x1FF }
def PRM_TABLE_VALID : Field :=
  { addr := 0x5C000C, lo := 31, width := 1, acc := .ro, vmax := 0x1 }
def PRM_TABLE_REASON : Field :=
  { addr := 0x5C000C, lo := 16, width := 4, acc := .ro, vmax := 0xF }
def PRM_TABLE_ROUTES : Field :=
  { addr := 0x5C000C, lo := 0, width := 6, acc := .ro, vmax := 0x3F }
def PRM_SLOTS : Field :=
  { addr := 0x5C0010, lo := 0, width := 19, acc := .ro, vmax := 0x7FFFF }
def PRM_ENTRY_MONO : Field :=
  { addr := 0x5C0018, lo := 0, width := 64, acc := .ro, vmax := 0xFFFFFFFFFFFFFFFF }
def PRM_ENTRY_CNT : Field :=
  { addr := 0x5C0020, lo := 0, width := 32, acc := .ro }
def PRM_ROUTE_UP : Field :=
  { addr := 0x5C0100, lo := 31, width := 1, acc := .ro, stride := 16, count := 32, vmax := 0x1 }
def PRM_ROUTE_REPEAT_CNT : Field :=
  { addr := 0x5C0104, lo := 16, width := 16, acc := .rw, stride := 16, count := 32, vmax := 0xFFFF }
def PRM_ROUTE_DROP_CNT : Field :=
  { addr := 0x5C0104, lo := 0, width := 16, acc := .rw, stride := 16, count := 32, vmax := 0xFFFF }
def PRM_ROUTE_POISON_CNT : Field :=
  { addr := 0x5C0108, lo := 0, width := 32, acc := .rw, stride := 16, count := 32 }

/-- Fields of the PRM map, part 0. -/
def prmFields0 : List Field :=
  [PRM_STATUS_ACTIVE, PRM_STATUS_CTX_INTACT, PRM_STATUS_ROUTES_UP, PRM_CAUSE,
   PRM_PENDING, PRM_TABLE_VALID, PRM_TABLE_REASON, PRM_TABLE_ROUTES,
   PRM_SLOTS, PRM_ENTRY_MONO, PRM_ENTRY_CNT, PRM_ROUTE_UP,
   PRM_ROUTE_REPEAT_CNT, PRM_ROUTE_DROP_CNT, PRM_ROUTE_POISON_CNT]
/-- The fields of the PRM register map. -/
def prmFields : List Field := prmFields0

-- 19 R519, LCS register map
def LCS_STATE_STATE : Field :=
  { addr := 0x600000, lo := 28, width := 4, acc := .ro, reset := fun _ => 2, vmax := 0xF }
def LCS_STATE_ROW_STATE : Field :=
  { addr := 0x600000, lo := 24, width := 4, acc := .ro, reset := fun _ => 2, vmax := 0xF }
def LCS_STATE_GROUPS_FULL : Field :=
  { addr := 0x600000, lo := 18, width := 6, acc := .ro, reset := fun _ => 3, vmax := 0x3F }
def LCS_STATE_GROUPS_PARTIAL : Field :=
  { addr := 0x600000, lo := 12, width := 6, acc := .ro, vmax := 0x3F }
def LCS_STATE_PRIV_RUNNING : Field :=
  { addr := 0x600000, lo := 2, width := 1, acc := .ro, vmax := 0x1 }
def LCS_STATE_PENDING : Field :=
  { addr := 0x600000, lo := 1, width := 1, acc := .ro, vmax := 0x1 }
def LCS_PROGRESS_CUR_STEP : Field :=
  { addr := 0x600004, lo := 29, width := 3, acc := .ro, vmax := 0x7 }
def LCS_PROGRESS_RET_BEGUN : Field :=
  { addr := 0x600004, lo := 13, width := 1, acc := .ro, vmax := 0x1 }
def LCS_PROGRESS_RET_MARKS : Field :=
  { addr := 0x600004, lo := 8, width := 5, acc := .ro, vmax := 0x1F }
def LCS_PROGRESS_SCR_BEGUN : Field :=
  { addr := 0x600004, lo := 5, width := 1, acc := .ro, vmax := 0x1 }
def LCS_PROGRESS_SCR_MARKS : Field :=
  { addr := 0x600004, lo := 0, width := 5, acc := .ro, vmax := 0x1F }
def LCS_KEYS : Field :=
  { addr := 0x600008, lo := 0, width := 8, acc := .ro, vmax := 0xFF }
def LCS_AUTH_FAIL_CNT : Field :=
  { addr := 0x60000C, lo := 24, width := 8, acc := .ro, vmax := 0xFF }
def LCS_AUTH_LOCKOUT : Field :=
  { addr := 0x60000C, lo := 8, width := 1, acc := .ro, vmax := 0x1 }
def LCS_AUTH_JTAG_CHALLENGE : Field :=
  { addr := 0x60000C, lo := 1, width := 1, acc := .ro, vmax := 0x1 }
def LCS_AUTH_HOST_CHALLENGE : Field :=
  { addr := 0x60000C, lo := 0, width := 1, acc := .ro, vmax := 0x1 }
def LCS_DEBUG_JTAG_EN : Field :=
  { addr := 0x600010, lo := 31, width := 1, acc := .rwl, reset := fun _ => 1, vmax := 0x1 }
def LCS_DEBUG_UNLOCK_SLOT : Field :=
  { addr := 0x600010, lo := 3, width := 4, acc := .ro, vmax := 0xF }
def LCS_DEBUG_UNLOCKED : Field :=
  { addr := 0x600010, lo := 2, width := 1, acc := .ro, vmax := 0x1 }
def LCS_DEBUG_LEVEL : Field :=
  { addr := 0x600010, lo := 0, width := 2, acc := .ro, reset := fun _ => 3, vmax := 0x3 }
def LCS_DBG_REFUSE_CNT : Field :=
  { addr := 0x600014, lo := 0, width := 32, acc := .rw }
def LCS_TRANS_CNT : Field :=
  { addr := 0x600018, lo := 0, width := 32, acc := .ro }
def LCS_KCVs : Field :=
  { addr := 0x600020, lo := 0, width := 24, acc := .ro, stride := 4, count := 4, vmax := 0xFFFFFF }

/-- Fields of the LCS map, part 0. -/
def lcsFields0 : List Field :=
  [LCS_STATE_STATE, LCS_STATE_ROW_STATE, LCS_STATE_GROUPS_FULL, LCS_STATE_GROUPS_PARTIAL,
   LCS_STATE_PRIV_RUNNING, LCS_STATE_PENDING, LCS_PROGRESS_CUR_STEP, LCS_PROGRESS_RET_BEGUN,
   LCS_PROGRESS_RET_MARKS, LCS_PROGRESS_SCR_BEGUN, LCS_PROGRESS_SCR_MARKS, LCS_KEYS,
   LCS_AUTH_FAIL_CNT, LCS_AUTH_LOCKOUT, LCS_AUTH_JTAG_CHALLENGE, LCS_AUTH_HOST_CHALLENGE,
   LCS_DEBUG_JTAG_EN, LCS_DEBUG_UNLOCK_SLOT, LCS_DEBUG_UNLOCKED, LCS_DEBUG_LEVEL,
   LCS_DBG_REFUSE_CNT, LCS_TRANS_CNT, LCS_KCVs]
/-- The fields of the LCS register map. -/
def lcsFields : List Field := lcsFields0

end Sys2Proof.Machine
end

