-- ==== Sys2Proof/Machine/RegsLoad.lean ====
section
/-! DEFINITION. The register fields of the CFG, CTX, FLC blocks, one definition per row of the register maps of the spec. -/

namespace Sys2Proof.Machine

-- 11 R325, CFG register map
def CFG_CTRL_DISCARD : Field :=
  { addr := 0x440000, lo := 0, width := 1, acc := .wo, vmax := 0x1 }
def CFG_STATUS_PHASE : Field :=
  { addr := 0x440004, lo := 29, width := 3, acc := .ro, vmax := 0x7 }
def CFG_STATUS_STAGED : Field :=
  { addr := 0x440004, lo := 4, width := 1, acc := .ro, vmax := 0x1 }
def CFG_STATUS_PLANES_VALID : Field :=
  { addr := 0x440004, lo := 3, width := 1, acc := .ro, vmax := 0x1 }
def CFG_STATUS_CFG_ERR : Field :=
  { addr := 0x440004, lo := 2, width := 1, acc := .ro, vmax := 0x1 }
def CFG_STATUS_CFG_DONE : Field :=
  { addr := 0x440004, lo := 1, width := 1, acc := .ro, vmax := 0x1 }
def CFG_STATUS_BUSY : Field :=
  { addr := 0x440004, lo := 0, width := 1, acc := .ro, vmax := 0x1 }
def CFG_STAGE_LEN : Field :=
  { addr := 0x440008, lo := 0, width := 29, acc := .ro, vmax := 0x1FFFFFFF }
def CFG_LAST_ERR_STATUS : Field :=
  { addr := 0x44000C, lo := 24, width := 8, acc := .ro, vmax := 0xFF }
def CFG_LAST_ERR_IN_COMMIT : Field :=
  { addr := 0x44000C, lo := 9, width := 1, acc := .ro, vmax := 0x1 }
def CFG_LAST_ERR_KIND : Field :=
  { addr := 0x44000C, lo := 8, width := 1, acc := .ro, vmax := 0x1 }
def CFG_LAST_DETAIL : Field :=
  { addr := 0x440010, lo := 0, width := 32, acc := .ro }
def CFG_LAST_OFFSET : Field :=
  { addr := 0x440014, lo := 0, width := 32, acc := .ro }
def CFG_DECL_PEAK_MW : Field :=
  { addr := 0x440018, lo := 0, width := 18, acc := .ro, vmax := 0x3FFFF }
def CFG_BUILD_ID : Field :=
  { addr := 0x44001C, lo := 0, width := 32, acc := .ro }
def CFG_CTX_LOADED : Field :=
  { addr := 0x440020, lo := 0, width := 64, acc := .ro, vmax := 0xFFFFFFFFFFFFFFFF }
def CFG_CTX_LOCKED : Field :=
  { addr := 0x440028, lo := 0, width := 64, acc := .ro, vmax := 0xFFFFFFFFFFFFFFFF }
def CFG_LOAD_CNT : Field :=
  { addr := 0x440030, lo := 0, width := 32, acc := .ro }
def CFG_FAIL_CNT : Field :=
  { addr := 0x440034, lo := 0, width := 32, acc := .rw }
def CFG_TIE_CNT : Field :=
  { addr := 0x440038, lo := 0, width := 32, acc := .rw }
def CFG_REGION_PEAK_MW : Field :=
  { addr := 0x440040, lo := 0, width := 18, acc := .ro, stride := 4, count := 16, vmax := 0x3FFFF }
def CFG_CLAIM_BUF : Field :=
  { addr := 0x440080, lo := 0, width := 32, acc := .ro, stride := 4, count := 8 }

/-- Fields of the CFG map, part 0. -/
def cfgFields0 : List Field :=
  [CFG_CTRL_DISCARD, CFG_STATUS_PHASE, CFG_STATUS_STAGED, CFG_STATUS_PLANES_VALID,
   CFG_STATUS_CFG_ERR, CFG_STATUS_CFG_DONE, CFG_STATUS_BUSY, CFG_STAGE_LEN,
   CFG_LAST_ERR_STATUS, CFG_LAST_ERR_IN_COMMIT, CFG_LAST_ERR_KIND, CFG_LAST_DETAIL,
   CFG_LAST_OFFSET, CFG_DECL_PEAK_MW, CFG_BUILD_ID, CFG_CTX_LOADED,
   CFG_CTX_LOCKED, CFG_LOAD_CNT, CFG_FAIL_CNT, CFG_TIE_CNT,
   CFG_REGION_PEAK_MW, CFG_CLAIM_BUF]
/-- The fields of the CFG register map. -/
def cfgFields : List Field := cfgFields0

-- 12 R354, CTX register map
def CTX_ERR_GOLDEN_FAIL : Field :=
  { addr := 0x480000, lo := 3, width := 1, acc := .w1c, vmax := 0x1 }
def CTX_ERR_RB_REFUSED : Field :=
  { addr := 0x480000, lo := 2, width := 1, acc := .w1c, vmax := 0x1 }
def CTX_ERR_CAP_REFUSED : Field :=
  { addr := 0x480000, lo := 1, width := 1, acc := .w1c, vmax := 0x1 }
def CTX_ERR_TURN_REFUSED : Field :=
  { addr := 0x480000, lo := 0, width := 1, acc := .w1c, vmax := 0x1 }
def CTX_STATUS_GOLDEN_BUSY : Field :=
  { addr := 0x480004, lo := 21, width := 1, acc := .ro, vmax := 0x1 }
def CTX_STATUS_RB_BUSY : Field :=
  { addr := 0x480004, lo := 20, width := 1, acc := .ro, vmax := 0x1 }
def CTX_STATUS_CAP_STATE : Field :=
  { addr := 0x480004, lo := 18, width := 2, acc := .ro, vmax := 0x3 }
def CTX_STATUS_HALTED : Field :=
  { addr := 0x480004, lo := 17, width := 1, acc := .ro, vmax := 0x1 }
def CTX_STATUS_PARKED : Field :=
  { addr := 0x480004, lo := 0, width := 16, acc := .ro, reset := fun _ => 0xFFFF, vmax := 0xFFFF }
def CTX_ACTIVE : Field :=
  { addr := 0x480008, lo := 0, width := 32, acc := .ro }
def CTX_PENDING : Field :=
  { addr := 0x48000C, lo := 0, width := 16, acc := .ro, vmax := 0xFFFF }
def CTX_GOLDEN_VALID : Field :=
  { addr := 0x480010, lo := 0, width := 64, acc := .ro, vmax := 0xFFFFFFFFFFFFFFFF }
def CTX_CAP_CFG_MASK : Field :=
  { addr := 0x480018, lo := 16, width := 16, acc := .rw, reset := fun _ => 0xFFFF, vmax := 0xFFFF }
def CTX_CAP_CFG_KEEP : Field :=
  { addr := 0x480018, lo := 6, width := 1, acc := .rw, vmax := 0x1 }
def CTX_CAP_CFG_CLK : Field :=
  { addr := 0x480018, lo := 0, width := 6, acc := .rw, vmax := 0x3F }
def CTX_CAP_MONO : Field :=
  { addr := 0x480020, lo := 0, width := 64, acc := .ro, vmax := 0xFFFFFFFFFFFFFFFF }
def CTX_CAP_CTX : Field :=
  { addr := 0x480028, lo := 0, width := 32, acc := .ro }
def CTX_CAP_REGIONS : Field :=
  { addr := 0x48002C, lo := 0, width := 16, acc := .ro, vmax := 0xFFFF }
def CTX_CAP_CNT : Field :=
  { addr := 0x480030, lo := 0, width := 32, acc := .ro }
def CTX_REFUSE_CNT : Field :=
  { addr := 0x480034, lo := 0, width := 32, acc := .rw }
def CTX_TURN_CNT : Field :=
  { addr := 0x480100, lo := 0, width := 32, acc := .ro, stride := 16, count := 16 }
def CTX_TURN_REFUSE_CNT : Field :=
  { addr := 0x480104, lo := 0, width := 32, acc := .rw, stride := 16, count := 16 }
def CTX_LAST_TURN_MONO : Field :=
  { addr := 0x480108, lo := 0, width := 64, acc := .ro, stride := 16, count := 16, vmax := 0xFFFFFFFFFFFFFFFF }

/-- Fields of the CTX map, part 0. -/
def ctxFields0 : List Field :=
  [CTX_ERR_GOLDEN_FAIL, CTX_ERR_RB_REFUSED, CTX_ERR_CAP_REFUSED, CTX_ERR_TURN_REFUSED,
   CTX_STATUS_GOLDEN_BUSY, CTX_STATUS_RB_BUSY, CTX_STATUS_CAP_STATE, CTX_STATUS_HALTED,
   CTX_STATUS_PARKED, CTX_ACTIVE, CTX_PENDING, CTX_GOLDEN_VALID,
   CTX_CAP_CFG_MASK, CTX_CAP_CFG_KEEP, CTX_CAP_CFG_CLK, CTX_CAP_MONO,
   CTX_CAP_CTX, CTX_CAP_REGIONS, CTX_CAP_CNT, CTX_REFUSE_CNT,
   CTX_TURN_CNT, CTX_TURN_REFUSE_CNT, CTX_LAST_TURN_MONO]
/-- The fields of the CTX register map. -/
def ctxFields : List Field := ctxFields0

-- 13 R389, FLC register map
def FLC_ERR_CAL_REFUSED : Field :=
  { addr := 0x4C0000, lo := 3, width := 1, acc := .w1c, vmax := 0x1 }
def FLC_ERR_VERIFY_FAIL : Field :=
  { addr := 0x4C0000, lo := 2, width := 1, acc := .w1c, vmax := 0x1 }
def FLC_ERR_UNCORR : Field :=
  { addr := 0x4C0000, lo := 1, width := 1, acc := .w1c, vmax := 0x1 }
def FLC_ERR_BUSY_READ : Field :=
  { addr := 0x4C0000, lo := 0, width := 1, acc := .w1c, vmax := 0x1 }
def FLC_STATUS_STW_OFF_BANK : Field :=
  { addr := 0x4C0004, lo := 1, width := 1, acc := .ro, vmax := 0x1 }
def FLC_STATUS_STW_MOVE_REQ : Field :=
  { addr := 0x4C0004, lo := 0, width := 1, acc := .ro, vmax := 0x1 }
def FLC_BOOT_FALLBACK : Field :=
  { addr := 0x4C0008, lo := 4, width := 1, acc := .ro, vmax := 0x1 }
def FLC_BOOT_RUNNING_BLOCK : Field :=
  { addr := 0x4C0008, lo := 2, width := 2, acc := .ro, reset := fun _ => 1, vmax := 0x3 }
def FLC_BOOT_ACTIVE_BLOCK : Field :=
  { addr := 0x4C0008, lo := 0, width := 2, acc := .ro, reset := fun _ => 1, vmax := 0x3 }
def FLC_BOOT_SEQ : Field :=
  { addr := 0x4C000C, lo := 0, width := 32, acc := .ro }
def FLC_REC_REC_SECTOR : Field :=
  { addr := 0x4C0010, lo := 12, width := 1, acc := .ro, vmax := 0x1 }
def FLC_REC_REC_NEXT : Field :=
  { addr := 0x4C0010, lo := 0, width := 12, acc := .ro, vmax := 0xFFF }
def FLC_CORR_CNT : Field :=
  { addr := 0x4C0020, lo := 0, width := 32, acc := .rw }
def FLC_UNCORR_CNT : Field :=
  { addr := 0x4C0024, lo := 0, width := 32, acc := .rw }
def FLC_BUSY_READ_CNT : Field :=
  { addr := 0x4C0028, lo := 0, width := 32, acc := .rw }
def FLC_TIE_CNT : Field :=
  { addr := 0x4C002C, lo := 0, width := 32, acc := .rw }
def FLC_LAST_ERR_BANK : Field :=
  { addr := 0x4C0040, lo := 29, width := 3, acc := .ro, vmax := 0x7 }
def FLC_LAST_ERR_SECTOR : Field :=
  { addr := 0x4C0040, lo := 18, width := 11, acc := .ro, vmax := 0x7FF }
def FLC_LAST_ERR_CODE_WORD : Field :=
  { addr := 0x4C0040, lo := 6, width := 12, acc := .ro, vmax := 0xFFF }
def FLC_LAST_ERR_STATUS : Field :=
  { addr := 0x4C0040, lo := 0, width := 6, acc := .ro, vmax := 0x3F }
def FLC_BANK_BUSY : Field :=
  { addr := 0x4C0100, lo := 31, width := 1, acc := .ro, stride := 16, count := 8, vmax := 0x1 }
def FLC_BANK_OP : Field :=
  { addr := 0x4C0100, lo := 28, width := 3, acc := .ro, stride := 16, count := 8, vmax := 0x7 }
def FLC_BANK_LOAD_LOCK : Field :=
  { addr := 0x4C0100, lo := 27, width := 1, acc := .ro, stride := 16, count := 8, vmax := 0x1 }
def FLC_BANK_STW_BANK : Field :=
  { addr := 0x4C0100, lo := 26, width := 1, acc := .ro, stride := 16, count := 8, vmax := 0x1 }
def FLC_BANK_CREAD : Field :=
  { addr := 0x4C0100, lo := 25, width := 1, acc := .ro, stride := 16, count := 8, vmax := 0x1 }
def FLC_BANK_SECTOR : Field :=
  { addr := 0x4C0100, lo := 0, width := 11, acc := .ro, stride := 16, count := 8, vmax := 0x7FF }
def FLC_BANK_REMAIN : Field :=
  { addr := 0x4C0104, lo := 12, width := 9, acc := .ro, stride := 16, count := 8, vmax := 0x1FF }
def FLC_BANK_CODE_WORD : Field :=
  { addr := 0x4C0104, lo := 0, width := 12, acc := .ro, stride := 16, count := 8, vmax := 0xFFF }
def FLC_SECTOR_STATE : Field :=
  { addr := 0x4C1000, lo := 29, width := 3, acc := .ro, reset := shippedState, stride := 4, count := 12288, vmax := 0x7 }
def FLC_SECTOR_ERASE_CNT : Field :=
  { addr := 0x4C1000, lo := 12, width := 14, acc := .ro, stride := 4, count := 12288, vmax := 0x3FFF }
def FLC_SECTOR_CW_INDEX : Field :=
  { addr := 0x4C1000, lo := 0, width := 12, acc := .ro, stride := 4, count := 12288, vmax := 0xFFF }

/-- Fields of the FLC map, part 0. -/
def flcFields0 : List Field :=
  [FLC_ERR_CAL_REFUSED, FLC_ERR_VERIFY_FAIL, FLC_ERR_UNCORR, FLC_ERR_BUSY_READ,
   FLC_STATUS_STW_OFF_BANK, FLC_STATUS_STW_MOVE_REQ, FLC_BOOT_FALLBACK, FLC_BOOT_RUNNING_BLOCK,
   FLC_BOOT_ACTIVE_BLOCK, FLC_BOOT_SEQ, FLC_REC_REC_SECTOR, FLC_REC_REC_NEXT,
   FLC_CORR_CNT, FLC_UNCORR_CNT, FLC_BUSY_READ_CNT, FLC_TIE_CNT,
   FLC_LAST_ERR_BANK, FLC_LAST_ERR_SECTOR, FLC_LAST_ERR_CODE_WORD, FLC_LAST_ERR_STATUS,
   FLC_BANK_BUSY, FLC_BANK_OP, FLC_BANK_LOAD_LOCK, FLC_BANK_STW_BANK,
   FLC_BANK_CREAD, FLC_BANK_SECTOR, FLC_BANK_REMAIN, FLC_BANK_CODE_WORD,
   FLC_SECTOR_STATE, FLC_SECTOR_ERASE_CNT, FLC_SECTOR_CW_INDEX]
/-- The fields of the FLC register map. -/
def flcFields : List Field := flcFields0

end Sys2Proof.Machine
end

