-- ==== Sys2Proof/Machine/RegsMgmt.lean ====
section
/-! DEFINITION. The register fields of the GLB, MBX, RES blocks, one definition per row of the register maps of the spec. -/

namespace Sys2Proof.Machine

-- 16 R458, GLB register map
def GLB_IDCODE : Field :=
  { addr := 0x0, lo := 0, width := 32, acc := .ro, reset := fun _ => 0x7212A6D }
def GLB_ID_REV : Field :=
  { addr := 0x4, lo := 4, width := 8, acc := .ro, reset := fun _ => Config.revision % 2 ^ 8, vmax := 0xFF }
def GLB_ID_GRADE : Field :=
  { addr := 0x4, lo := 0, width := 4, acc := .ro, reset := fun _ => Config.grade % 2 ^ 4, vmax := 0xF }
def GLB_SERIAL : Field :=
  { addr := 0x8, lo := 0, width := 64, acc := .ro, reset := fun _ => Config.serial % 2 ^ 64, vmax := 0xFFFFFFFFFFFFFFFF }
def GLB_MODE_MODE : Field :=
  { addr := 0x10, lo := 28, width := 4, acc := .ro, reset := fun _ => 4, vmax := 0xF }
def GLB_MODE_PREV_MODE : Field :=
  { addr := 0x10, lo := 24, width := 4, acc := .ro, vmax := 0xF }
def GLB_MODE_RETURN_MODE : Field :=
  { addr := 0x10, lo := 20, width := 4, acc := .ro, reset := fun _ => 7, vmax := 0xF }
def GLB_MODE_SERVICE_CAUSE : Field :=
  { addr := 0x10, lo := 16, width := 4, acc := .ro, vmax := 0xF }
def GLB_MODE_UNCONFIGURED : Field :=
  { addr := 0x10, lo := 0, width := 1, acc := .ro, vmax := 0x1 }
def GLB_LANDS_PWR_GOOD : Field :=
  { addr := 0x14, lo := 5, width := 1, acc := .ro, vmax := 0x1 }
def GLB_LANDS_CFG_DONE : Field :=
  { addr := 0x14, lo := 4, width := 1, acc := .ro, vmax := 0x1 }
def GLB_LANDS_CFG_ERR : Field :=
  { addr := 0x14, lo := 3, width := 1, acc := .ro, vmax := 0x1 }
def GLB_LANDS_FAULT_N : Field :=
  { addr := 0x14, lo := 2, width := 1, acc := .ro, reset := fun _ => 1, vmax := 0x1 }
def GLB_LANDS_PROM_ACT : Field :=
  { addr := 0x14, lo := 1, width := 1, acc := .ro, vmax := 0x1 }
def GLB_LANDS_TEMP_ALERT_N : Field :=
  { addr := 0x14, lo := 0, width := 1, acc := .ro, reset := fun _ => 1, vmax := 0x1 }
def GLB_RESET_KEY : Field :=
  { addr := 0x18, lo := 16, width := 16, acc := .wo, vmax := 0xFFFF }
def GLB_RESET_KIND : Field :=
  { addr := 0x18, lo := 0, width := 1, acc := .wo, vmax := 0x1 }
def GLB_RESET_CAUSE : Field :=
  { addr := 0x1C, lo := 0, width := 4, acc := .ro, reset := fun _ => 1, vmax := 0xF }
def GLB_BOOT_US : Field :=
  { addr := 0x20, lo := 0, width := 16, acc := .ro, vmax := 0xFFFF }
def GLB_BOOT_OUTCOME : Field :=
  { addr := 0x24, lo := 0, width := 4, acc := .ro, vmax := 0xF }
def GLB_MODE_CHANGE_CNT : Field :=
  { addr := 0x28, lo := 0, width := 32, acc := .rw }

/-- Fields of the GLB map, part 0. -/
def glbFields0 : List Field :=
  [GLB_IDCODE, GLB_ID_REV, GLB_ID_GRADE, GLB_SERIAL,
   GLB_MODE_MODE, GLB_MODE_PREV_MODE, GLB_MODE_RETURN_MODE, GLB_MODE_SERVICE_CAUSE,
   GLB_MODE_UNCONFIGURED, GLB_LANDS_PWR_GOOD, GLB_LANDS_CFG_DONE, GLB_LANDS_CFG_ERR,
   GLB_LANDS_FAULT_N, GLB_LANDS_PROM_ACT, GLB_LANDS_TEMP_ALERT_N, GLB_RESET_KEY,
   GLB_RESET_KIND, GLB_RESET_CAUSE, GLB_BOOT_US, GLB_BOOT_OUTCOME,
   GLB_MODE_CHANGE_CNT]
/-- The fields of the GLB register map. -/
def glbFields : List Field := glbFields0

-- 02 R64, MBX register map
def MBX_CTRL_RING_RESET : Field :=
  { addr := 0x10000, lo := 8, width := 1, acc := .wo, vmax := 0x1 }
def MBX_CTRL_MB_EVT_EN : Field :=
  { addr := 0x10000, lo := 3, width := 1, acc := .rw, vmax := 0x1 }
def MBX_CTRL_EVT_EN : Field :=
  { addr := 0x10000, lo := 2, width := 1, acc := .rw, vmax := 0x1 }
def MBX_CTRL_CPL_EN : Field :=
  { addr := 0x10000, lo := 1, width := 1, acc := .rw, vmax := 0x1 }
def MBX_CTRL_CMD_EN : Field :=
  { addr := 0x10000, lo := 0, width := 1, acc := .rw, vmax := 0x1 }
def MBX_STATUS_INFLIGHT : Field :=
  { addr := 0x10004, lo := 8, width := 6, acc := .ro, vmax := 0x3F }
def MBX_STATUS_STEWARD_RESTARTING : Field :=
  { addr := 0x10004, lo := 4, width := 1, acc := .ro, vmax := 0x1 }
def MBX_STATUS_STEWARD_READY : Field :=
  { addr := 0x10004, lo := 3, width := 1, acc := .ro, vmax := 0x1 }
def MBX_STATUS_EVT_FULL : Field :=
  { addr := 0x10004, lo := 2, width := 1, acc := .ro, vmax := 0x1 }
def MBX_STATUS_CPL_FULL : Field :=
  { addr := 0x10004, lo := 1, width := 1, acc := .ro, vmax := 0x1 }
def MBX_STATUS_CMD_RUN : Field :=
  { addr := 0x10004, lo := 0, width := 1, acc := .ro, vmax := 0x1 }
def MBX_ERR_SPI_FRAME_ERR : Field :=
  { addr := 0x10008, lo := 7, width := 1, acc := .w1c, vmax := 0x1 }
def MBX_ERR_EVT_LOST : Field :=
  { addr := 0x10008, lo := 6, width := 1, acc := .w1c, vmax := 0x1 }
def MBX_ERR_SPAD_PROT : Field :=
  { addr := 0x10008, lo := 5, width := 1, acc := .w1c, vmax := 0x1 }
def MBX_ERR_SCRATCH_STARVED : Field :=
  { addr := 0x10008, lo := 4, width := 1, acc := .w1c, vmax := 0x1 }
def MBX_ERR_DMA_FAULT : Field :=
  { addr := 0x10008, lo := 3, width := 1, acc := .w1c, vmax := 0x1 }
def MBX_ERR_CMD_RING_ERR : Field :=
  { addr := 0x10008, lo := 2, width := 1, acc := .w1c, vmax := 0x1 }
def MBX_ERR_BAD_SIZE : Field :=
  { addr := 0x10008, lo := 1, width := 1, acc := .w1c, vmax := 0x1 }
def MBX_ERR_UNMAPPED : Field :=
  { addr := 0x10008, lo := 0, width := 1, acc := .w1c, vmax := 0x1 }
def MBX_CMD_BASE : Field :=
  { addr := 0x10010, lo := 12, width := 52, acc := .rw, vmax := 0xFFFFFFFFFFFFF }
def MBX_RING_SIZE_EVT_LOG2 : Field :=
  { addr := 0x10018, lo := 16, width := 5, acc := .rw, reset := fun _ => 4, vmax := 0x1F }
def MBX_RING_SIZE_CPL_LOG2 : Field :=
  { addr := 0x10018, lo := 8, width := 5, acc := .rw, reset := fun _ => 4, vmax := 0x1F }
def MBX_RING_SIZE_CMD_LOG2 : Field :=
  { addr := 0x10018, lo := 0, width := 5, acc := .rw, reset := fun _ => 4, vmax := 0x1F }
def MBX_CMD_TAIL : Field :=
  { addr := 0x1001C, lo := 0, width := 16, acc := .rw, vmax := 0xFFFF }
def MBX_CMD_HEAD : Field :=
  { addr := 0x10020, lo := 0, width := 16, acc := .ro, vmax := 0xFFFF }
def MBX_CPL_BASE : Field :=
  { addr := 0x10028, lo := 12, width := 52, acc := .rw, vmax := 0xFFFFFFFFFFFFF }
def MBX_CPL_HEAD : Field :=
  { addr := 0x10030, lo := 0, width := 16, acc := .rw, vmax := 0xFFFF }
def MBX_CPL_TAIL : Field :=
  { addr := 0x10034, lo := 0, width := 16, acc := .ro, vmax := 0xFFFF }
def MBX_EVT_BASE : Field :=
  { addr := 0x10038, lo := 12, width := 52, acc := .rw, vmax := 0xFFFFFFFFFFFFF }
def MBX_EVT_HEAD : Field :=
  { addr := 0x10040, lo := 0, width := 16, acc := .rw, vmax := 0xFFFF }
def MBX_EVT_TAIL : Field :=
  { addr := 0x10044, lo := 0, width := 16, acc := .ro, vmax := 0xFFFF }
def MBX_WB_ADDR : Field :=
  { addr := 0x10048, lo := 4, width := 60, acc := .rw, vmax := 0xFFFFFFFFFFFFFFF }
def MBX_EVT_FILTER : Field :=
  { addr := 0x10050, lo := 0, width := 64, acc := .rw, reset := fun _ => 0x1111111111111111, vmax := 0xFFFFFFFFFFFFFFFF }
def MBX_IRQ_HOLDOFF : Field :=
  { addr := 0x10058, lo := 0, width := 16, acc := .rw, vmax := 0xFFFF }
def MBX_EVT_LOST_CNT : Field :=
  { addr := 0x1005C, lo := 0, width := 32, acc := .ro }
def MBX_TIE_CNT : Field :=
  { addr := 0x10060, lo := 0, width := 32, acc := .ro }
def MBX_STW_RESTART_CNT : Field :=
  { addr := 0x10064, lo := 0, width := 16, acc := .rws, vmax := 0xFFFF }
def MBX_SMB_ADDR : Field :=
  { addr := 0x10068, lo := 0, width := 7, acc := .rws, reset := fun _ => 0x5A, vmax := 0x7F }
def MBX_DSGN_PEND : Field :=
  { addr := 0x10070, lo := 4, width := 60, acc := .w1c, vmax := 0xFFFFFFFFFFFFFFF }
def MBX_SPAD_ECC_UNCORR_CNT : Field :=
  { addr := 0x10078, lo := 16, width := 16, acc := .rw, vmax := 0xFFFF }
def MBX_SPAD_ECC_CORR_CNT : Field :=
  { addr := 0x10078, lo := 0, width := 16, acc := .rw, vmax := 0xFFFF }
def MBX_STW_VER : Field :=
  { addr := 0x1007C, lo := 0, width := 32, acc := .ro }
def MBX_ATOM_ADDR : Field :=
  { addr := 0x10080, lo := 0, width := 16, acc := .rw, vmax := 0xFFFF }
def MBX_ATOM_CTRL_DONE : Field :=
  { addr := 0x10084, lo := 31, width := 1, acc := .ro, reset := fun _ => 1, vmax := 0x1 }
def MBX_ATOM_CTRL_OP : Field :=
  { addr := 0x10084, lo := 0, width := 2, acc := .wo, vmax := 0x3 }
def MBX_ATOM_OPND : Field :=
  { addr := 0x10088, lo := 0, width := 64, acc := .rw, vmax := 0xFFFFFFFFFFFFFFFF }
def MBX_ATOM_OLD : Field :=
  { addr := 0x10090, lo := 0, width := 64, acc := .ro, vmax := 0xFFFFFFFFFFFFFFFF }
def MBX_MB_CMD : Field :=
  { addr := 0x10100, lo := 0, width := 32, acc := .rw, stride := 4, count := 16 }
def MBX_MB_CTRL_CPL_VALID : Field :=
  { addr := 0x10140, lo := 2, width := 1, acc := .w1c, vmax := 0x1 }
def MBX_MB_CTRL_BUSY : Field :=
  { addr := 0x10140, lo := 1, width := 1, acc := .ro, vmax := 0x1 }
def MBX_MB_CTRL_GO : Field :=
  { addr := 0x10140, lo := 0, width := 1, acc := .w1s, vmax := 0x1 }
def MBX_MB_CPL : Field :=
  { addr := 0x10150, lo := 0, width := 32, acc := .ro, stride := 4, count := 4 }
def MBX_MB_EVT : Field :=
  { addr := 0x10160, lo := 0, width := 32, acc := .ro, stride := 4, count := 4 }
def MBX_MB_EVT_CNT_LOST : Field :=
  { addr := 0x10170, lo := 8, width := 16, acc := .ro, vmax := 0xFFFF }
def MBX_MB_EVT_CNT_COUNT : Field :=
  { addr := 0x10170, lo := 0, width := 7, acc := .ro, vmax := 0x7F }

/-- Fields of the MBX map, part 0. -/
def mbxFields0 : List Field :=
  [MBX_CTRL_RING_RESET, MBX_CTRL_MB_EVT_EN, MBX_CTRL_EVT_EN, MBX_CTRL_CPL_EN,
   MBX_CTRL_CMD_EN, MBX_STATUS_INFLIGHT, MBX_STATUS_STEWARD_RESTARTING, MBX_STATUS_STEWARD_READY,
   MBX_STATUS_EVT_FULL, MBX_STATUS_CPL_FULL, MBX_STATUS_CMD_RUN, MBX_ERR_SPI_FRAME_ERR,
   MBX_ERR_EVT_LOST, MBX_ERR_SPAD_PROT, MBX_ERR_SCRATCH_STARVED, MBX_ERR_DMA_FAULT,
   MBX_ERR_CMD_RING_ERR, MBX_ERR_BAD_SIZE, MBX_ERR_UNMAPPED, MBX_CMD_BASE,
   MBX_RING_SIZE_EVT_LOG2, MBX_RING_SIZE_CPL_LOG2, MBX_RING_SIZE_CMD_LOG2, MBX_CMD_TAIL,
   MBX_CMD_HEAD, MBX_CPL_BASE, MBX_CPL_HEAD, MBX_CPL_TAIL,
   MBX_EVT_BASE, MBX_EVT_HEAD, MBX_EVT_TAIL, MBX_WB_ADDR,
   MBX_EVT_FILTER, MBX_IRQ_HOLDOFF, MBX_EVT_LOST_CNT, MBX_TIE_CNT,
   MBX_STW_RESTART_CNT, MBX_SMB_ADDR, MBX_DSGN_PEND, MBX_SPAD_ECC_UNCORR_CNT]
/-- Fields of the MBX map, part 1. -/
def mbxFields1 : List Field :=
  [MBX_SPAD_ECC_CORR_CNT, MBX_STW_VER, MBX_ATOM_ADDR, MBX_ATOM_CTRL_DONE,
   MBX_ATOM_CTRL_OP, MBX_ATOM_OPND, MBX_ATOM_OLD, MBX_MB_CMD,
   MBX_MB_CTRL_CPL_VALID, MBX_MB_CTRL_BUSY, MBX_MB_CTRL_GO, MBX_MB_CPL,
   MBX_MB_EVT, MBX_MB_EVT_CNT_LOST, MBX_MB_EVT_CNT_COUNT]
/-- The fields of the MBX register map. -/
def mbxFields : List Field := mbxFields0 ++ mbxFields1

-- 18 R494, RES register map
def RES_ERR_TABLE_LOCKED : Field :=
  { addr := 0x20000, lo := 3, width := 1, acc := .ro, vmax := 0x1 }
def RES_ERR_BUF_REFUSED : Field :=
  { addr := 0x20000, lo := 2, width := 1, acc := .w1c, vmax := 0x1 }
def RES_ERR_ALM_REFUSED : Field :=
  { addr := 0x20000, lo := 1, width := 1, acc := .w1c, vmax := 0x1 }
def RES_ERR_PIN_REFUSED : Field :=
  { addr := 0x20000, lo := 0, width := 1, acc := .w1c, vmax := 0x1 }
def RES_LAST_REFUSAL_STATUS : Field :=
  { addr := 0x20004, lo := 24, width := 8, acc := .ro, vmax := 0xFF }
def RES_LAST_REFUSAL_KIND : Field :=
  { addr := 0x20004, lo := 20, width := 4, acc := .ro, vmax := 0xF }
def RES_LAST_REFUSAL_REQUESTER : Field :=
  { addr := 0x20004, lo := 18, width := 2, acc := .ro, vmax := 0x3 }
def RES_LAST_REFUSAL_INDEX : Field :=
  { addr := 0x20004, lo := 0, width := 8, acc := .ro, vmax := 0xFF }
def RES_REFUSE_CNT : Field :=
  { addr := 0x20008, lo := 0, width := 32, acc := .rw }
def RES_TIE_CNT : Field :=
  { addr := 0x2000C, lo := 0, width := 32, acc := .rw }
def RES_TIE_LAST : Field :=
  { addr := 0x20010, lo := 0, width := 4, acc := .ro, vmax := 0xF }
def RES_LAND_OWNER : Field :=
  { addr := 0x20100, lo := 30, width := 2, acc := .ro, stride := 4, count := 192, vmax := 0x3 }
def RES_LAND_CLAIMED : Field :=
  { addr := 0x20100, lo := 29, width := 1, acc := .ro, stride := 4, count := 192, vmax := 0x1 }
def RES_LAND_HOLDER : Field :=
  { addr := 0x20100, lo := 28, width := 1, acc := .ro, stride := 4, count := 192, vmax := 0x1 }
def RES_LANE_CLAIMED : Field :=
  { addr := 0x20400, lo := 0, width := 32, acc := .ro, stride := 4, count := 4 }
def RES_LANE_LIFELINE : Field :=
  { addr := 0x20410, lo := 0, width := 32, acc := .ro, stride := 4, count := 4 }
def RES_PF_CLAIMED : Field :=
  { addr := 0x20420, lo := 0, width := 32, acc := .ro, stride := 4, count := 8 }
def RES_DP_CLAIMED : Field :=
  { addr := 0x20440, lo := 0, width := 32, acc := .ro, stride := 4, count := 8 }
def RES_ALM_OWNER_LO : Field :=
  { addr := 0x20500, lo := 0, width := 32, acc := .ro }
def RES_ALM_OWNER_HI : Field :=
  { addr := 0x20504, lo := 0, width := 32, acc := .ro, reset := fun _ => 0xFFE90000 }

/-- Fields of the RES map, part 0. -/
def resFields0 : List Field :=
  [RES_ERR_TABLE_LOCKED, RES_ERR_BUF_REFUSED, RES_ERR_ALM_REFUSED, RES_ERR_PIN_REFUSED,
   RES_LAST_REFUSAL_STATUS, RES_LAST_REFUSAL_KIND, RES_LAST_REFUSAL_REQUESTER, RES_LAST_REFUSAL_INDEX,
   RES_REFUSE_CNT, RES_TIE_CNT, RES_TIE_LAST, RES_LAND_OWNER,
   RES_LAND_CLAIMED, RES_LAND_HOLDER, RES_LANE_CLAIMED, RES_LANE_LIFELINE,
   RES_PF_CLAIMED, RES_DP_CLAIMED, RES_ALM_OWNER_LO, RES_ALM_OWNER_HI]
/-- The fields of the RES register map. -/
def resFields : List Field := resFields0

end Sys2Proof.Machine
end

