-- ==== Sys2Proof/Machine/RegsPort.lean ====
section
/-! DEFINITION. The register fields of the LNE blocks, one definition per row of the register maps of the spec. -/

namespace Sys2Proof.Machine

-- 08 R231, LNE register map
def LNE_ERR_SCAN_REFUSED : Field :=
  { addr := 0x3C0000, lo := 4, width := 1, acc := .w1c, vmax := 0x1 }
def LNE_ERR_IN_USE : Field :=
  { addr := 0x3C0000, lo := 3, width := 1, acc := .w1c, vmax := 0x1 }
def LNE_ERR_UNCLAIMED : Field :=
  { addr := 0x3C0000, lo := 2, width := 1, acc := .w1c, vmax := 0x1 }
def LNE_ERR_BAD_CONFIG : Field :=
  { addr := 0x3C0000, lo := 1, width := 1, acc := .w1c, vmax := 0x1 }
def LNE_ERR_BOND_REFUSED : Field :=
  { addr := 0x3C0000, lo := 0, width := 1, acc := .w1c, vmax := 0x1 }
def LNE_STATUS_BONDS_UP : Field :=
  { addr := 0x3C0004, lo := 16, width := 5, acc := .ro, vmax := 0x1F }
def LNE_STATUS_LANES_RETIRED : Field :=
  { addr := 0x3C0004, lo := 8, width := 8, acc := .ro, vmax := 0xFF }
def LNE_STATUS_LANES_UP : Field :=
  { addr := 0x3C0004, lo := 0, width := 8, acc := .ro, vmax := 0xFF }
def LNE_ERR_INFO_REASON : Field :=
  { addr := 0x3C0008, lo := 8, width := 4, acc := .ro, vmax := 0xF }
def LNE_ERR_INFO_INDEX : Field :=
  { addr := 0x3C0008, lo := 0, width := 7, acc := .ro, vmax := 0x7F }
def LNE_Q_PRESENT : Field :=
  { addr := 0x3C0100, lo := 31, width := 1, acc := .ro, stride := 16, count := 32, vmax := 0x1 }
def LNE_Q_REF_KHZ : Field :=
  { addr := 0x3C0100, lo := 0, width := 19, acc := .rws, reset := fun _ => 0x2625A, stride := 16, count := 32, vmax := 0x7FFFF }
def LNE_Q_PLL0_EN : Field :=
  { addr := 0x3C0104, lo := 31, width := 1, acc := .rws, stride := 16, count := 32, vmax := 0x1 }
def LNE_Q_PLL1_EN : Field :=
  { addr := 0x3C0108, lo := 31, width := 1, acc := .rws, stride := 16, count := 32, vmax := 0x1 }
def LNE_Q_PLL0_SRC : Field :=
  { addr := 0x3C0104, lo := 29, width := 1, acc := .rws, stride := 16, count := 32, vmax := 0x1 }
def LNE_Q_PLL1_SRC : Field :=
  { addr := 0x3C0108, lo := 29, width := 1, acc := .rws, stride := 16, count := 32, vmax := 0x1 }
def LNE_Q_PLL0_LOCK : Field :=
  { addr := 0x3C0104, lo := 28, width := 1, acc := .ro, stride := 16, count := 32, vmax := 0x1 }
def LNE_Q_PLL1_LOCK : Field :=
  { addr := 0x3C0108, lo := 28, width := 1, acc := .ro, stride := 16, count := 32, vmax := 0x1 }
def LNE_Q_PLL0_DIV1001 : Field :=
  { addr := 0x3C0104, lo := 25, width := 1, acc := .rws, stride := 16, count := 32, vmax := 0x1 }
def LNE_Q_PLL1_DIV1001 : Field :=
  { addr := 0x3C0108, lo := 25, width := 1, acc := .rws, stride := 16, count := 32, vmax := 0x1 }
def LNE_Q_PLL0_RATE_KBPS : Field :=
  { addr := 0x3C0104, lo := 0, width := 25, acc := .rws, stride := 16, count := 32, vmax := 0x1FFFFFF }
def LNE_Q_PLL1_RATE_KBPS : Field :=
  { addr := 0x3C0108, lo := 0, width := 25, acc := .rws, stride := 16, count := 32, vmax := 0x1FFFFFF }
def LNE_BOND_CTRL_EN : Field :=
  { addr := 0x3C0800, lo := 31, width := 1, acc := .rws, stride := 32, count := 16, vmax := 0x1 }
def LNE_BOND_CTRL_SPARE : Field :=
  { addr := 0x3C0800, lo := 16, width := 8, acc := .rws, reset := fun _ => 0xFF, stride := 32, count := 16, vmax := 0xFF }
def LNE_BOND_CTRL_DATA_CNT : Field :=
  { addr := 0x3C0800, lo := 8, width := 5, acc := .rws, reset := fun _ => 1, stride := 32, count := 16, vmax := 0x1F }
def LNE_BOND_CTRL_FIRST : Field :=
  { addr := 0x3C0800, lo := 0, width := 7, acc := .rws, stride := 32, count := 16, vmax := 0x7F }
def LNE_BOND_STATUS_STATE : Field :=
  { addr := 0x3C0804, lo := 29, width := 3, acc := .ro, stride := 32, count := 16, vmax := 0x7 }
def LNE_BOND_STATUS_SPARED_POS : Field :=
  { addr := 0x3C0804, lo := 16, width := 5, acc := .ro, reset := fun _ => 0x1F, stride := 32, count := 16, vmax := 0x1F }
def LNE_BOND_STATUS_FAIL_REASON : Field :=
  { addr := 0x3C0804, lo := 0, width := 4, acc := .ro, stride := 32, count := 16, vmax := 0xF }
def LNE_BOND_LAT : Field :=
  { addr := 0x3C0808, lo := 0, width := 18, acc := .ro, stride := 32, count := 16, vmax := 0x3FFFF }
def LNE_BOND_ASYM : Field :=
  { addr := 0x3C080C, lo := 0, width := 16, acc := .rws, stride := 32, count := 16, vmax := 0xFFFF }
def LNE_BOND_SKEW : Field :=
  { addr := 0x3C0810, lo := 0, width := 8, acc := .ro, stride := 32, count := 16, vmax := 0xFF }
def LNE_BOND_SPARE_SWITCH_CNT : Field :=
  { addr := 0x3C0814, lo := 16, width := 16, acc := .rw, stride := 32, count := 16, vmax := 0xFFFF }
def LNE_BOND_TRAIN_CNT : Field :=
  { addr := 0x3C0814, lo := 0, width := 16, acc := .ro, stride := 32, count := 16, vmax := 0xFFFF }
def LNE_BOND_TICKET_ERR_CNT : Field :=
  { addr := 0x3C0818, lo := 0, width := 32, acc := .rw, stride := 32, count := 16 }
def LNE_LN_CTRL_EN : Field :=
  { addr := 0x3C1000, lo := 31, width := 1, acc := .rw, stride := 64, count := 128, vmax := 0x1 }
def LNE_LN_CTRL_PROTO : Field :=
  { addr := 0x3C1000, lo := 28, width := 3, acc := .rw, stride := 64, count := 128, vmax := 0x7 }
def LNE_LN_CTRL_MODE : Field :=
  { addr := 0x3C1000, lo := 24, width := 4, acc := .rw, stride := 64, count := 128, vmax := 0xF }
def LNE_LN_CTRL_TX_PLL : Field :=
  { addr := 0x3C1000, lo := 23, width := 1, acc := .rw, stride := 64, count := 128, vmax := 0x1 }
def LNE_LN_CTRL_TX_INV : Field :=
  { addr := 0x3C1000, lo := 21, width := 1, acc := .rw, stride := 64, count := 128, vmax := 0x1 }
def LNE_LN_CTRL_RX_INV : Field :=
  { addr := 0x3C1000, lo := 20, width := 1, acc := .rw, stride := 64, count := 128, vmax := 0x1 }
def LNE_LN_CTRL_LOOPBACK : Field :=
  { addr := 0x3C1000, lo := 17, width := 3, acc := .rw, stride := 64, count := 128, vmax := 0x7 }
def LNE_LN_CTRL_TX_DIS : Field :=
  { addr := 0x3C1000, lo := 16, width := 1, acc := .rw, stride := 64, count := 128, vmax := 0x1 }
def LNE_LN_STATUS_STATE : Field :=
  { addr := 0x3C1004, lo := 28, width := 4, acc := .ro, stride := 64, count := 128, vmax := 0xF }
def LNE_LN_STATUS_CDR_LOCK : Field :=
  { addr := 0x3C1004, lo := 27, width := 1, acc := .ro, stride := 64, count := 128, vmax := 0x1 }
def LNE_LN_STATUS_BLOCK_LOCK : Field :=
  { addr := 0x3C1004, lo := 26, width := 1, acc := .ro, stride := 64, count := 128, vmax := 0x1 }
def LNE_LN_STATUS_CLAIMED : Field :=
  { addr := 0x3C1004, lo := 25, width := 1, acc := .ro, stride := 64, count := 128, vmax := 0x1 }
def LNE_LN_STATUS_LIFELINE : Field :=
  { addr := 0x3C1004, lo := 24, width := 1, acc := .ro, stride := 64, count := 128, vmax := 0x1 }
def LNE_LN_STATUS_SDI_RATE : Field :=
  { addr := 0x3C1004, lo := 20, width := 4, acc := .ro, stride := 64, count := 128, vmax := 0xF }
def LNE_LN_STATUS_SDI_FRAC : Field :=
  { addr := 0x3C1004, lo := 19, width := 1, acc := .ro, stride := 64, count := 128, vmax := 0x1 }
def LNE_LN_STATUS_IN_BOND : Field :=
  { addr := 0x3C1004, lo := 18, width := 1, acc := .ro, stride := 64, count := 128, vmax := 0x1 }
def LNE_LN_STATUS_POSITION : Field :=
  { addr := 0x3C1004, lo := 13, width := 5, acc := .ro, stride := 64, count := 128, vmax := 0x1F }
def LNE_LN_STATUS_BOND : Field :=
  { addr := 0x3C1004, lo := 9, width := 4, acc := .ro, stride := 64, count := 128, vmax := 0xF }
def LNE_LN_TXEQ_TX_PRE : Field :=
  { addr := 0x3C1008, lo := 16, width := 6, acc := .rw, stride := 64, count := 128, vmax := 0x3F }
def LNE_LN_TXEQ_TX_MAIN : Field :=
  { addr := 0x3C1008, lo := 8, width := 6, acc := .rw, reset := fun _ => 0x30, stride := 64, count := 128, vmax := 0x3F }
def LNE_LN_TXEQ_TX_POST : Field :=
  { addr := 0x3C1008, lo := 0, width := 5, acc := .rw, stride := 64, count := 128, vmax := 0x1F }
def LNE_LN_RX_ADAPT : Field :=
  { addr := 0x3C100C, lo := 31, width := 1, acc := .rw, reset := fun _ => 1, stride := 64, count := 128, vmax := 0x1 }
def LNE_LN_RX_CTLE : Field :=
  { addr := 0x3C100C, lo := 16, width := 5, acc := .rw, reset := fun _ => 0x10, stride := 64, count := 128, vmax := 0x1F }
def LNE_LN_MAC_LO : Field :=
  { addr := 0x3C1010, lo := 0, width := 32, acc := .rws, reset := macLow, stride := 64, count := 128 }
def LNE_LN_MAC_HI : Field :=
  { addr := 0x3C1014, lo := 0, width := 16, acc := .rws, reset := macHigh, stride := 64, count := 128, vmax := 0xFFFF }
def LNE_LN_PRBS_GEN_EN : Field :=
  { addr := 0x3C1018, lo := 31, width := 1, acc := .rw, stride := 64, count := 128, vmax := 0x1 }
def LNE_LN_PRBS_CHK_EN : Field :=
  { addr := 0x3C1018, lo := 30, width := 1, acc := .rw, stride := 64, count := 128, vmax := 0x1 }
def LNE_LN_PRBS_PATTERN : Field :=
  { addr := 0x3C1018, lo := 24, width := 3, acc := .rw, reset := fun _ => 4, stride := 64, count := 128, vmax := 0x7 }
def LNE_LN_PRBS_CHK_LOCK : Field :=
  { addr := 0x3C1018, lo := 0, width := 1, acc := .ro, stride := 64, count := 128, vmax := 0x1 }
def LNE_LN_PRBS_ERR : Field :=
  { addr := 0x3C101C, lo := 0, width := 32, acc := .rw, stride := 64, count := 128 }
def LNE_LN_SYNC_ERR : Field :=
  { addr := 0x3C1020, lo := 0, width := 32, acc := .rw, stride := 64, count := 128 }
def LNE_LN_CRC_ERR : Field :=
  { addr := 0x3C1024, lo := 0, width := 32, acc := .rw, stride := 64, count := 128 }
def LNE_LN_DOWN_CNT : Field :=
  { addr := 0x3C1028, lo := 0, width := 32, acc := .rw, stride := 64, count := 128 }
def LNE_LN_RAW_DP : Field :=
  { addr := 0x3C102C, lo := 8, width := 8, acc := .rw, stride := 64, count := 128, vmax := 0xFF }
def LNE_LN_RAW_PF : Field :=
  { addr := 0x3C102C, lo := 0, width := 8, acc := .rw, stride := 64, count := 128, vmax := 0xFF }
def LNE_LN_FEC_CORR : Field :=
  { addr := 0x3C1030, lo := 0, width := 32, acc := .rw, stride := 64, count := 128 }
def LNE_LN_FEC_UNCORR : Field :=
  { addr := 0x3C1034, lo := 0, width := 32, acc := .rw, stride := 64, count := 128 }
def LNE_LN_EYE_EYE_MV : Field :=
  { addr := 0x3C1038, lo := 8, width := 8, acc := .ro, stride := 64, count := 128, vmax := 0xFF }
def LNE_LN_EYE_EYE_UI : Field :=
  { addr := 0x3C1038, lo := 0, width := 8, acc := .ro, stride := 64, count := 128, vmax := 0xFF }
def LNE_GPIO_OWNER : Field :=
  { addr := 0x3C3000, lo := 30, width := 2, acc := .ro, stride := 4, count := 192, vmax := 0x3 }
def LNE_GPIO_CLAIMED : Field :=
  { addr := 0x3C3000, lo := 29, width := 1, acc := .ro, stride := 4, count := 192, vmax := 0x1 }
def LNE_GPIO_IN : Field :=
  { addr := 0x3C3000, lo := 24, width := 1, acc := .ro, stride := 4, count := 192, vmax := 0x1 }
def LNE_GPIO_OUT : Field :=
  { addr := 0x3C3000, lo := 23, width := 1, acc := .rw, stride := 4, count := 192, vmax := 0x1 }
def LNE_GPIO_OE : Field :=
  { addr := 0x3C3000, lo := 22, width := 1, acc := .rw, stride := 4, count := 192, vmax := 0x1 }
def LNE_GPIO_PULL : Field :=
  { addr := 0x3C3000, lo := 20, width := 2, acc := .rw, reset := fun _ => 1, stride := 4, count := 192, vmax := 0x3 }
def LNE_GPIO_DRIVE : Field :=
  { addr := 0x3C3000, lo := 18, width := 2, acc := .rw, reset := fun _ => 1, stride := 4, count := 192, vmax := 0x3 }
def LNE_GPIO_SLEW : Field :=
  { addr := 0x3C3000, lo := 17, width := 1, acc := .rw, stride := 4, count := 192, vmax := 0x1 }
def LNE_GPIO_SCHMITT : Field :=
  { addr := 0x3C3000, lo := 16, width := 1, acc := .rw, stride := 4, count := 192, vmax := 0x1 }
def LNE_GPIO_IO_STD : Field :=
  { addr := 0x3C3000, lo := 12, width := 2, acc := .rw, stride := 4, count := 192, vmax := 0x3 }
def LNE_GPIO_TERM : Field :=
  { addr := 0x3C3000, lo := 10, width := 1, acc := .rw, stride := 4, count := 192, vmax := 0x1 }
def LNE_GPIO_OVS : Field :=
  { addr := 0x3C3000, lo := 9, width := 1, acc := .rw, stride := 4, count := 192, vmax := 0x1 }
def LNE_GPIO_BANK_OVS_PLL : Field :=
  { addr := 0x3C3400, lo := 24, width := 4, acc := .rw, stride := 4, count := 6, vmax := 0xF }
def LNE_GPIO_BANK_LVDS_OK : Field :=
  { addr := 0x3C3400, lo := 17, width := 1, acc := .ro, stride := 4, count := 6, vmax := 0x1 }
def LNE_GPIO_BANK_VIOB_OK : Field :=
  { addr := 0x3C3400, lo := 16, width := 1, acc := .ro, stride := 4, count := 6, vmax := 0x1 }
def LNE_GPIO_BANK_VIOB_MV : Field :=
  { addr := 0x3C3400, lo := 0, width := 16, acc := .ro, stride := 4, count := 6, vmax := 0xFFFF }

/-- Fields of the LNE map, part 0. -/
def lneFields0 : List Field :=
  [LNE_ERR_SCAN_REFUSED, LNE_ERR_IN_USE, LNE_ERR_UNCLAIMED, LNE_ERR_BAD_CONFIG,
   LNE_ERR_BOND_REFUSED, LNE_STATUS_BONDS_UP, LNE_STATUS_LANES_RETIRED, LNE_STATUS_LANES_UP,
   LNE_ERR_INFO_REASON, LNE_ERR_INFO_INDEX, LNE_Q_PRESENT, LNE_Q_REF_KHZ,
   LNE_Q_PLL0_EN, LNE_Q_PLL1_EN, LNE_Q_PLL0_SRC, LNE_Q_PLL1_SRC,
   LNE_Q_PLL0_LOCK, LNE_Q_PLL1_LOCK, LNE_Q_PLL0_DIV1001, LNE_Q_PLL1_DIV1001,
   LNE_Q_PLL0_RATE_KBPS, LNE_Q_PLL1_RATE_KBPS, LNE_BOND_CTRL_EN, LNE_BOND_CTRL_SPARE,
   LNE_BOND_CTRL_DATA_CNT, LNE_BOND_CTRL_FIRST, LNE_BOND_STATUS_STATE, LNE_BOND_STATUS_SPARED_POS,
   LNE_BOND_STATUS_FAIL_REASON, LNE_BOND_LAT, LNE_BOND_ASYM, LNE_BOND_SKEW,
   LNE_BOND_SPARE_SWITCH_CNT, LNE_BOND_TRAIN_CNT, LNE_BOND_TICKET_ERR_CNT, LNE_LN_CTRL_EN,
   LNE_LN_CTRL_PROTO, LNE_LN_CTRL_MODE, LNE_LN_CTRL_TX_PLL, LNE_LN_CTRL_TX_INV]
/-- Fields of the LNE map, part 1. -/
def lneFields1 : List Field :=
  [LNE_LN_CTRL_RX_INV, LNE_LN_CTRL_LOOPBACK, LNE_LN_CTRL_TX_DIS, LNE_LN_STATUS_STATE,
   LNE_LN_STATUS_CDR_LOCK, LNE_LN_STATUS_BLOCK_LOCK, LNE_LN_STATUS_CLAIMED, LNE_LN_STATUS_LIFELINE,
   LNE_LN_STATUS_SDI_RATE, LNE_LN_STATUS_SDI_FRAC, LNE_LN_STATUS_IN_BOND, LNE_LN_STATUS_POSITION,
   LNE_LN_STATUS_BOND, LNE_LN_TXEQ_TX_PRE, LNE_LN_TXEQ_TX_MAIN, LNE_LN_TXEQ_TX_POST,
   LNE_LN_RX_ADAPT, LNE_LN_RX_CTLE, LNE_LN_MAC_LO, LNE_LN_MAC_HI,
   LNE_LN_PRBS_GEN_EN, LNE_LN_PRBS_CHK_EN, LNE_LN_PRBS_PATTERN, LNE_LN_PRBS_CHK_LOCK,
   LNE_LN_PRBS_ERR, LNE_LN_SYNC_ERR, LNE_LN_CRC_ERR, LNE_LN_DOWN_CNT,
   LNE_LN_RAW_DP, LNE_LN_RAW_PF, LNE_LN_FEC_CORR, LNE_LN_FEC_UNCORR,
   LNE_LN_EYE_EYE_MV, LNE_LN_EYE_EYE_UI, LNE_GPIO_OWNER, LNE_GPIO_CLAIMED,
   LNE_GPIO_IN, LNE_GPIO_OUT, LNE_GPIO_OE, LNE_GPIO_PULL]
/-- Fields of the LNE map, part 2. -/
def lneFields2 : List Field :=
  [LNE_GPIO_DRIVE, LNE_GPIO_SLEW, LNE_GPIO_SCHMITT, LNE_GPIO_IO_STD,
   LNE_GPIO_TERM, LNE_GPIO_OVS, LNE_GPIO_BANK_OVS_PLL, LNE_GPIO_BANK_LVDS_OK,
   LNE_GPIO_BANK_VIOB_OK, LNE_GPIO_BANK_VIOB_MV]
/-- The fields of the LNE register map. -/
def lneFields : List Field := lneFields0 ++ lneFields1 ++ lneFields2

end Sys2Proof.Machine
end

