-- ==== Sys2Proof/Machine/RegsStore.lean ====
section
/-! DEFINITION. The register fields of the STR, ADM, FLW blocks, one definition per row of the register maps of the spec. -/

namespace Sys2Proof.Machine

-- 05 R142, STR register map
def STR_CTRL_CT_EN : Field :=
  { addr := 0x300000, lo := 1, width := 1, acc := .rws, reset := fun _ => 1, vmax := 0x1 }
def STR_CTRL_PATROL_EN : Field :=
  { addr := 0x300000, lo := 0, width := 1, acc := .rws, reset := fun _ => 1, vmax := 0x1 }
def STR_STATUS_NEAR_INIT : Field :=
  { addr := 0x300004, lo := 31, width := 1, acc := .ro, vmax := 0x1 }
def STR_STATUS_FAR_INIT : Field :=
  { addr := 0x300004, lo := 30, width := 1, acc := .ro, vmax := 0x1 }
def STR_STATUS_PATROL_BEHIND : Field :=
  { addr := 0x300004, lo := 29, width := 1, acc := .ro, vmax := 0x1 }
def STR_STATUS_NEAR_LIVE_CNT : Field :=
  { addr := 0x300004, lo := 16, width := 10, acc := .ro, reset := fun _ => 0x200, vmax := 0x3FF }
def STR_STATUS_FAR_LIVE_CNT : Field :=
  { addr := 0x300004, lo := 0, width := 6, acc := .ro, reset := fun _ => 0x20, vmax := 0x3F }
def STR_ERR_BUF_REFUSED : Field :=
  { addr := 0x300008, lo := 4, width := 1, acc := .w1c, vmax := 0x1 }
def STR_ERR_ADDR_REFUSED : Field :=
  { addr := 0x300008, lo := 3, width := 1, acc := .w1c, vmax := 0x1 }
def STR_ERR_ADDR_MISMATCH : Field :=
  { addr := 0x300008, lo := 2, width := 1, acc := .w1c, vmax := 0x1 }
def STR_ERR_UNCORR : Field :=
  { addr := 0x300008, lo := 1, width := 1, acc := .w1c, vmax := 0x1 }
def STR_ERR_CORR : Field :=
  { addr := 0x300008, lo := 0, width := 1, acc := .w1c, vmax := 0x1 }
def STR_BUF_ERR : Field :=
  { addr := 0x30000C, lo := 0, width := 3, acc := .ro, vmax := 0x7 }
def STR_NEAR_LIVE : Field :=
  { addr := 0x300010, lo := 0, width := 32, acc := .ro, reset := fun _ => 0xFFFFFFFF, stride := 4, count := 16 }
def STR_FAR_LIVE : Field :=
  { addr := 0x300050, lo := 0, width := 32, acc := .ro, reset := fun _ => 0xFFFFFFFF }
def STR_PART_BASE : Field :=
  { addr := 0x300100, lo := 0, width := 32, acc := .ro, reset := partBase, stride := 8, count := 6 }
def STR_PART_WORDS : Field :=
  { addr := 0x300104, lo := 0, width := 32, acc := .ro, reset := partWords, stride := 8, count := 6 }
def STR_NEAR_FREE : Field :=
  { addr := 0x300140, lo := 0, width := 20, acc := .ro, reset := fun _ => 0xC0000, vmax := 0xFFFFF }
def STR_FAR_FREE : Field :=
  { addr := 0x300144, lo := 0, width := 26, acc := .ro, reset := fun _ => 0x36C0000, vmax := 0x3FFFFFF }
def STR_NEAR_BE_FREE : Field :=
  { addr := 0x300148, lo := 0, width := 20, acc := .ro, reset := fun _ => 0xC0000, vmax := 0xFFFFF }
def STR_FAR_BE_FREE : Field :=
  { addr := 0x30014C, lo := 0, width := 26, acc := .ro, reset := fun _ => 0x36C0000, vmax := 0x3FFFFFF }
def STR_NEAR_CORR_CNT : Field :=
  { addr := 0x300180, lo := 0, width := 32, acc := .rw }
def STR_NEAR_UNCORR_CNT : Field :=
  { addr := 0x300184, lo := 0, width := 32, acc := .rw }
def STR_FAR_CORR_CNT : Field :=
  { addr := 0x300188, lo := 0, width := 32, acc := .rw }
def STR_FAR_UNCORR_CNT : Field :=
  { addr := 0x30018C, lo := 0, width := 32, acc := .rw }
def STR_ADDR_MISMATCH_CNT : Field :=
  { addr := 0x300190, lo := 0, width := 32, acc := .rw }
def STR_POISON_DLV_CNT : Field :=
  { addr := 0x300194, lo := 0, width := 32, acc := .rw }
def STR_PART_REFUSE_CNT : Field :=
  { addr := 0x300198, lo := 0, width := 32, acc := .rw }
def STR_BE_REFUSE_CNT : Field :=
  { addr := 0x30019C, lo := 0, width := 32, acc := .rw }
def STR_CT_CNT : Field :=
  { addr := 0x3001A0, lo := 0, width := 32, acc := .ro }
def STR_CT_ABORT_CNT : Field :=
  { addr := 0x3001A4, lo := 0, width := 32, acc := .rw }
def STR_PATROL_LATE_CNT : Field :=
  { addr := 0x3001A8, lo := 0, width := 16, acc := .rw, vmax := 0xFFFF }
def STR_PATROL_PASS_CNT_FAR_PASS : Field :=
  { addr := 0x3001AC, lo := 16, width := 16, acc := .ro, vmax := 0xFFFF }
def STR_PATROL_PASS_CNT_NEAR_PASS : Field :=
  { addr := 0x3001AC, lo := 0, width := 16, acc := .ro, vmax := 0xFFFF }
def STR_ERR_ADDR : Field :=
  { addr := 0x3001C0, lo := 0, width := 32, acc := .ro }
def STR_ERR_INFO_SYNDROME : Field :=
  { addr := 0x3001C4, lo := 24, width := 8, acc := .ro, vmax := 0xFF }
def STR_ERR_INFO_KIND : Field :=
  { addr := 0x3001C4, lo := 16, width := 2, acc := .ro, vmax := 0x3 }
def STR_ERR_INFO_STORE : Field :=
  { addr := 0x3001C4, lo := 10, width := 1, acc := .ro, vmax := 0x1 }
def STR_ERR_INFO_UNIT : Field :=
  { addr := 0x3001C4, lo := 0, width := 10, acc := .ro, vmax := 0x3FF }
def STR_PART_REFUSE_ADDR : Field :=
  { addr := 0x3001C8, lo := 0, width := 32, acc := .ro }
def STR_PATROL_FAR_MS : Field :=
  { addr := 0x300200, lo := 0, width := 13, acc := .rws, reset := fun _ => 0x1F40, vmin := 1000, vmax := 8000 }
def STR_PATROL_NEAR_MS : Field :=
  { addr := 0x300204, lo := 0, width := 9, acc := .rws, reset := fun _ => 0x1F4, vmin := 100, vmax := 500 }
def STR_PATROL_FAR_POS : Field :=
  { addr := 0x300208, lo := 0, width := 32, acc := .ro }
def STR_PATROL_NEAR_POS : Field :=
  { addr := 0x30020C, lo := 0, width := 32, acc := .ro, reset := fun _ => 0x40000000 }
def STR_BUF_BASE : Field :=
  { addr := 0x301000, lo := 3, width := 29, acc := .rws, stride := 8, count := 256, vmax := 0x1FFFFFFF }
def STR_BUF_VALID : Field :=
  { addr := 0x301004, lo := 31, width := 1, acc := .rws, stride := 8, count := 256, vmax := 0x1 }
def STR_BUF_RELOCATED : Field :=
  { addr := 0x301004, lo := 30, width := 1, acc := .ro, stride := 8, count := 256, vmax := 0x1 }
def STR_BUF_LEN : Field :=
  { addr := 0x301004, lo := 0, width := 26, acc := .rws, stride := 8, count := 256, vmax := 0x3FFFFFF }

/-- Fields of the STR map, part 0. -/
def strFields0 : List Field :=
  [STR_CTRL_CT_EN, STR_CTRL_PATROL_EN, STR_STATUS_NEAR_INIT, STR_STATUS_FAR_INIT,
   STR_STATUS_PATROL_BEHIND, STR_STATUS_NEAR_LIVE_CNT, STR_STATUS_FAR_LIVE_CNT, STR_ERR_BUF_REFUSED,
   STR_ERR_ADDR_REFUSED, STR_ERR_ADDR_MISMATCH, STR_ERR_UNCORR, STR_ERR_CORR,
   STR_BUF_ERR, STR_NEAR_LIVE, STR_FAR_LIVE, STR_PART_BASE,
   STR_PART_WORDS, STR_NEAR_FREE, STR_FAR_FREE, STR_NEAR_BE_FREE,
   STR_FAR_BE_FREE, STR_NEAR_CORR_CNT, STR_NEAR_UNCORR_CNT, STR_FAR_CORR_CNT,
   STR_FAR_UNCORR_CNT, STR_ADDR_MISMATCH_CNT, STR_POISON_DLV_CNT, STR_PART_REFUSE_CNT,
   STR_BE_REFUSE_CNT, STR_CT_CNT, STR_CT_ABORT_CNT, STR_PATROL_LATE_CNT,
   STR_PATROL_PASS_CNT_FAR_PASS, STR_PATROL_PASS_CNT_NEAR_PASS, STR_ERR_ADDR, STR_ERR_INFO_SYNDROME,
   STR_ERR_INFO_KIND, STR_ERR_INFO_STORE, STR_ERR_INFO_UNIT, STR_PART_REFUSE_ADDR]
/-- Fields of the STR map, part 1. -/
def strFields1 : List Field :=
  [STR_PATROL_FAR_MS, STR_PATROL_NEAR_MS, STR_PATROL_FAR_POS, STR_PATROL_NEAR_POS,
   STR_BUF_BASE, STR_BUF_VALID, STR_BUF_RELOCATED, STR_BUF_LEN]
/-- The fields of the STR register map. -/
def strFields : List Field := strFields0 ++ strFields1

-- 06 R175, ADM register map
def ADM_CTRL_BE_EN : Field :=
  { addr := 0x340000, lo := 1, width := 1, acc := .rws, reset := fun _ => 1, vmax := 0x1 }
def ADM_STATUS_SHED : Field :=
  { addr := 0x340004, lo := 2, width := 1, acc := .ro, vmax := 0x1 }
def ADM_STATUS_RECHECK : Field :=
  { addr := 0x340004, lo := 1, width := 1, acc := .ro, vmax := 0x1 }
def ADM_STATUS_CHECK : Field :=
  { addr := 0x340004, lo := 0, width := 1, acc := .ro, vmax := 0x1 }
def ADM_NEAR_PCT : Field :=
  { addr := 0x340010, lo := 0, width := 7, acc := .rws, reset := fun _ => 0x55, vmin := 0, vmax := 85 }
def ADM_FAR_PCT : Field :=
  { addr := 0x340014, lo := 0, width := 7, acc := .rws, reset := fun _ => 0x50, vmin := 0, vmax := 80 }
def ADM_LANE_PCT : Field :=
  { addr := 0x340018, lo := 0, width := 7, acc := .rws, reset := fun _ => 0x5F, vmin := 0, vmax := 95 }
def ADM_BE_DEADLINE_NS : Field :=
  { addr := 0x34001C, lo := 0, width := 32, acc := .rws, reset := fun _ => 0x989680, vmin := 1000, vmax := 4294967295 }
def ADM_NEAR_USE : Field :=
  { addr := 0x340020, lo := 0, width := 20, acc := .ro, vmax := 0xFFFFF }
def ADM_FAR_USE : Field :=
  { addr := 0x340024, lo := 0, width := 20, acc := .ro, vmax := 0xFFFFF }
def ADM_CONTRACT_CNT : Field :=
  { addr := 0x340028, lo := 0, width := 15, acc := .ro, vmax := 0x7FFF }
def ADM_CT_RESERVED : Field :=
  { addr := 0x34002C, lo := 0, width := 18, acc := .ro, vmax := 0x3FFFF }
def ADM_CT_HELD : Field :=
  { addr := 0x340030, lo := 0, width := 18, acc := .ro, vmax := 0x3FFFF }
def ADM_BE_HELD : Field :=
  { addr := 0x340034, lo := 0, width := 19, acc := .ro, vmax := 0x7FFFF }
def ADM_DEMOTED_CNT : Field :=
  { addr := 0x340038, lo := 0, width := 15, acc := .ro, vmax := 0x7FFF }
def ADM_TIE_CNT : Field :=
  { addr := 0x340040, lo := 0, width := 32, acc := .rw }
def ADM_LATE_CNT : Field :=
  { addr := 0x340044, lo := 0, width := 32, acc := .rw }
def ADM_DISCARD_CNT : Field :=
  { addr := 0x340048, lo := 0, width := 32, acc := .rw }
def ADM_BE_FULL_CNT : Field :=
  { addr := 0x34004C, lo := 0, width := 32, acc := .rw }
def ADM_BE_SHED_CNT : Field :=
  { addr := 0x340050, lo := 0, width := 32, acc := .rw }
def ADM_EXCESS_CNT : Field :=
  { addr := 0x340054, lo := 0, width := 32, acc := .rw }
def ADM_QUOTA_STALL_CNT : Field :=
  { addr := 0x340058, lo := 0, width := 32, acc := .rw }
def ADM_REFUSE_CNT : Field :=
  { addr := 0x34005C, lo := 0, width := 32, acc := .rw }
def ADM_DEMOTE_CNT : Field :=
  { addr := 0x340060, lo := 0, width := 32, acc := .rw }
def ADM_RECHECK_CNT : Field :=
  { addr := 0x340064, lo := 0, width := 32, acc := .ro }
def ADM_BE_RELOC_DISCARD_CNT : Field :=
  { addr := 0x340068, lo := 0, width := 32, acc := .rw }
def ADM_LAST_REFUSAL_STATUS : Field :=
  { addr := 0x340070, lo := 24, width := 8, acc := .ro, vmax := 0xFF }
def ADM_LAST_REFUSAL_KIND : Field :=
  { addr := 0x340070, lo := 20, width := 4, acc := .ro, vmax := 0xF }
def ADM_LAST_REFUSAL_FLOW : Field :=
  { addr := 0x340070, lo := 0, width := 14, acc := .ro, vmax := 0x3FFF }
def ADM_LAST_INSTANCE : Field :=
  { addr := 0x340074, lo := 0, width := 16, acc := .ro, vmax := 0xFFFF }
def ADM_LANE_USE : Field :=
  { addr := 0x340100, lo := 0, width := 20, acc := .ro, stride := 4, count := 128, vmax := 0xFFFFF }
def ADM_PF_USE : Field :=
  { addr := 0x340300, lo := 0, width := 20, acc := .ro, stride := 4, count := 256, vmax := 0xFFFFF }
def ADM_DP_USE : Field :=
  { addr := 0x340700, lo := 0, width := 20, acc := .ro, stride := 4, count := 256, vmax := 0xFFFFF }
def ADM_IF01_UP_USE : Field :=
  { addr := 0x340B00, lo := 0, width := 20, acc := .ro, vmax := 0xFFFFF }
def ADM_IF01_DN_USE : Field :=
  { addr := 0x340B04, lo := 0, width := 20, acc := .ro, vmax := 0xFFFFF }

/-- Fields of the ADM map, part 0. -/
def admFields0 : List Field :=
  [ADM_CTRL_BE_EN, ADM_STATUS_SHED, ADM_STATUS_RECHECK, ADM_STATUS_CHECK,
   ADM_NEAR_PCT, ADM_FAR_PCT, ADM_LANE_PCT, ADM_BE_DEADLINE_NS,
   ADM_NEAR_USE, ADM_FAR_USE, ADM_CONTRACT_CNT, ADM_CT_RESERVED,
   ADM_CT_HELD, ADM_BE_HELD, ADM_DEMOTED_CNT, ADM_TIE_CNT,
   ADM_LATE_CNT, ADM_DISCARD_CNT, ADM_BE_FULL_CNT, ADM_BE_SHED_CNT,
   ADM_EXCESS_CNT, ADM_QUOTA_STALL_CNT, ADM_REFUSE_CNT, ADM_DEMOTE_CNT,
   ADM_RECHECK_CNT, ADM_BE_RELOC_DISCARD_CNT, ADM_LAST_REFUSAL_STATUS, ADM_LAST_REFUSAL_KIND,
   ADM_LAST_REFUSAL_FLOW, ADM_LAST_INSTANCE, ADM_LANE_USE, ADM_PF_USE,
   ADM_DP_USE, ADM_IF01_UP_USE, ADM_IF01_DN_USE]
/-- The fields of the ADM register map. -/
def admFields : List Field := admFields0

-- 07 R204, FLW register map
def FLW_STATUS_ENABLED_CNT : Field :=
  { addr := 0x380000, lo := 16, width := 15, acc := .ro, vmax := 0x7FFF }
def FLW_STATUS_PAIR_CNT : Field :=
  { addr := 0x380000, lo := 0, width := 9, acc := .ro, vmax := 0x1FF }
def FLW_ERR_PAIR_LOCKED : Field :=
  { addr := 0x380004, lo := 1, width := 1, acc := .w1c, vmax := 0x1 }
def FLW_ERR_ENTRY_LOCKED : Field :=
  { addr := 0x380004, lo := 0, width := 1, acc := .w1c, vmax := 0x1 }
def FLW_MTU : Field :=
  { addr := 0x380010, lo := 0, width := 14, acc := .rws, reset := fun _ => 0x5DC, vmin := 576, vmax := 9000 }
def FLW_PATH_LOSS_MS : Field :=
  { addr := 0x380014, lo := 0, width := 10, acc := .rws, reset := fun _ => 0xA, vmin := 1, vmax := 1000 }
def FLW_SHARE_KIB : Field :=
  { addr := 0x380018, lo := 0, width := 7, acc := .rws, reset := fun _ => 0x10, vmin := 4, vmax := 64 }
def FLW_TIE_CNT : Field :=
  { addr := 0x380020, lo := 0, width := 32, acc := .rw }
def FLW_INJ_CNT : Field :=
  { addr := 0x380024, lo := 0, width := 32, acc := .ro }
def FLW_INJ_REFUSE_CNT : Field :=
  { addr := 0x380028, lo := 0, width := 32, acc := .rw }
def FLW_WIN_IGNORED_CNT : Field :=
  { addr := 0x38002C, lo := 0, width := 32, acc := .rw }
def FLW_INJ_TOKENS : Field :=
  { addr := 0x380030, lo := 0, width := 5, acc := .ro, reset := fun _ => 0x10, vmax := 0x1F }
def FLW_LN_UNMATCHED : Field :=
  { addr := 0x380100, lo := 0, width := 32, acc := .rw, stride := 16, count := 128 }
def FLW_LN_BAD_FRAME : Field :=
  { addr := 0x380104, lo := 0, width := 32, acc := .rw, stride := 16, count := 128 }
def FLW_LN_BUF_DROP : Field :=
  { addr := 0x380108, lo := 0, width := 32, acc := .rw, stride := 16, count := 128 }
def FLW_LN_BUF_PEAK : Field :=
  { addr := 0x38010C, lo := 0, width := 18, acc := .rw, stride := 16, count := 128, vmax := 0x3FFFF }
def FLW_PAIR_VALID : Field :=
  { addr := 0x390000, lo := 31, width := 1, acc := .rws, stride := 64, count := 256, vmax := 0x1 }
def FLW_PAIR_SKEW_US : Field :=
  { addr := 0x390000, lo := 16, width := 13, acc := .rws, stride := 64, count := 256, vmax := 0x1FFF }
def FLW_PAIR_FLOW : Field :=
  { addr := 0x390000, lo := 0, width := 14, acc := .rws, stride := 64, count := 256, vmax := 0x3FFF }
def FLW_PAIR_B_UP : Field :=
  { addr := 0x390004, lo := 17, width := 1, acc := .ro, stride := 64, count := 256, vmax := 0x1 }
def FLW_PAIR_A_UP : Field :=
  { addr := 0x390004, lo := 16, width := 1, acc := .ro, stride := 64, count := 256, vmax := 0x1 }
def FLW_PAIR_BUF : Field :=
  { addr := 0x390004, lo := 0, width := 8, acc := .rws, stride := 64, count := 256, vmax := 0xFF }
def FLW_PAIR_VLAN_B : Field :=
  { addr := 0x390008, lo := 31, width := 1, acc := .rws, stride := 64, count := 256, vmax := 0x1 }
def FLW_PAIR_PCP_B : Field :=
  { addr := 0x390008, lo := 28, width := 3, acc := .rws, stride := 64, count := 256, vmax := 0x7 }
def FLW_PAIR_VID_B : Field :=
  { addr := 0x390008, lo := 16, width := 12, acc := .rws, stride := 64, count := 256, vmax := 0xFFF }
def FLW_PAIR_DST_MAC_B_HI : Field :=
  { addr := 0x390008, lo := 0, width := 16, acc := .rws, stride := 64, count := 256, vmax := 0xFFFF }
def FLW_PAIR_DST_MAC_B_LO : Field :=
  { addr := 0x39000C, lo := 0, width := 32, acc := .rws, stride := 64, count := 256 }
def FLW_PAIR_DST_IP_B0 : Field :=
  { addr := 0x390010, lo := 0, width := 32, acc := .rws, stride := 64, count := 256 }
def FLW_PAIR_DST_IP_B1 : Field :=
  { addr := 0x390014, lo := 0, width := 32, acc := .rws, stride := 64, count := 256 }
def FLW_PAIR_DST_IP_B2 : Field :=
  { addr := 0x390018, lo := 0, width := 32, acc := .rws, stride := 64, count := 256 }
def FLW_PAIR_DST_IP_B3 : Field :=
  { addr := 0x39001C, lo := 0, width := 32, acc := .rws, stride := 64, count := 256 }
def FLW_PAIR_SRC_IP_B0 : Field :=
  { addr := 0x390020, lo := 0, width := 32, acc := .rws, stride := 64, count := 256 }
def FLW_PAIR_SRC_IP_B1 : Field :=
  { addr := 0x390024, lo := 0, width := 32, acc := .rws, stride := 64, count := 256 }
def FLW_PAIR_SRC_IP_B2 : Field :=
  { addr := 0x390028, lo := 0, width := 32, acc := .rws, stride := 64, count := 256 }
def FLW_PAIR_SRC_IP_B3 : Field :=
  { addr := 0x39002C, lo := 0, width := 32, acc := .rws, stride := 64, count := 256 }

/-- Fields of the FLW map, part 0. -/
def flwFields0 : List Field :=
  [FLW_STATUS_ENABLED_CNT, FLW_STATUS_PAIR_CNT, FLW_ERR_PAIR_LOCKED, FLW_ERR_ENTRY_LOCKED,
   FLW_MTU, FLW_PATH_LOSS_MS, FLW_SHARE_KIB, FLW_TIE_CNT,
   FLW_INJ_CNT, FLW_INJ_REFUSE_CNT, FLW_WIN_IGNORED_CNT, FLW_INJ_TOKENS,
   FLW_LN_UNMATCHED, FLW_LN_BAD_FRAME, FLW_LN_BUF_DROP, FLW_LN_BUF_PEAK,
   FLW_PAIR_VALID, FLW_PAIR_SKEW_US, FLW_PAIR_FLOW, FLW_PAIR_B_UP,
   FLW_PAIR_A_UP, FLW_PAIR_BUF, FLW_PAIR_VLAN_B, FLW_PAIR_PCP_B,
   FLW_PAIR_VID_B, FLW_PAIR_DST_MAC_B_HI, FLW_PAIR_DST_MAC_B_LO, FLW_PAIR_DST_IP_B0,
   FLW_PAIR_DST_IP_B1, FLW_PAIR_DST_IP_B2, FLW_PAIR_DST_IP_B3, FLW_PAIR_SRC_IP_B0,
   FLW_PAIR_SRC_IP_B1, FLW_PAIR_SRC_IP_B2, FLW_PAIR_SRC_IP_B3]
/-- The fields of the FLW register map. -/
def flwFields : List Field := flwFields0

end Sys2Proof.Machine
end

