-- ==== Sys2Proof/Machine/RegsTime.lean ====
section
/-! DEFINITION. The register fields of the CLR, DNC blocks, one definition per row of the register maps of the spec. -/

namespace Sys2Proof.Machine

-- 03 R90, CLR register map
def CLR_CTRL_FORCE_FREERUN : Field :=
  { addr := 0x100000, lo := 2, width := 1, acc := .rws, vmax := 0x1 }
def CLR_CTRL_STEP_EN : Field :=
  { addr := 0x100000, lo := 1, width := 1, acc := .rws, reset := fun _ => 1, vmax := 0x1 }
def CLR_CTRL_RESELECT : Field :=
  { addr := 0x100000, lo := 0, width := 1, acc := .wo, vmax := 0x1 }
def CLR_STATUS_SET_REFUSED : Field :=
  { addr := 0x100004, lo := 12, width := 1, acc := .w1c, vmax := 0x1 }
def CLR_STATUS_TOD_VALID : Field :=
  { addr := 0x100004, lo := 11, width := 1, acc := .ro, vmax := 0x1 }
def CLR_STATUS_BACKUP_OSC : Field :=
  { addr := 0x100004, lo := 10, width := 1, acc := .ro, vmax := 0x1 }
def CLR_STATUS_HOLDOVER_EXPIRED : Field :=
  { addr := 0x100004, lo := 9, width := 1, acc := .w1c, vmax := 0x1 }
def CLR_STATUS_STEPPED : Field :=
  { addr := 0x100004, lo := 8, width := 1, acc := .w1c, vmax := 0x1 }
def CLR_STATUS_UPSTREAM_STATE : Field :=
  { addr := 0x100004, lo := 6, width := 2, acc := .ro, vmax := 0x3 }
def CLR_STATUS_ACTIVE_SLOT : Field :=
  { addr := 0x100004, lo := 2, width := 3, acc := .ro, reset := fun _ => 7, vmax := 0x7 }
def CLR_STATUS_STATE : Field :=
  { addr := 0x100004, lo := 0, width := 2, acc := .ro, vmax := 0x3 }
def CLR_REF_PRIO : Field :=
  { addr := 0x100008, lo := 0, width := 32, acc := .rws, reset := fun _ => 0x10 }
def CLR_REFCLK_PRESENT : Field :=
  { addr := 0x10000C, lo := 1, width := 1, acc := .ro, vmax := 0x1 }
def CLR_REFCLK_FREQ : Field :=
  { addr := 0x10000C, lo := 0, width := 1, acc := .rws, vmax := 0x1 }
def CLR_HOLDOVER_LIMIT_MIN : Field :=
  { addr := 0x100010, lo := 0, width := 11, acc := .rws, reset := fun _ => 0x3C, vmin := 0, vmax := 1440 }
def CLR_LOCK_LOCK_COUNT : Field :=
  { addr := 0x100014, lo := 24, width := 8, acc := .rws, reset := fun _ => 0x10, vmin := 1, vmax := 255 }
def CLR_LOCK_LOCK_NS : Field :=
  { addr := 0x100014, lo := 0, width := 16, acc := .rws, reset := fun _ => 0x64, vmax := 0xFFFF }
def CLR_STEP_THRESH : Field :=
  { addr := 0x100018, lo := 0, width := 32, acc := .rws, reset := fun _ => 0x3E8 }
def CLR_SLEW_MAX_SLEW_PPB : Field :=
  { addr := 0x10001C, lo := 0, width := 17, acc := .rws, reset := fun _ => 0x2710, vmin := 0, vmax := 100000 }
def CLR_TIME_NS : Field :=
  { addr := 0x100020, lo := 0, width := 30, acc := .ro, vmax := 0x3FFFFFFF }
def CLR_TIME_SEC : Field :=
  { addr := 0x100028, lo := 0, width := 48, acc := .ro, vmax := 0xFFFFFFFFFFFF }
def CLR_SET_SEC : Field :=
  { addr := 0x100030, lo := 0, width := 48, acc := .wo, vmax := 0xFFFFFFFFFFFF }
def CLR_SET_NS : Field :=
  { addr := 0x100038, lo := 0, width := 30, acc := .wo, vmax := 0x3FFFFFFF }
def CLR_UTC_UTC_VALID : Field :=
  { addr := 0x10003C, lo := 16, width := 1, acc := .rws, vmax := 0x1 }
def CLR_UTC_UTC_OFFSET : Field :=
  { addr := 0x10003C, lo := 0, width := 16, acc := .rws, vmax := 0xFFFF }
def CLR_OFFSET : Field :=
  { addr := 0x100040, lo := 0, width := 32, acc := .ro }
def CLR_FREQ_ADJ : Field :=
  { addr := 0x100044, lo := 0, width := 32, acc := .ro }
def CLR_MONO : Field :=
  { addr := 0x100048, lo := 0, width := 64, acc := .ro, vmax := 0xFFFFFFFFFFFFFFFF }
def CLR_PTP_CTRL_ANN_TIMEOUT : Field :=
  { addr := 0x100050, lo := 24, width := 8, acc := .rws, reset := fun _ => 3, vmin := 2, vmax := 255 }
def CLR_PTP_CTRL_P2P : Field :=
  { addr := 0x100050, lo := 9, width := 1, acc := .rws, vmax := 0x1 }
/-- DESIGN CHOICE (log 126): a write of 128 to 255 is stored as written; 03 R90 gives the domain 0 to 127. -/
def CLR_PTP_CTRL_DOMAIN : Field :=
  { addr := 0x100050, lo := 0, width := 8, acc := .rws, reset := fun _ => 0x7F, vmax := 0xFF }
def CLR_PTP_PORT_EN : Field :=
  { addr := 0x100054, lo := 31, width := 1, acc := .rws, stride := 4, count := 4, vmax := 0x1 }
def CLR_PTP_PORT_IPV6 : Field :=
  { addr := 0x100054, lo := 8, width := 1, acc := .rws, stride := 4, count := 4, vmax := 0x1 }
def CLR_PTP_PORT_LANE : Field :=
  { addr := 0x100054, lo := 0, width := 7, acc := .rws, stride := 4, count := 4, vmax := 0x7F }
def CLR_PTP_GM_ID : Field :=
  { addr := 0x100068, lo := 0, width := 64, acc := .ro, vmax := 0xFFFFFFFFFFFFFFFF }
def CLR_PTP_GM_INFO_STEPS_REMOVED : Field :=
  { addr := 0x100070, lo := 16, width := 8, acc := .ro, vmax := 0xFF }
def CLR_PTP_GM_INFO_CLOCK_CLASS : Field :=
  { addr := 0x100070, lo := 8, width := 8, acc := .ro, vmax := 0xFF }
def CLR_PTP_GM_INFO_PRIORITY1 : Field :=
  { addr := 0x100070, lo := 0, width := 8, acc := .ro, vmax := 0xFF }
def CLR_REFA_FREQ_HZ : Field :=
  { addr := 0x100074, lo := 8, width := 18, acc := .rws, reset := fun _ => 0xBB80, vmax := 0x3FFFF }
def CLR_REFA_EDGE : Field :=
  { addr := 0x100074, lo := 2, width := 1, acc := .rws, vmax := 0x1 }
def CLR_REFA_KIND : Field :=
  { addr := 0x100074, lo := 0, width := 1, acc := .rws, vmax := 0x1 }
def CLR_REFB_EDGE : Field :=
  { addr := 0x100078, lo := 4, width := 1, acc := .rws, vmax := 0x1 }
def CLR_REFB_UNIT : Field :=
  { addr := 0x100078, lo := 3, width := 1, acc := .rws, vmax := 0x1 }
def CLR_REFB_GRID : Field :=
  { addr := 0x100078, lo := 0, width := 3, acc := .rws, vmax := 0x7 }
def CLR_REFB_OFFSET : Field :=
  { addr := 0x10007C, lo := 0, width := 32, acc := .rws }
def CLR_REF_LOSS_CNT : Field :=
  { addr := 0x100080, lo := 0, width := 32, acc := .ro }
def CLR_STEP_CNT : Field :=
  { addr := 0x100084, lo := 0, width := 32, acc := .ro }
def CLR_GRID_CTRL_EN : Field :=
  { addr := 0x100100, lo := 31, width := 1, acc := .rws, stride := 64, count := 8, vmax := 0x1 }
def CLR_GRID_CTRL_FIELDS : Field :=
  { addr := 0x100100, lo := 16, width := 1, acc := .rws, stride := 64, count := 8, vmax := 0x1 }
def CLR_GRID_CTRL_LINES : Field :=
  { addr := 0x100100, lo := 0, width := 14, acc := .rws, reset := fun _ => 1, stride := 64, count := 8, vmax := 0x3FFF }
def CLR_GRID_NUM : Field :=
  { addr := 0x100104, lo := 0, width := 24, acc := .rws, reset := fun _ => 0x3E8, stride := 64, count := 8, vmax := 0xFFFFFF }
def CLR_GRID_DEN : Field :=
  { addr := 0x100108, lo := 0, width := 24, acc := .rws, reset := fun _ => 1, stride := 64, count := 8, vmax := 0xFFFFFF }
def CLR_GRID_ALIGN : Field :=
  { addr := 0x10010C, lo := 0, width := 32, acc := .rws, stride := 64, count := 8 }
def CLR_GRID_POS_TICK : Field :=
  { addr := 0x100110, lo := 0, width := 20, acc := .ro, stride := 64, count := 8, vmax := 0xFFFFF }
def CLR_GRID_POS_FIELD : Field :=
  { addr := 0x100114, lo := 16, width := 1, acc := .ro, stride := 64, count := 8, vmax := 0x1 }
def CLR_GRID_POS_LINE : Field :=
  { addr := 0x100114, lo := 0, width := 14, acc := .ro, stride := 64, count := 8, vmax := 0x3FFF }
def CLR_GRID_POS_FRAME : Field :=
  { addr := 0x100118, lo := 0, width := 48, acc := .ro, stride := 64, count := 8, vmax := 0xFFFFFFFFFFFF }
def CLR_GRID_STATUS_DISC : Field :=
  { addr := 0x100120, lo := 3, width := 1, acc := .w1c, stride := 64, count := 8, vmax := 0x1 }
def CLR_GRID_STATUS_CFG_ERR : Field :=
  { addr := 0x100120, lo := 2, width := 1, acc := .ro, stride := 64, count := 8, vmax := 0x1 }
def CLR_GRID_STATUS_ACTIVE : Field :=
  { addr := 0x100120, lo := 1, width := 1, acc := .ro, stride := 64, count := 8, vmax := 0x1 }
def CLR_GRID_LINE_NS : Field :=
  { addr := 0x100124, lo := 0, width := 20, acc := .ro, reset := fun _ => 0xF4240, stride := 64, count := 8, vmax := 0xFFFFF }
def CLR_PULSE_EN : Field :=
  { addr := 0x100300, lo := 31, width := 1, acc := .rws, stride := 4, count := 8, vmax := 0x1 }
def CLR_PULSE_WIDTH : Field :=
  { addr := 0x100300, lo := 12, width := 12, acc := .rws, reset := fun _ => 1, stride := 4, count := 8, vmin := 1, vmax := 4095 }
def CLR_PULSE_UNIT : Field :=
  { addr := 0x100300, lo := 10, width := 2, acc := .rws, stride := 4, count := 8, vmax := 0x3 }
def CLR_PULSE_POL : Field :=
  { addr := 0x100300, lo := 9, width := 1, acc := .rws, stride := 4, count := 8, vmax := 0x1 }
def CLR_PULSE_SOURCE : Field :=
  { addr := 0x100300, lo := 0, width := 5, acc := .rws, stride := 4, count := 8, vmax := 0x1F }
def ALM_CTRL_ARM : Field :=
  { addr := 0x100400, lo := 31, width := 1, acc := .rws, stride := 32, count := 32, vmax := 0x1 }
def ALM_CTRL_OWNER : Field :=
  { addr := 0x100400, lo := 29, width := 2, acc := .ro, reset := almOwner, stride := 32, count := 32, vmax := 0x3 }
def ALM_CTRL_MODE : Field :=
  { addr := 0x100400, lo := 28, width := 1, acc := .rws, stride := 32, count := 32, vmax := 0x1 }
def ALM_CTRL_GRID : Field :=
  { addr := 0x100400, lo := 24, width := 3, acc := .rws, stride := 32, count := 32, vmax := 0x7 }
def ALM_CTRL_REPEAT : Field :=
  { addr := 0x100400, lo := 16, width := 2, acc := .rws, stride := 32, count := 32, vmax := 0x3 }
def ALM_CTRL_EVENT : Field :=
  { addr := 0x100400, lo := 9, width := 1, acc := .rws, stride := 32, count := 32, vmax := 0x1 }
def ALM_TGT_LO : Field :=
  { addr := 0x100404, lo := 0, width := 30, acc := .rws, stride := 32, count := 32, vmax := 0x3FFFFFFF }
def ALM_TGT_LINE : Field :=
  { addr := 0x100408, lo := 0, width := 14, acc := .rws, stride := 32, count := 32, vmax := 0x3FFF }
def ALM_TGT_HI : Field :=
  { addr := 0x100410, lo := 0, width := 48, acc := .rws, stride := 32, count := 32, vmax := 0xFFFFFFFFFFFF }
def ALM_STAT_BAD_TARGET : Field :=
  { addr := 0x100418, lo := 3, width := 1, acc := .w1c, stride := 32, count := 32, vmax := 0x1 }
def ALM_STAT_DISC_FIRED : Field :=
  { addr := 0x100418, lo := 2, width := 1, acc := .w1c, stride := 32, count := 32, vmax := 0x1 }
def ALM_STAT_ARMED_PAST : Field :=
  { addr := 0x100418, lo := 1, width := 1, acc := .w1c, stride := 32, count := 32, vmax := 0x1 }
def ALM_STAT_FIRED : Field :=
  { addr := 0x100418, lo := 0, width := 1, acc := .w1c, stride := 32, count := 32, vmax := 0x1 }
def ALM_FIRE_CNT : Field :=
  { addr := 0x10041C, lo := 0, width := 32, acc := .ro, stride := 32, count := 32 }

/-- Fields of the CLR map, part 0. -/
def clrFields0 : List Field :=
  [CLR_CTRL_FORCE_FREERUN, CLR_CTRL_STEP_EN, CLR_CTRL_RESELECT, CLR_STATUS_SET_REFUSED,
   CLR_STATUS_TOD_VALID, CLR_STATUS_BACKUP_OSC, CLR_STATUS_HOLDOVER_EXPIRED, CLR_STATUS_STEPPED,
   CLR_STATUS_UPSTREAM_STATE, CLR_STATUS_ACTIVE_SLOT, CLR_STATUS_STATE, CLR_REF_PRIO,
   CLR_REFCLK_PRESENT, CLR_REFCLK_FREQ, CLR_HOLDOVER_LIMIT_MIN, CLR_LOCK_LOCK_COUNT,
   CLR_LOCK_LOCK_NS, CLR_STEP_THRESH, CLR_SLEW_MAX_SLEW_PPB, CLR_TIME_NS,
   CLR_TIME_SEC, CLR_SET_SEC, CLR_SET_NS, CLR_UTC_UTC_VALID,
   CLR_UTC_UTC_OFFSET, CLR_OFFSET, CLR_FREQ_ADJ, CLR_MONO,
   CLR_PTP_CTRL_ANN_TIMEOUT, CLR_PTP_CTRL_P2P, CLR_PTP_CTRL_DOMAIN, CLR_PTP_PORT_EN,
   CLR_PTP_PORT_IPV6, CLR_PTP_PORT_LANE, CLR_PTP_GM_ID, CLR_PTP_GM_INFO_STEPS_REMOVED,
   CLR_PTP_GM_INFO_CLOCK_CLASS, CLR_PTP_GM_INFO_PRIORITY1, CLR_REFA_FREQ_HZ, CLR_REFA_EDGE]
/-- Fields of the CLR map, part 1. -/
def clrFields1 : List Field :=
  [CLR_REFA_KIND, CLR_REFB_EDGE, CLR_REFB_UNIT, CLR_REFB_GRID,
   CLR_REFB_OFFSET, CLR_REF_LOSS_CNT, CLR_STEP_CNT, CLR_GRID_CTRL_EN,
   CLR_GRID_CTRL_FIELDS, CLR_GRID_CTRL_LINES, CLR_GRID_NUM, CLR_GRID_DEN,
   CLR_GRID_ALIGN, CLR_GRID_POS_TICK, CLR_GRID_POS_FIELD, CLR_GRID_POS_LINE,
   CLR_GRID_POS_FRAME, CLR_GRID_STATUS_DISC, CLR_GRID_STATUS_CFG_ERR, CLR_GRID_STATUS_ACTIVE,
   CLR_GRID_LINE_NS, CLR_PULSE_EN, CLR_PULSE_WIDTH, CLR_PULSE_UNIT,
   CLR_PULSE_POL, CLR_PULSE_SOURCE, ALM_CTRL_ARM, ALM_CTRL_OWNER,
   ALM_CTRL_MODE, ALM_CTRL_GRID, ALM_CTRL_REPEAT, ALM_CTRL_EVENT,
   ALM_TGT_LO, ALM_TGT_LINE, ALM_TGT_HI, ALM_STAT_BAD_TARGET,
   ALM_STAT_DISC_FIRED, ALM_STAT_ARMED_PAST, ALM_STAT_FIRED, ALM_FIRE_CNT]
/-- The fields of the CLR register map. -/
def clrFields : List Field := clrFields0 ++ clrFields1

-- 04 R116, DNC register map
def DNC_CTRL_LOG_EN : Field :=
  { addr := 0x200000, lo := 8, width := 1, acc := .rws, vmax := 0x1 }
def DNC_CTRL_COPY : Field :=
  { addr := 0x200000, lo := 1, width := 1, acc := .wo, vmax := 0x1 }
def DNC_CTRL_EN : Field :=
  { addr := 0x200000, lo := 0, width := 1, acc := .rws, vmax := 0x1 }
def DNC_STATUS_COPY_BUSY : Field :=
  { addr := 0x200004, lo := 2, width := 1, acc := .ro, vmax := 0x1 }
def DNC_STATUS_ACTIVE_BANK : Field :=
  { addr := 0x200004, lo := 1, width := 1, acc := .ro, vmax := 0x1 }
def DNC_STATUS_RUNNING : Field :=
  { addr := 0x200004, lo := 0, width := 1, acc := .ro, vmax := 0x1 }
def DNC_ERR_LOG_LOST : Field :=
  { addr := 0x200008, lo := 2, width := 1, acc := .w1c, vmax := 0x1 }
def DNC_ERR_SHADOW_LOCKED : Field :=
  { addr := 0x200008, lo := 1, width := 1, acc := .w1c, vmax := 0x1 }
def DNC_ERR_ACTIVE_WRITE : Field :=
  { addr := 0x200008, lo := 0, width := 1, acc := .w1c, vmax := 0x1 }
def DNC_SWAP_CTRL_GRID : Field :=
  { addr := 0x200010, lo := 4, width := 3, acc := .rw, vmax := 0x7 }
def DNC_SWAP_CTRL_ANY_FRAME : Field :=
  { addr := 0x200010, lo := 2, width := 1, acc := .rw, vmax := 0x1 }
def DNC_SWAP_CTRL_CANCEL : Field :=
  { addr := 0x200010, lo := 1, width := 1, acc := .wo, vmax := 0x1 }
def DNC_SWAP_CTRL_ARM : Field :=
  { addr := 0x200010, lo := 0, width := 1, acc := .w1s, vmax := 0x1 }
def DNC_SWAP_LINE : Field :=
  { addr := 0x200014, lo := 0, width := 14, acc := .rw, vmax := 0x3FFF }
def DNC_SWAP_TICK : Field :=
  { addr := 0x200018, lo := 0, width := 20, acc := .rw, vmax := 0xFFFFF }
def DNC_SWAP_FRAME : Field :=
  { addr := 0x200020, lo := 0, width := 48, acc := .rw, vmax := 0xFFFFFFFFFFFF }
def DNC_SWAP_STAT_ERR_ENTRY : Field :=
  { addr := 0x200028, lo := 16, width := 16, acc := .ro, vmax := 0xFFFF }
def DNC_SWAP_STAT_ERR_CODE : Field :=
  { addr := 0x200028, lo := 8, width := 8, acc := .ro, vmax := 0xFF }
def DNC_SWAP_STAT_STATE : Field :=
  { addr := 0x200028, lo := 0, width := 2, acc := .ro, vmax := 0x3 }
def DNC_SWAP_MONO : Field :=
  { addr := 0x200030, lo := 0, width := 64, acc := .ro, vmax := 0xFFFFFFFFFFFFFFFF }
def DNC_VALID_CNT : Field :=
  { addr := 0x200038, lo := 0, width := 17, acc := .ro, vmax := 0x1FFFF }
def DNC_SLIP_CNT : Field :=
  { addr := 0x200040, lo := 0, width := 32, acc := .rw }
def DNC_SLIP_MAX : Field :=
  { addr := 0x200044, lo := 0, width := 16, acc := .rw, vmax := 0xFFFF }
def DNC_SLIP_LIMIT : Field :=
  { addr := 0x200048, lo := 0, width := 16, acc := .rws, reset := fun _ => 0x10, vmax := 0xFFFF }
def DNC_EXEC_CNT : Field :=
  { addr := 0x20004C, lo := 0, width := 32, acc := .ro }
def DNC_SKIP_CNT : Field :=
  { addr := 0x200050, lo := 0, width := 32, acc := .rw }
def DNC_FAIL_CNT : Field :=
  { addr := 0x200054, lo := 0, width := 32, acc := .rw }
def DNC_LOG_WR : Field :=
  { addr := 0x200058, lo := 0, width := 13, acc := .ro, vmax := 0x1FFF }
def DNC_LOG_LOST_CNT : Field :=
  { addr := 0x20005C, lo := 0, width := 32, acc := .rw }

/-- Fields of the DNC map, part 0. -/
def dncFields0 : List Field :=
  [DNC_CTRL_LOG_EN, DNC_CTRL_COPY, DNC_CTRL_EN, DNC_STATUS_COPY_BUSY,
   DNC_STATUS_ACTIVE_BANK, DNC_STATUS_RUNNING, DNC_ERR_LOG_LOST, DNC_ERR_SHADOW_LOCKED,
   DNC_ERR_ACTIVE_WRITE, DNC_SWAP_CTRL_GRID, DNC_SWAP_CTRL_ANY_FRAME, DNC_SWAP_CTRL_CANCEL,
   DNC_SWAP_CTRL_ARM, DNC_SWAP_LINE, DNC_SWAP_TICK, DNC_SWAP_FRAME,
   DNC_SWAP_STAT_ERR_ENTRY, DNC_SWAP_STAT_ERR_CODE, DNC_SWAP_STAT_STATE, DNC_SWAP_MONO,
   DNC_VALID_CNT, DNC_SLIP_CNT, DNC_SLIP_MAX, DNC_SLIP_LIMIT,
   DNC_EXEC_CNT, DNC_SKIP_CNT, DNC_FAIL_CNT, DNC_LOG_WR,
   DNC_LOG_LOST_CNT]
/-- The fields of the DNC register map. -/
def dncFields : List Field := dncFields0

end Sys2Proof.Machine
end

