-- ==== Sys2Proof/Machine/RegMap.lean ====
section
/-! DEFINITION. The register map as a whole: every field, the words a block decodes (02 R30), the 64-bit registers
(00 R8). -/

namespace Sys2Proof.Machine

/-- Every register field of the maps. -/
def allFields : List Field :=
  glbFields ++ mbxFields ++ resFields ++ clrFields ++ dncFields ++ strFields ++ admFields ++ flwFields ++ lneFields ++ fabFields ++ hbFields ++ cfgFields ++ ctxFields ++ flcFields ++ hltFields ++ thmFields ++ pwrFields ++ prmFields ++ lcsFields

/-- Decoded words, part 0: first address, stride, count. -/
def decodedWords0 : List (Nat × Nat × Nat) :=
  [(0x0, 4, 11), (0x10000, 4, 3), (0x10010, 4, 5), (0x10028, 4, 17), (0x10070, 4, 10),
   (0x10140, 4, 1), (0x10170, 4, 1), (0x20000, 4, 5), (0x20500, 4, 2), (0x100000, 4, 9),
   (0x100028, 4, 11), (0x100068, 4, 8), (0x200000, 4, 3), (0x200010, 4, 3), (0x200020, 4, 3),
   (0x200030, 4, 3), (0x200040, 4, 8), (0x300000, 4, 4), (0x300050, 4, 1), (0x300140, 4, 4),
   (0x300180, 4, 12), (0x3001C0, 4, 3), (0x300200, 4, 4), (0x340000, 4, 2), (0x340010, 4, 11),
   (0x340040, 4, 11), (0x340070, 4, 2), (0x340B00, 4, 2), (0x380000, 4, 2), (0x380010, 4, 3),
   (0x380020, 4, 5), (0x3C0000, 4, 3), (0x400000, 4, 4), (0x408000, 4, 2), (0x440000, 4, 15),
   (0x480000, 4, 7), (0x480020, 4, 6), (0x4C0000, 4, 5), (0x4C0020, 4, 4), (0x4C0040, 4, 1)]
/-- Decoded words, part 1: first address, stride, count. -/
def decodedWords1 : List (Nat × Nat × Nat) :=
  [(0x500000, 4, 11), (0x540000, 4, 13), (0x540040, 4, 13), (0x540080, 4, 1), (0x580000, 4, 8),
   (0x5C0000, 4, 5), (0x5C0018, 4, 3), (0x600000, 4, 7), (0x10100, 4, 16), (0x10150, 4, 4),
   (0x10160, 4, 4), (0x20100, 4, 192), (0x20400, 4, 4), (0x20410, 4, 4), (0x20420, 4, 8),
   (0x20440, 4, 8), (0x100054, 4, 4), (0x100100, 64, 8), (0x100104, 64, 8), (0x100108, 64, 8),
   (0x10010C, 64, 8), (0x100110, 64, 8), (0x100114, 64, 8), (0x100118, 64, 8), (0x10011C, 64, 8),
   (0x100120, 64, 8), (0x100124, 64, 8), (0x100300, 4, 8), (0x100400, 32, 32), (0x100404, 32, 32),
   (0x100408, 32, 32), (0x100410, 32, 32), (0x100414, 32, 32), (0x100418, 32, 32), (0x10041C, 32, 32),
   (0x300010, 4, 16), (0x300100, 8, 6), (0x300104, 8, 6), (0x301000, 8, 256), (0x301004, 8, 256)]
/-- Decoded words, part 2: first address, stride, count. -/
def decodedWords2 : List (Nat × Nat × Nat) :=
  [(0x340100, 4, 128), (0x340300, 4, 256), (0x340700, 4, 256), (0x380100, 16, 128), (0x380104, 16, 128),
   (0x380108, 16, 128), (0x38010C, 16, 128), (0x390000, 64, 256), (0x390004, 64, 256), (0x390008, 64, 256),
   (0x39000C, 64, 256), (0x390010, 64, 256), (0x390014, 64, 256), (0x390018, 64, 256), (0x39001C, 64, 256),
   (0x390020, 64, 256), (0x390024, 64, 256), (0x390028, 64, 256), (0x39002C, 64, 256), (0x390030, 64, 256),
   (0x390034, 64, 256), (0x390038, 64, 256), (0x39003C, 64, 256), (0x3C0100, 16, 32), (0x3C0104, 16, 32),
   (0x3C0108, 16, 32), (0x3C010C, 16, 32), (0x3C0800, 32, 16), (0x3C0804, 32, 16), (0x3C0808, 32, 16),
   (0x3C080C, 32, 16), (0x3C0810, 32, 16), (0x3C0814, 32, 16), (0x3C0818, 32, 16), (0x3C081C, 32, 16),
   (0x3C1000, 64, 128), (0x3C1004, 64, 128), (0x3C1008, 64, 128), (0x3C100C, 64, 128), (0x3C1010, 64, 128)]
/-- Decoded words, part 3: first address, stride, count. -/
def decodedWords3 : List (Nat × Nat × Nat) :=
  [(0x3C1014, 64, 128), (0x3C1018, 64, 128), (0x3C101C, 64, 128), (0x3C1020, 64, 128), (0x3C1024, 64, 128),
   (0x3C1028, 64, 128), (0x3C102C, 64, 128), (0x3C1030, 64, 128), (0x3C1034, 64, 128), (0x3C1038, 64, 128),
   (0x3C103C, 64, 128), (0x3C3000, 4, 192), (0x3C3400, 4, 6), (0x400100, 4, 48), (0x400200, 32, 16),
   (0x400204, 32, 16), (0x400208, 32, 16), (0x40020C, 32, 16), (0x400210, 32, 16), (0x400214, 32, 16),
   (0x400218, 32, 16), (0x400400, 64, 16), (0x400404, 64, 16), (0x400408, 64, 16), (0x40040C, 64, 16),
   (0x400410, 64, 16), (0x400414, 64, 16), (0x401000, 4, 1536), (0x408100, 16, 16), (0x408104, 16, 16),
   (0x408108, 16, 16), (0x40810C, 16, 16), (0x409000, 16, 256), (0x409004, 16, 256), (0x409008, 16, 256),
   (0x40900C, 16, 256), (0x40A000, 16, 256), (0x40A004, 16, 256), (0x40A008, 16, 256), (0x40A00C, 16, 256)]
/-- Decoded words, part 4: first address, stride, count. -/
def decodedWords4 : List (Nat × Nat × Nat) :=
  [(0x440040, 4, 16), (0x440080, 4, 8), (0x480100, 16, 16), (0x480104, 16, 16), (0x480108, 16, 16),
   (0x48010C, 16, 16), (0x4C0100, 16, 8), (0x4C0104, 16, 8), (0x4C0108, 16, 8), (0x4C1000, 4, 12288),
   (0x500100, 16, 16), (0x500104, 16, 16), (0x500108, 16, 16), (0x50010C, 16, 16), (0x500200, 4, 49),
   (0x500300, 4, 49), (0x500410, 16, 7), (0x500414, 16, 7), (0x500418, 16, 7), (0x50041C, 16, 7),
   (0x540100, 4, 101), (0x540300, 4, 16), (0x540340, 4, 6), (0x5C0100, 16, 32), (0x5C0104, 16, 32),
   (0x5C0108, 16, 32), (0x5C010C, 16, 32), (0x600020, 4, 4)]
/-- The 32-bit words some register map has a row for, reserved rows included. -/
def decodedWords : List (Nat × Nat × Nat) := decodedWords0 ++ decodedWords1 ++ decodedWords2 ++ decodedWords3 ++ decodedWords4

/-- The 64-bit registers (00 R8): address of the low word, stride, count. -/
def wideRegs : List (Nat × Nat × Nat) :=
  [(0x8, 0, 1), (0x10010, 0, 1), (0x10028, 0, 1), (0x10038, 0, 1), (0x10048, 0, 1),
   (0x10050, 0, 1), (0x10070, 0, 1), (0x10088, 0, 1), (0x10090, 0, 1), (0x100028, 0, 1),
   (0x100030, 0, 1), (0x100048, 0, 1), (0x100068, 0, 1), (0x100118, 64, 8), (0x100410, 32, 32),
   (0x200020, 0, 1), (0x200030, 0, 1), (0x440020, 0, 1), (0x440028, 0, 1), (0x480010, 0, 1),
   (0x480020, 0, 1), (0x480108, 16, 16), (0x5C0018, 0, 1)]

end Sys2Proof.Machine
end

