-- ==== Sys2Proof/Machine/State.lean ====
section
/-! DEFINITION. The state of the block as plain data: the register file, and block by block what no register holds.
Default field values are the values after a cold reset (`State.reset`). -/

namespace Sys2Proof.Machine

/-- A sparse map in one canonical form: keys strictly rising, no key twice (the operations are in Ops.lean). Memory,
register file and tables are of this type; what an unlisted key reads as is said where the map is declared. -/
abbrev SMap (α : Type) := List (Nat × α)

/-! ### Management plane (02) -/

/-- A dispatched command that has not completed (02 R38). `begun` is set by its own row when the command goes on after
that row; `discard` by RING_RESET (02 R41). -/
structure InFlight where
  id : Nat
  ring : Bool
  bytes : List Nat
  tick : Nat
  begun : Bool := false
  discard : Bool := false
  deriving DecidableEq, Repr

/-- A word of the scratchpad (02 R59, R63). -/
structure SpadWord where
  data : Nat := 0
  poison : Bool := false
  deriving DecidableEq, Repr

/-- The steward (02 R58, R540). -/
inductive StewardState where
  | booting
  | running
  | restarting (doneAt : Nat)
  | stopped
  deriving DecidableEq, Repr

/-- The holdoff of MSI-X vector 0 or 1 (02 R55): the end of the running interval, and whether records arrived in it. -/
structure Holdoff where
  endsAt : Option Nat := none
  arrived : Bool := false
  deriving DecidableEq, Repr

/-- A limit of one event per millisecond (05 R123 and others): tick of the last post, and the occurrences of the last millisecond
by tick, the newest first. -/
structure EventLimit where
  last : Nat
  recent : List (Nat × Nat)
  deriving DecidableEq, Repr

/-- What the device answers to the last read (data, or bytes), how the access ended, and a poison flag. -/
structure Reply where
  data : Nat := 0
  bytes : List Nat := []
  abort : Bool := false
  poison : Bool := false
  deriving DecidableEq, Repr

/-- State of the management plane that no register holds (02 R33 to R63). -/
structure Mgmt where
  /-- Host memory as the DMA sees it (02 R33): bytes; an unlisted address reads 0 (DESIGN CHOICE, log 8). -/
  hostMem : SMap Nat := []
  /-- Records fetched from the command ring and not dispatched (02 R38, R41). -/
  fetched : List (List Nat) := []
  /-- The record submitted by MBX_MB_CTRL.GO and not dispatched (02 R48), and how many of the fetched records came before it. -/
  mailbox : Option (List Nat) := none
  mailboxBehind : Nat := 0
  inFlight : List InFlight := []
  /-- The model's own: the number the next dispatched command gets. -/
  nextId : Nat := 0
  /-- Completion records that wait for the completion ring (02 R36, R39). -/
  cplWait : List (List Nat) := []
  /-- The event queue in L0 (02 R45), at most 4,096 records of 128 bits; the tick in which a record last entered it, and how many
  entered it in that tick (01 R24). -/
  evtQueue : List Nat := []
  evtTick : Nat := 0
  evtCount : Nat := 0
  /-- Records lost since the previous EVENTS_LOST (02 R45). -/
  evtLost : Nat := 0
  /-- The mailbox event queue (02 R49), at most 64 records. -/
  mbEvents : List Nat := []
  /-- Next record of the event and fault log (01 R25, 02 R44), 0 to 1,048,575; the records lie in the far store. -/
  logNext : Nat := 0
  /-- Records that wait for the initialisation of the far store (05 R139). -/
  logWait : List Nat := []
  holdoff0 : Holdoff := {}
  holdoff1 : Holdoff := {}
  /-- MSI-X table (02 R54): 32-bit word `4v + k` of entry `v`, kept as the difference (exclusive or) from its reset
  value, which is 1 for `k = 3` (masked) and 0 otherwise (PRESUMED, log 9). -/
  msixTable : SMap Nat := []
  /-- The pending-bit array (02 R54). -/
  pba : Nat := 0
  /-- MSI-X messages sent, per vector. -/
  sent : SMap Nat := []
  /-- PCIe link and reset land (02 R28); DESIGN CHOICE (log 10): down and low after reset. -/
  pcieUp : Bool := false
  pcieWidthRate : Nat := 0
  perstN : Bool := false
  /-- SMB_ALERT_N (02 R53): released. -/
  smbAlertN : Bool := true
  steward : StewardState := .booting
  /-- The tick before which a boot of the steward that was started again is not done (02 R58). -/
  stewardDoneAt : Nat := 0
  /-- The scratchpad (02 R59): 65,536 words; an unlisted word is a good zero (R538), but an unlisted word of the steward's region is
  a free value once the steward has written the region: the first of its 32,768 free values. -/
  spad : SMap SpadWord := []
  spadBase : Option Nat := none
  limits : SMap EventLimit := []
  deriving DecidableEq, Repr

/-! ### The Caller (03) -/

/-- A candidate reference of CLR_REF_PRIO (03 R70): valid now. -/
structure RefState where
  valid : Bool := false
  deriving DecidableEq, Repr

/-- What a PTP port hears (03 R71): the grandmaster of its last Announce, the tick and the interval of that message; a two-step
Sync that waits for its Follow_Up (sequence number, device time); the path delay, and the times of the last Sync at the master
and at the device, all in ns. -/
structure PtpPort where
  master : PtpMaster
  heardAt : Nat
  logInterval : Int
  waiting : Option (Nat × Int) := none
  pathDelay : Int := 0
  lastSync : Option (Int × Int) := none
  deriving DecidableEq, Repr

/-- A pulse output (03 R84): the pulse lasts until `endsAt` (in CLR_MONO); pulses given so far; the tick of the last one, and the
tick in which its comparator last fired. -/
structure PulseState where
  endsAt : Nat := 0
  count : Nat := 0
  startedAt : Option Nat := none
  firedAt : Option Nat := none
  deriving DecidableEq, Repr

/-- State of the Caller that no register holds. -/
structure Caller where
  /-- TAI time (03 R65): seconds (48 bits) and nanoseconds; 0 s after cold reset (R77). -/
  sec : Nat := 0
  ns : Nat := 0
  /-- CLR_MONO (03 R66). -/
  mono : Nat := 0
  /-- The TAI nanosecond from which on positions have not been reached: those from here to the time now are reached in this tick
  (03 R68; one position, but for a phase change). -/
  dueFrom : Nat := 0
  /-- The phase change in ns that the next tick takes (03 R68). -/
  shift : Int := 0
  /-- Tick in which a grid was enabled, by grid: it runs from the next tick on (03 R81). -/
  gridStart : SMap Nat := []
  /-- Candidate references by slot; an unlisted slot has never been valid. -/
  refs : SMap RefState := []
  /-- The Caller entered ACQUIRE from FREERUN and has not compared the offset with CLR_STEP_THRESH (03 R75). -/
  stepPending : Bool := false
  /-- Consecutive updates inside LOCK_NS, and outside 4 × LOCK_NS (03 R73). -/
  inside : Nat := 0
  outside : Nat := 0
  /-- Tick of entry to HOLDOVER (03 R73). -/
  holdoverAt : Nat := 0
  /-- PTP ports that hear a master, by port; the port the algorithm chose (03 R71). -/
  ptp : SMap PtpPort := []
  ptpPort : Option Nat := none
  /-- The metadata TLV last received (03 R72). -/
  metadata : List Nat := []
  /-- Edges seen on REFA since its last servo update, the tick of the last edge on REFA and REFB, and the ticks between the last
  two edges on REFA (03 R69, R74). -/
  refaEdges : Nat := 0
  refaLast : Option Nat := none
  refaPeriod : Option Nat := none
  refbLast : Option Nat := none
  /-- The offset that the active reference gave, device less reference in ns, for a servo update that has not run (03 R74). -/
  measured : Option Int := none
  /-- The filtered offset in ns (03 R73). -/
  filtered : Int := 0
  /-- The frequency correction in the present stay in LOCKED: ticks from which on it held, and its values, the newest first, as far
  back as 60 s (03 R73). -/
  freqLog : List (Nat × Int) := []
  /-- Whether the sender of Hokutu time reports its time of day valid (03 R88). -/
  upstreamTod : Bool := false
  /-- Pulse outputs 0 to 7. -/
  pulses : SMap PulseState := []
  /-- Comparators whose target was past when they were armed, and those a forward step passed (03 R87). -/
  armedPast : List Nat := []
  stepPassed : List Nat := []
  /-- Comparators armed in this very tick by ALARM with DELAY 0 do not fire in it (04 R98): tick of arming. -/
  armTick : SMap Nat := []
  /-- Time messages sent, per bond (03 R88): count and TAI nanosecond of the last. -/
  timeSent : SMap Nat := []
  deriving DecidableEq, Repr

/-! ### The dance card engine (04) -/

/-- An action in the execution queue (04 R107): entry and its bank, the tick it is due in, its slip. -/
structure QueuedAction where
  entry : Nat
  bank : Nat
  word : Nat
  dueAt : Nat
  slip : Nat
  deriving DecidableEq, Repr

/-- A GPIO pulse in progress (04 R97): its end and the level it leaves. -/
structure GpioPulse where
  endsAt : Nat
  after : Bool
  deriving DecidableEq, Repr

/-- State of the dance card engine that no register holds. -/
structure Dance where
  /-- Banks 0 and 1 (04 R91): entries of 128 bits; an unlisted entry is 0 (R95). -/
  bank0 : SMap Nat := []
  bank1 : SMap Nat := []
  /-- The staging entry (04 R92): bank and entry, and the words staged for it. -/
  staged : Option (Nat × Nat) := none
  stagedWords : SMap Nat := []
  /-- Tick at which the copy in progress started, and the bank it copies from (04 R94). -/
  copyFrom : Option (Nat × Nat) := none
  /-- Once entries of the active bank that have fired (04 R100). -/
  fired : List Nat := []
  /-- The position of an armed swap has been passed by a forward step (04 R105). -/
  swapPassed : Bool := false
  /-- The execution queue (04 R107). -/
  queue : List QueuedAction := []
  /-- Tick whose due entries have joined the queue, and tick and number of the actions executed in it (04 R107). -/
  dueDone : Option Nat := none
  execTick : Nat := 0
  execCount : Nat := 0
  /-- GPIO pulses in progress, by land. -/
  pulses : SMap GpioPulse := []
  /-- Log records waiting for the scratchpad port, at most 64 (04 R114). -/
  logBuffer : List Nat := []
  /-- Grid frame in which SLIP_LIMIT was last posted, by grid (04 R108). -/
  slipPosted : SMap Nat := []
  deriving DecidableEq, Repr

/-! ### The central store (05) -/

/-- A word of the store (05 R117, R122): 72 bits, and whether it was written poisoned. -/
structure StoreWord where
  data : Nat := 0
  poison : Bool := false
  deriving DecidableEq, Repr

/-- Patrol of one store (05 R126, R127): start of the pass, behind pace now, event 0x3006 posted in this pass. -/
structure Patrol where
  passStart : Nat := 0
  behind : Bool := false
  posted : Bool := false
  deriving DecidableEq, Repr

/-- An access that waits for its bank or channel (05 R120, R121): who presents it, under which lane, port or channel number; the word
to write, or none for a read, with what the read finds; the tick of its arrival. -/
structure StoreAccess where
  requester : Requester
  number : Nat
  addr : Nat
  write : Option StoreWord := none
  found : Syndrome := .zero
  arrived : Nat
  deriving DecidableEq, Repr

/-- A refused transfer (05 R129): its tick, its address, the reason. -/
structure Refused where
  tick : Nat
  addr : Nat
  reason : Nat
  deriving DecidableEq, Repr

/-- State of the central store that no register holds. -/
structure Store where
  /-- Near and far store by word address (05 R118); an unlisted word is a good zero word (R139). -/
  mem : SMap StoreWord := []
  /-- Corrected words that wait for their write-back, by address (05 R123). -/
  writebacks : List Nat := []
  /-- Units after those that received the last slot allocated in the near and in the far store (05 R130). -/
  nextNear : Nat := 0
  nextFar : Nat := 0
  /-- Buffers whose checks passed and whose ticket slots still move (05 R542). -/
  bufPending : List Nat := []
  patrolNear : Patrol := {}
  patrolFar : Patrol := {}
  /-- Units being relocated after their retirement (05 R132): far store, unit. -/
  relocating : List (Bool × Nat) := []
  /-- Slots of fixed partitions and buffers that a retired unit lost, by address: the slot of a live unit that holds their words now
  (05 R132 step 2). -/
  redirect : SMap Nat := []
  /-- Accesses that wait for their bank or channel, in the order in which they arrived, and the tick in which each unit last served
  one, by unit (channels from 512 on; 05 R120). -/
  waiting : List StoreAccess := []
  served : SMap Nat := []
  /-- The transfers refused in the last millisecond, the newest first (05 R129, R141). -/
  refusals : List Refused := []
  deriving DecidableEq, Repr

/-! ### Admission and tickets (06) -/

/-- State of a contract in CONTRACT_QUERY's encoding (06 R172). -/
inductive ContractState where
  | admitted
  | withdrawing
  | demoted
  deriving DecidableEq, Repr

/-- What a contract is charged on one resource (06 R149): kind (1 = near store, 2 = far store, 3 = egress lane,
4 = interface 01, 5 = pack FIFO, 6 = delivery port), number, and the charge per period in 1/64 of the resource unit. -/
structure Charge where
  kind : Nat
  inst : Nat
  amount : Nat
  deriving DecidableEq, Repr

/-- A contract (06 R143), with what the unit keeps of it: the slots reserved, the period now counted and the words it
carried (R145), LATE tickets and discards, the commands that withdraw it. -/
structure Contract where
  grid : Nat
  unit : Nat
  rate : Nat
  deadline : Nat
  quota : Nat
  discardLate : Bool
  priority : Nat
  /-- Placement FAR, the grid period as the fraction tNum / tDen of ns, and the charges, as they stood at admission. -/
  far : Bool
  tNum : Nat
  tDen : Nat
  charges : List Charge
  slots : Nat
  state : ContractState := .admitted
  period : Int := 0
  carried : Nat := 0
  late : Nat := 0
  discarded : Nat := 0
  withdrawIds : List Nat := []
  deriving DecidableEq, Repr

/-- An entry of the ticket table (06 R147). `slots` are the word addresses of its slots; `borrowed` slots are those of
a hold copy (07 R189), which the ticket does not own. -/
structure Ticket where
  flow : Nat
  contracted : Bool
  created : Nat
  deadline : Nat
  words : Nat
  handed : Nat := 0
  slots : List Nat
  far : Bool
  borrowed : Bool := false
  cutThrough : Bool := false
  /-- Its words that the store has not written, by index (05 R121): a store-and-forward ticket may leave when there is none (R135). -/
  unwritten : List Nat := []
  /-- TAI nanosecond at which its last word was written (07 R197), and the tick in which its first word arrived (07 R180). -/
  readyAt : Nat := 0
  arrived : Option Nat := none
  segment : Nat := 0
  validBytes : Nat := 9
  errored : Bool := false
  deriving DecidableEq, Repr

/-- An ADMIT that waits for its check (06 R154). -/
structure AdmitRequest where
  id : Nat
  flow : Nat
  contract : Contract
  trial : Bool
  deriving DecidableEq, Repr

/-- A recheck that runs (06 R165): kind and instance of the resource whose contracts it covers. -/
structure Recheck where
  kind : Nat
  inst : Nat
  deriving DecidableEq, Repr

/-- State of the admission unit that no register holds. -/
structure Adm where
  contracts : SMap Contract := []
  /-- The ticket table, by index 0 to 262,143. -/
  tickets : SMap Ticket := []
  requests : List AdmitRequest := []
  /-- The recheck in progress, and those that wait for it. -/
  rechecks : List Recheck := []
  /-- Sources that stall at their quota or reservation (06 R148). -/
  stalled : List Nat := []
  /-- By flow: the tick in which its contract was decided, and the contract that its tickets follow in that tick (06 R154, R168). -/
  decidedAt : SMap Nat := []
  before : SMap Contract := []
  deriving DecidableEq, Repr

/-! ### Flow engines (07) -/

/-- A line segment that is being assembled (07 R185): the samples that arrived, by index, with bit 12 set on one that came poisoned;
its ticket (none where it was refused or has ended), and the words that had not been written when the ticket ended. -/
structure Segment where
  index : Nat
  samples : SMap Nat
  ticket : Option Nat
  gone : List Nat := []
  deriving DecidableEq, Repr

/-- A hold copy (07 R190): its slots, the words in them, the valid bytes of the last. -/
structure HoldCopy where
  slots : List Nat
  words : Nat
  validBytes : Nat := 9
  deriving DecidableEq, Repr

/-- Samples of one row of a packet (07 R185): row, pixel offset, field. -/
structure RowPart where
  row : Nat
  offset : Nat
  second : Bool
  samples : List Nat
  deriving DecidableEq, Repr

/-- A packet, or an SDI line, in the view of its flow (07 R181): its words, or for KIND 0x3 its rows of samples; the lane and the tick
of its arrival. Bit 72 of a word, and bit 12 of a sample, mark it poisoned. -/
structure Packet where
  lane : Nat
  arrived : Nat
  seq : Nat := 0
  extended : Bool := false
  marker : Bool := false
  row : Nat := 0
  rows : List RowPart := []
  words : List Nat := []
  validBytes : Nat := 9
  endsInError : Bool := false
  deriving DecidableEq, Repr

/-- What a flow engine keeps for one flow. -/
structure FlowRun where
  /-- Tick of FLOW_ENABLE, and of FLOW_DISABLE (07 R179, R180). -/
  enabledAt : Option Nat := none
  disabledAt : Option Nat := none
  /-- Highest extended sequence number seen (07 R184). -/
  highest : Option Nat := none
  windowOpen : Bool := false
  windowNo : Nat := 0
  /-- Segment indexes (line kinds), or counts from 0 (packet kinds), the open window received (07 R188, R189). -/
  received : List Nat := []
  segments : List Segment := []
  /-- Segments still to be made good after DEADLINE, and the tick of that DEADLINE (07 R189). -/
  missing : List Nat := []
  missingAt : Option Nat := none
  /-- Tick in which substitute tickets were last created, four at most (07 R189). -/
  substAt : Option Nat := none
  /-- Tick in which its last packet arrived (07 R200). -/
  lastArrival : Option Nat := none
  /-- Packets that wait in the lane ingress buffer for a ticket or a window (07 R183, R188). -/
  waiting : List Packet := []
  holds : SMap HoldCopy := []
  /-- Egress: the gate and the segments it still lets pass; 0 = no limit (07 R197). -/
  gateOpen : Bool := false
  gateLeft : Nat := 0
  gateUnlimited : Bool := false
  egressSeq : Nat := 0
  /-- Packets of the ticket now being sent that have left, and the TAI line start that paces it. -/
  sentOf : Nat := 0
  /-- RTP timestamp taken with the first packet of that ticket (07 R196). -/
  stamp : Nat := 0
  paceAt : Option Int := none
  lastPace : Option Int := none
  /-- TAI nanosecond at which its gate last opened (07 R197). -/
  gateAt : Nat := 0
  /-- Segments sent since its gate opened or it was enabled. -/
  sentSegs : Nat := 0
  /-- SDI egress (07 R195): the grid line last sent, counted from the epoch; its active words; the lines sent without theirs whose
  words are discarded when they arrive. -/
  lineSent : Option Int := none
  lastLine : List Nat := []
  lateLines : Nat := 0
  /-- FLOW_DISABLE waits for the flow's last ticket (07 R180): the commands. -/
  disabling : List Nat := []
  deriving DecidableEq, Repr

/-- A packet held in the merge buffer (07 R192): the place of its words in the pair's store buffer. -/
structure HeldPacket where
  seq : Nat
  tick : Nat
  place : Nat
  packet : Packet
  deriving DecidableEq, Repr

/-- Merge state of a pair record (07 R192, R193). -/
structure PairRun where
  expected : Option Nat := none
  held : List HeldPacket := []
  /-- Where the next held packet's words go; the packet last taken from path B, and its tick. -/
  place : Nat := 0
  takenB : Option (Nat × Nat) := none
  lastA : Nat := 0
  lastB : Nat := 0
  dupA : Nat := 0
  dupB : Nat := 0
  deriving DecidableEq, Repr

/-- The Ethernet, IP and UDP headers of a packet that leaves (07 R177, R193, R196). -/
structure NetHeader where
  srcMac : Nat
  dstMac : Nat
  /-- PCP and VID of its tag. -/
  tag : Option (Nat × Nat)
  ipv6 : Bool
  dscp : Nat
  /-- TTL or hop limit. -/
  hops : Nat
  srcIp : Nat
  dstIp : Nat
  srcPort : Nat
  dstPort : Nat
  deriving DecidableEq, Repr

/-- The RTP header of a packet that leaves. -/
structure RtpHeader where
  pt : Nat
  seq : Nat
  timestamp : Nat
  ssrc : Nat
  marker : Bool
  deriving DecidableEq, Repr

/-- A packet as it left (07 R196): the lanes that carried it with the headers there, its RTP header, its extended sequence number and
sample row data header, the octets behind them; a Hokutu ticket's link flow identifier, words and blocks with the lanes they left on. -/
structure SentPacket where
  flow : Nat
  copies : List (Nat × NetHeader) := []
  rtp : Option RtpHeader := none
  extended : Option Nat := none
  srd : Option SrdHeader := none
  payload : List Nat := []
  link : Option Nat := none
  words : List StoreWord := []
  blocks : List (Nat × Nat) := []
  badFcs : Bool := false
  late : Bool := false
  deriving DecidableEq, Repr

/-- A line as it left an SDI lane (07 R195): its number, the words of its two streams from EAV on (colour difference first). -/
structure SentLine where
  flow : Nat
  lane : Nat
  number : Nat
  streamC : List Nat
  streamY : List Nat
  late : Bool := false
  deriving DecidableEq, Repr

/-- Lock of an SDI lane (07 R194): consecutive lines with and without TRS. -/
structure SdiLock where
  locked : Bool := false
  good : Nat := 0
  bad : Nat := 0
  deriving DecidableEq, Repr

/-- State of the flow engines that no register holds. -/
structure Flows where
  /-- The flow table (07 R176): 32-bit word `16f + n` of entry `f`; 0 where unlisted. -/
  table : SMap Nat := []
  run : SMap FlowRun := []
  pairs : SMap PairRun := []
  /-- The eight counters of FLOW_STATS (07 R201), counter `k` of flow `f` at `8f + k`. -/
  stats : SMap Nat := []
  /-- Frames that wait for a gap on their lane, and the tick of the last token (07 R199). -/
  inject : SMap (List Nat) := []
  tokenAt : Nat := 0
  /-- SDI lock by lane (07 R194); by lane, the tick at which the packet now leaving ends (07 R197). -/
  sdi : SMap SdiLock := []
  busyUntil : SMap Nat := []
  /-- What was sent last. -/
  lastSent : Option SentPacket := none
  lastLine : Option SentLine := none
  lastInjected : Option (Nat × List Nat) := none
  deriving DecidableEq, Repr

/-! ### Lanes, Hokutu link, lands, boundary scan (08) -/

/-- A block of a lane (08 R214): its sync bits, its type bit for poison, its payload as it stands before the scrambler. -/
structure LinkBlock where
  sync : Nat
  poison : Bool := false
  payload : Nat := 0
  deriving DecidableEq, Repr

/-- A ticket that arrives on a bond (08 R215): its words so far, whether one of its blocks had a sync error. -/
structure LinkTicket where
  flowId : Nat
  words : List StoreWord := []
  bad : Bool := false
  deriving DecidableEq, Repr

/-- A ticket whose END has arrived (08 R215). -/
structure HokutuTicket where
  flowId : Nat
  words : List StoreWord
  endLane : Nat
  validBytes : Nat
  errorFlag : Bool
  crcOk : Bool
  syncError : Bool
  deriving DecidableEq, Repr

/-- The fields of a side-channel frame of a Hokutu lane (08 R217). -/
structure TimeFrame where
  sec : Nat
  ns : Nat
  lockState : Nat
  todValid : Bool
  position : Nat
  spareCmd : Nat
  crcOk : Bool
  deriving DecidableEq, Repr

/-- A training of a bond (08 R218): its start, and by position the exchanges counted and the sum of their flight times
in ps. -/
structure BondRun where
  startedAt : Nat := 0
  exchanges : SMap Nat := []
  flightSum : SMap Nat := []
  /-- State, latency of a bond of a lifeline route, which has no LNE_BOND registers (17 R466). -/
  state : Nat := 0
  lat : Nat := 0
  /-- Position that the receiving end asked the spare to replace, the faulty lane, the tick of the fault (08 R220). -/
  spareWanted : Option (Nat × Nat) := none
  faultAt : Nat := 0
  /-- Time frames missing in a row (08 R217), and the tick of the last good one. -/
  missing : Nat := 0
  lastFrame : Nat := 0
  /-- Lanes that carry a position other than FIRST + position, and the spare lane now (08 R216, R220). -/
  moved : SMap Nat := []
  spare : Option Nat := none
  /-- The TRAIN_ACK last sent: position, block (08 R215). -/
  ackSent : Option (Nat × Nat) := none
  /-- Sending (08 R214, R216, R217): blocks numbered so far, since which tick, the scramblers' registers and the side-channel frames last
  sent by position. -/
  sentCount : Nat := 0
  numberedAt : Nat := 0
  tx : SMap Nat := []
  frames : SMap Nat := []
  /-- Receiving: by position the blocks that wait for those before them, the descramblers' registers, the blocks in a row without a sync
  error; blocks released; the ticket under way. -/
  waiting : SMap (List Nat) := []
  rx : SMap Nat := []
  clean : SMap Nat := []
  released : Nat := 0
  opened : Option LinkTicket := none
  deriving DecidableEq, Repr

/-- Instruction in the boundary-scan instruction register (08 R227). -/
inductive JtagInstr where
  | bypass
  | idcode
  | samplePreload
  | extest
  | extestPulse
  | extestTrain
  | clamp
  | highz
  /-- A debug instruction of 19 R513. -/
  | debug
  deriving DecidableEq, Repr

/-- State of lanes and lands that no register holds. -/
structure Lanes where
  bonds : SMap BondRun := []
  /-- Levels the dance card engine last drove on the lands it owns (04 R97): 0 or 1. -/
  danceLevel : SMap Nat := []
  /-- Banks of lands whose supply is out of range, or has not been in range for 1 ms (08 R226): the tick since which it
  has been in range. -/
  viobSince : SMap Nat := []
  /-- Test access port (08 R227): IDCODE after reset (PRESUMED, log 17), bypass bit, boundary cells. -/
  jtag : JtagInstr := .idcode
  bypassBit : Bool := false
  cells : SMap Bool := []
  captured : SMap Bool := []
  /-- Levels last seen at lands whose keeper holds them (08 R231). -/
  keeper : SMap Nat := []
  /-- CTLE values to which receivers adapted before they left UP (08 R209). -/
  adapted : SMap Nat := []
  /-- By lane, the tick of the last host write and what the lane's registers held before that tick's writes (08 R207). -/
  before : SMap (Nat × List Nat) := []
  /-- The word last received on a raw PCS lane that no delivery port took. -/
  rawLost : Option (Nat × Nat) := none
  deriving DecidableEq, Repr

/-! ### The fabric (09) -/

/-- State of the fabric that no register holds. -/
structure Fabric where
  /-- Retired logic physical columns that the steering in force passes over, by region (09 R235, R236). -/
  steered : SMap (List Nat) := []
  /-- By region, the steering that FAB_COLMAP and SPARES_USED still show: a change is seen in the tick of the unpark (09 R236). -/
  shown : SMap (List Nat) := []
  /-- Fabric PLLs that have locked since they were enabled, whose outputs run (09 R251). -/
  running : List Nat := []
  deriving DecidableEq, Repr

/-! ### Hard blocks (10) -/

/-- Output registers of a tile memory port (10 R262). -/
structure TileOut where
  dout : Nat := 0
  busy : Bool := false
  corr : Bool := false
  uncorr : Bool := false
  deriving DecidableEq, Repr

/-- A tile memory port: its output registers, the read that waits behind OUT_REG (10 R263), the row of a pending ECC
write-back (10 R266). -/
structure TilePort where
  out : TileOut := {}
  next : Option TileOut := none
  writeback : Option Nat := none
  deriving DecidableEq, Repr

/-- The pipeline of a mix slice (10 R268 to R273). Values are two's complement fields of the width the rule gives. -/
structure MixSlice where
  /-- Stage 1: X, B, PRE, ZSEL. -/
  x : Nat := 0
  b : Nat := 0
  pre : Nat := 0
  zsel : Nat := 0
  /-- Stage 2: the 24-bit register, the operands that go on, whether the pre-adder saturated. -/
  a2 : Nat := 0
  x2 : Nat := 0
  b2 : Nat := 0
  z2 : Nat := 0
  sat2 : Bool := false
  /-- Stage 3: the product. -/
  p : Nat := 0
  z3 : Nat := 0
  sat3 : Bool := false
  /-- Stage 4: the accumulator, 88 bits. -/
  acc : Nat := 0
  sat4 : Bool := false
  /-- Stage 5. -/
  out : Nat := 0
  sat : Bool := false
  /-- The tick of its last edge, and ACC before that edge (10 R271). -/
  edgeAt : Option Nat := none
  accWas : Nat := 0
  deriving DecidableEq, Repr

/-- A packet closed in a pack FIFO whose notice has not been issued (10 R277). -/
structure PackClosed where
  bytes : Nat
  words : Nat
  valid : Nat
  reason : Nat
  offset : Nat
  deriving DecidableEq, Repr

/-- A pack FIFO (10 R275 to R280): complete words that wait for the reader; the open packet (its header under BIND 0x3,
the bytes of the partly filled word, counts, DAMAGED so far); closed packets; of the packet at the front, the words the
reader has taken and the slots that hold them. -/
structure PackFifo where
  words : List Nat := []
  isOpen : Bool := false
  header : List Nat := []
  part : List Nat := []
  bytes : Nat := 0
  filled : Nat := 0
  reason : Nat := 0
  closed : List PackClosed := []
  taken : Nat := 0
  slots : List Nat := []
  /-- Tick in which the reader took its first word, and whether its flow was disabled or being disabled then (07 R180). -/
  frontAt : Nat := 0
  drop : Bool := false
  deriving DecidableEq, Repr

/-- A word in a delivery port (10 R281): END is a nonzero `valid`. -/
structure DeliveryWord where
  data : Nat
  valid : Nat := 0
  poison : Bool := false
  late : Bool := false
  err : Bool := false
  deriving DecidableEq, Repr

/-- A buffer read request (10 R283): slot offset, words, words placed so far. -/
structure BufferRead where
  offset : Nat
  words : Nat
  placed : Nat := 0
  deriving DecidableEq, Repr

/-- A delivery port. -/
structure DeliveryPort where
  words : List DeliveryWord := []
  requests : List BufferRead := []
  deriving DecidableEq, Repr

/-- State of the hard blocks that no register holds. -/
structure Hard where
  /-- Rows of tile memories (10 R261): row `row` of tile memory `m` of region `r` at `(240r + m) × 1024 + row`, 72 bits; an
  unlisted row is undefined (10 R267). -/
  rows : SMap Nat := []
  /-- Ports A and B of tile memory `m` of region `r` at `2(240r + m)` and the next. -/
  tilePorts : SMap TilePort := []
  /-- Slice `k` of the mix column with logical number `c` at `32c + k`. -/
  mix : SMap MixSlice := []
  packs : SMap PackFifo := []
  ports : SMap DeliveryPort := []
  /-- The word last sent on a raw PCS lane (10 R280). -/
  rawSent : Option (Nat × Nat) := none
  deriving DecidableEq, Repr

/-! ### Configuration streams (11) -/

/-- A frame in a plane: 1,728 bits and the check stored with them (11 R297). -/
structure PlaneFrame where
  bits : Nat := 0
  check : Nat := 0
  deriving DecidableEq, Repr

/-- Rows written by a MEMLD packet (11 R305). -/
structure MemLoad where
  region : Nat
  tile : Nat
  row : Nat
  data : List Nat
  deriving DecidableEq, Repr

/-- The pending image (11 R295): what the packets of a stream ask for. Frames are keyed by their frame
address (R296); `masks` is the union of the region masks, `frameCount` counts every frame written; the running CRC-32, what it
was when CRC was last written, and that word. -/
structure StreamImage where
  kind : Nat := 0
  declPeak : Nat := 0
  buildId : Nat := 0
  claims : List Nat := []
  far : Nat := 0
  ctxSel : Nat := 0
  mask : Nat := 0
  masks : Nat := 0
  frames : SMap PlaneFrame := []
  frameCount : Nat := 0
  bufs : List Nat := []
  power : List Nat := []
  sets : List (Nat × Nat) := []
  memory : List MemLoad := []
  park : Option Nat := none
  unpark : Option Nat := none
  turn : Option (Nat × Bool) := none
  crcRun : Nat := 0xFFFFFFFF
  crcSnap : Option Nat := none
  crcWant : Nat := 0
  done : Bool := false
  deriving DecidableEq, Repr

/-- A load that runs (11 R309): the command, its kind and source; its start, and which regions were retired and parked, and
which contexts active, then; the image once the checks have passed. -/
structure LoadRun where
  id : Nat
  background : Bool
  fromFlash : Bool
  bank : Nat
  sector : Nat
  startedAt : Nat
  retired : Nat
  parked : Nat
  active : Nat
  /-- What the reads of the row that now runs find in the staging partition (05 R123). -/
  found : Found := {}
  image : Option StreamImage := none
  deriving DecidableEq, Repr

/-- State of the configuration port that no register holds. -/
structure Cfg where
  /-- The context planes (12 R326): keyed as the frames of a stream; an unlisted frame is zero. -/
  planes : SMap PlaneFrame := []
  load : Option LoadRun := none
  /-- The design in force (11 R290, R311, R313; 17 R469): its claim table, its claimed buffers, the regions it configures,
  those it names by PARK, its CTX_SEL. -/
  claims : List Nat := []
  bufs : List Nat := []
  regions : Nat := 0
  parkMask : Nat := 0
  ctxSel : Nat := 0
  deriving DecidableEq, Repr

/-! ### Contexts (12) -/

/-- A request that waits for its region's turn clock edge (12 R331, R337): a turn to a context, a park, an unpark; the
tick of its issue; the command it came from. -/
structure RegionRequest where
  kind : Nat
  context : Nat := 0
  reset : Bool := false
  issued : Nat
  cmd : Option Nat := none
  dance : Bool := false
  deriving DecidableEq, Repr

/-- What a CTX_TURN, CTX_PARK or CTX_UNPARK has come to (12 R351): regions that wait, took effect, were refused, and the
status of the first refusal. -/
structure RegionCmd where
  waiting : List Nat := []
  done : Nat := 0
  refused : Nat := 0
  status : Nat := 0
  deriving DecidableEq, Repr

/-- An armed capture (12 R342). -/
structure CaptureRun where
  mask : Nat
  clock : Nat
  /-- The edge, counted from the request, on which it is taken. -/
  edge : Nat := 1
  halt : Bool
  issued : Nat
  cmd : Option Nat := none
  deriving DecidableEq, Repr

/-- State of the context block that no register holds. -/
structure Ctx where
  /-- Requests by region, in their order of arrival. -/
  requests : SMap (List RegionRequest) := []
  cmds : SMap RegionCmd := []
  capture : Option CaptureRun := none
  /-- The capture cells (12 R343), by region, as the bytes of R348's format. -/
  cells : SMap (List Nat) := []
  /-- Regions whose region set-reset is asserted for a cycle (12 R333): the tick at which it ends. -/
  resetUntil : SMap Nat := []
  /-- Tick in which a turn last left context `k` of region `r`, at `4r + k` (14 R397). -/
  left : SMap Nat := []
  /-- Host requests that were settled as they reached their region, of one tick: region and request (04 R110). -/
  hostNow : List (Nat × RegionRequest) := []
  /-- The golden save that runs (12 R328): command, context, regions. -/
  golden : Option (Nat × Nat × Nat) := none
  deriving DecidableEq, Repr

/-! ### Configuration flash (13) -/

/-- A written code word (13 R355): 144 data bits; an undefined one can read as anything (13 R360, R368). -/
structure CodeWord where
  bits : Nat
  undefined : Bool := false
  deriving DecidableEq, Repr

/-- An erase or a program of a bank (13 R366): who asked for it; its sector; for a program the code words left to write
and the one in progress; whether it has begun (13 R371), is suspended (13 R369), or is held (13 R372); whether it is a golden save's work (13 R375). -/
structure FlashOp where
  erase : Bool
  cmd : Option Nat
  sector : Nat
  word : Nat := 0
  data : List Nat := []
  golden : Bool := false
  begun : Bool := true
  suspended : Bool := false
  held : Bool := false
  resumeCmds : List Nat := []
  /-- State and CW_INDEX of the sector before the operation began, and the tick in which it did. -/
  was : Nat := 0
  wasIndex : Nat := 0
  startedAt : Nat := 0
  deriving DecidableEq, Repr

/-- State of the flash that no register holds. -/
structure Flash where
  /-- Written code words: word `c` of sector `s` of bank `b` at `(1536b + s) × 4096 + c`; an unlisted one is erased, or holds
  what the maker wrote. -/
  words : SMap CodeWord := []
  /-- Sectors that hold the maker's firmware since the device was shipped: sectors 0 to 11 of both boot blocks
  (PRESUMED, log 34). -/
  shipped : List Nat := List.range 12 ++ (List.range 12).map fun n => 1536 + n
  ops : SMap FlashOp := []
  deriving DecidableEq, Repr

/-! ### Guards, tests, retirement (14) -/

/-- A targeted self-test that runs (14 R402): its start, its cause, the HLT_TEST command that asked for it. -/
structure TestRun where
  startedAt : Nat
  cause : Nat
  cmd : Option Nat := none
  deriving DecidableEq, Repr

/-- A transient in the history (14 R403): the resource's key and CLR_MONO. -/
structure Transient where
  key : Nat
  tick : Nat
  deriving DecidableEq, Repr

/-- The relocation of a region's columns after columns retired (14 R408): the columns, its start once the region is parked, the
pairs whose loaded bit was cleared and is set again afterwards, and whether it parked the region itself. -/
structure Relocation where
  columns : List Nat
  startedAt : Option Nat := none
  pairs : List Nat := []
  unpark : Bool := false
  deriving DecidableEq, Repr

/-- State of the guards and of retirement that no register holds. A resource's key is KIND × 2^28 + INDEX (R406). -/
structure Guard where
  /-- Tests that run, by resource key. -/
  tests : SMap TestRun := []
  /-- The history of transients, oldest first, at most 1,024 (R403). -/
  transients : List Transient := []
  /-- The repair records in use, in the order of their writing (R405). -/
  records : List Nat := []
  /-- Signals of a riser group steered to spares in service (R407; 01 R16), by INDEX of the group: the signals, in the order of the
  spares; those steered at the factory come before them. -/
  steered : SMap (List Nat) := []
  /-- Riser groups at half bandwidth, and riser groups retired, by INDEX. -/
  half : List Nat := []
  groupsRetired : List Nat := []
  /-- Flows held for HLT_AFFECTED_FLOWS, oldest first (R412). -/
  affected : List Nat := []
  /-- Relocations pending or running, by region. -/
  relocations : SMap Relocation := []
  /-- The tick from which on the steward's scrub passes count: the reset, or the failure of the first guard (R401). -/
  scrubFrom : Nat := 0
  deriving DecidableEq, Repr

/-! ### Power entry and thermal policy (15) -/

/-- State of the power manager's policy that no register holds: what it counts and since when (in CLR_MONO) a condition
has held without a break. -/
structure Power where
  /-- VIN above 60 V; VIN below 9 V; the current limiter holds (15 R414, R415, R427). -/
  overSince : Option Nat := none
  lowSince : Option Nat := none
  limitSince : Option Nat := none
  /-- Samples of the last millisecond, newest first: six rails, then sixteen regions (15 R419). -/
  samples : List (List Nat) := []
  /-- Power of VL2, averaged as P is. -/
  powerL2 : Nat := 0
  /-- B as event 0xA002 last told it (15 R416). -/
  budgetTold : Nat := 245000
  /-- Regions above 110 % of their declared peak (15 R419). -/
  overDecl : SMap Nat := []
  /-- Rails with two or more sensors at 6 %, and rails within 3 % (15 R420, R434). -/
  droopSince : SMap Nat := []
  railGoodSince : SMap Nat := []
  /-- Coolant (15 R421, R422). -/
  below600 : Option Nat := none
  below300 : Option Nat := none
  above600 : Option Nat := none
  estimateLow : Option Nat := none
  /-- Sensors that meet a fault condition (15 R423): junction sensors by index; 96 = the outlet below the inlet, 97 = the stratum
  outlets against the outlet. -/
  sensorSince : SMap Nat := []
  /-- L2 reads more than 8 °C below the inference (15 R426). -/
  l2Since : Option Nat := none
  /-- Consecutive samples with T_POL at 110 °C or more (15 R430). -/
  hot : Nat := 0
  /-- P above B; the power condition of step 1 (15 R427). -/
  overBudget : Option Nat := none
  shedPower : Option Nat := none
  /-- By step: since when none of its conditions has held (15 R428). -/
  clearOf : SMap Nat := []
  /-- By Promenade cause: since when it has met its clearing condition (15 R428). -/
  causeClear : SMap Nat := []
  /-- The alert conditions that hold (15 R431). -/
  alerts : Nat := 0
  deriving DecidableEq, Repr

/-! ### Modes, resets, power states (16) -/

/-- An entry into a power state (16 R446): the command, its target, the mode left; in the window or still quiescing; the
tick of its last step. -/
structure PowerEntry where
  id : Nat
  target : Nat
  mode : Nat
  window : Bool := false
  since : Nat
  deriving DecidableEq, Repr

/-- Start-up (16 R441): the reset instant, and the steps that are done. -/
structure BootRun where
  startedAt : Nat
  rails : Bool := false
  steward : Bool := false
  restored : Bool := false
  verified : Bool := false
  /-- Outcome of R442 found so far, and SERVICE_CAUSE of an outcome 0x5. -/
  outcome : Option Nat := none
  service : Nat := 0
  /-- The part of the start-up that PROM_EXIT with PATH 0x1 repeats (17 R469). -/
  fromProm : Bool := false
  deriving DecidableEq, Repr

/-- A reset asked for (16 R439): its tick, its kind, its cause. -/
structure ResetDue where
  dueAt : Nat
  cold : Bool
  cause : Nat
  deriving DecidableEq, Repr

/-- State of modes and power states that no register holds. -/
structure Modes where
  boot : Option BootRun := some { startedAt := 0 }
  resetDue : Option ResetDue := none
  entry : Option PowerEntry := none
  /-- A wake in progress: its cause (16 R450), and the PWR_EXIT commands that wait for it. -/
  waking : Option Nat := none
  exitCmds : List Nat := []
  /-- Levels of the lands WAKE and PROM_REQ_N (16 R448), and the tick since which PROM_REQ_N has been low. -/
  wakeHigh : Bool := false
  promReqLow : Option Nat := none
  /-- VIN in mV as last measured (15 R414). -/
  vin : Nat := 8800
  /-- Last access of the far store in SLEEP (16 R451). -/
  farAccess : Nat := 0
  /-- Tick of the entry into DEEP_SLEEP (03 R77). -/
  deepAt : Nat := 0
  /-- Tick in which the wake alarm ALM24 last fired (18 R487). -/
  alarmAt : Option Nat := none
  deriving DecidableEq, Repr

/-! ### Promenade (17) -/

/-- A frame sync route (17 R465): a whole input frame has been buffered. -/
structure RouteRun where
  buffered : Bool := false
  /-- Tick of the last input frame, and what the buffer held before it: the frame that an output of that tick sends (17 R470). -/
  inputAt : Nat := 0
  before : List StoreWord := []
  wasBuffered : Bool := false
  deriving DecidableEq, Repr

/-- State of Promenade that no register holds. -/
structure Prom where
  /-- The lifeline table copy (17 R462): data bits of the valid routes. -/
  routes : SMap Nat := []
  runs : SMap RouteRun := []
  /-- Causes that arose in BOOT (17 R467). -/
  waiting : Nat := 0
  /-- A PROM_EXIT that runs: the command and its path. -/
  exit : Option (Nat × Nat) := none
  /-- The frame last sent by a route: its words. -/
  lastFrame : Option (Nat × List Nat) := none
  /-- The bits last sent by a re-clock route: its output lane, 72 bits (17 R464). -/
  reclocked : Option (Nat × Nat) := none
  /-- The blocks last sent by a Hokutu pass-through route, with the lanes they left on (17 R466). -/
  forwarded : List (Nat × Nat) := []
  deriving DecidableEq, Repr

/-! ### Life cycle (19) -/

/-- A group of the life-cycle row (19 R498): its 16 state cells and 5 authority cells, programmed and partial ones. -/
structure RowGroup where
  cells : Nat := 0
  part : Nat := 0
  auth : Nat := 0
  authPart : Nat := 0
  /-- Cells that no pulse programs (19 R509): state cells in bits 15 to 0, authority cells in bits 20 to 16. -/
  weak : Nat := 0
  deriving DecidableEq, Repr

/-- A key slot (19 R500). `touched`: some key cell is programmed or partial. -/
structure KeySlot where
  key : Nat := 0
  touched : Bool := false
  written : Bool := false
  killed : Bool := false
  /-- One of its cells does not program (19 R509). -/
  weak : Bool := false
  deriving DecidableEq, Repr

/-- Pulses on one-time cells that a command gave (19 R501, R507, R508): the tick of the first, and the key slot, or the group
and authority cell; the group as it was. The command's row shows their result at once; a reset before their end finds the cells
as the pulse left them (DESIGN CHOICE, log 35). -/
structure Pulse where
  startedAt : Nat
  keySlot : Option Nat := none
  group : Nat := 0
  auth : Option Nat := none
  before : RowGroup := {}
  deriving DecidableEq, Repr

/-- State of the life cycle that no register holds. The row and the slots are one-time cells; a device as shipped is BLANK
with empty slots (DESIGN CHOICE, log 6). -/
structure Life where
  groups : SMap RowGroup := [(0, { cells := 0xFFFF }), (1, { cells := 0xFFFF })]
  slots : SMap KeySlot := []
  /-- The challenges that wait (19 R503), for the host and for JTAG. -/
  hostChallenge : Option Nat := none
  jtagChallenge : Option Nat := none
  pulse : Option Pulse := none
  /-- Marks that do not program (19 R509): bits 5 to 0 of RETURN and bits 11 to 6 of SCRAP, bit 0 of each the BEGUN cell. -/
  weakMarks : Nat := 0
  /-- The privileged transition runs: resumed after a start. -/
  resumed : Bool := false
  /-- DONE and data of the last DBG_ACCESS (19 R513). -/
  dbgDone : Bool := false
  dbgData : Nat := 0
  deriving DecidableEq, Repr

/-! ### The state -/

/-- The whole state of the block. -/
structure State where
  /-- The register fields that have a home in a register: keyed by `Field.key`, the entry is the exclusive or of the
  value with the field's reset value, and a field at its reset value is not listed. -/
  regs : SMap Nat := []
  /-- The full read latches of the 64-bit registers, by address of the low word (00 R8). -/
  latches : SMap Nat := []
  /-- The full write holding words of the 64-bit registers (00 R8). -/
  holds : SMap Nat := []
  /-- What the device answered to the last read. -/
  reply : Reply := {}
  /-- State of the management plane (02). -/
  mgmt : Mgmt := {}
  /-- State of the Caller (03). -/
  caller : Caller := {}
  /-- State of the dance card engine (04). -/
  dance : Dance := {}
  /-- State of the central store (05). -/
  store : Store := {}
  /-- State of admission and tickets (06). -/
  adm : Adm := {}
  /-- State of the flow engines (07). -/
  flows : Flows := {}
  /-- State of lanes, Hokutu link, lands (08). -/
  lanes : Lanes := {}
  /-- State of the fabric (09). -/
  fabric : Fabric := {}
  /-- State of the hardened fabric blocks (10). -/
  hard : Hard := {}
  /-- State of the configuration port (11). -/
  cfg : Cfg := {}
  /-- State of contexts, turns, park, capture (12). -/
  ctx : Ctx := {}
  /-- State of the configuration flash (13). -/
  flash : Flash := {}
  /-- State of guards, tests, retirement (14). -/
  guard : Guard := {}
  /-- State of power entry and thermal policy (15). -/
  power : Power := {}
  /-- State of modes, resets, power states (16). -/
  modes : Modes := {}
  /-- State of Promenade (17). -/
  prom : Prom := {}
  /-- State of life cycle and keys (19). -/
  life : Life := {}
  /-- The model's own (DESIGN CHOICE, log 1): counts the free values taken so far. -/
  fresh : Nat := 0
  /-- The commands that are waiting, first in, first out. -/
  pending : List Instr := []
  deriving DecidableEq, Repr

/-- Why the block stops. No command of the spec stops it: every host error is a sticky bit, a status or an event, so
the model raises no fault (safe: there is none to raise). -/
inductive Fault where
  /-- Raised by nothing; it stands here because the type may not be empty of names. Safe. -/
  | none
  deriving DecidableEq, Repr

/-- Why a command has no meaning. -/
inductive Refusal where
  /-- Raised by an arm of `exec` whose command is not modelled yet. Safe: nothing can be proved of it. -/
  | notModelled (mnemonic : String)
  deriving DecidableEq, Repr

/-- The machine right after a cold reset (16 R438): every register at the Reset value of its map, TAI time 0 s,
memories with nothing listed, the mode BOOT, no command waiting. -/
def State.reset : State := {}

end Sys2Proof.Machine
end

