-- ==== Sys2Proof/Machine/Ops.lean ====
section
/-! DEFINITION. The named operations over the state that every block uses: sparse maps, register fields, free values,
events and their limits, interrupts, completions, the mode, memory of the host. -/

namespace Sys2Proof.Machine

/-! ### Sparse maps -/

variable {α : Type}

/-- The map without key `k`. -/
def SMap.erase (m : SMap α) (k : Nat) : SMap α := m.filter (fun e => e.1 != k)

/-- `v` put before the first key above `k`. -/
def SMap.insert (m : SMap α) (k : Nat) (v : α) : SMap α :=
  match m with
  | [] => [(k, v)]
  | e :: r => if k < e.1 then (k, v) :: e :: r else e :: SMap.insert r k v

/-- The map with `v` at `k`. -/
def SMap.put (m : SMap α) (k : Nat) (v : α) : SMap α := SMap.insert (SMap.erase m k) k v

/-- The entry at `k`. -/
def SMap.find (m : SMap α) (k : Nat) : Option α :=
  match m with
  | [] => none
  | e :: r => if e.1 = k then some e.2 else SMap.find r k

/-- The entry at `k`, or what an unlisted key reads as. -/
def SMap.read (m : SMap α) (d : α) (k : Nat) : α := (SMap.find m k).getD d

/-- The map with `v` at `k` in canonical form: an entry equal to what an unlisted key reads as is not listed. -/
def SMap.store [DecidableEq α] (m : SMap α) (d : α) (k : Nat) (v : α) : SMap α :=
  if v = d then SMap.erase m k else SMap.put m k v

/-- Keys strictly rising. -/
def SMap.rising (m : SMap α) : Bool :=
  match m with
  | [] => true
  | e :: r => (r.all fun x => decide (e.1 < x.1)) && SMap.rising r

/-- The canonical form of a map whose unlisted keys read `d`. -/
def SMap.wf [DecidableEq α] (m : SMap α) (d : α) : Bool := SMap.rising m && m.all fun e => decide (e.2 ≠ d)

/-- Every value mapped. -/
def SMap.mapVal (m : SMap α) (f : Nat → α → α) : SMap α := List.map (fun e => (e.1, f e.1 e.2)) m

/-! ### Small arithmetic -/

/-- Bit `i` of `w`. -/
def bitOf (w i : Nat) : Nat := w / 2 ^ i % 2

/-- Bits `hi` to `lo` of `w`. -/
def bitsOf (w hi lo : Nat) : Nat := w / 2 ^ lo % 2 ^ (hi + 1 - lo)

/-- 1 for true. -/
def flag (b : Bool) : Nat := if b then 1 else 0

/-- A signed value as `w` bits of two's complement. -/
def ofInt (w : Nat) (x : Int) : Nat := (x % (2 ^ w : Nat)).toNat

/-- `w` bits of two's complement as a signed value. -/
def toSigned (w : Nat) (v : Nat) : Int :=
  if v % 2 ^ w < 2 ^ (w - 1) then ((v % 2 ^ w : Nat) : Int) else ((v % 2 ^ w : Nat) : Int) - (2 ^ w : Nat)

/-- A signed value limited to `lo` to `hi`. -/
def clampInt (lo hi x : Int) : Int := if x < lo then lo else if hi < x then hi else x

/-- A value limited to `lo` to `hi`. -/
def clampNat (lo hi x : Nat) : Nat := if x < lo then lo else if hi < x then hi else x

/-- The quotient rounded up. -/
def ceilDiv (a b : Nat) : Nat := (a + b - 1) / b

/-- The `n` bytes of `v`, least significant first. -/
def bytesOf (n v : Nat) : List Nat :=
  match n with
  | 0 => []
  | k + 1 => v % 256 :: bytesOf k (v / 256)

/-- The number whose bytes are listed least significant first. -/
def ofBytes (bs : List Nat) : Nat :=
  match bs with
  | [] => 0
  | b :: r => b % 256 + 256 * ofBytes r

/-! ### Register fields -/

/-- The value of instance `i` of a field whose home is the register. -/
def State.rdAt (s : State) (f : Field) (i : Nat) : Nat := SMap.read s.regs 0 (f.key i) ^^^ f.reset i

/-- Instance `i` given the value `v`, cut to the field's width. -/
def State.wrAt (s : State) (f : Field) (i v : Nat) : State :=
  { s with regs := SMap.store s.regs 0 (f.key i) (f.cut v ^^^ f.reset i) }

/-- The value of a field with one instance. -/
def State.rd (s : State) (f : Field) : Nat := s.rdAt f 0

/-- A field with one instance given the value `v`. -/
def State.wr (s : State) (f : Field) (v : Nat) : State := s.wrAt f 0 v

/-- The field is 1. -/
def State.isSet (s : State) (f : Field) : Bool := s.rd f == 1

/-- The field of instance `i` is 1. -/
def State.isSetAt (s : State) (f : Field) (i : Nat) : Bool := s.rdAt f i == 1

/-- `n` added to a saturating counter. -/
def State.addSatAt (s : State) (f : Field) (i n : Nat) : State :=
  s.wrAt f i (min (s.rdAt f i + n) (2 ^ f.width - 1))

/-- One added to a saturating counter. -/
def State.incSat (s : State) (f : Field) : State := s.addSatAt f 0 1

/-- `b` added to bit `k` of a bit array whose register `m` holds bits `32m` to `32m + 31`. -/
def State.wrBit (s : State) (f : Field) (k : Nat) (b : Bool) : State :=
  let w := s.rdAt f (k / 32)
  s.wrAt f (k / 32) (if b then w ||| 2 ^ (k % 32) else w &&& (0xFFFFFFFF - 2 ^ (k % 32)))

/-- Bit `k` of such a bit array. -/
def State.rdBit (s : State) (f : Field) (k : Nat) : Bool := bitOf (s.rdAt f (k / 32)) (k % 32) == 1

/-- Bit `k` of a wide field set or cleared. -/
def State.wrMask (s : State) (f : Field) (k : Nat) (b : Bool) : State :=
  let w := s.rd f
  s.wr f (if b then w ||| 2 ^ k else if bitOf w k = 1 then w - 2 ^ k else w)

/-- Bit `k` of a wide field. -/
def State.rdMask (s : State) (f : Field) (k : Nat) : Bool := bitOf (s.rd f) k == 1

/-! ### Free values -/

/-- A value of `w` bits that the spec leaves open (log 1). -/
def State.free (s : State) (w : Nat) : Nat := Config.freeValue s.fresh % 2 ^ w

/-- The state after a free value was taken. -/
def State.took (s : State) : State := { s with fresh := s.fresh + 1 }

/-- The state after `n` free values were taken. -/
def State.tookN (s : State) (n : Nat) : State := { s with fresh := s.fresh + n }

/-- Free value `k` of the next ones, `w` bits wide. -/
def State.freeK (s : State) (k w : Nat) : Nat := Config.freeValue (s.fresh + k) % 2 ^ w

/-! ### Time, mode, reply -/

/-- CLR_MONO (03 R66). -/
def State.now (s : State) : Nat := s.caller.mono

/-- TAI time in nanoseconds since the epoch (03 R65). -/
def State.tai (s : State) : Nat := 1000000000 * s.caller.sec + s.caller.ns

/-- TAI time set. -/
def State.setTai (s : State) (t : Nat) : State :=
  { s with caller := { s.caller with sec := t / 1000000000 % 2 ^ 48, ns := t % 1000000000 } }

/-- Operating modes (16 R435) by their code. -/
def modeOff : Nat := 0x0
def modeDeepSleep : Nat := 0x1
def modeSleep : Nat := 0x2
def modeIdle : Nat := 0x3
def modeBoot : Nat := 0x4
def modeLoad : Nat := 0x5
def modeConfigFault : Nat := 0x6
def modeRun : Nat := 0x7
def modeRunDegraded : Nat := 0x8
def modePromenade : Nat := 0x9
def modeHalted : Nat := 0xA
def modeService : Nat := 0xB

/-- The operating mode (16 R435). -/
def State.mode (s : State) : Nat := s.rd GLB_MODE_MODE

/-- RUN or RUN_DEGRADED. -/
def State.running (s : State) : Bool := s.mode == modeRun || s.mode == modeRunDegraded

/-- The host answer of a read. -/
def State.answer (s : State) (d : Nat) : State := { s with reply := { data := d } }

/-- The host answer of a block read. -/
def State.answerBytes (s : State) (bs : List Nat) : State := { s with reply := { bytes := bs } }

/-! ### Interrupts (02 R54, R55) -/

/-- Word `k` of the MSI-X table. -/
def State.msixWord (s : State) (k : Nat) : Nat := SMap.read s.mgmt.msixTable 0 k ^^^ flag (k % 4 == 3)

/-- A vector raised: a masked one stays pending, another sends its message. An endpoint in reset raises none (02 R28). -/
def State.raise (s : State) (v : Nat) : State :=
  if !s.mgmt.perstN then s
  else if bitOf (s.msixWord (4 * v + 3)) 0 = 1 then { s with mgmt := { s.mgmt with pba := s.mgmt.pba ||| 2 ^ v } }
  else { s with mgmt := { s.mgmt with sent := SMap.put s.mgmt.sent v (SMap.read s.mgmt.sent 0 v + 1) } }

/-- An MBX_ERR bit set; vector 3 is raised when it becomes 1 (02 R54). -/
def State.mbxErr (s : State) (f : Field) : State :=
  if s.isSet f then s else (s.wr f 1).raise 3

/-- MBX_ERR as a word. -/
def State.mbxErrWord (s : State) : Nat :=
  s.rd MBX_ERR_UNMAPPED + 2 * s.rd MBX_ERR_BAD_SIZE + 4 * s.rd MBX_ERR_CMD_RING_ERR + 8 * s.rd MBX_ERR_DMA_FAULT +
    16 * s.rd MBX_ERR_SCRATCH_STARVED + 32 * s.rd MBX_ERR_SPAD_PROT + 64 * s.rd MBX_ERR_EVT_LOST +
    128 * s.rd MBX_ERR_SPI_FRAME_ERR

/-! ### Events (02 R43 to R49) -/

/-- The 128-bit event record (02 R43). -/
def eventRecord (sec ns code source severity detail : Nat) : Nat :=
  code % 2 ^ 16 + severity % 16 * 2 ^ 16 + source % 2 ^ 12 * 2 ^ 20 + ns % 2 ^ 32 * 2 ^ 32 +
    sec % 2 ^ 32 * 2 ^ 64 + detail % 2 ^ 32 * 2 ^ 96

/-- The word of the store at `a` (05 R117); one that nothing has written is a good zero word (R139). -/
def State.storeWord (s : State) (a : Nat) : StoreWord := SMap.read s.store.mem {} a

/-- The word of the store at `a` written. -/
def State.storePut (s : State) (a : Nat) (w : StoreWord) : State :=
  { s with store := { s.store with mem := SMap.store s.store.mem {} a w } }

/-- First word of record `i` of the event and fault log (05 R118): two words of 8 bytes to a record, the low half first
(DEDUCED, log 18). -/
def logAddr (i : Nat) : Nat := 0x0480_0000 + 2 * (i % 1048576)

/-- A record written to the circular log (01 R25, 02 R44). -/
def State.logPlace (s : State) (r : Nat) : State :=
  let a := logAddr s.mgmt.logNext
  let s1 := (s.storePut a { data := r % 2 ^ 64 }).storePut (a + 1) { data := r / 2 ^ 64 % 2 ^ 64 }
  { s1 with mgmt := { s1.mgmt with logNext := (s1.mgmt.logNext + 1) % 1048576 } }

/-- A record on its way to the log: it waits until the far store is initialised (05 R139). -/
def State.logEvent (s : State) (r : Nat) : State :=
  if s.isSet STR_STATUS_FAR_INIT then s.logPlace r
  else { s with mgmt := { s.mgmt with logWait := s.mgmt.logWait ++ [r] } }

/-- The records that waited for the far store, written to the log. -/
def State.logFlush (s : State) : State :=
  s.mgmt.logWait.foldl State.logPlace { s with mgmt := { s.mgmt with logWait := [] } }

/-- Record `i` of the log. -/
def State.logRecord (s : State) (i : Nat) : Nat :=
  (s.storeWord (logAddr i)).data % 2 ^ 64 + (s.storeWord (logAddr i + 1)).data % 2 ^ 64 * 2 ^ 64

/-- The event passes the filter (02 R44): critical events always, others at or above their class's minimum. -/
def State.delivered (s : State) (code severity : Nat) : Bool :=
  severity == 4 || decide (s.rd MBX_EVT_FILTER / 2 ^ (4 * (code / 2 ^ 12 % 16)) % 16 ≤ severity)

/-- A record placed in the mailbox event queue, or lost there when it is full (02 R49). -/
def State.mailboxPut (s : State) (r : Nat) : State :=
  if s.mgmt.mbEvents.length < 64 then { s with mgmt := { s.mgmt with mbEvents := s.mgmt.mbEvents ++ [r] } }
  else s.incSat MBX_MB_EVT_CNT_LOST

/-- A delivered record placed in the mailbox event queue while MB_EVT_EN is 1 (02 R49). -/
def State.toMailbox (s : State) (r : Nat) : State := if s.rd MBX_CTRL_MB_EVT_EN = 0 then s else s.mailboxPut r

/-- SOURCE of an event record (02 R43). -/
def recordSource (r : Nat) : Nat := r / 2 ^ 20 % 2 ^ 12

/-- A record put among others behind those whose SOURCE is not above its own. -/
def bySource (q : List Nat) (r : Nat) : List Nat :=
  match q with
  | [] => [r]
  | x :: t => if recordSource r < recordSource x then r :: x :: t else x :: bySource t r

/-- Records at the end of the event queue that entered it in this tick. -/
def State.sameTick (s : State) : Nat := if s.mgmt.evtTick = s.now then min s.mgmt.evtCount s.mgmt.evtQueue.length else 0

/-- The event queue with a record more: the records of one tick stand in ascending order of their SOURCE (01 R24). -/
def State.queueWith (s : State) (r : Nat) : List Nat :=
  let n := s.mgmt.evtQueue.length - s.sameTick
  s.mgmt.evtQueue.take n ++ bySource (s.mgmt.evtQueue.drop n) r

/-- A record placed in the event queue (02 R45), or lost when the queue is full. -/
def State.toQueue (s : State) (r : Nat) : State :=
  if s.rd MBX_CTRL_EVT_EN = 0 then s
  else if s.mgmt.evtQueue.length < 4096 then
    { s with mgmt := { s.mgmt with evtQueue := s.queueWith r, evtTick := s.now, evtCount := s.sameTick + 1 } }
  else
    (({ s with mgmt := { s.mgmt with evtLost := s.mgmt.evtLost + 1 } }).incSat MBX_EVT_LOST_CNT).mbxErr
      MBX_ERR_EVT_LOST

/-- An event posted (02 R44): logged, and delivered when the filter lets it through. A critical one raises vector 2. -/
def State.post (s : State) (code source severity detail : Nat) : State :=
  let r := eventRecord s.caller.sec s.caller.ns code source severity detail
  let s1 := s.logEvent r
  let s2 := if s1.delivered code severity then (s1.toQueue r).toMailbox r else s1
  if severity = 4 then s2.raise 2 else s2

/-- The occurrences of an event in the last millisecond, with `n` more now. -/
def State.recentOf (s : State) (k n : Nat) : List (Nat × Nat) :=
  (s.now, n) :: (match SMap.find s.mgmt.limits k with
    | some l => l.recent.filter fun (e : Nat × Nat) => decide (s.now < e.1 + 1000000)
    | none => [])

/-- The event was posted in the last millisecond. -/
def State.postedLately (s : State) (k : Nat) : Bool :=
  match SMap.find s.mgmt.limits k with
  | some l => decide (s.now < l.last + 1000000)
  | none => false

/-- `n` occurrences of an event that is posted at most once per 1 ms (DEDUCED, log 11): it is posted when none was
posted in the last millisecond; `detail` is given the occurrences of the last millisecond, these included. -/
def State.postLimitedN (s : State) (n code inst source severity : Nat) (detail : Nat → Nat) : State :=
  let k := code * 2 ^ 16 + inst
  let r := s.recentOf k n
  let late := s.postedLately k
  let last := if late then ((SMap.find s.mgmt.limits k).map fun l => l.last).getD 0 else s.now
  let s1 := { s with mgmt := { s.mgmt with limits := SMap.put s.mgmt.limits k { last := last, recent := r } } }
  if late then s1 else s1.post code source severity (detail ((r.map fun e => e.2).foldl (· + ·) 0))

/-- One occurrence of an event that is posted at most once per 1 ms. -/
def State.postLimited (s : State) (code inst source severity : Nat) (detail : Nat → Nat) : State :=
  s.postLimitedN 1 code inst source severity detail

/-- A count cut to 32 bits by saturation. -/
def sat32 (n : Nat) : Nat := min n 0xFFFFFFFF

/-- A count cut to `w` bits by saturation. -/
def satN (w n : Nat) : Nat := min n (2 ^ w - 1)

/-! ### Host memory (02 R33, R539) -/

/-- A byte of host memory. -/
def State.hostByte (s : State) (a : Nat) : Nat := SMap.read s.mgmt.hostMem 0 a

/-- Bytes of host memory from `a` on. -/
def State.hostRead (s : State) (a n : Nat) : List Nat := (List.range n).map fun k => s.hostByte (a + k)

/-- Bytes written to host memory from `a` on. -/
def State.hostWrite (s : State) (a : Nat) (bs : List Nat) : State :=
  match bs with
  | [] => s
  | b :: r =>
    State.hostWrite { s with mgmt := { s.mgmt with hostMem := SMap.store s.mgmt.hostMem 0 a (b % 256) } } (a + 1) r

/-- `n` free bytes written to host memory (02 R539: undefined at and after a failed request). -/
def State.hostUndefined (s : State) (a n : Nat) : State :=
  (s.hostWrite a ((List.range n).map fun k => s.freeK k 8)).tookN n

/-! ### Commands and completions (02 R37 to R42) -/

/-- Byte `k` of a command record. -/
def recByte (r : List Nat) (k : Nat) : Nat := r.getD k 0

/-- `n` bytes of a command record from byte `k`, least significant first. -/
def recField (r : List Nat) (k n : Nat) : Nat := ofBytes ((r.drop k).take n)

/-- OPCODE of a record. -/
def recOpcode (r : List Nat) : Nat := recField r 0 2

/-- TAG of a record. -/
def recTag (r : List Nat) : Nat := recField r 2 2

/-- PLEN of a record. -/
def recPlen (r : List Nat) : Nat := recByte r 5

/-- A completion record (02 R42). -/
def completionRecord (tag status detail result : Nat) : List Nat :=
  bytesOf 2 tag ++ bytesOf 1 status ++ [0] ++ bytesOf 4 detail ++ bytesOf 8 result

/-- What a command answers. -/
structure Completion where
  status : Nat
  detail : Nat := 0
  result : Nat := 0
  deriving DecidableEq, Repr

/-- OK, with DETAIL and RESULT. -/
def Completion.ok (detail : Nat := 0) (result : Nat := 0) : Completion := ⟨0, detail, result⟩

/-- BAD_PARAM with the byte offset of the parameter (02 R46). -/
def Completion.badParam (byte : Nat) : Completion := ⟨0x03, byte, 0⟩

/-- NOT_IN_MODE. -/
def Completion.notInMode : Completion := ⟨0x04, 0, 0⟩

/-- BUSY. -/
def Completion.busy : Completion := ⟨0x05, 0, 0⟩

/-- DENIED_LCS. -/
def Completion.denied : Completion := ⟨0x06, 0, 0⟩

/-- The command in flight with number `id`. -/
def State.cmd (s : State) (id : Nat) : Option InFlight := s.mgmt.inFlight.find? fun c => c.id == id

/-- The record of the command in flight with number `id`. -/
def State.record (s : State) (id : Nat) : List Nat :=
  match s.cmd id with
  | some c => c.bytes
  | none => []

/-- A completion record put where it belongs: a ring command's waits for the completion ring (R39), a mailbox
command's appears in MBX_MB_CPL (R48). -/
def State.putCompletion (s : State) (ring discard : Bool) (bs : List Nat) : State :=
  if ring then
    if discard then s else { s with mgmt := { s.mgmt with cplWait := s.mgmt.cplWait ++ [bs] } }
  else
    (((((s.wrAt MBX_MB_CPL 0 (ofBytes (bs.take 4))).wrAt MBX_MB_CPL 1 (ofBytes ((bs.drop 4).take 4))).wrAt MBX_MB_CPL 2
      (ofBytes ((bs.drop 8).take 4))).wrAt MBX_MB_CPL 3 (ofBytes ((bs.drop 12).take 4))).wr MBX_MB_CTRL_BUSY 0).wr
      MBX_MB_CTRL_CPL_VALID 1

/-- The tick at which the TIMEOUT of a command expires, given its default in ms (02 R37, R40). -/
def InFlight.expiry (c : InFlight) (defaultMs : Nat) : Nat :=
  c.tick + (if recField c.bytes 6 2 = 0 then defaultMs else recField c.bytes 6 2) * 1000000

/-- The commands of the spec: OPCODE to PLEN, default TIMEOUT in ms, and whether the steward executes it (02 R47,
06 R170, 07 R201, 11 R322, 12 R351, 13 R386, 14 R412, 16 R455, 17 R471, 18 R491, 19 R516). -/
def opcodeInfo (op : Nat) : Option (Nat × Nat × Bool) :=
  match op with
  | 0xD001 => some (1, 1, false)
  | 0xD002 => some (2, 100, false)
  | 0xD003 => some (0, 1, false)
  | 0x3001 => some (2, 1, false)
  | 0x3002 => some (1, 5000, false)
  | 0x3003 => some (1, 1, false)
  | 0x4001 => some (1, 1, false)
  | 0x4002 => some (1, 5000, false)
  | 0x4003 => some (2, 1, false)
  | 0x4004 => some (2, 100, false)
  | 0x6001 => some (2, 100, false)
  | 0x6002 => some (1, 2000, false)
  | 0x6003 => some (0, 1, false)
  | 0x7001 => some (1, 1, false)
  | 0x7002 => some (1, 1, false)
  | 0x7003 => some (1, 1, false)
  | 0x7004 => some (1, 1000, false)
  | 0x7005 => some (0, 1, false)
  | 0x7006 => some (3, 100, false)
  | 0x7007 => some (1, 60000, true)
  | 0x8001 => some (1, 100, false)
  | 0x8002 => some (2, 10, false)
  | 0x8003 => some (1, 1, false)
  | 0x8004 => some (1, 100, false)
  | 0x8005 => some (1, 1, false)
  | 0x8006 => some (2, 1, false)
  | 0x8007 => some (1, 200, true)
  | 0x9001 => some (2, 10, true)
  | 0x9002 => some (2, 10, true)
  | 0x9003 => some (1, 10, false)
  | 0xB001 => some (1, 10, false)
  | 0xB002 => some (0, 10, false)
  | 0xB003 => some (0, 10, false)
  | 0xB010 => some (0, 1, false)
  | 0xB011 => some (1, 2000, false)
  | 0xC001 => some (0, 1, false)
  | 0xC002 => some (0, 1, false)
  | 0xC003 => some (5, 10, false)
  | 0xC004 => some (3, 10, false)
  | 0xC005 => some (3, 10, false)
  | 0xE001 => some (1, 1, false)
  | 0xE002 => some (1, 1, false)
  | _ => none

/-- The default TIMEOUT in ms of an opcode. -/
def defaultTimeout (op : Nat) : Nat :=
  match opcodeInfo op with
  | some i => i.2.1
  | none => 1

/-- The tick at which the TIMEOUT of a command in flight expires (02 R37, R40). -/
def InFlight.expiresAt (c : InFlight) : Nat := c.expiry (defaultTimeout (recOpcode c.bytes))

/-- The answer of a command that ends in tick `now`: TIMEOUT after its expiry (02 R40). -/
def InFlight.answerAt (f : InFlight) (now : Nat) (c : Completion) : Completion :=
  if f.expiresAt < now ∧ c.status ≠ 0x07 then ⟨0x07, 0, 0⟩ else c

/-- A command completes (02 R42): it leaves the commands in flight; a completion in the very tick of its TIMEOUT wins
and is counted (R40). A command that is no longer in flight completes nothing. -/
def State.complete (s : State) (id : Nat) (c : Completion) : State :=
  match s.cmd id with
  | none => s
  | some f =>
    let s1 := if s.now = f.expiresAt then s.incSat MBX_TIE_CNT else s
    let a := f.answerAt s.now c
    ({ s1 with mgmt := { s1.mgmt with inFlight := s1.mgmt.inFlight.filter fun x => x.id != id } }).putCompletion f.ring
      f.discard (completionRecord (recTag f.bytes) a.status a.detail a.result)

/-- The command goes on after its own row. -/
def State.begin (s : State) (id : Nat) : State :=
  { s with mgmt := { s.mgmt with
      inFlight := s.mgmt.inFlight.map fun x => if x.id = id then { x with begun := true } else x } }

/-- The row of opcode `op` may take command `id` (02 R38, R40): it is in flight, has not begun, its TIMEOUT has not expired, and no
earlier command of its class from the ring waits to begin; the commands of the admission unit keep their order of dispatch whichever
path they came on (06 R154). -/
def State.ready (s : State) (id op : Nat) : Bool :=
  match s.cmd id with
  | none => false
  | some c =>
    let both := op / 0x1000 == 3
    recOpcode c.bytes == op && !c.begun && decide (s.now ≤ c.expiresAt) &&
      !((c.ring || both) && s.mgmt.inFlight.any fun x =>
        (x.ring || both) && !x.begun && decide (x.id < id) && recOpcode x.bytes / 0x1000 == op / 0x1000)

/-- A command that would start the work of a refuser of a power state (16 R446, R447): ADMIT that is no trial, STREAM_LOAD,
CTX_CAPTURE, CTX_GOLDEN_SAVE, flash programs and erases, the life cycle's programming. -/
def startsRefuserWork (r : List Nat) : Bool :=
  let op := recOpcode r
  (op == 0x3001 && bitOf (recField r 10 2) 9 == 0) ||
    [0x6002, 0x7004, 0x7007, 0x8001, 0x8002, 0x8004, 0x8007, 0xC003, 0xC004, 0xC005].contains op

/-- A power entry bars the command from its quiesce on. -/
def State.barred (s : State) (r : List Nat) : Bool := s.modes.entry.isSome && startsRefuserWork r

/-- The meaning of a command's row: where the command is ready, `body` answers its completion and the state. -/
def State.runCmd (s : State) (id op : Nat) (body : List Nat → State → Completion × State) : State :=
  if s.ready id op then
    if s.barred (s.record id) then s.complete id .busy
    else
      let r := body (s.record id) s
      r.2.complete id r.1
  else s

/-- The meaning of a command's row that may go on after it: `none` leaves the command begun. -/
def State.startCmd (s : State) (id op : Nat) (body : List Nat → State → Option Completion × State) : State :=
  if s.ready id op then
    if s.barred (s.record id) then s.complete id .busy
    else
      let r := body (s.record id) s
      match r.1 with
      | some c => r.2.complete id c
      | none => r.2.begin id
  else s

end Sys2Proof.Machine
end

