-- ==== Sys2Proof/Machine/Management.lean ====
section
/-! DEFINITION. The management plane's rings, mailbox, interrupts, scratchpad and its three commands (02). -/

namespace Sys2Proof.Machine

open Sys2Proof

/-- Every meaning answers this. -/
abbrev Result := Host.Outcome State Fault Refusal

/-! ### Rings (02 R33 to R36) -/

/-- Entries of a ring. -/
def State.cmdEntries (s : State) : Nat := 2 ^ s.rd MBX_RING_SIZE_CMD_LOG2
def State.cplEntries (s : State) : Nat := 2 ^ s.rd MBX_RING_SIZE_CPL_LOG2
def State.evtEntries (s : State) : Nat := 2 ^ s.rd MBX_RING_SIZE_EVT_LOG2

/-- The completion ring is full (02 R33). -/
def State.cplFull (s : State) : Bool :=
  (s.rd MBX_CPL_TAIL + 1) % s.cplEntries == s.rd MBX_CPL_HEAD % s.cplEntries

/-- The event ring is full (02 R33). -/
def State.evtFull (s : State) : Bool :=
  (s.rd MBX_EVT_TAIL + 1) % s.evtEntries == s.rd MBX_EVT_HEAD % s.evtEntries

/-- CMD_RING_ERR set and event 0xD002 posted (02 R34, R47). -/
def State.ringError (s : State) : State :=
  let s1 := s.mbxErr MBX_ERR_CMD_RING_ERR
  s1.post 0xD002 0xD00 3 s1.mbxErrWord

/-- An index written by the host: at or above the entry count it is refused and the ring disabled (02 R34). -/
def State.ringIndex (s : State) (entries : Nat) (index enable : Field) (v : Nat) : State :=
  if v % 2 ^ 16 < entries then s.wr index v else (s.wr enable 0).ringError

/-- The writeback block (02 R35). -/
def State.writeback (s : State) : State :=
  if s.rd MBX_WB_ADDR = 0 then s
  else s.hostWrite (16 * s.rd MBX_WB_ADDR)
    (bytesOf 4 (s.rd MBX_CMD_HEAD) ++ bytesOf 4 (s.rd MBX_CPL_TAIL) ++ bytesOf 4 (s.rd MBX_EVT_TAIL) ++
      bytesOf 4 (s.rd MBX_EVT_LOST_CNT))

/-- The holdoff of vector 0 or 1. -/
def State.holdoff (s : State) (v : Nat) : Holdoff := if v = 0 then s.mgmt.holdoff0 else s.mgmt.holdoff1

/-- The holdoff of vector 0 or 1 set. -/
def State.setHoldoff (s : State) (v : Nat) (h : Holdoff) : State :=
  if v = 0 then { s with mgmt := { s.mgmt with holdoff0 := h } } else { s with mgmt := { s.mgmt with holdoff1 := h } }

/-- Vector 0 or 1 raised at a writeback under its holdoff (02 R55). With no writeback block nothing shows the records,
and the vector is not raised (02 R54; DEDUCED, log 12). -/
def State.raiseHeld (s : State) (v : Nat) : State :=
  if s.rd MBX_WB_ADDR = 0 then s
  else if s.rd MBX_IRQ_HOLDOFF = 0 then s.raise v
  else
    match (s.holdoff v).endsAt with
    | some _ => s.setHoldoff v { s.holdoff v with arrived := true }
    | none => (s.raise v).setHoldoff v { endsAt := some (s.now + 1000 * s.rd MBX_IRQ_HOLDOFF), arrived := false }

/-- CMD_DOORBELL (02 R33, R34). -/
def execCmdDoorbell (tail : Nat) (s : State) : Result :=
  .next (s.ringIndex s.cmdEntries MBX_CMD_TAIL MBX_CTRL_CMD_EN tail)

/-- CPL_HEAD_WRITE (02 R33, R34). -/
def execCplHeadWrite (head : Nat) (s : State) : Result :=
  .next (s.ringIndex s.cplEntries MBX_CPL_HEAD MBX_CTRL_CPL_EN head)

/-- EVT_HEAD_WRITE (02 R33, R34). -/
def execEvtHeadWrite (head : Nat) (s : State) : Result :=
  .next (s.ringIndex s.evtEntries MBX_EVT_HEAD MBX_CTRL_EVT_EN head)

/-- An enable bit written: 1 with a size field outside 4 to 16 leaves the ring disabled (02 R34). -/
def State.enableRing (s : State) (enable size : Field) (b : Nat) : State :=
  if b = 1 ∧ (s.rd size < 4 ∨ 16 < s.rd size) then (s.wr enable 0).ringError else s.wr enable b

/-- RING_ENABLE: a write of MBX_CTRL's enable bits (02 R34). -/
def execRingEnable (value : Nat) (s : State) : Result :=
  .next ((((s.enableRing MBX_CTRL_CMD_EN MBX_RING_SIZE_CMD_LOG2 (bitOf value 0)).enableRing MBX_CTRL_CPL_EN
    MBX_RING_SIZE_CPL_LOG2 (bitOf value 1)).enableRing MBX_CTRL_EVT_EN MBX_RING_SIZE_EVT_LOG2 (bitOf value 2)).wr
    MBX_CTRL_MB_EVT_EN (bitOf value 3))

/-- The rings reset (02 R41): undispatched records go without completions, the completions of dispatched commands are
discarded, the indices return to 0. -/
def State.ringReset (s : State) : State :=
  let n := s.mgmt.fetched.length
  let s1 := { s with mgmt := { s.mgmt with
    fetched := []
    mailboxBehind := 0
    cplWait := []
    inFlight := s.mgmt.inFlight.map fun (c : InFlight) => if c.ring then { c with discard := true } else c } }
  ((((((s1.wr MBX_CMD_HEAD 0).wr MBX_CMD_TAIL 0).wr MBX_CPL_HEAD 0).wr MBX_CPL_TAIL 0).wr MBX_EVT_HEAD 0).wr
    MBX_EVT_TAIL 0).post 0xD003 0xD00 1 n

/-- RING_RESET: a write of MBX_CTRL.RING_RESET (02 R41). -/
def execRingReset (value : Nat) (s : State) : Result :=
  .next (if bitOf value 8 = 1 then s.ringReset else s)

/-- The command ring is being fetched: it is enabled, holds records, the completion ring has room (02 R39), and the endpoint is
not in reset (R28). -/
def State.cmdRun (s : State) : Bool :=
  s.mgmt.perstN && s.isSet MBX_CTRL_CMD_EN && s.rd MBX_CMD_HEAD != s.rd MBX_CMD_TAIL && !s.cplFull

/-- COMMAND_FETCH: one record from host memory (02 R37, R39). -/
def execCommandFetch (s : State) : Result :=
  .next (
    if s.cmdRun then
      let r := s.hostRead (4096 * s.rd MBX_CMD_BASE + 64 * s.rd MBX_CMD_HEAD) 64
      ({ s with mgmt := { s.mgmt with fetched := s.mgmt.fetched ++ [r] } }).wr MBX_CMD_HEAD
        ((s.rd MBX_CMD_HEAD + 1) % s.cmdEntries)
    else s)

/-! ### Dispatch (02 R38, R40, R46) -/

/-- FENCE of a record (02 R37). -/
def recFence (r : List Nat) : Bool := recByte r 4 % 2 == 1

/-- The steward executes the record's command (02 R58, 19 R516: LCS_TRANSITION for RETURN and SCRAP). -/
def stewardCommand (r : List Nat) : Bool :=
  (match opcodeInfo (recOpcode r) with
    | some i => i.2.2
    | none => false) || (recOpcode r == 0xC004 && (recByte r 8 == 5 || recByte r 8 == 6))

/-- A record may be dispatched now (02 R38): fewer than 32 in flight, and for FENCE none; a steward command waits for a
steward that boots or restarts (02 R58). -/
def State.mayDispatch (s : State) (r : List Nat) : Bool :=
  decide (s.mgmt.inFlight.length < 32) && (!recFence r || s.mgmt.inFlight.isEmpty) &&
    (!stewardCommand r || s.mgmt.steward == .running || s.mgmt.steward == .stopped)

/-- The completion that a record gets at dispatch, before its own row: no such opcode, a PLEN that does not match, the
commands SCRAP denies (19 R497), a steward command while the steward is stopped (02 R540). -/
def State.dispatchCheck (s : State) (r : List Nat) : Option Completion :=
  match opcodeInfo (recOpcode r) with
  | none => some ⟨0x01, 0, 0⟩
  | some i =>
    if recPlen r ≠ i.1 then some ⟨0x02, 0, 0⟩
    else if s.rd LCS_STATE_STATE = 6 ∧ recOpcode r ≠ 0xD001 ∧ recOpcode r ≠ 0xD002 ∧ recOpcode r ≠ 0xD003 ∧
        recOpcode r ≠ 0xC001 then some .denied
    else if stewardCommand r ∧ s.mgmt.steward = .stopped then some .notInMode
    else none

/-- A record dispatched: it goes in flight, or completes at once. -/
def State.dispatch (s : State) (ring : Bool) (r : List Nat) : State :=
  let id := s.mgmt.nextId
  let s1 := { s with mgmt := { s.mgmt with
    nextId := id + 1
    inFlight := s.mgmt.inFlight ++ [({ id := id, ring := ring, bytes := r, tick := s.now } : InFlight)] } }
  match s1.dispatchCheck r with
  | some c => s1.complete id c
  | none => s1

/-- The next command of the ring dispatched, where it may be. -/
def State.ringDispatch (s : State) : State :=
  match s.mgmt.fetched with
  | [] => s
  | r :: rest =>
    if s.mayDispatch r then
      ({ s with mgmt := { s.mgmt with fetched := rest, mailboxBehind := s.mgmt.mailboxBehind - 1 } }).dispatch true r
    else s

/-- A record with FENCE that was fetched before the mailbox command was submitted still waits: no later command is dispatched before
it (02 R38; log 56). -/
def State.fenceBefore (s : State) : Bool := (s.mgmt.fetched.take s.mgmt.mailboxBehind).any recFence

/-- COMMAND_DISPATCH: the mailbox command first, then the next of the ring (02 R38, R48). A mailbox command that waits for the
steward, or for an earlier FENCE of the ring, lets the ring's pass; one that waits with FENCE does not, but for the ring's
earlier commands. -/
def execCommandDispatch (s : State) : Result :=
  .next (
    match s.mgmt.mailbox with
    | some r =>
      if s.mayDispatch r && !s.fenceBefore && (!recFence r || s.mgmt.mailboxBehind == 0) then
        ((({ s with mgmt := { s.mgmt with mailbox := none } }).wr MBX_MB_CTRL_GO 0).wr MBX_MB_CTRL_BUSY 1).dispatch false r
      else if recFence r && s.mgmt.mailboxBehind == 0 then s
      else s.ringDispatch
    | none => s.ringDispatch)

/-- The completion record that waits longest written: record, writeback, MSI-X, in this order (02 R35, R42). -/
def State.completionWrite (s : State) : State :=
  match s.mgmt.cplWait with
  | [] => s
  | r :: rest =>
    if s.mgmt.perstN && s.isSet MBX_CTRL_CPL_EN && !s.cplFull then
      (((({ s with mgmt := { s.mgmt with cplWait := rest } }).hostWrite
        (4096 * s.rd MBX_CPL_BASE + 16 * s.rd MBX_CPL_TAIL) r).wr MBX_CPL_TAIL
        ((s.rd MBX_CPL_TAIL + 1) % s.cplEntries)).writeback).raiseHeld 0
    else s

/-- COMPLETION_WRITE. -/
def execCompletionWrite (s : State) : Result := .next s.completionWrite

/-- Every completion record that waits written (16 R446: DMA drains). -/
def State.drainCompletions (s : State) : State :=
  s.mgmt.cplWait.foldl (fun (x : State) _ => x.completionWrite) s

/-- Number of a ring DMA in event 0xD009. -/
def dmaCode (k : DmaKind) : Nat :=
  match k with
  | .fetch => 0
  | .completion => 1
  | .event => 2
  | .writeback => 3

/-- A host DMA error (02 R36): the error bit, the rings disabled, vector 3; event 0xD009 goes to the log and, whatever the
filter and MB_EVT_EN say, to the mailbox event queue (DEDUCED, log 115). -/
def State.dmaFault (s : State) (detail : Nat) : State :=
  let s1 := ((((s.wr MBX_ERR_DMA_FAULT 1).wr MBX_CTRL_CMD_EN 0).wr MBX_CTRL_CPL_EN 0).wr MBX_CTRL_EVT_EN 0).raise 3
  let r := eventRecord s.caller.sec s.caller.ns 0xD009 0xD00 3 detail
  (s1.logEvent r).mailboxPut r

/-- HOST_DMA_FAULT (02 R36). -/
def execHostDmaFault (kind : DmaKind) (s : State) : Result := .next (s.dmaFault (dmaCode kind))

/-- A record written to the event ring: record, tail, writeback, vector 1 (02 R35). -/
def State.eventRingPut (s : State) (r : Nat) : State :=
  (((s.hostWrite (4096 * s.rd MBX_EVT_BASE + 16 * s.rd MBX_EVT_TAIL) (bytesOf 16 r)).wr MBX_EVT_TAIL
    ((s.rd MBX_EVT_TAIL + 1) % s.evtEntries)).writeback).raiseHeld 1

/-- EVENT_RING_WRITE: EVENTS_LOST first where records were lost, else the oldest of the queue (02 R35, R45). -/
def execEventRingWrite (s : State) : Result :=
  .next (
    if s.mgmt.perstN && s.isSet MBX_CTRL_EVT_EN && !s.evtFull then
      if s.mgmt.evtLost ≠ 0 then
        let r := eventRecord s.caller.sec s.caller.ns 0xD001 0xD00 2 (sat32 s.mgmt.evtLost)
        ((({ s with mgmt := { s.mgmt with evtLost := 0 } }).logEvent r).toMailbox r).eventRingPut r
      else
        match s.mgmt.evtQueue with
        | [] => s
        | r :: rest => State.eventRingPut { s with mgmt := { s.mgmt with evtQueue := rest } } r
    else s)

/-- IRQ_HOLDOFF_EXPIRY (02 R55): at the interval's end the vector is raised again when records arrived, and a new
interval starts. -/
def execIrqHoldoffExpiry (vector : Nat) (s : State) : Result :=
  .next (
    match (s.holdoff vector).endsAt with
    | none => s
    | some e =>
      if s.now < e then s
      else if (s.holdoff vector).arrived then
        (s.raise vector).setHoldoff vector { endsAt := some (s.now + 1000 * s.rd MBX_IRQ_HOLDOFF), arrived := false }
      else s.setHoldoff vector {})

/-- DESIGN_IRQ_SET (02 R54): bit `n` of MBX_DSGN_PEND, 4 to 63, and its vector. -/
def execDesignIrqSet (n : Nat) (s : State) : Result :=
  .next (if 4 ≤ n ∧ n ≤ 63 then (s.wrMask MBX_DSGN_PEND (n - 4) true).raise n else s)

/-- PCIE_LINK_CHANGE (02 R47): the link cannot come up while PERST_N is low. -/
def execPcieLinkChange (up : Bool) (widthRate : Nat) (s : State) : Result :=
  .next (
    if up && !s.mgmt.perstN then s
    else
      ({ s with mgmt := { s.mgmt with pcieUp := up, pcieWidthRate := widthRate % 256 } }).post 0xD007 0xD00
        (if up then 1 else 2) (if up then 1 + 256 * (widthRate % 256) else 0))

/-- PERST_ASSERT (02 R28): PERST_N low holds the endpoint, with its MSI-X table, in reset (PRESUMED, log 9); nothing
else changes. -/
def execPerstAssert (s : State) : Result :=
  .next { s with mgmt := { s.mgmt with perstN := false, pcieUp := false, msixTable := [], pba := 0 } }

/-! ### NOP and STEWARD_INFO (02 R47) -/

/-- NOP. -/
def execNop (id : Nat) (s : State) : Result :=
  .next (s.runCmd id 0xD001 fun r s => (.ok 0 (recField r 8 8), s))

/-- STEWARD_READY (02 R540). -/
def State.stewardReady (s : State) : Bool := s.mgmt.steward == .running

/-- MBX_STW_VER: the version of the running block (02 R64), 0 while the steward is not ready (R47). -/
def State.stewardVersion (s : State) : Nat :=
  if s.stewardReady then Config.firmwareVersion (s.rd FLC_BOOT_RUNNING_BLOCK) % 2 ^ 32 else 0

/-- STEWARD_INFO: the version, and the active boot block as 0 = A, 1 = B. -/
def execStewardInfo (id : Nat) (s : State) : Result :=
  .next (s.runCmd id 0xD003 fun _ s => (.ok s.stewardVersion (s.rd FLC_BOOT_ACTIVE_BLOCK - 1), s))

/-! ### The mailbox (02 R48, R49) -/

/-- MAILBOX_GO: ignored while BUSY, or while a submitted record waits for dispatch. -/
def execMailboxGo (s : State) : Result :=
  .next (
    if s.isSet MBX_MB_CTRL_BUSY || s.mgmt.mailbox.isSome then s
    else
      ({ s with mgmt := { s.mgmt with
          mailbox := some ((List.range 16).flatMap fun k => bytesOf 4 (s.rdAt MBX_MB_CMD k))
          mailboxBehind := s.mgmt.fetched.length } }).wr MBX_MB_CTRL_GO 1)

/-- MB_EVT_READ: a read of the last word of MBX_MB_EVT answers it and removes the oldest record. -/
def execMbEvtRead (s : State) : Result :=
  .next (
    match s.mgmt.mbEvents with
    | [] => s.answer 0
    | r :: rest => ({ s with mgmt := { s.mgmt with mbEvents := rest } }).answer (bitsOf r 127 96))

/-! ### The scratchpad (02 R59 to R63) -/

/-- What word `w` of the scratchpad reads as where the map does not list it: zero, or what the steward has left in its own region,
which the spec does not say (02 R538). -/
def State.spadUnlisted (s : State) (w : Nat) : SpadWord :=
  match s.mgmt.spadBase with
  | some b => if w < 0x8000 then { data := Config.freeValue (b + w) % 2 ^ 64 } else {}
  | none => {}

/-- Word `w` of the scratchpad. -/
def State.spadWord (s : State) (w : Nat) : SpadWord := SMap.read s.mgmt.spad (s.spadUnlisted w) w

/-- The steward rewrites its own region (02 R57, R538): its words are good and of open value from then on. -/
def State.stewardRewrites (s : State) : State :=
  State.tookN { s with mgmt := { s.mgmt with
    spad := s.mgmt.spad.filter fun (e : Nat × SpadWord) => decide (0x8000 ≤ e.1)
    spadBase := some s.fresh } } 0x8000

/-- Word `w` written. -/
def State.spadPut (s : State) (w : Nat) (x : SpadWord) : State :=
  { s with mgmt := { s.mgmt with spad := SMap.store s.mgmt.spad (s.spadUnlisted w) w x } }

/-- The host and the design write the design region and the host region only (02 R59). -/
def spadOpen (w : Nat) : Bool := decide (0x8000 ≤ w ∧ w < 0xC000) || decide (0xE000 ≤ w ∧ w < 0x10000)

/-- What a read of word `w` does by what it finds (02 R63): a corrected word is counted and reported, an uncorrectable
one is poisoned from then on. A word that is poisoned already reads uncorrectable. -/
def State.spadSense (s : State) (w : Nat) (found : SpadRead) : State :=
  if (s.spadWord w).poison || found == .uncorrectable then
    ((s.spadPut w { s.spadWord w with poison := true }).incSat MBX_SPAD_ECC_UNCORR_CNT).post 0xD006 0xD00 3 w
  else if found == .single then (s.incSat MBX_SPAD_ECC_CORR_CNT).post 0xD005 0xD00 0 w
  else s

/-- A request to BAR0 of 4 or 8 bytes, aligned (02 R29). -/
def goodSize (offset size : Nat) : Bool := (size == 4 || size == 8) && offset % size == 0

/-- SPAD_HOST_READ (02 R29, R61, R63): aligned 4 or 8 bytes; a poisoned word ends in a completer abort. -/
def execSpadHostRead (offset size : Nat) (found : SpadRead) (s : State) : Result :=
  let w := offset / 8 % 65536
  let s1 := s.spadSense w found
  .next (
    if !goodSize offset size then (s.mbxErr MBX_ERR_BAD_SIZE).answer 0
    else if (s1.spadWord w).poison then { s1 with reply := { abort := true, poison := true } }
    else if size = 8 then s1.answer (s1.spadWord w).data
    else s1.answer ((s1.spadWord w).data / 2 ^ (8 * (offset % 8 / 4 * 4)) % 2 ^ 32))

/-- SPAD_READ_ABANDON (02 R61). -/
def execSpadReadAbandon (word : Nat) (s : State) : Result :=
  .next { ((s.mbxErr MBX_ERR_SCRATCH_STARVED).post 0xD00A 0xD00 2 word) with reply := { abort := true } }

/-- SPAD_HOST_WRITE (02 R29, R59, R61, R63): refused outside the regions the host writes; 8 bytes make the word good; 4
bytes are a read-modify-write, refused on a poisoned word (log 116). -/
def execSpadHostWrite (offset size data : Nat) (found : SpadRead) (s : State) : Result :=
  let w := offset / 8 % 65536
  .next (
    if !goodSize offset size then s.mbxErr MBX_ERR_BAD_SIZE
    else if !spadOpen w then s.mbxErr MBX_ERR_SPAD_PROT
    else if size = 8 then s.spadPut w { data := data % 2 ^ 64, poison := false }
    else
      let s1 := s.spadSense w found
      if (s1.spadWord w).poison then s1.mbxErr MBX_ERR_SPAD_PROT
      else
        let d := (s1.spadWord w).data
        s1.spadPut w { data := if offset % 8 < 4 then d / 2 ^ 32 * 2 ^ 32 + data % 2 ^ 32
                               else data % 2 ^ 32 * 2 ^ 32 + d % 2 ^ 32, poison := false })

/-- An atomic at the bank (02 R62): the old value, and the new word. A poisoned word stays poisoned under ADD, whose
sum is then of no known value (DESIGN CHOICE, log 13); SWAP makes it good. -/
def State.spadAtomic (s : State) (w : Nat) (add : Bool) (operand : Nat) (found : SpadRead) : SpadWord × State :=
  let s1 := s.spadSense w found
  let old := s1.spadWord w
  if add then
    if old.poison then (old, (s1.spadPut w { data := s1.free 64, poison := true }).took)
    else (old, s1.spadPut w { data := (old.data + operand) % 2 ^ 64, poison := false })
  else (old, s1.spadPut w { data := operand % 2 ^ 64, poison := false })

/-- SPAD_FABRIC_ACCESS (02 R59, R60, R62, R63): the fabric management port. A refused write is ignored. -/
def execSpadFabricAccess (word : Nat) (access : SpadAccess) (found : SpadRead) (s : State) : Result :=
  let w := word % 65536
  .next (
    match access with
    | .read =>
      let s1 := s.spadSense w found
      { s1 with reply := { data := (s1.spadWord w).data, poison := (s1.spadWord w).poison } }
    | .write d => if spadOpen w then s.spadPut w { data := d % 2 ^ 64, poison := false } else s
    | .add x =>
      if spadOpen w then
        let r := s.spadAtomic w true x found
        { r.2 with reply := { data := r.1.data, poison := r.1.poison } }
      else s
    | .swap x =>
      if spadOpen w then
        let r := s.spadAtomic w false x found
        { r.2 with reply := { data := r.1.data, poison := r.1.poison } }
      else s)

/-- A host atomic through MBX_ATOM_ADDR and MBX_ATOM_OPND (02 R59, R62); it completes at once, so DONE stays 1. -/
def State.hostAtomic (s : State) (add : Bool) (found : SpadRead) : State :=
  let w := s.rd MBX_ATOM_ADDR
  if spadOpen w then
    let r := s.spadAtomic w add (s.rd MBX_ATOM_OPND) found
    r.2.wr MBX_ATOM_OLD r.1.data
  else s.mbxErr MBX_ERR_SPAD_PROT

/-- ATOMIC_ADD (02 R62). -/
def execAtomicAdd (found : SpadRead) (s : State) : Result := .next (s.hostAtomic true found)

/-- ATOMIC_SWAP (02 R62). -/
def execAtomicSwap (found : SpadRead) (s : State) : Result := .next (s.hostAtomic false found)

/-- PERST_RELEASE (02 R28); the wake it may cause is in Power states (16 R448). -/
def State.perstRelease (s : State) : State := { s with mgmt := { s.mgmt with perstN := true } }

end Sys2Proof.Machine
end

