-- ==== Sys2Proof/Machine/Claims.lean ====
section
/-! DEFINITION. The resource claim table (18): lands claimed by the host, refusals, ties. The entry of a land is
RES_LAND; owners are numbered as there: 0 = design, 1 = dance card engine, 2 = Caller alternate, 3 = host. -/

namespace Sys2Proof.Machine

/-- A refusal recorded (18 R479, R483, R485): error bit, RES_LAST_REFUSAL, count, event 0xE001. -/
def State.resRefuse (s : State) (err : Field) (status kind requester index : Nat) : State :=
  (((((((s.wr err 1).wr RES_LAST_REFUSAL_STATUS status).wr RES_LAST_REFUSAL_KIND kind).wr RES_LAST_REFUSAL_REQUESTER
    requester).wr RES_LAST_REFUSAL_INDEX index).incSat RES_REFUSE_CNT)).postLimited 0xE001 0 0xE00 2 fun _ =>
      status % 256 * 2 ^ 24 + kind % 16 * 2 ^ 20 + requester % 4 * 2 ^ 18 + index % 256

/-- A tie of a block without a counter of its own (18 R487). -/
def State.resTie (s : State) (source : Nat) : State := (s.incSat RES_TIE_CNT).wr RES_TIE_LAST source

/-- The land has an owner. -/
def State.landClaimed (s : State) (p : Nat) : Bool := s.isSetAt RES_LAND_CLAIMED p

/-- The land is owned by `owner`. -/
def State.landOwnedBy (s : State) (p owner : Nat) : Bool := s.landClaimed p && s.rdAt RES_LAND_OWNER p == owner

/-- The land's holder is the host. -/
def State.landHostHeld (s : State) (p : Nat) : Bool := s.landClaimed p && s.isSetAt RES_LAND_HOLDER p

/-- A land claimed. -/
def State.claimLand (s : State) (p owner holder : Nat) : State :=
  ((s.wrAt RES_LAND_OWNER p owner).wrAt RES_LAND_CLAIMED p 1).wrAt RES_LAND_HOLDER p holder

/-- A land released. -/
def State.releaseLand (s : State) (p : Nat) : State :=
  ((s.wrAt RES_LAND_OWNER p 0).wrAt RES_LAND_CLAIMED p 0).wrAt RES_LAND_HOLDER p 0

/-- Event 0xE002 HOST_CLAIM_CHANGED (18 R493). -/
def State.postClaim (s : State) (p use : Nat) (claimed : Bool) : State :=
  s.post 0xE002 0xE00 1 (p + 256 * use + 1024 * flag claimed)

end Sys2Proof.Machine
end

