-- ==== Sys2Proof/Machine/Grid.lean ====
section
/-! DEFINITION. Grids (03 R78 to R80): positions are a pure function of TAI time and the grid's parameters. -/

namespace Sys2Proof.Machine

/-- A grid position (03 R80): the frame count before its reduction modulo 2^48, line, tick. -/
structure GridPos where
  frame : Int
  line : Nat
  tick : Nat
  deriving DecidableEq, Repr

/-- Frame period numerator: DEN × 10^9. -/
def State.gridD (s : State) (g : Nat) : Nat := 1000000000 * s.rdAt CLR_GRID_DEN g

/-- NUM × L. -/
def State.gridQ (s : State) (g : Nat) : Nat := s.rdAt CLR_GRID_NUM g * s.rdAt CLR_GRID_CTRL_LINES g

/-- Lines per frame. -/
def State.gridL (s : State) (g : Nat) : Nat := s.rdAt CLR_GRID_CTRL_LINES g

/-- Alignment offset in ns. -/
def State.gridA (s : State) (g : Nat) : Int := toSigned 32 (s.rdAt CLR_GRID_ALIGN g)

/-- The grid has two fields. -/
def State.gridTwoFields (s : State) (g : Nat) : Bool := s.isSetAt CLR_GRID_CTRL_FIELDS g

/-- The grid is enabled. -/
def State.gridActive (s : State) (g : Nat) : Bool := s.isSetAt CLR_GRID_STATUS_ACTIVE g

/-- A grid that is enabled runs from the tick after its enabling on (03 R81). -/
def State.gridRuns (s : State) (g : Nat) : Bool := s.gridActive g && SMap.find s.caller.gridStart g != some s.now

/-- The TAI nanoseconds reached in this store tick: one, but for a phase change of 03 R68. -/
def State.dueTimes (s : State) : List Nat := (List.range (s.tai + 1 - s.caller.dueFrom)).map fun k => s.caller.dueFrom + k

/-- The line period breaks its limit of 250 ns to 1,048,575 ns. -/
def State.gridPeriodBad (s : State) (g : Nat) : Bool :=
  !(decide (250 * s.gridQ g ≤ s.gridD g) && decide (s.gridD g ≤ 1048575 * s.gridQ g))

/-- The first limit broken (03 R78), in the check order: 1 = NUM or DEN, 2 = LINES or FIELDS, 3 = ALIGN, 4 = period. -/
def State.gridLimit (s : State) (g : Nat) : Option Nat :=
  if s.rdAt CLR_GRID_NUM g = 0 ∨ s.rdAt CLR_GRID_DEN g = 0 then some 1
  else if s.gridL g = 0 ∨ (s.gridTwoFields g ∧ s.gridL g < 2) then some 2
  else if (s.gridD g : Int) ≤ (s.gridA g).natAbs * s.rdAt CLR_GRID_NUM g then some 3
  else if s.gridPeriodBad g then some 4
  else none

/-- CLR_GRIDn_LINE_NS (03 R78): integer part of the line period; 0 while NUM, DEN, LINES or the period break a limit. -/
def State.lineNs (s : State) (g : Nat) : Nat :=
  if s.gridQ g = 0 ∨ s.rdAt CLR_GRID_DEN g = 0 ∨ s.gridPeriodBad g then 0 else s.gridD g / s.gridQ g

/-- TAI nanosecond at which line `m`, counted from frame 0, starts (03 R79): a half rounds up. -/
def State.lineStart (s : State) (g : Nat) (m : Int) : Int :=
  s.gridA g + (2 * m * s.gridD g + s.gridQ g) / (2 * s.gridQ g)

/-- The latest line that starts at or before TAI nanosecond `t`. -/
def State.lineAt (s : State) (g : Nat) (t : Int) : Int :=
  ((2 * (t - s.gridA g) + 1) * s.gridQ g - 1) / (2 * s.gridD g)

/-- The position at TAI nanosecond `t` (03 R80). -/
def State.posAt (s : State) (g : Nat) (t : Int) : GridPos :=
  let m := s.lineAt g t
  { frame := m / (s.gridL g : Int), line := (m % (s.gridL g : Int)).toNat, tick := (t - s.lineStart g m).toNat }

/-- The position now. -/
def State.pos (s : State) (g : Nat) : GridPos := s.posAt g s.tai

/-- The positions reached in this store tick. -/
def State.duePos (s : State) (g : Nat) : List GridPos := s.dueTimes.map fun t => s.posAt g t

/-- The frame number a register shows: modulo 2^48. -/
def GridPos.frame48 (p : GridPos) : Nat := (p.frame % (2 ^ 48 : Nat)).toNat

/-- First line of the second field: half of the lines, rounded up (03 R80). -/
def State.halfLines (s : State) (g : Nat) : Nat := (s.gridL g + 1) / 2

/-- Field of a position: 1 in the second field of a grid with two. -/
def State.fieldOf (s : State) (g : Nat) (p : GridPos) : Nat :=
  flag (s.gridTwoFields g && decide (s.halfLines g ≤ p.line))

/-- TAI nanosecond of (frame `n`, line, tick). -/
def State.timeOf (s : State) (g : Nat) (n : Int) (line tick : Nat) : Int :=
  s.lineStart g (n * s.gridL g + line) + tick

/-- The first time after `t0` at which (line, tick) occurs in a frame that is a multiple of `every`. -/
def State.nextOccurrence (s : State) (g : Nat) (t0 : Int) (line tick every : Nat) : Int :=
  let n0 := (s.posAt g t0).frame
  let e : Int := every
  let n1 := (n0 + e - 1) / e * e
  if t0 < s.timeOf g n1 line tick then s.timeOf g n1 line tick else s.timeOf g (n1 + e) line tick

/-- (frame, line, tick) lies at or before the position, frames taken modulo 2^48 (03 R86). -/
def GridPos.reached (p : GridPos) (frame line tick : Nat) : Bool :=
  decide (frame < p.frame48) || (p.frame48 == frame && (decide (line < p.line) || (p.line == line && decide (tick ≤ p.tick))))

/-- Fabric PLL `p` follows grid `g` (09 R249). -/
def State.pllOnGrid (s : State) (g p : Nat) : Bool :=
  s.isSetAt FAB_PLL_CTRL_EN p && s.rdAt FAB_PLL_CTRL_MODE p != 0 && s.rdAt FAB_PLL_CTRL_GRID p == g

/-- The fabric PLLs on grid `g`. -/
def State.pllsOn (s : State) (g : Nat) : List Nat := (List.range 16).filter fun p => s.pllOnGrid g p

/-- PLLs on a grid realign: ALIGNED is 0 until they are within ±0.5 ns (09 R251). -/
def State.pllRealign (s : State) (g : Nat) : State :=
  (s.pllsOn g).foldl (fun (x : State) p => x.wrAt FAB_PLL_STATUS_ALIGNED p 0) s

end Sys2Proof.Machine
end

