-- ==== Sys2Proof/Machine/DanceOps.lean ====
section
/-! DEFINITION. Dance card entries and the engine's queue (04): the fields of an entry, when it is due, the check of a
bank, what a step of time does to the schedule; and the change of mode, which stops execution. -/

namespace Sys2Proof.Machine

/-! ### Entry fields (04 R96) -/

def entryOperand (w : Nat) : Nat := bitsOf w 127 64
def entryAction (w : Nat) : Nat := bitsOf w 63 56
def entryN (w : Nat) : Nat := bitsOf w 55 46
def entryRepeat (w : Nat) : Nat := bitsOf w 45 44
def entryGrid (w : Nat) : Nat := bitsOf w 43 41
def entryLine (w : Nat) : Nat := bitsOf w 40 27
def entryTick (w : Nat) : Nat := bitsOf w 26 7
def entryValid (w : Nat) : Bool := bitOf w 6 == 1
def entryLog (w : Nat) : Bool := bitOf w 5 == 1
def entryCatchup (w : Nat) : Bool := bitOf w 4 == 1

/-- The bank with physical number `b`. -/
def State.danceBank (s : State) (b : Nat) : SMap Nat := if b = 0 then s.dance.bank0 else s.dance.bank1

/-- The bank with physical number `b` replaced. -/
def State.setDanceBank (s : State) (b : Nat) (m : SMap Nat) : State :=
  if b = 0 then { s with dance := { s.dance with bank0 := m } } else { s with dance := { s.dance with bank1 := m } }

/-- Entries that a copy in progress has taken by now: two each tick, in ascending index (04 R94; DEDUCED, log 16). -/
def State.copied (s : State) (start : Nat) : Nat := 2 * (s.now - start)

/-- The entries of the bank with physical number `b` as they stand: during a copy into it, the new ones as far as it has got. -/
def State.bankView (s : State) (b : Nat) : SMap Nat :=
  match s.dance.copyFrom with
  | some (start, from_) =>
    if b = from_ then s.danceBank b
    else ((s.danceBank from_).filter fun (e : Nat × Nat) => decide (e.1 < s.copied start)) ++
      (s.danceBank b).filter fun (e : Nat × Nat) => decide (s.copied start ≤ e.1)
  | none => s.danceBank b

/-- The active bank's number. -/
def State.activeBank (s : State) : Nat := s.rd DNC_STATUS_ACTIVE_BANK

/-- The engine executes (04 R106). -/
def State.danceRunning (s : State) : Bool := s.isSet DNC_CTRL_EN && s.running

/-- The lines at which an entry fires in a frame (04 R100, R541): with every field on a grid with two, its line and the
line half a frame away where that one exists. -/
def State.entryLines (s : State) (w : Nat) : List Nat :=
  let g := entryGrid w
  let l := entryLine w
  let h := s.halfLines g
  if entryRepeat w = 2 ∧ s.gridTwoFields g then
    if l < h then (if l + h < s.gridL g then [l, l + h] else [l]) else [l, l - h]
  else [l]

/-- Frames between firings: N for REPEAT 0x3, else 1. -/
def entryEvery (w : Nat) : Nat := if entryRepeat w = 3 then entryN w else 1

/-- The entry is part of the schedule: valid, its grid runs, its position exists there (04 R541), and a once entry has
not fired. -/
def State.entryLive (s : State) (e w : Nat) : Bool :=
  let g := entryGrid w
  entryValid w && s.gridRuns g && decide (entryLine w < s.gridL g) && decide (entryTick w < s.lineNs g) &&
    decide (0 < entryEvery w) && !(entryRepeat w == 0 && s.dance.fired.contains e)

/-- The entry is due in this store tick (04 R100, R107). -/
def State.entryDue (s : State) (e w : Nat) : Bool :=
  s.entryLive e w && (s.duePos (entryGrid w)).any fun (p : GridPos) =>
    p.tick == entryTick w && (s.entryLines w).contains p.line && decide (p.frame % (entryEvery w : Int) = 0)

/-- A step of time from `t0` to `t1` carries time past a position of the entry (04 R112). -/
def State.entryPassed (s : State) (t0 t1 : Int) (e w : Nat) : Bool :=
  s.entryLive e w && (s.entryLines w).any fun l =>
    decide (s.nextOccurrence (entryGrid w) t0 l (entryTick w) (entryEvery w) < t1)

/-! ### The check of a bank (04 R102) -/

/-- BAD_OPERAND. -/
def badOperand (w : Nat) : Bool :=
  let o := entryOperand w
  match entryAction w with
  | 0x01 => bitsOf o 15 0 == 0
  | 0x02 => bitsOf o 15 0 == 0
  | 0x03 => bitsOf o 15 0 == 0
  | 0x08 => decide (191 < bitsOf o 7 0)
  | 0x09 => decide (191 < bitsOf o 7 0)
  | 0x0A => decide (191 < bitsOf o 7 0) || bitsOf o 31 16 == 0
  | 0x0B => decide (3 < bitsOf o 35 32)
  | 0x0C => decide (23 < bitsOf o 4 0)
  | _ => false

/-- The action drives a land. -/
def isGpioAction (a : Nat) : Bool := a == 0x08 || a == 0x09 || a == 0x0A

/-- The reason for which an entry refuses a swap: 4 for every entry on a grid whose stored parameters break a limit,
otherwise the first of the table. -/
def State.entryError (s : State) (w : Nat) : Option Nat :=
  let g := entryGrid w
  if !entryValid w then none
  else if s.lineNs g = 0 then some 4
  else if entryAction w = 0 ∨ 0x0D < entryAction w then some 1
  else if entryRepeat w = 3 ∧ entryN w = 0 then some 2
  else if s.gridL g ≤ entryLine w then some 3
  else if s.lineNs g ≤ entryTick w then some 4
  else if badOperand w then some 5
  else if isGpioAction (entryAction w) && !s.landOwnedBy (bitsOf (entryOperand w) 7 0) 1 then some 6
  else none

/-- The first failing entry of a bank, in ascending index, with its reason. -/
def State.bankError (s : State) (m : SMap Nat) : Option (Nat × Nat) :=
  m.findSome? fun e => (s.entryError e.2).map fun c => (e.1, c)

/-- Valid entries of a bank. -/
def validEntries (m : SMap Nat) : Nat := (m.filter fun e => entryValid e.2).length

/-! ### Steps of time (04 R105, R112) -/

/-- The swap position is passed by a step from `t0` to `t1`. -/
def State.swapStepped (s : State) (t0 t1 : Int) : Bool :=
  s.rd DNC_SWAP_STAT_STATE == 2 && s.isSet DNC_SWAP_CTRL_ANY_FRAME &&
    decide (s.nextOccurrence (s.rd DNC_SWAP_CTRL_GRID) t0 (s.rd DNC_SWAP_LINE) (s.rd DNC_SWAP_TICK) 1 < t1)

/-- Event 0x2006 for grid `g` when entries on it were passed over. -/
def State.postSkipped (s : State) (passed : List (Nat × Nat)) (g : Nat) : State :=
  let n := (passed.filter fun e => entryGrid e.2 == g).length
  if n = 0 then s else s.post 0x2006 0x200 2 (g + 256 * satN 24 n)

/-- The last TAI nanosecond whose entries have become due: the time now once they have in this tick. -/
def State.dueUntil (s : State) : Int := if s.dance.dueDone = some s.now then s.tai else (s.caller.dueFrom : Int) - 1

/-- What a step of time to `t1` does to the schedule: forward, the entries passed over are counted, once entries among them are
spent, and those with CATCHUP join the head of the queue (04 R112). -/
def State.danceStep (s : State) (t1 : Nat) : State :=
  let t0 := s.dueUntil
  let s0 := if s.swapStepped ((s.caller.dueFrom : Int) - 1) t1 then { s with dance := { s.dance with swapPassed := true } } else s
  if s.tai < t1 ∧ s.danceRunning then
    let b := s.activeBank
    let passed : List (Nat × Nat) := (s.bankView b).filter fun (e : Nat × Nat) => s.entryPassed t0 t1 e.1 e.2
    let catchup := passed.filter fun (e : Nat × Nat) => entryCatchup e.2
    let s1 := { s0 with dance := { s0.dance with
      queue := (catchup.map fun (e : Nat × Nat) => ({ entry := e.1, bank := b, word := e.2, dueAt := s.now, slip := 0 } : QueuedAction)) ++
        s0.dance.queue
      fired := s0.dance.fired ++ ((passed.filter fun (e : Nat × Nat) => entryRepeat e.2 == 0).map fun (e : Nat × Nat) => e.1) } }
    (List.range 8).foldl (fun x g => x.postSkipped passed g) (s1.addSatAt DNC_SKIP_CNT 0 passed.length)
  else s0

/-- The waiting actions dropped and counted (04 R106). -/
def State.danceDrop (s : State) : State :=
  ({ s with dance := { s.dance with queue := [] } }).addSatAt DNC_SKIP_CNT 0 s.dance.queue.length

/-! ### The mode (16 R437) -/

/-- Severity of event 0xB001 by the new mode. -/
def modeSeverity (m : Nat) : Nat := if m = modeConfigFault ∨ m = modeHalted ∨ m = modePromenade then 4 else 1

/-- The mode is RUN, RUN_DEGRADED or HALTED, or a power state entered from them (16 R453, CFG_DONE). -/
def State.designMode (s : State) (m : Nat) : Bool :=
  m == modeRun || m == modeRunDegraded || m == modeHalted ||
    ((m == modeIdle || m == modeSleep) && !s.isSet GLB_MODE_UNCONFIGURED)

/-- The control lands in mode `m` (16 R453). A policy cause of Promenade is one of the causes 0x1 to 0x6 of 17 R467. -/
def State.setLands (s : State) (m : Nat) : State :=
  let fault := m == modeConfigFault || (m == modePromenade && s.rd PRM_CAUSE % 2 ^ 6 != 0) ||
    (m == modeOff && s.isSet THM_TRIP_VALID)
  let s1 := (((s.wr GLB_LANDS_CFG_DONE (flag (s.designMode m))).wr CFG_STATUS_CFG_DONE (flag (s.designMode m))).wr
    GLB_LANDS_CFG_ERR (flag (m == modeConfigFault))).wr CFG_STATUS_CFG_ERR (flag (m == modeConfigFault))
  let s2 := (s1.wr GLB_LANDS_FAULT_N (flag !fault)).wr GLB_LANDS_PROM_ACT (flag (m == modePromenade))
  if m = modeOff ∨ m = modeDeepSleep then (s2.wr GLB_LANDS_PWR_GOOD 0).wr GLB_LANDS_TEMP_ALERT_N 1 else s2

/-- The status fields that show the mode: HALTED (12 R345), ACTIVE (17 R473), PWR_STATUS.STATE (16 R459). -/
def State.showMode (s : State) (m : Nat) : State :=
  ((s.wr CTX_STATUS_HALTED (flag (m == modeHalted))).wr PRM_STATUS_ACTIVE (flag (m == modePromenade))).wr PWR_STATUS_STATE
    (if m = modeIdle then 1 else if m = modeSleep then 2 else if m = modeDeepSleep then 3 else 0)

/-- The instruction drives lands: it takes effect in three modes only (08 R228). -/
def JtagInstr.drives (i : JtagInstr) : Bool :=
  match i with
  | .extest => true
  | .extestPulse => true
  | .extestTrain => true
  | .clamp => true
  | .highz => true
  | _ => false

/-- The modes in which boundary scan may drive lands. -/
def State.scanMode (s : State) : Bool := s.mode == modeLoad || s.mode == modeConfigFault || s.mode == modeService

/-- A driving instruction that is in force where the mode does not permit it sets SCAN_REFUSED. -/
def State.scanLeaves (s : State) : State :=
  if s.lanes.jtag.drives && !s.scanMode then s.wr LNE_ERR_SCAN_REFUSED 1 else s

/-- The mode changes: GLB_MODE, lands, event 0xB001 and count (16 R437); execution of the dance card stops when the new mode
is neither RUN nor RUN_DEGRADED (04 R106), and a wake that was under way is over. -/
def State.setMode (s : State) (m : Nat) : State :=
  let old := s.mode
  if old = m then s
  else
    let s0 := (((s.wr GLB_MODE_MODE m).wr GLB_MODE_PREV_MODE old).setLands m).showMode m
    let s1 := (s0.incSat GLB_MODE_CHANGE_CNT).post 0xB001 0xB00 (modeSeverity m) (m + 16 * old)
    let s2 := if m = modeIdle ∨ m = modeSleep then s1
      else { s1 with modes := { s1.modes with waking := none, exitCmds := [] } }
    (if s2.running then s2 else s2.danceDrop).scanLeaves

end Sys2Proof.Machine
end

