-- ==== Sys2Proof/Machine/Caller.lean ====
section
/-! DEFINITION. The Caller (03): references and lock states, steps of time, grids, pulse outputs, comparators. An
offset is device time less reference time in ns (DEDUCED, log 14). -/

namespace Sys2Proof.Machine

open Sys2Proof

/-! ### References (03 R69, R70) -/

/-- Kind of a slot of CLR_REF_PRIO: 1 = PTP, 2 = REFA, 3 = REFB, 4 = Hokutu time, 0 and others = empty. -/
def State.refKind (s : State) (slot : Nat) : Nat :=
  let k := s.rd CLR_REF_PRIO / 2 ^ (8 * slot + 4) % 16
  if k ≤ 4 then k else 0

/-- The entry of a slot. -/
def State.refEntry (s : State) (slot : Nat) : Nat := s.rd CLR_REF_PRIO / 2 ^ (8 * slot) % 256

/-- Instance of a slot. -/
def State.refInstance (s : State) (slot : Nat) : Nat := s.refEntry slot % 16

/-- The reference of a slot. -/
def State.refState (s : State) (slot : Nat) : RefState := SMap.read s.caller.refs {} slot

/-- The slot's reference is valid. -/
def State.refValid (s : State) (slot : Nat) : Bool := s.refKind slot != 0 && (s.refState slot).valid

/-- The lowest-numbered slot whose reference is valid (03 R70); 7 = none. -/
def State.bestSlot (s : State) : Nat :=
  if s.refValid 0 then 0 else if s.refValid 1 then 1 else if s.refValid 2 then 2 else if s.refValid 3 then 3 else 7

/-- A reference recorded. -/
def State.setRef (s : State) (slot : Nat) (r : RefState) : State :=
  { s with caller := { s.caller with refs := SMap.store s.caller.refs {} slot r } }

/-- The reference of a slot carries time of day that its source reports valid (03 R76). -/
def State.refTod (s : State) (slot : Nat) : Bool :=
  match s.refKind slot with
  | 1 =>
    match s.caller.ptpPort with
    | some p =>
      match SMap.find s.caller.ptp p with
      | some x => x.master.todValid
      | none => false
    | none => false
  | 4 => s.caller.upstreamTod
  | _ => false

/-- TOD_VALID set while the active reference carries time of day (03 R76). -/
def State.updateTod (s : State) : State :=
  if s.rd CLR_STATUS_ACTIVE_SLOT ≠ 7 ∧ s.refTod (s.rd CLR_STATUS_ACTIVE_SLOT) then s.wr CLR_STATUS_TOD_VALID 1 else s

/-- UPSTREAM_STATE reads 0 unless the active reference is Hokutu time (03 R90). -/
def State.updateUpstream (s : State) : State :=
  if s.refKind (s.rd CLR_STATUS_ACTIVE_SLOT) = 4 then s else s.wr CLR_STATUS_UPSTREAM_STATE 0

/-! ### Lock states (03 R73): 0 = FREERUN, 1 = ACQUIRE, 2 = LOCKED, 3 = HOLDOVER -/

/-- The lock state. -/
def State.lock (s : State) : Nat := s.rd CLR_STATUS_STATE

/-- A frequency correction the spec gives only bounds for (03 R74): a free value within ±`lim` units. -/
def State.freeAdjust (s : State) (lim : Nat) : Int := ((s.free 64 % (2 * lim + 1) : Nat) : Int) - lim

/-- The frequency correction times ticks, over the stays of a log (newest first) that end at `till`, from tick `from_` on. -/
def freqSum (from_ : Nat) (till : Nat) : List (Nat × Int) → Int
  | [] => 0
  | e :: r => ((till - max e.1 from_ : Nat) : Int) * e.2 + freqSum from_ e.1 r

/-- The log as far back as tick `from_`. -/
def freqPrune (from_ : Nat) : List (Nat × Int) → List (Nat × Int)
  | [] => []
  | e :: r => if e.1 ≤ from_ then [e] else e :: freqPrune from_ r

/-- The first tick of a log, at the earliest `from_`. -/
def freqStart (from_ now : Nat) : List (Nat × Int) → Nat
  | [] => now
  | [e] => max e.1 from_
  | _ :: r => freqStart from_ now r

/-- The frequency correction averaged over the last 60 s of LOCKED (03 R73), by time, rounded down (DEDUCED, log 133). -/
def State.freqAverage (s : State) : Int :=
  let from_ := s.now - 60000000000
  let l := freqPrune from_ s.caller.freqLog
  let span := s.now - freqStart from_ s.now l
  if span = 0 then toSigned 32 (s.rd CLR_FREQ_ADJ) else freqSum from_ s.now l / (span : Int)

/-- The frequency correction now in force put into the log of LOCKED. -/
def State.logFreq (s : State) : State :=
  { s with caller := { s.caller with
      freqLog := (s.now, toSigned 32 (s.rd CLR_FREQ_ADJ)) :: freqPrune (s.now - 60000000000) s.caller.freqLog } }

/-- A change of lock state, with event 0x1001. Entering LOCKED starts the log of its frequency corrections; entering HOLDOVER
starts its limit, and the correction becomes their average (03 R73). -/
def State.setLock (s : State) (n : Nat) : State :=
  let old := s.lock
  if old = n then s
  else
    let s1 := (s.wr CLR_STATUS_STATE n).post 0x1001 0x100 (if n = 0 ∨ n = 3 then 2 else 1) (4 * old + n)
    let s2 := { s1 with caller := { s1.caller with inside := 0, outside := 0, stepPending := old == 0 } }
    if n = 3 then
      ({ s2 with caller := { s2.caller with holdoverAt := s2.now } }).wr CLR_FREQ_ADJ (ofInt 32 s2.freqAverage)
    else if n = 2 then State.logFreq { s2 with caller := { s2.caller with freqLog := [] } }
    else s2

/-- FREERUN: no slot is active; time of day is kept or falls (03 R73, R76). -/
def State.toFreerun (s : State) (keepTod : Bool) : State :=
  let s1 := ((s.setLock 0).wr CLR_STATUS_ACTIVE_SLOT 7).updateUpstream
  if keepTod then s1 else s1.wr CLR_STATUS_TOD_VALID 0

/-- A slot becomes active, with event 0x1003 (03 R70); what another reference measured counts no longer. -/
def State.selectRef (s : State) (slot : Nat) : State :=
  let s0 := { s with caller := { s.caller with measured := none, refaEdges := 0 } }
  (((s0.wr CLR_STATUS_ACTIVE_SLOT slot).post 0x1003 0x100 1 (s.refEntry slot + 256 * slot)).updateTod).updateUpstream

/-- From FREERUN or HOLDOVER to ACQUIRE when a candidate is valid and nothing holds FREERUN (03 R73). -/
def State.tryAcquire (s : State) : State :=
  let b := s.bestSlot
  if b = 7 ∨ (s.lock = 0 ∧ (s.isSet CLR_CTRL_FORCE_FREERUN ∨ s.isSet CLR_STATUS_BACKUP_OSC)) then s
  else if s.lock = 0 ∨ s.lock = 3 then (s.setLock 1).selectRef b
  else s

/-- The active reference has gone: another valid one takes its place, or the lock state leaves (03 R70, R73). -/
def State.leaveRef (s : State) : State :=
  if s.bestSlot ≠ 7 then (if s.lock = 2 then s.setLock 1 else s).selectRef s.bestSlot
  else if s.lock = 2 ∧ 0 < s.rd CLR_HOLDOVER_LIMIT_MIN then
    ((s.setLock 3).wr CLR_STATUS_ACTIVE_SLOT 7).updateUpstream
  else if s.lock = 1 ∨ s.lock = 2 then s.toFreerun false
  else s.wr CLR_STATUS_ACTIVE_SLOT 7

/-- The announce receipt timeout of a PTP port in ns: ANN_TIMEOUT intervals of its master (03 R71). -/
def State.announceTimeout (s : State) (p : PtpPort) : Nat :=
  max 2 (s.rd CLR_PTP_CTRL_ANN_TIMEOUT) * 2 ^ (p.logInterval + 3).toNat * 125000000

/-- A PTP port is enabled and hears a master. -/
def State.portHears (s : State) (e : Nat × PtpPort) : Bool :=
  s.isSetAt CLR_PTP_PORT_EN e.1 && decide (s.now < e.2.heardAt + s.announceTimeout e.2)

/-- REFA has lost its reference (03 R69): no edge by 2 µs after the next one was expected, one period after the last; or the last
period lies outside ±1,000 ppm (DEDUCED, log 134). -/
def State.refaGone (s : State) : Bool :=
  match s.caller.refaLast with
  | none => true
  | some t =>
    if s.rd CLR_REFA_KIND = 1 then decide (t + 1000002000 < s.now)
    else
      let f := s.rd CLR_REFA_FREQ_HZ
      decide ((t + 2000) * f + 1000000000 < s.now * f) ||
        (match s.caller.refaPeriod with
         | none => false
         | some p => decide (1000000000 < 1000 * ((p * f : Nat) - 1000000000 : Int).natAbs))

/-- The period of REFB's pulses as a fraction of ns: of the lines or of the frames of its grid. -/
def State.refbPeriod (s : State) : Nat × Nat :=
  let g := s.rd CLR_REFB_GRID
  (s.gridD g, if s.rd CLR_REFB_UNIT = 1 then s.gridQ g else s.rdAt CLR_GRID_NUM g)

/-- REFB has lost its reference: no edge by 2 µs after the next one was expected. -/
def State.refbGone (s : State) : Bool :=
  match s.caller.refbLast with
  | none => true
  | some t => decide ((t + 2000) * s.refbPeriod.2 + s.refbPeriod.1 < s.now * s.refbPeriod.2)

/-- Hokutu time of bond `b` has gone: two messages in a row missing, 2 µs (03 R69). A message in the tick in which the limit ends
comes first (08 R229). -/
def State.hokutuGone (s : State) (b : Nat) : Bool :=
  let r := SMap.read s.lanes.bonds {} b
  decide (2 ≤ r.missing) || r.lastFrame == 0 || decide (r.lastFrame + 2000 < s.now)

/-- The reference of a slot meets the condition under which its loss is declared (03 R69). -/
def State.refGone (s : State) (slot : Nat) : Bool :=
  match s.refKind slot with
  | 1 => !(s.caller.ptp.any s.portHears)
  | 2 => s.refaGone
  | 3 => s.refbGone
  | 4 => s.hokutuGone (s.refInstance slot)
  | _ => true

/-- A candidate declared lost (03 R70): event and count. -/
def State.markLost (s : State) (slot : Nat) : State :=
  ((s.setRef slot { s.refState slot with valid := false }).post 0x1002 0x100 2
    (s.refEntry slot + 256 * slot)).incSat CLR_REF_LOSS_CNT

/-- The slots of which the loss is declared now, all in one instant. -/
def State.lostSlots (s : State) : List Nat := (List.range 4).filter fun k => s.refValid k && s.refGone k

/-- Every candidate that has gone is declared lost, and then, once, an active one among them is replaced or the lock state leaves
(03 R70, R73). -/
def State.loseGone (s : State) : State :=
  let s1 := s.lostSlots.foldl State.markLost s
  if s.lostSlots.contains (s.rd CLR_STATUS_ACTIVE_SLOT) then s1.leaveRef else s1

/-- REFERENCE_LOST: only a candidate that is valid, and that misses its limit, is declared lost (03 R69, R70). -/
def execReferenceLost (slot : Nat) (s : State) : Result :=
  .next (if slot < 4 ∧ s.refValid slot ∧ s.refGone slot then s.loseGone else s)

/-- A REFA word clock whose FREQ_HZ lies outside 32,000 to 192,000 is never valid (03 R90). -/
def State.refUsable (s : State) (slot : Nat) : Bool :=
  s.refKind slot != 0 &&
    !(s.refKind slot == 2 && s.rd CLR_REFA_KIND == 0 &&
      (decide (s.rd CLR_REFA_FREQ_HZ < 32000) || decide (192000 < s.rd CLR_REFA_FREQ_HZ)))

/-- REFERENCE_VALID (03 R73): a reference that meets its condition of loss is not valid. -/
def execReferenceValid (slot : Nat) (s : State) : Result :=
  .next (
    if slot < 4 ∧ s.refUsable slot ∧ !s.refGone slot then
      (s.setRef slot { valid := true }).tryAcquire
    else s)

/-- The active slot still valid and usable after a host write of CLR_REF_PRIO or CLR_REFA; a slot written anew is not declared
lost (03 R70). -/
def State.refSettle (s : State) : State :=
  let a := s.rd CLR_STATUS_ACTIVE_SLOT
  if a = 7 then s.tryAcquire else if s.refValid a then s else s.leaveRef

/-- A host write of CLR_REF_PRIO: a slot whose entry changes has not been valid since. -/
def State.refPrioWrite (s : State) (v : Nat) : State :=
  let old := s.rd CLR_REF_PRIO
  ((List.range 4).foldl (fun (x : State) k =>
    if old / 2 ^ (8 * k) % 256 = v / 2 ^ (8 * k) % 256 then x else x.setRef k {}) (s.wr CLR_REF_PRIO v)).refSettle

/-- A host write of CLR_REFA: a word clock of a frequency outside its range is not valid. -/
def State.refaWrite (s : State) (v : Nat) : State :=
  let s1 := ((s.wr CLR_REFA_FREQ_HZ (bitsOf v 25 8)).wr CLR_REFA_EDGE (bitOf v 2)).wr CLR_REFA_KIND (bitOf v 0)
  ((List.range 4).foldl (fun (x : State) k => if x.refUsable k then x else x.setRef k {}) s1).refSettle

/-- The Caller's phase moves by up to 10 ns either way, at a size the spec leaves open, with the next store tick (03 R68). -/
def State.phaseShift (s : State) : State :=
  State.took { s with caller := { s.caller with shift := s.caller.shift + s.freeAdjust 10 } }

/-- REFCLK_LOSS (03 R68): backup oscillator, FREERUN, time of day kept. -/
def execRefclkLoss (s : State) : Result :=
  .next (
    if s.isSet CLR_STATUS_BACKUP_OSC then s
    else
      (((((s.wr CLR_STATUS_BACKUP_OSC 1).wr CLR_REFCLK_PRESENT 0).phaseShift).post 0x1007 0x100 4 0).toFreerun true))

/-- REFCLK_RETURN (03 R68). -/
def execRefclkReturn (s : State) : Result :=
  .next (
    let s1 := s.wr CLR_REFCLK_PRESENT 1
    if s.isSet CLR_STATUS_BACKUP_OSC then
      (((s1.wr CLR_STATUS_BACKUP_OSC 0).phaseShift).post 0x1007 0x100 1 1).tryAcquire
    else s1)

/-- RESELECT (03 R70): the highest-priority valid reference; LOCKED leaves to ACQUIRE (R73). -/
def execReselect (s : State) : Result :=
  .next (
    let b := s.bestSlot
    if (s.lock = 1 ∨ s.lock = 2) ∧ b ≠ 7 ∧ b ≠ s.rd CLR_STATUS_ACTIVE_SLOT then
      (if s.lock = 2 then s.setLock 1 else s).selectRef b
    else s)

/-- FORCE_FREERUN: the field written, and the state it holds or releases (03 R73, R76). -/
def State.forceFreerun (s : State) (v : Nat) : State :=
  let s1 := s.wr CLR_CTRL_FORCE_FREERUN v
  if v % 2 = 1 then (if s1.lock = 0 then s1 else s1.toFreerun (s1.lock == 3)) else s1.tryAcquire

/-- FORCE_FREERUN. -/
def execForceFreerun (value : Nat) (s : State) : Result := .next (s.forceFreerun value)

/-- HOLDOVER_EXPIRY (03 R73). -/
def execHoldoverExpiry (s : State) : Result :=
  .next (
    if s.lock = 3 ∧ s.caller.holdoverAt + s.rd CLR_HOLDOVER_LIMIT_MIN * 60000000000 ≤ s.now then
      ((s.wr CLR_STATUS_HOLDOVER_EXPIRED 1).post 0x1006 0x100 3
        (satN 32 ((s.now - s.caller.holdoverAt) / 60000000000))).toFreerun true
    else s)

/-! ### Steps (03 R75, R82) -/

/-- An armed comparator's target lies at or before TAI nanosecond `t`. -/
def State.alarmReached (s : State) (a t : Nat) : Bool :=
  if s.isSetAt ALM_CTRL_MODE a then decide (s.rdAt ALM_TGT_HI a * 1000000000 + s.rdAt ALM_TGT_LO a ≤ t)
  else
    let g := s.rdAt ALM_CTRL_GRID a
    s.gridRuns g && (s.posAt g t).reached (s.rdAt ALM_TGT_HI a) (s.rdAt ALM_TGT_LINE a) (s.rdAt ALM_TGT_LO a)

/-- Comparators whose armed target a forward step from `t0` to `t1` passes (03 R87). DESIGN CHOICE (log 125): a target exactly at
`t1` counts as passed. -/
def State.alarmsPassed (s : State) (t0 t1 : Nat) : List Nat :=
  if t0 < t1 then
    (List.range 32).filter fun a => s.isSetAt ALM_CTRL_ARM a && !s.alarmReached a t0 && s.alarmReached a t1
  else []

/-- DISC and event 0x1005 of an enabled grid (03 R82); the fabric PLLs on it realign (09 R251). -/
def State.gridDiscontinuity (s : State) (g : Nat) : State :=
  if s.gridActive g then ((s.wrAt CLR_GRID_STATUS_DISC g 1).post 0x1005 0x100 2 g).pllRealign g else s

/-- Time steps to TAI nanosecond `t1` (03 R75): flags, count, events, grids, comparators, the dance card. The positions at `t1` are
those of this tick. -/
def State.stepTime (s : State) (t1 : Nat) : State :=
  let t0 := s.tai
  let s0 := s.danceStep t1
  let s1 := { s0 with
    caller := { s0.caller with stepPassed := s0.caller.stepPassed ++ s.alarmsPassed t0 t1, dueFrom := t1 }
    dance := { s0.dance with dueDone := none } }
  let s2 := ((s1.setTai t1).wr CLR_STATUS_STEPPED 1).incSat CLR_STEP_CNT
  let s3 := s2.post 0x1004 0x100 2
    (ofInt 32 (clampInt (-2147483648) 2147483647 ((t1 : Int) - (t0 : Int))))
  (List.range 8).foldl State.gridDiscontinuity s3

/-! ### The servo (03 R74, R75) -/

/-- `x` ns reduced modulo `num / den` ns to the value nearest 0, an exact half taken as positive (03 R75). DESIGN CHOICE (log 123):
a reduced offset that is no whole number of ns is rounded to the nearest one, a half up. -/
def reduceOffset (num den : Nat) (x : Int) : Int :=
  if num = 0 then x
  else
    let y := (x * den) % (num : Int)
    let z := if (num : Int) < 2 * y then y - num else y
    (2 * z + den) / (2 * (den : Int))

/-- An offset as the reference of the active slot measures it: a phase-only reference modulo its period. -/
def State.reduceBy (s : State) (slot : Nat) (x : Int) : Int :=
  match s.refKind slot with
  | 2 => if s.rd CLR_REFA_KIND = 1 then reduceOffset 1000000000 1 x else reduceOffset 1000000000 (s.rd CLR_REFA_FREQ_HZ) x
  | 3 => reduceOffset s.refbPeriod.1 s.refbPeriod.2 x
  | _ => x

/-- Largest correction in units of 0.001 ppb: MAX_SLEW_PPB, at most 100 ppm (03 R74). -/
def State.slewLimit (s : State) : Nat := min (s.rd CLR_SLEW_MAX_SLEW_PPB) 100000 * 1000

/-- The lock rules of ACQUIRE and LOCKED at a servo update with the filtered offset `x` (03 R73). -/
def State.lockRules (s : State) (x : Int) : State :=
  let w := s.rd CLR_LOCK_LOCK_NS
  let n := s.rd CLR_LOCK_LOCK_COUNT
  let inside := if x.natAbs ≤ w then s.caller.inside + 1 else 0
  let outside := if 4 * w < x.natAbs then s.caller.outside + 1 else 0
  let s1 := { s with caller := { s.caller with inside := inside, outside := outside } }
  if s.lock = 1 ∧ n ≤ inside then s1.setLock 2
  else if s.lock = 2 ∧ n ≤ outside then s1.setLock 1
  else s1

/-- A measurement taken: the filtered offset, and CLR_OFFSET that shows it. -/
def State.filterOffset (s : State) (x : Int) : State :=
  let f := Config.offsetFilter s.caller.filtered x
  ({ s with caller := { s.caller with measured := none, stepPending := false, filtered := f } }).wr CLR_OFFSET
    (ofInt 32 (clampInt (-2147483648) 2147483647 f))

/-- The servo corrects phase by changing frequency (03 R74): a free value within its limits, for the loop's gains are not in the
spec; in LOCKED it is logged for HOLDOVER. -/
def State.steerFreq (s : State) : State :=
  let s1 := (s.wr CLR_FREQ_ADJ (ofInt 32 (s.freeAdjust s.slewLimit))).took
  if s.lock = 2 then s1.logFreq else s1

/-- SERVO_UPDATE: with the offset that the active reference measured since the last one (03 R74), the step on entering ACQUIRE from
FREERUN by the reduced offset (R75), else the frequency correction and the lock rules on the filtered offset (R73). -/
def execServoUpdate (s : State) : Result :=
  .next (
    match s.caller.measured with
    | none => s
    | some m =>
      if s.lock = 1 ∨ s.lock = 2 then
        let x := s.reduceBy (s.rd CLR_STATUS_ACTIVE_SLOT) m
        let s1 := s.filterOffset x
        if s.caller.stepPending ∧ s.isSet CLR_CTRL_STEP_EN ∧ s.rd CLR_STEP_THRESH < x.natAbs then
          s1.stepTime (((s.tai : Int) - x).toNat)
        else s1.steerFreq.lockRules s1.caller.filtered
      else { s with caller := { s.caller with measured := none } })

/-- The active reference, of kind `kind`, has measured offset `x`: a servo update is due (03 R74). -/
def State.measure (s : State) (kind : Nat) (x : Int) : State :=
  if s.rd CLR_STATUS_ACTIVE_SLOT ≠ 7 ∧ s.refKind (s.rd CLR_STATUS_ACTIVE_SLOT) = kind then
    { s with caller := { s.caller with measured := some x } }
  else s

/-! ### PTP (03 R71, R72) -/

/-- Order of the best master clock algorithm over what the messages carry (PRESUMED, log 15: the data set comparison of IEEE
1588-2019 for two grandmasters, then steps removed). -/
def ptpBetter (a b : PtpMaster) : Bool :=
  if a.priority1 ≠ b.priority1 then decide (a.priority1 < b.priority1)
  else if a.clockClass ≠ b.clockClass then decide (a.clockClass < b.clockClass)
  else if a.accuracy ≠ b.accuracy then decide (a.accuracy < b.accuracy)
  else if a.variance ≠ b.variance then decide (a.variance < b.variance)
  else if a.priority2 ≠ b.priority2 then decide (a.priority2 < b.priority2)
  else if a.gmId ≠ b.gmId then decide (a.gmId < b.gmId)
  else decide (a.stepsRemoved < b.stepsRemoved)

/-- The best of the ports that hear a master. -/
def bestPort (m : SMap PtpPort) : Option (Nat × PtpPort) :=
  match m with
  | [] => none
  | e :: r =>
    match bestPort r with
    | none => some e
    | some b => if ptpBetter b.2.master e.2.master then some b else some e

/-- The algorithm run across the enabled ports by the steward: the grandmaster fields, and event 0x100A when the grandmaster
changes. DESIGN CHOICE (log 127): another port that hears the same grandmaster is such a change. -/
def State.runBmca (s : State) : State :=
  if !s.stewardReady then s
  else
    match bestPort (s.caller.ptp.filter s.portHears) with
    | none => { s with caller := { s.caller with ptpPort := none } }
    | some b =>
      let m := b.2.master
      let changed := s.caller.ptpPort ≠ some b.1 ∨ s.rd CLR_PTP_GM_ID ≠ m.gmId % 2 ^ 64
      let s1 := (((({ s with caller := { s.caller with ptpPort := some b.1 } }).wr CLR_PTP_GM_ID m.gmId).wr
        CLR_PTP_GM_INFO_PRIORITY1 m.priority1).wr CLR_PTP_GM_INFO_CLOCK_CLASS m.clockClass).wr
        CLR_PTP_GM_INFO_STEPS_REMOVED m.stepsRemoved
      (if changed then s1.post 0x100A 0x100 1 b.1 else s1).updateTod

/-- currentUtcOffset of the grandmaster copied (03 R72); UTC_VALID is what the message says of it (DEDUCED, log 135). -/
def State.copyUtc (s : State) (offset : Int) (valid : Bool) : State :=
  let v := ofInt 16 offset
  let s1 := (s.wr CLR_UTC_UTC_OFFSET v).wr CLR_UTC_UTC_VALID (flag valid)
  if s.rd CLR_UTC_UTC_OFFSET = v then s1 else s1.post 0x100B 0x100 1 (ofInt 32 offset)

/-- Words of the scratchpad written from word `w` on, from bytes, 8 to a word. -/
def State.spadBytes (s : State) (w : Nat) (n : Nat) (bs : List Nat) : State :=
  match n with
  | 0 => s
  | k + 1 => State.spadBytes (s.spadPut w { data := ofBytes (bs.take 8), poison := false }) (w + 1) k (bs.drop 8)

/-- What a port hears, replaced. -/
def State.setPtp (s : State) (port : Nat) (p : PtpPort) : State :=
  { s with caller := { s.caller with ptp := SMap.put s.caller.ptp port p } }

/-- The function takes a message of port `port`: its domain and its transport are those set (03 R71). -/
def State.ptpTakes (s : State) (port : Nat) (h : PtpHeader) : Bool :=
  h.domain == s.rd CLR_PTP_CTRL_DOMAIN && h.ipv6 == s.isSetAt CLR_PTP_PORT_IPV6 port

/-- An Announce: 2^-3 s to 2^1 s. -/
def State.ptpAnnounce (s : State) (port : Nat) (h : PtpHeader) (m : PtpMaster) : State :=
  if h.logInterval < -3 ∨ 1 < h.logInterval then s
  else
    let heard : PtpPort := { master := m, heardAt := s.now, logInterval := h.logInterval }
    let p : PtpPort :=
      match SMap.find s.caller.ptp port with
      | some o => { o with master := m, heardAt := s.now, logInterval := h.logInterval }
      | none => heard
    let s1 := (s.setPtp port p).runBmca
    if s1.caller.ptpPort = some port ∧ s1.stewardReady then s1.copyUtc m.utcOffset m.utcValid else s1

/-- The times of a Sync known: the port's offset, and from the chosen port a measurement of the active PTP reference (03 R71, R74;
PRESUMED, log 15: device time less the master's and less the path delay). -/
def State.ptpOffset (s : State) (port : Nat) (p : PtpPort) (origin at_ : Int) : State :=
  let s1 := s.setPtp port { p with waiting := none, lastSync := some (origin, at_) }
  if s.caller.ptpPort = some port then s1.measure 1 (at_ - origin - p.pathDelay) else s1

/-- PTP_MESSAGE on port `port`, if it is enabled and its transport and domain are the port's: Announce and Sync outside their
interval ranges are refused; one-step and two-step masters; the path delay by E2E or by P2P as CLR_PTP_CTRL.P2P says. An event
message is timestamped with the device's time (03 R71). -/
def execPtpMessage (port : Nat) (message : PtpMessage) (s : State) : Result :=
  .next (
    if !(decide (port < 4) && s.isSetAt CLR_PTP_PORT_EN port) then s
    else
      match message, SMap.find s.caller.ptp port with
      | .announce h m, _ => if s.ptpTakes port h then s.ptpAnnounce port h m else s
      | .sync h twoStep origin correction, some p =>
        if !s.ptpTakes port h ∨ h.logInterval < -7 ∨ -1 < h.logInterval then s
        else if twoStep then s.setPtp port { p with waiting := some (h.seq, (s.tai : Int) - correction) }
        else s.ptpOffset port p (origin + correction) s.tai
      | .followUp h origin correction, some p =>
        match p.waiting with
        | some (q, t) => if s.ptpTakes port h ∧ q = h.seq then s.ptpOffset port p (origin + correction) t else s
        | none => s
      | .delayResp h sent receive correction, some p =>
        match p.lastSync with
        | some (t1, t2) =>
          if s.ptpTakes port h ∧ !s.isSet CLR_PTP_CTRL_P2P then
            s.setPtp port { p with pathDelay := (t2 - t1 + (receive - correction - sent)) / 2 }
          else s
        | none => s
      | .peerDelayResp h sent receive answered returned, some p =>
        if s.ptpTakes port h ∧ s.isSet CLR_PTP_CTRL_P2P then
          s.setPtp port { p with pathDelay := (returned - sent - (answered - receive)) / 2 }
        else s
      | .metadata h bytes, _ =>
        let tlv := bytes.take 256
        if !s.ptpTakes port h ∨ !s.stewardReady then s
        else if s.caller.metadata = tlv then s
        else
          (({ s with caller := { s.caller with metadata := tlv } }).spadBytes 0x7E00 (ceilDiv (4 + tlv.length) 8)
            (bytesOf 4 tlv.length ++ tlv)).post 0x100C 0x100 0 tlv.length
      | _, _ => s)

/-- ANNOUNCE_TIMEOUT (03 R69, R71): a port whose announce receipt timeout has passed hears no master; every PTP candidate is
declared lost once no port hears one. -/
def execAnnounceTimeout (port : Nat) (s : State) : Result :=
  .next (
    match SMap.find s.caller.ptp port with
    | none => s
    | some p =>
      if p.heardAt + s.announceTimeout p ≤ s.now then
        (State.runBmca { s with caller := { s.caller with ptp := SMap.erase s.caller.ptp port } }).loseGone
      else s)

/-! ### Phase references (03 R69, R75) -/

/-- The offset an edge on REFA gives: device time less the nearest whole multiple of the period. -/
def State.refaOffset (s : State) : Int :=
  if s.rd CLR_REFA_KIND = 1 then reduceOffset 1000000000 1 s.tai
  else reduceOffset 1000000000 (s.rd CLR_REFA_FREQ_HZ) s.tai

/-- Edges on REFA to a servo update: one of 1 PPS, 1,000 of a word clock (03 R74). -/
def State.refaPerUpdate (s : State) : Nat := if s.rd CLR_REFA_KIND = 1 then 1 else 1000

/-- REFA_EDGE: the edge CLR_REFA.EDGE selects is timed and counted, and the last of a servo update gives its offset. -/
def execRefaEdge (falling : Bool) (s : State) : Result :=
  .next (
    if s.isSet CLR_REFA_EDGE == falling then
      let n := s.caller.refaEdges + 1
      let s1 := { s with caller := { s.caller with
          refaEdges := if n < s.refaPerUpdate then n else 0
          refaLast := some s.now
          refaPeriod := s.caller.refaLast.map fun t => s.now - t } }
      if n < s.refaPerUpdate then s1 else s1.measure 2 s.refaOffset
    else s)

/-- The offset an edge on REFB gives: device time, less CLR_REFB_OFFSET, less the nearest frame or line start. -/
def State.refbOffset (s : State) : Int :=
  let g := s.rd CLR_REFB_GRID
  let t := (s.tai : Int) - toSigned 32 (s.rd CLR_REFB_OFFSET) - s.gridA g
  reduceOffset s.refbPeriod.1 s.refbPeriod.2 t

/-- REFB_EDGE. -/
def execRefbEdge (falling : Bool) (s : State) : Result :=
  .next (
    if s.isSet CLR_REFB_EDGE == falling then
      ({ s with caller := { s.caller with refbLast := some s.now } }).measure 3 s.refbOffset
    else s)

/-! ### Time written and read (03 R76, R83) -/

/-- SET_TIME: a write of CLR_SET_NS, `delay` store ticks before its execution. -/
def execSetTime (ns delay : Nat) (s : State) : Result :=
  .next (
    let s0 := s.wr CLR_SET_NS ns
    if s.lock = 0 ∧ ns ≤ 999999999 then
      (s0.stepTime (s.rd CLR_SET_SEC * 1000000000 + ns + delay)).wr CLR_STATUS_TOD_VALID 1
    else s0.wr CLR_STATUS_SET_REFUSED 1)

/-- TIME_NS_READ: the nanoseconds, with the seconds of the same tick latched. -/
def execTimeNsRead (s : State) : Result := .next ((s.wr CLR_TIME_SEC s.caller.sec).answer s.caller.ns)

/-- POS_TICK_READ: the tick, with line, field and frame of the same tick latched (03 R83). DESIGN CHOICE (log 124): for a grid that
does not run the read answers 0 and latches nothing. -/
def execPosTickRead (grid : Nat) (s : State) : Result :=
  .next (
    if s.gridRuns grid then
      let p := s.pos grid
      (((s.wrAt CLR_GRID_POS_LINE grid p.line).wrAt CLR_GRID_POS_FIELD grid (s.fieldOf grid p)).wrAt
        CLR_GRID_POS_FRAME grid p.frame48).answer p.tick
    else s.answer 0)

/-! ### Pulse outputs (03 R84, 18 R479) -/

/-- A pulse output. -/
def State.pulse (s : State) (n : Nat) : PulseState := SMap.read s.caller.pulses {} n

/-- A pulse output recorded. -/
def State.setPulse (s : State) (n : Nat) (p : PulseState) : State :=
  { s with caller := { s.caller with pulses := SMap.store s.caller.pulses {} n p } }

/-- Fields of CLR_PULSEn other than EN, always accepted; WIDTH 0 is stored as 1. -/
def State.pulseFields (s : State) (n v : Nat) : State :=
  (((s.wrAt CLR_PULSE_WIDTH n (max 1 (bitsOf v 23 12))).wrAt CLR_PULSE_UNIT n (bitsOf v 11 10)).wrAt CLR_PULSE_POL n
    (bitOf v 9)).wrAt CLR_PULSE_SOURCE n (bitsOf v 4 0)

/-- In this tick the output's grid reaches tick 0 of a frame, field or line, or its comparator has fired, and no pulse has started
yet (03 R84). -/
def State.pulseDue (s : State) (n : Nat) : Bool :=
  let u := s.rdAt CLR_PULSE_UNIT n
  let g := s.rdAt CLR_PULSE_SOURCE n
  (s.pulse n).startedAt != some s.now &&
    (if u = 3 then (s.pulse n).firedAt == some s.now
     else s.gridRuns g && (s.duePos g).any fun (p : GridPos) =>
       p.tick == 0 && (u == 2 || p.line == 0 || (u == 1 && s.gridTwoFields g && p.line == s.halfLines g)))

/-- TAI nanosecond of the next pulse of a grid output after `t`. -/
def State.nextPulse (s : State) (n : Nat) (t : Int) : Int :=
  let g := s.rdAt CLR_PULSE_SOURCE n
  match s.rdAt CLR_PULSE_UNIT n with
  | 2 => s.lineStart g (s.lineAt g t + 1)
  | 1 =>
    let a := s.nextOccurrence g t 0 0 1
    if s.gridTwoFields g then min a (s.nextOccurrence g t (s.halfLines g) 0 1) else a
  | _ => s.nextOccurrence g t 0 0 1

/-- TAI nanosecond of a comparator's target (03 R86, R87): on a grid, in the frame of the target's number that is nearest to now's
numbering, and at the next line's start where the tick lies beyond its line. -/
def State.alarmTime (s : State) (a : Nat) : Int :=
  if s.isSetAt ALM_CTRL_MODE a then s.rdAt ALM_TGT_HI a * 1000000000 + s.rdAt ALM_TGT_LO a
  else
    let g := s.rdAt ALM_CTRL_GRID a
    let p := s.pos g
    let n : Int := p.frame - p.frame48 + s.rdAt ALM_TGT_HI a
    min (s.timeOf g n (s.rdAt ALM_TGT_LINE a) (s.rdAt ALM_TGT_LO a)) (s.timeOf g n (s.rdAt ALM_TGT_LINE a + 1) 0)

/-- Ticks from now to 8 ns before TAI nanosecond `t`. -/
def State.ticksBefore (s : State) (t : Int) : Nat := (t - s.tai - 8).toNat

/-- Length of a pulse that starts now: WIDTH × 8 ns, cut short at 8 ns before the next pulse of its grid, or before the next firing
of its comparator where that is armed. -/
def State.pulseLength (s : State) (n : Nat) : Nat :=
  let w := 8 * s.rdAt CLR_PULSE_WIDTH n
  if s.rdAt CLR_PULSE_UNIT n = 3 then
    let a := s.rdAt CLR_PULSE_SOURCE n
    if s.isSetAt ALM_CTRL_ARM a then min w (s.ticksBefore (s.alarmTime a)) else w
  else min w (s.ticksBefore (s.nextPulse n s.tai))

/-- A pulse under way cut short at 8 ns before the firing of comparator `a`, which selects it and has just been armed. -/
def State.cutPulse (a : Nat) (s : State) (n : Nat) : State :=
  if s.rdAt CLR_PULSE_UNIT n = 3 ∧ s.rdAt CLR_PULSE_SOURCE n = a then
    s.setPulse n { s.pulse n with endsAt := min (s.pulse n).endsAt (s.now + s.ticksBefore (s.alarmTime a)) }
  else s

/-- PULSE_OUTPUT_PULSE: a due pulse of an enabled output whose land the Caller alternate owns. -/
def execPulseOutputPulse (output : Nat) (s : State) : Result :=
  .next (
    if output < 8 ∧ s.isSetAt CLR_PULSE_EN output ∧ s.landOwnedBy output 2 ∧ s.pulseDue output then
      s.setPulse output { s.pulse output with
        endsAt := s.now + s.pulseLength output, count := (s.pulse output).count + 1, startedAt := some s.now }
    else s)

/-! ### Comparators (03 R85 to R87) -/

/-- A comparator's settings break a limit (03 R87). -/
def State.alarmBad (s : State) (a : Nat) : Bool :=
  let rep := s.rdAt ALM_CTRL_REPEAT a
  if s.isSetAt ALM_CTRL_MODE a then decide (999999999 < s.rdAt ALM_TGT_LO a) || rep != 0
  else decide (s.gridL (s.rdAt ALM_CTRL_GRID a) ≤ s.rdAt ALM_TGT_LINE a) || decide (1048575 < s.rdAt ALM_TGT_LO a) || rep == 3

/-- The target of a comparator lies before this store tick. -/
def State.alarmPast (s : State) (a : Nat) : Bool := s.alarmReached a (s.tai - 1)

/-- A comparator armed with the settings it holds, or left unarmed with BAD_TARGET (03 R87). -/
def State.alarmArm (s : State) (a : Nat) (past : Bool) : State :=
  if s.alarmBad a then (s.wrAt ALM_CTRL_ARM a 0).wrAt ALM_STAT_BAD_TARGET a 1
  else
    let s1 := (List.range 8).foldl (State.cutPulse a) (s.wrAt ALM_CTRL_ARM a 1)
    { s1 with caller := { s1.caller with
        armTick := SMap.put s1.caller.armTick a s.now
        armedPast := if past then a :: s1.caller.armedPast.filter (· != a) else s1.caller.armedPast.filter (· != a)
        stepPassed := s1.caller.stepPassed.filter (· != a) } }

/-- The host may write a comparator's registers: its own, and ALM24's for the power manager (18 R485). -/
def hostAlarm (a : Nat) : Bool := a == 24 || decide (27 ≤ a)

/-- A host write to a comparator outside its partition (18 R485). -/
def State.alarmRefuse (s : State) (a : Nat) : State := s.resRefuse RES_ERR_ALM_REFUSED 0x93 6 0 a

/-- Fields of ALM_CTRL other than ARM. -/
def State.alarmFields (s : State) (a v : Nat) : State :=
  (((s.wrAt ALM_CTRL_MODE a (bitOf v 28)).wrAt ALM_CTRL_GRID a (bitsOf v 26 24)).wrAt ALM_CTRL_REPEAT a
    (bitsOf v 17 16)).wrAt ALM_CTRL_EVENT a (bitOf v 9)

/-- ALARM_ARM: a host write of ALMa's control register. -/
def execAlarmArm (comparator value : Nat) (s : State) : Result :=
  .next (
    if 31 < comparator then s
    else if !hostAlarm comparator then s.alarmRefuse comparator
    else
      let s1 := s.alarmFields comparator value
      if bitOf value 31 = 1 then s1.alarmArm comparator (s1.alarmPast comparator)
      else s1.wrAt ALM_CTRL_ARM comparator 0)

/-- The target moved to the first occurrence after the firing tick (03 R86). -/
def State.alarmRepeat (s : State) (a : Nat) : State :=
  let g := s.rdAt ALM_CTRL_GRID a
  let p := s.pos g
  let l := s.rdAt ALM_TGT_LINE a
  let t := s.rdAt ALM_TGT_LO a
  match s.rdAt ALM_CTRL_REPEAT a with
  | 1 =>
    let here := decide (p.line < l) || (p.line == l && decide (p.tick < t))
    s.wrAt ALM_TGT_HI a (if here then p.frame48 else (p.frame48 + 1) % 2 ^ 48)
  | 2 =>
    if p.tick < t then (s.wrAt ALM_TGT_HI a p.frame48).wrAt ALM_TGT_LINE a p.line
    else if p.line + 1 < s.gridL g then (s.wrAt ALM_TGT_HI a p.frame48).wrAt ALM_TGT_LINE a (p.line + 1)
    else (s.wrAt ALM_TGT_HI a ((p.frame48 + 1) % 2 ^ 48)).wrAt ALM_TGT_LINE a 0
  | _ => s.wrAt ALM_CTRL_ARM a 0

/-- An enabled pulse output that selects comparator `a` is due. -/
def State.pulseFrom (a : Nat) (s : State) (n : Nat) : State :=
  if s.rdAt CLR_PULSE_UNIT n = 3 ∧ s.rdAt CLR_PULSE_SOURCE n = a ∧ s.isSetAt CLR_PULSE_EN n then
    s.setPulse n { s.pulse n with firedAt := some s.now }
  else s

/-- The comparator fires in this tick: armed in an earlier one, target reached. -/
def State.alarmDue (s : State) (a : Nat) : Bool :=
  s.isSetAt ALM_CTRL_ARM a && SMap.find s.caller.armTick a != some s.now && s.alarmReached a s.tai

/-- A comparator fires (03 R86, R87). -/
def State.alarmFire (s : State) (a : Nat) : State :=
  let past := s.caller.armedPast.contains a
  let disc := s.caller.stepPassed.contains a
  let s1 := (s.wrAt ALM_STAT_FIRED a 1).addSatAt ALM_FIRE_CNT a 1
  let s2 := if past then s1.wrAt ALM_STAT_ARMED_PAST a 1 else s1
  let s3 := if disc then s2.wrAt ALM_STAT_DISC_FIRED a 1 else s2
  let s4 := if s.isSetAt ALM_CTRL_EVENT a then s3.post 0x1009 (0x120 + a) 0 (a + 256 * flag past + 512 * flag disc) else s3
  let s5 := (List.range 8).foldl (State.pulseFrom a) s4
  { s5.alarmRepeat a with caller := { (s5.alarmRepeat a).caller with
      armedPast := s5.caller.armedPast.filter (· != a), stepPassed := s5.caller.stepPassed.filter (· != a) } }

end Sys2Proof.Machine
end

