-- ==== Sys2Proof/Machine/Dance.lean ====
section
/-! DEFINITION. The dance card engine (04): writing the banks, swapping them, the execution queue, and the actions that
act on the engine's own neighbours (EVENT, ALARM, FENCE, the log). -/

namespace Sys2Proof.Machine

/-! ### Writing the banks (04 R91 to R94) -/

/-- Bank and entry of a BAR0 address in the dance card window. -/
def danceBankOf (addr : Nat) : Nat := (addr - 0x800000) / 0x100000
def danceEntryOf (addr : Nat) : Nat := (addr - 0x800000) % 0x100000 / 16

/-- The stored value of an entry; during a copy, a shadow entry that has been copied reads its new content (04 R94). -/
def State.danceEntry (s : State) (b e : Nat) : Nat := SMap.read (s.bankView b) 0 e

/-- The shadow bank takes no host writes: a check, an armed swap or a copy (04 R93, R94). -/
def State.shadowLocked (s : State) : Bool :=
  s.rd DNC_SWAP_STAT_STATE == 1 || s.rd DNC_SWAP_STAT_STATE == 2 || s.dance.copyFrom.isSome

/-- A host write to bank `b` is ignored: the error it sets (04 R93). -/
def State.danceRefuse (s : State) (b : Nat) : Option Field :=
  if b = s.activeBank then some DNC_ERR_ACTIVE_WRITE else if s.shadowLocked then some DNC_ERR_SHADOW_LOCKED else none

/-- A word below the top word staged for its entry; words staged for another entry are discarded (04 R92). -/
def State.danceStage (s : State) (b e k data : Nat) : State :=
  let words := if s.dance.staged = some (b, e) then s.dance.stagedWords else []
  { s with dance := { s.dance with staged := some (b, e), stagedWords := SMap.put words k (data % 2 ^ 32) } }

/-- DNC_ENTRY_WORD_STAGE. -/
def execDncEntryWordStage (addr data : Nat) (s : State) : Result :=
  .next (
    let b := danceBankOf addr
    match s.danceRefuse b with
    | some f => s.wr f 1
    | none => if addr % 16 / 4 = 3 then s else s.danceStage b (danceEntryOf addr) (addr % 16 / 4) data)

/-- Word `k` that a commit gives an entry: the staged word, or the stored one. -/
def State.commitWord (s : State) (b e k : Nat) : Nat :=
  let stored := SMap.read (s.danceBank b) 0 e / 2 ^ (32 * k) % 2 ^ 32
  if s.dance.staged = some (b, e) then SMap.read s.dance.stagedWords stored k else stored

/-- The entry given its new value; what was staged for it is used up. DESIGN CHOICE (log 120): reserved bits are stored as they are
written. -/
def State.danceCommit (s : State) (b e top : Nat) : State :=
  let v := s.commitWord b e 0 + s.commitWord b e 1 * 2 ^ 32 + s.commitWord b e 2 * 2 ^ 64 + top % 2 ^ 32 * 2 ^ 96
  let s1 := s.setDanceBank b (SMap.store (s.danceBank b) 0 e v)
  if s.dance.staged = some (b, e) then { s1 with dance := { s1.dance with staged := none, stagedWords := [] } } else s1

/-- DNC_ENTRY_COMMIT: a 32-bit write to +0xC, or a 64-bit write to +0x8 (04 R92). -/
def execDncEntryCommit (addr size data : Nat) (s : State) : Result :=
  .next (
    let b := danceBankOf addr
    let e := danceEntryOf addr
    match s.danceRefuse b with
    | some f => s.wr f 1
    | none =>
      if size = 8 then (s.danceStage b e 2 data).danceCommit b e (data / 2 ^ 32)
      else s.danceCommit b e data)

/-- DNC_COPY: ignored while a swap is checked or armed, and while a copy runs (04 R94). -/
def execDncCopy (s : State) : Result :=
  .next (
    if s.shadowLocked then s
    else
      ({ s with dance := { s.dance with
          copyFrom := some (s.now, s.activeBank), staged := none, stagedWords := [] } }).wr DNC_STATUS_COPY_BUSY 1)

/-- DNC_COPY_DONE after 32,768 store ticks. -/
def execDncCopyDone (s : State) : Result :=
  .next (
    match s.dance.copyFrom with
    | none => s
    | some (start, from_) =>
      if s.now < start + 32768 then s
      else
        (({ s with dance := { s.dance with copyFrom := none } }).setDanceBank (1 - from_) (s.danceBank from_)).wr
          DNC_STATUS_COPY_BUSY 0)

/-! ### Execution and swap (04 R101 to R106) -/

/-- DNC_ENABLE: a write of DNC_CTRL's EN and LOG_EN; clearing EN drops the waiting actions. -/
def execDncEnable (value : Nat) (s : State) : Result :=
  .next (
    let s1 := (s.wr DNC_CTRL_EN (bitOf value 0)).wr DNC_CTRL_LOG_EN (bitOf value 8)
    if s.isSet DNC_CTRL_EN && bitOf value 0 == 0 then s1.danceDrop else s1)

/-- The swap settings of DNC_SWAP_CTRL. -/
def State.swapFields (s : State) (v : Nat) : State :=
  (s.wr DNC_SWAP_CTRL_GRID (bitsOf v 6 4)).wr DNC_SWAP_CTRL_ANY_FRAME (bitOf v 2)

/-- A swap refused (04 R101): state, entry, code, event 0x2003. -/
def State.swapRefuse (s : State) (entry code : Nat) : State :=
  ((((s.wr DNC_SWAP_STAT_STATE 3).wr DNC_SWAP_CTRL_ARM 0).wr DNC_SWAP_STAT_ERR_ENTRY entry).wr DNC_SWAP_STAT_ERR_CODE
    code).post 0x2003 0x200 2 (entry % 2 ^ 16 * 2 ^ 16 + code)

/-- CANCEL (04 R101): code 0x09 while CHECKING or ARMED, else no effect. -/
def State.swapCancel (s : State) : State :=
  if s.rd DNC_SWAP_STAT_STATE = 1 ∨ s.rd DNC_SWAP_STAT_STATE = 2 then s.swapRefuse 0xFFFF 9 else s

/-- DNC_SWAP_ARM: a write of DNC_SWAP_CTRL. CANCEL with ARM acts as CANCEL alone; ARM is ignored while CHECKING or ARMED (04 R101). -/
def execDncSwapArm (value : Nat) (s : State) : Result :=
  .next (
    let s1 := s.swapFields value
    if bitOf value 1 = 1 then s1.swapCancel
    else if bitOf value 0 = 0 ∨ s.rd DNC_SWAP_STAT_STATE = 1 ∨ s.rd DNC_SWAP_STAT_STATE = 2 then s1
    else (s1.wr DNC_SWAP_STAT_STATE 1).wr DNC_SWAP_CTRL_ARM 1)

/-- The swap position breaks a limit (04 R102 code 0x08). -/
def State.swapBad (s : State) : Bool :=
  let g := s.rd DNC_SWAP_CTRL_GRID
  !s.gridActive g || decide (s.gridL g ≤ s.rd DNC_SWAP_LINE) || decide (s.lineNs g ≤ s.rd DNC_SWAP_TICK)

/-- The swap position's line and tick are reached in this tick. -/
def State.atSwapTick (s : State) : Bool :=
  (s.duePos (s.rd DNC_SWAP_CTRL_GRID)).any fun (p : GridPos) => p.line == s.rd DNC_SWAP_LINE && p.tick == s.rd DNC_SWAP_TICK

/-- The swap position with its frame lies at or before now. -/
def State.swapReached (s : State) : Bool :=
  (s.pos (s.rd DNC_SWAP_CTRL_GRID)).reached (s.rd DNC_SWAP_FRAME) (s.rd DNC_SWAP_LINE) (s.rd DNC_SWAP_TICK)

/-- The swap position lies before now (04 R102 code 0x07). -/
def State.swapPast (s : State) : Bool :=
  !s.isSet DNC_SWAP_CTRL_ANY_FRAME && s.swapReached &&
    !(s.atSwapTick && (s.pos (s.rd DNC_SWAP_CTRL_GRID)).frame48 == s.rd DNC_SWAP_FRAME)

/-- DNC_SWAP_CHECK_DONE: position, entries, past, in this order (04 R101). -/
def execDncSwapCheckDone (s : State) : Result :=
  .next (
    if s.rd DNC_SWAP_STAT_STATE ≠ 1 then s
    else if s.swapBad then s.swapRefuse 0xFFFF 8
    else
      match s.bankError (s.bankView (1 - s.activeBank)) with
      | some (e, c) => s.swapRefuse e c
      | none =>
        if s.swapPast then s.swapRefuse 0xFFFF 7
        else
          { s.wr DNC_SWAP_STAT_STATE 2 with dance := { s.dance with swapPassed := false } })

/-- DNC_SWAP_CANCEL (04 R101). -/
def execDncSwapCancel (s : State) : Result := .next s.swapCancel

/-- An armed swap takes place in this tick (04 R104, R105). DESIGN CHOICE (log 128): its position is that of the registers as they
stand, also where they were written while it was CHECKING or ARMED. -/
def State.swapDue (s : State) : Bool :=
  s.rd DNC_SWAP_STAT_STATE == 2 && s.gridRuns (s.rd DNC_SWAP_CTRL_GRID) &&
    (s.dance.swapPassed || (if s.isSet DNC_SWAP_CTRL_ANY_FRAME then s.atSwapTick else s.swapReached))

/-- DNC_BANK_SWAP (04 R104): actions of the old bank due in this tick do not execute, those that wait stay ahead. -/
def execDncBankSwap (s : State) : Result :=
  .next (
    if s.swapDue then
      let b := 1 - s.activeBank
      let n := validEntries (s.bankView b)
      let s1 := { s with dance := { s.dance with
        fired := [], swapPassed := false, dueDone := none
        queue := s.dance.queue.filter fun (q : QueuedAction) => q.dueAt != s.now } }
      (((((s1.wr DNC_STATUS_ACTIVE_BANK b).wr DNC_SWAP_STAT_STATE 0).wr DNC_SWAP_CTRL_ARM 0).wr DNC_SWAP_MONO
        s.now).wr DNC_VALID_CNT n).post 0x2002 0x200 1 (b + n * 2 ^ 15)
    else s)

/-! ### The execution queue (04 R107, R108) -/

/-- Actions executed in this store tick. -/
def State.executedNow (s : State) : Nat := if s.dance.execTick = s.now then s.dance.execCount else 0

/-- The due entries as queued actions; the slip counts the actions ahead, four to a tick. -/
def State.enqueue (s : State) (ahead : Nat) (es : List (Nat × Nat)) : List QueuedAction :=
  match es with
  | [] => []
  | e :: r =>
    { entry := e.1, bank := s.activeBank, word := e.2, dueAt := s.now, slip := ahead / 4 } :: s.enqueue (ahead + 1) r

/-- DNC_ENTRY_DUE: the entries due in this tick join the end of the queue in ascending index. -/
def execDncEntryDue (s : State) : Result :=
  .next (
    if s.danceRunning && s.dance.dueDone != some s.now then
      let due : List (Nat × Nat) := (s.bankView s.activeBank).filter fun (e : Nat × Nat) => s.entryDue e.1 e.2
      { s with dance := { s.dance with
          dueDone := some s.now
          queue := s.dance.queue ++ s.enqueue (s.executedNow + s.dance.queue.length) due
          fired := s.dance.fired ++
            ((due.filter fun (e : Nat × Nat) => entryRepeat e.2 == 0).map fun (e : Nat × Nat) => e.1) } }
    else s)

/-- A log record of an executed action (04 R113). -/
def danceRecord (q : QueuedAction) (mono : Nat) : Nat :=
  q.entry * 2 ^ 48 + q.bank * 2 ^ 47 + flag (decide (0 < q.slip)) * 2 ^ 46 + entryAction q.word % 4 * 2 ^ 44 +
    mono % 2 ^ 44

/-- The record of an action put into the log buffer, or dropped when it is full (04 R113, R114). -/
def State.danceLog (s : State) (q : QueuedAction) : State :=
  if s.isSet DNC_CTRL_LOG_EN && entryLog q.word then
    if s.dance.logBuffer.length < 64 then
      { s with dance := { s.dance with logBuffer := s.dance.logBuffer ++ [danceRecord q s.now] } }
    else
      ((s.incSat DNC_LOG_LOST_CNT).wr DNC_ERR_LOG_LOST 1).postLimited 0x2007 0 0x200 1 sat32
  else s

/-- Slips counted (04 R107, R108); event 0x2005 at most once per frame of the entry's grid. -/
def State.danceSlip (s : State) (q : QueuedAction) : State :=
  if q.slip = 0 then s
  else
    let s1 := (s.incSat DNC_SLIP_CNT).wr DNC_SLIP_MAX (max (s.rd DNC_SLIP_MAX) (satN 16 q.slip))
    let g := entryGrid q.word
    let f := (s.pos g).frame48
    if s.rd DNC_SLIP_LIMIT < q.slip ∧ SMap.find s.dance.slipPosted g ≠ some f then
      ({ s1 with dance := { s1.dance with slipPosted := SMap.put s1.dance.slipPosted g f } }).post 0x2005 0x200 1
        (q.entry * 2 ^ 16 + satN 16 q.slip)
    else s1

/-- The first action of the queue, when its code is `code` and a slot of this tick is left. -/
def State.nextAction (s : State) (code : Nat) : Option QueuedAction :=
  match s.dance.queue with
  | [] => none
  | q :: _ => if s.danceRunning && entryAction q.word == code && decide (s.executedNow < 4) then some q else none

/-- An action executed: it leaves the queue, is counted, its slip and log record are taken, and `body` acts. -/
def State.runAction (s : State) (code : Nat) (body : QueuedAction → State → State) : State :=
  match s.nextAction code with
  | none => s
  | some q =>
    let s1 := { s with dance := { s.dance with
      queue := s.dance.queue.tail, execTick := s.now, execCount := s.executedNow + 1 } }
    body q (((s1.incSat DNC_EXEC_CNT).danceSlip q).danceLog q)

/-- An action that does nothing because its flow or land no longer qualifies (04 R111). -/
def State.actionFailed (s : State) (q : QueuedAction) (reason : Nat) : State :=
  (s.incSat DNC_FAIL_CNT).post 0x2004 0x200 2 (q.entry * 2 ^ 16 + entryAction q.word * 2 ^ 8 + reason)

/-- DNC_EVENT (04 R97). -/
def execDncEvent (s : State) : Result :=
  .next (s.runAction 0x0B fun q s =>
    s.post 0x2001 0x200 (bitsOf (entryOperand q.word) 35 32) (bitsOf (entryOperand q.word) 31 0))

/-- A comparator that is due fires before an action arms it again (04 R98). -/
def State.fireDue (s : State) (a : Nat) : State := if s.alarmDue a then s.alarmFire a else s

/-- DNC_ALARM (04 R98): a once comparator with a TAI target DELAY ticks ahead; a firing of the same tick comes first. -/
def execDncAlarm (s : State) : Result :=
  .next (s.runAction 0x0C fun q x =>
    let o := entryOperand q.word
    let a := bitsOf o 4 0
    let s := x.fireDue a
    let t := s.tai + bitsOf o 63 32
    ((((((s.wrAt ALM_CTRL_MODE a 1).wrAt ALM_CTRL_REPEAT a 0).wrAt ALM_CTRL_EVENT a (bitOf o 5)).wrAt ALM_TGT_HI a
      (t / 1000000000)).wrAt ALM_TGT_LO a (t % 1000000000))).alarmArm a false)

/-- DNC_FENCE (04 R97): it takes a slot and is logged. -/
def execDncFence (s : State) : Result := .next (s.runAction 0x0D fun _ s => s)

/-- DNC_LOG_WRITE (04 R113): the oldest buffered record goes to the scratchpad. -/
def execDncLogWrite (s : State) : Result :=
  .next (
    match s.dance.logBuffer with
    | [] => s
    | r :: rest =>
      let i := s.rd DNC_LOG_WR
      ((({ s with dance := { s.dance with logBuffer := rest } }).spadPut (0xC000 + i) { data := r, poison := false })).wr
        DNC_LOG_WR ((i + 1) % 8192))

end Sys2Proof.Machine
end

