-- ==== Sys2Proof/Machine/GuardOps.lean ====
section
/-! DEFINITION. What every block asks of the guards (14): a test started, the state of a riser group, a flow held for
the host. -/

namespace Sys2Proof.Machine

/-- Key of a resource: KIND and INDEX of 14 R406. -/
def resourceKey (kind index : Nat) : Nat := kind * 2 ^ 28 + index % 2 ^ 28

/-- KINDs of R406. -/
def kindFrame : Nat := 1
def kindSignal : Nat := 2
def kindRiser : Nat := 3
def kindColumn : Nat := 4
def kindRegion : Nat := 5
def kindBank : Nat := 6
def kindChannel : Nat := 7
def kindLane : Nat := 8
def kindGuard : Nat := 9

/-- Causes of R405. -/
def causeFailed : Nat := 1
def causeMarginal : Nat := 2
def causeSpares : Nat := 3
def causeHost : Nat := 4
def causeDependent : Nat := 5

/-- A resource is under test. -/
def State.underTest (s : State) (kind index : Nat) : Bool := (SMap.find s.guard.tests (resourceKey kind index)).isSome

/-- A targeted self-test starts; a resource already under test is not tested again (R402). -/
def State.startTest (s : State) (kind index cause : Nat) (cmd : Option Nat := none) : State :=
  if s.underTest kind index then s
  else
    { s with guard := { s.guard with
        tests := SMap.put s.guard.tests (resourceKey kind index) { startedAt := s.now, cause := cause, cmd := cmd } } }

/-- INDEX of riser group `g` of interface `i` (R406). -/
def riserIndex (i g : Nat) : Nat := i * 2 ^ 24 + g

/-- Capacity left to a riser group, in halves: 2 whole, 1 at half bandwidth, 0 out of service (R407). -/
def State.riserHalves (s : State) (i g : Nat) : Nat :=
  if s.guard.half.contains (riserIndex i g) then 1
  else if s.guard.groupsRetired.contains (riserIndex i g) then 0
  else 2

/-- A flow held for HLT_AFFECTED_FLOWS (R412). -/
def State.affect (s : State) (f : Nat) : State :=
  if s.guard.affected.contains f then s
  else { s with guard := { s.guard with affected := s.guard.affected ++ [f] } }

/-- `x` put into a list sorted by `before`, after those it is not before. -/
def insertBy {α : Type} (before : α → α → Bool) (x : α) (l : List α) : List α :=
  match l with
  | [] => [x]
  | y :: r => if before x y then x :: y :: r else y :: insertBy before x r

/-- A list sorted by `before`; equal elements keep their order. -/
def sortBy {α : Type} (before : α → α → Bool) (l : List α) : List α :=
  match l with
  | [] => []
  | x :: r => insertBy (fun a b => !before b a) x (sortBy before r)

end Sys2Proof.Machine
end

