-- ==== Sys2Proof/Machine/StoreOps.lean ====
section
/-! DEFINITION. The central store's operations (05): addresses, buffers, the slot pool, the outcome of a read; and the
fields of the flow table entries (07 R177) that the store and admission read. -/

namespace Sys2Proof.Machine

open Sys2Proof

/-! ### Addresses (05 R118, R119) -/

def inNear (a : Nat) : Bool := decide (0x4000_0000 ≤ a ∧ a < 0x4080_0000)
def inFar (a : Nat) : Bool := decide (a < 0x2000_0000)

/-- The address reaches a store. -/
def inStore (a : Nat) : Bool := inNear a || inFar a

/-- First word, and word after the last, of a store's user partition. -/
def userFirst (far : Bool) : Nat := if far then 0x04A0_0000 else 0x4020_0000
def userEnd (far : Bool) : Nat := if far then 0x2000_0000 else 0x4080_0000

/-- The address lies in a user partition. -/
def inUser (a : Nat) : Bool := inStore a && decide (userFirst (inFar a) ≤ a)

/-- First address, units, and slots per unit of a store. -/
def storeBase (far : Bool) : Nat := if far then 0 else 0x4000_0000
def storeUnits (far : Bool) : Nat := if far then 32 else 512
def unitSlots (far : Bool) : Nat := if far then 2097152 else 2048

/-- Bank or channel of an address. -/
def unitOf (a : Nat) : Nat := (a - storeBase (inFar a)) / 8 % storeUnits (inFar a)

/-- Address of the slot of row `row` of unit `u`. -/
def slotAddr (far : Bool) (u row : Nat) : Nat := storeBase far + 8 * (row * storeUnits far + u)

/-- First row of unit `u` whose slot starts at or after address `a`. -/
def rowFrom (far : Bool) (u a : Nat) : Nat := ceilDiv ((a - storeBase far + 7) / 8 - u) (storeUnits far)

/-- SOURCE of a store's events (R141). -/
def storeSource (far : Bool) : Nat := if far then 0x302 else 0x301

/-- KIND of a store's units (14 R406). -/
def unitKind (far : Bool) : Nat := if far then kindChannel else kindBank

/-- The store is initialised (R139). -/
def State.storeInit (s : State) (far : Bool) : Bool :=
  if far then s.isSet STR_STATUS_FAR_INIT else s.isSet STR_STATUS_NEAR_INIT

/-- The unit is live: its bit is set and it is not being relocated (R132). -/
def State.unitLive (s : State) (far : Bool) (u : Nat) : Bool :=
  (if far then s.rdBit STR_FAR_LIVE u else s.rdBit STR_NEAR_LIVE u) && !s.store.relocating.contains (far, u)

/-- The slot in which the words of the slot of address `a` lie: its own, or the one it was relocated to (R132). -/
def State.placeOf (s : State) (a : Nat) : Nat := SMap.read s.store.redirect (a / 8 * 8) (a / 8 * 8)

/-- Bank or channel that serves the address. -/
def State.unitAt (s : State) (a : Nat) : Nat := unitOf (s.placeOf a)

/-- An access to the address is served now: the store is initialised, and its bank is not under test (14 R402). -/
def State.storeServes (s : State) (a : Nat) : Bool :=
  s.storeInit (inFar a) && !(!inFar a && s.underTest kindBank (s.unitAt a))

/-! ### Buffers (05 R128, R129, R542) -/

/-- First word of buffer `b`, and the word after its last. -/
def State.bufFirst (s : State) (b : Nat) : Nat := 8 * s.rdAt STR_BUF_BASE b
def State.bufEnd (s : State) (b : Nat) : Nat := s.bufFirst b + 8 * s.rdAt STR_BUF_LEN b

/-- The buffer is in effect. -/
def State.bufValid (s : State) (b : Nat) : Bool := s.isSetAt STR_BUF_VALID b

/-- The buffer holds its range: in effect, or passed its checks and not yet in effect. -/
def State.bufHolds (s : State) (b : Nat) : Bool := s.bufValid b || s.store.bufPending.contains b

/-- The address lies in the buffer's range. -/
def State.inBuffer (s : State) (b a : Nat) : Bool := decide (s.bufFirst b ≤ a ∧ a < s.bufEnd b)

/-- The address lies inside a valid buffer. -/
def State.inValidBuffer (s : State) (a : Nat) : Bool := (List.range 256).any fun b => s.bufValid b && s.inBuffer b a

/-- End of the range that holds the address, if one does. -/
def State.bufferOver (s : State) (a : Nat) : Option Nat :=
  (List.range 256).findSome? fun b => if s.bufHolds b && s.inBuffer b a then some (s.bufEnd b) else none

/-- Slots of the ranges of a store's buffers. -/
def State.bufSlots (s : State) (far : Bool) : Nat :=
  ((List.range 256).map fun b => if s.bufHolds b && inFar (s.bufFirst b) == far then s.rdAt STR_BUF_LEN b else 0).sum

/-! ### Flow table entries (07 R176, R177) -/

/-- Word `n` of entry `f`. -/
def State.flowWord (s : State) (f n : Nat) : Nat := SMap.read s.flows.table 0 (16 * f + n)

def State.flowEn (s : State) (f : Nat) : Bool := bitOf (s.flowWord f 0) 31 == 1
def State.flowEgress (s : State) (f : Nat) : Bool := bitOf (s.flowWord f 0) 30 == 1
def State.flowFar (s : State) (f : Nat) : Bool := bitsOf (s.flowWord f 0) 29 28 == 1
def State.flowKind (s : State) (f : Nat) : Nat := bitsOf (s.flowWord f 0) 27 24
def State.flowView (s : State) (f : Nat) : Nat := bitsOf (s.flowWord f 0) 23 21
def State.flowPair (s : State) (f : Nat) : Bool := bitOf (s.flowWord f 0) 20 == 1
def State.flowWin (s : State) (f : Nat) : Bool := bitOf (s.flowWord f 0) 19 == 1
def State.flowGrid (s : State) (f : Nat) : Nat := bitsOf (s.flowWord f 0) 18 16
def State.flowIpv6 (s : State) (f : Nat) : Bool := bitOf (s.flowWord f 0) 15 == 1
def State.flowLaneB (s : State) (f : Nat) : Nat := bitsOf (s.flowWord f 0) 14 8
def State.flowSsrcMatch (s : State) (f : Nat) : Bool := bitOf (s.flowWord f 0) 7 == 1
def State.flowLaneA (s : State) (f : Nat) : Nat := bitsOf (s.flowWord f 0) 6 0
def State.flowPeerKind (s : State) (f : Nat) : Nat := bitsOf (s.flowWord f 1) 31 30
def State.flowPeer (s : State) (f : Nat) : Nat := bitsOf (s.flowWord f 1) 29 16
def State.flowGated (s : State) (f : Nat) : Bool := bitOf (s.flowWord f 1) 15 == 1
def State.flowPace (s : State) (f : Nat) : Bool := bitOf (s.flowWord f 1) 14 == 1
def State.flowFmt (s : State) (f : Nat) : Nat := bitsOf (s.flowWord f 1) 11 8
def State.flowCh (s : State) (f : Nat) : Nat := bitsOf (s.flowWord f 1) 7 0
def State.flowWireCost (s : State) (f : Nat) : Nat := bitsOf (s.flowWord f 2) 31 16
def State.flowDscp (s : State) (f : Nat) : Nat := bitsOf (s.flowWord f 2) 13 8
def State.flowPt (s : State) (f : Nat) : Nat := bitsOf (s.flowWord f 2) 6 0
def State.flowWinSegs (s : State) (f : Nat) : Nat := bitsOf (s.flowWord f 3) 31 18
def State.flowSubst (s : State) (f : Nat) : Nat := bitsOf (s.flowWord f 3) 17 16
def State.flowSegWords (s : State) (f : Nat) : Nat := bitsOf (s.flowWord f 3) 15 0
def State.flowDstPort (s : State) (f : Nat) : Nat := bitsOf (s.flowWord f 4) 31 16
def State.flowSrcPort (s : State) (f : Nat) : Nat := bitsOf (s.flowWord f 4) 15 0
def State.flowSsrc (s : State) (f : Nat) : Nat := s.flowWord f 5
def State.flowDstMac (s : State) (f : Nat) : Nat := s.flowWord f 6 + bitsOf (s.flowWord f 7) 15 0 * 2 ^ 32
def State.flowPcp (s : State) (f : Nat) : Nat := bitsOf (s.flowWord f 7) 30 28
def State.flowVlan (s : State) (f : Nat) : Bool := bitOf (s.flowWord f 7) 31 == 1
def State.flowVid (s : State) (f : Nat) : Nat := bitsOf (s.flowWord f 7) 27 16
def State.flowDstIp (s : State) (f : Nat) : Nat :=
  s.flowWord f 8 + s.flowWord f 9 * 2 ^ 32 + s.flowWord f 10 * 2 ^ 64 + s.flowWord f 11 * 2 ^ 96
def State.flowSrcIp (s : State) (f : Nat) : Nat :=
  s.flowWord f 12 + s.flowWord f 13 * 2 ^ 32 + s.flowWord f 14 * 2 ^ 64 + s.flowWord f 15 * 2 ^ 96

/-- What the flow engine keeps for a flow. -/
def State.flowRun (s : State) (f : Nat) : FlowRun := SMap.read s.flows.run {} f

/-- What the flow engine keeps for a flow, replaced. -/
def State.setFlowRun (s : State) (f : Nat) (r : FlowRun) : State :=
  { s with flows := { s.flows with run := SMap.store s.flows.run {} f r } }

/-- `n` added to counter `k` of FLOW_STATS (07 R201): 0 = packets, 1 = words, 2 = sequence losses, 3 = packets dropped,
4 = segments substituted, 5 = segments repeated, 6 = words poisoned or with bad CRC or checksum, 7 = LATE words. -/
def State.flowStat (s : State) (f k n : Nat) : State :=
  { s with flows := { s.flows with
      stats := SMap.store s.flows.stats 0 (8 * f + k) ((SMap.read s.flows.stats 0 (8 * f + k) + n) % 2 ^ 64) } }

/-! ### The slot pool (05 R130, R131) -/

/-- Slots a ticket takes from the pool. -/
def Ticket.ownSlots (t : Ticket) : List Nat := if t.borrowed then [] else t.slots

/-- Pool slots in use in a store: those of tickets, of hold copies (07 R190), of packets the pack FIFO readers take
(10 R278). -/
def State.usedSlots (s : State) (far : Bool) : List Nat :=
  ((s.adm.tickets.flatMap fun (e : Nat × Ticket) => e.2.ownSlots) ++
    (s.flows.run.flatMap fun (e : Nat × FlowRun) => e.2.holds.flatMap fun (h : Nat × HoldCopy) => h.2.slots) ++
    (s.hard.packs.flatMap fun (e : Nat × PackFifo) => e.2.slots)).filter fun a => inFar a == far

/-- Slots of a store that the pool may not allocate: those in use, and those that relocated slots have moved to (R132). -/
def State.occupied (s : State) (far : Bool) : List Nat :=
  s.usedSlots far ++ (s.store.redirect.map fun (e : Nat × Nat) => e.2).filter fun a => inFar a == far

/-- Units of a store that are out of the pool. -/
def State.lostUnits (s : State) (far : Bool) : Nat :=
  (if far then 32 - s.rd STR_STATUS_FAR_LIVE_CNT else 512 - s.rd STR_STATUS_NEAR_LIVE_CNT) +
    (s.store.relocating.filter fun (r : Bool × Nat) => r.1 == far).length

/-- Slots of a store's user partition at full size. -/
def userSlots (far : Bool) : Nat := if far then 57409536 else 786432

/-- Slots of the pool that are not free: retired capacity, buffers, used slots. -/
def State.takenSlots (s : State) (far : Bool) : Nat :=
  unitSlots far * s.lostUnits far + s.bufSlots far + (s.usedSlots far).length

/-- STR_NEAR_FREE and STR_FAR_FREE. -/
def State.poolFree (s : State) (far : Bool) : Nat := userSlots far - s.takenSlots far

/-- Slots of a flow's reservation in use: those of its contracted tickets, and of the packet that the reader of its pack
FIFO takes (10 R278). -/
def State.heldSlots (s : State) (f : Nat) : Nat :=
  (s.adm.tickets.map fun (e : Nat × Ticket) => if e.2.flow == f && e.2.contracted then e.2.ownSlots.length else 0).sum +
    (s.hard.packs.map fun (e : Nat × PackFifo) =>
      if s.rdAt PF_CFG_BIND e.1 == 1 && s.rdAt PF_CFG_TARGET e.1 == f && SMap.find s.adm.contracts f != none then
        e.2.slots.length
      else 0).sum

/-- Free slots that the reservations of a store still count, contract of flow `except` left out. -/
def State.reservedFree (s : State) (far : Bool) (except : Option Nat := none) : Nat :=
  (s.adm.contracts.map fun (e : Nat × Contract) =>
    if e.2.far == far && except != some e.1 then e.2.slots - s.heldSlots e.1 else 0).sum

/-- STR_NEAR_BE_FREE and STR_FAR_BE_FREE (R131). -/
def State.beFree (s : State) (far : Bool) : Nat := s.poolFree far - s.reservedFree far

/-- The lowest free row of unit `u` at or after row `row`, as an address: buffers and used slots are skipped (DESIGN
CHOICE, log 19: the spec gives the unit of a slot, not its row). -/
def State.poolRow (s : State) (far : Bool) (u : Nat) (used : List Nat) (fuel row : Nat) : Option Nat :=
  match fuel with
  | 0 => none
  | n + 1 =>
    let a := slotAddr far u row
    if userEnd far ≤ a then none
    else
      match s.bufferOver a with
      | some e => s.poolRow far u used n (max (row + 1) (rowFrom far u e))
      | none => if used.contains a then s.poolRow far u used n (row + 1) else some a

/-- A free slot of the next live unit from `u` on. -/
def State.poolUnit (s : State) (far : Bool) (used : List Nat) (fuel u : Nat) : Option Nat :=
  match fuel with
  | 0 => none
  | n + 1 =>
    let v := u % storeUnits far
    if s.unitLive far v then
      match s.poolRow far v used (used.length + 257) (rowFrom far v (userFirst far)) with
      | some a => some a
      | none => s.poolUnit far used n (v + 1)
    else s.poolUnit far used n (v + 1)

/-- `n` slots taken one after the other, from unit `u` on, and the unit after the last. -/
def State.poolTake (s : State) (far : Bool) (used : List Nat) (n u : Nat) : List Nat × Nat :=
  match n with
  | 0 => ([], u)
  | k + 1 =>
    match s.poolUnit far used (storeUnits far) u with
    | none => ([], u)
    | some a =>
      let r := s.poolTake far (a :: used) k ((unitOf a + 1) % storeUnits far)
      (a :: r.1, r.2)

/-- `n` slots allocated in a store (R130). -/
def State.takeSlots (s : State) (far : Bool) (n : Nat) : List Nat × State :=
  let r := s.poolTake far (s.occupied far) n (if far then s.store.nextFar else s.store.nextNear)
  (r.1, if far then { s with store := { s.store with nextFar := r.2 } }
        else { s with store := { s.store with nextNear := r.2 } })

/-! ### Words read and written (05 R121 to R125, R129) -/

/-- STR_ERR_ADDR and STR_ERR_INFO (R123). -/
def State.storeError (s : State) (a kind syndrome : Nat) : State :=
  ((((s.wr STR_ERR_ADDR a).wr STR_ERR_INFO_KIND kind).wr STR_ERR_INFO_STORE (flag (inFar a))).wr STR_ERR_INFO_UNIT
    (s.unitAt a)).wr STR_ERR_INFO_SYNDROME syndrome

/-- The syndrome of a single-bit or address error, a free value that is neither zero nor the syndrome of poison (R122). -/
def State.freeSyndrome (s : State) : Nat := 1 + s.free 8 % 254

/-- What a read of the word at `a` does by what it finds (R123), and whether it is delivered poisoned. A word written
poisoned shows the syndrome 0xFF. -/
def State.storeSense (s : State) (a : Nat) (found : Syndrome) : Bool × State :=
  let far := inFar a
  if (s.storeWord a).poison || found == .other 0xFF then (true, s.incSat STR_POISON_DLV_CNT)
  else
    match found with
    | .zero => (false, s)
    | .single =>
      let s1 := ((s.storeError a 0 s.freeSyndrome).took).wr STR_ERR_CORR 1
      let s2 := (if far then s1.incSat STR_FAR_CORR_CNT else s1.incSat STR_NEAR_CORR_CNT).postLimited 0x3001
        (flag far) (storeSource far) 0 sat32
      (false, { s2 with store := { s2.store with writebacks := s2.store.writebacks ++ [a] } })
    | .address =>
      let s1 := ((s.storeError a 1 s.freeSyndrome).took).wr STR_ERR_ADDR_MISMATCH 1
      (true, ((s1.incSat STR_ADDR_MISMATCH_CNT).incSat STR_POISON_DLV_CNT).post 0x3003 (storeSource far) 3 a)
    | .other x =>
      let s1 := ((s.storeError a 2 x).wr STR_ERR_UNCORR 1).incSat STR_POISON_DLV_CNT
      let s2 := (if far then s1.incSat STR_FAR_UNCORR_CNT else s1.incSat STR_NEAR_UNCORR_CNT).post 0x3002
        (storeSource far) 3 a
      (true, s2.startTest (unitKind far) (s.unitAt a) causeFailed)

/-- The syndrome delivers the word poisoned. -/
def foundBad (x : Syndrome) : Bool :=
  match x with
  | .zero => false
  | .single => false
  | .address => true
  | .other _ => true

/-- What the reads of a command find at address `a`. -/
def foundAt (found : Found) (a : Nat) : Syndrome :=
  match found.words.find? fun (e : Nat × Syndrome) => e.1 == a with
  | some e => e.2
  | none => .zero

/-- The word at `a` as the store delivers it, with its poison flag (R124). -/
def State.viewWord (s : State) (found : Found) (a : Nat) : StoreWord :=
  { data := (s.storeWord a).data, poison := (s.storeWord a).poison || foundBad (foundAt found a) }

/-- What the reads of the listed words do (R123). -/
def State.senseWords (s : State) (found : Found) (as : List Nat) : State :=
  as.foldl (fun (x : State) a => (x.storeSense a (foundAt found a)).2) s

/-- A transfer is refused (R129, R141): counted, its address and reason kept, event 0x3004 with the address of the first refusal of
the last millisecond. -/
def State.addrRefuse (s : State) (a reason : Nat) : State :=
  let kept := s.store.refusals.filter fun r => decide (s.now < r.tick + 1000000)
  let l := { tick := s.now, addr := a, reason := reason } :: kept
  let first := (l.getLast?.map fun r => r.addr).getD a
  let s1 := { s with store := { s.store with refusals := l } }
  (((s1.incSat STR_PART_REFUSE_CNT).wr STR_PART_REFUSE_ADDR a).wr STR_ERR_ADDR_REFUSED 1).postLimited 0x3004 0 0x300 2
    fun _ => first % 2 ^ 32

/-- The address lies in a fixed partition. -/
def fixedPartition (a : Nat) : Bool := inStore a && !inUser a

/-- The requester has a path of its own to the fixed partitions (01 R26). -/
def ownPath (r : Requester) : Bool :=
  match r with
  | .promenade => true
  | .guard => true
  | .config => true
  | .steward => true
  | .relocation => true
  | _ => false

/-- The requester carries a store address of the flow's or the design's own, and is confined to buffers. -/
def confined (r : Requester) : Bool := r == .flow || r == .design

/-- The reason for which an access is refused (R129). DEDUCED (log 138): 0x1 also for a ticket's access and for host DMA, which have no
path to the fixed partitions (01 R26). -/
def State.accessRefusal (s : State) (r : Requester) (a : Nat) : Option Nat :=
  if ownPath r then none
  else if fixedPartition a then some 1
  else if confined r && !s.inValidBuffer a then some 2
  else none

/-! ### Slots that move (05 R132, R133, R542) -/

/-- The words of one slot copied, as its unit delivers them: an uncorrectable word is written poisoned. -/
def State.copySlot (found : Found) (s : State) (old new : Nat) : State :=
  (List.range 8).foldl (fun (x : State) k =>
    (x.storeSense (old + k) (foundAt found (old + k))).2.storePut (new + k) (x.viewWord found (old + k))) s

/-- An address replaced by its new place. -/
def movedTo (pairs : List (Nat × Nat)) (a : Nat) : Nat :=
  match pairs.find? fun (p : Nat × Nat) => p.1 == a with
  | some p => p.2
  | none => a

/-- Slots re-homed (05 R133): new slots on live units, the words copied, tickets, hold copies and packets being taken pointed to them. -/
def State.rehome (s : State) (far : Bool) (olds : List Nat) (found : Found) : State :=
  let r := s.takeSlots far olds.length
  let pairs := olds.zip r.1
  let s1 := pairs.foldl (fun (x : State) (p : Nat × Nat) => x.copySlot found p.1 p.2) r.2
  { s1 with
    adm := { s1.adm with tickets := SMap.mapVal s1.adm.tickets fun _ t => { t with slots := t.slots.map (movedTo pairs) } }
    flows := { s1.flows with run := SMap.mapVal s1.flows.run fun _ x =>
      { x with holds := SMap.mapVal x.holds fun _ h => { h with slots := h.slots.map (movedTo pairs) } } }
    hard := { s1.hard with packs := SMap.mapVal s1.hard.packs fun _ p => { p with slots := p.slots.map (movedTo pairs) } } }

/-- Slots of fixed partitions or buffers relocated (05 R132 step 2): each keeps its address, which leads to a free pool slot from now
on, and an uncorrectable word is poisoned there. -/
def State.relocateSlots (s : State) (far : Bool) (olds : List Nat) (found : Found) : State :=
  let r := s.takeSlots far olds.length
  let s1 := olds.foldl (fun (x : State) a => x.copySlot found a a) r.2
  { s1 with store := { s1.store with
      redirect := (olds.zip r.1).foldl (fun (m : SMap Nat) (p : Nat × Nat) => SMap.put m p.1 p.2) s1.store.redirect } }

/-- Slots of fixed partitions and buffers whose words lie on a unit. -/
def State.boundSlots (s : State) (far : Bool) (u : Nat) : List Nat :=
  ((List.range (unitSlots far)).map (slotAddr far u)).filter (fun a =>
    (fixedPartition a || (s.bufferOver a).isSome) && (SMap.find s.store.redirect a).isNone) ++
  (s.store.redirect.filter fun (e : Nat × Nat) => inFar e.2 == far && unitOf e.2 == u).map fun (e : Nat × Nat) => e.1

/-- Word `i` of a ticket's slots. -/
def ticketAddr (slots : List Nat) (i : Nat) : Nat := slots.getD (i / 8) 0 + i % 8

/-- Words written to a ticket's slots from word `i` on; bit 72 of a word marks it poisoned. -/
def State.ticketWrite (s : State) (slots : List Nat) (i : Nat) (ws : List Nat) : State :=
  match ws with
  | [] => s
  | w :: r => State.ticketWrite (s.storePut (ticketAddr slots i) { data := w % 2 ^ 72, poison := bitOf w 72 == 1 }) slots (i + 1) r

/-- Addresses of words `first` to `first + n - 1` of a ticket. -/
def ticketAddrs (slots : List Nat) (first n : Nat) : List Nat := (List.range n).map fun i => ticketAddr slots (first + i)

/-- The words of a ticket as the store delivers them. -/
def State.ticketWords (s : State) (slots : List Nat) (n : Nat) (found : Found) : List StoreWord :=
  (ticketAddrs slots 0 n).map (s.viewWord found)

/-- Every word of the ticket has been written: it is closed (R121, R135). -/
def Ticket.closed (t : Ticket) : Bool := t.unwritten.isEmpty

end Sys2Proof.Machine
end

