-- ==== Sys2Proof/Machine/Store.lean ====
section
/-! DEFINITION. The central store (05): words written and read, patrol, buffers, initialisation. -/

namespace Sys2Proof.Machine

open Sys2Proof

/-! ### The log read by the host (02 R47) -/

/-- Addresses of `n` log records from `first` on. -/
def logWords (first n : Nat) : List Nat := (List.range n).flatMap fun k => [logAddr (first + k), logAddr (first + k) + 1]

/-- The 64 bits of a log word as LOG_READ delivers them. DESIGN CHOICE (log 139): a poisoned word's are a free value. -/
def State.logHalf (s : State) (found : Found) (a : Nat) : Nat :=
  if (s.viewWord found a).poison then s.freeK a 64 else (s.viewWord found a).data % 2 ^ 64

/-- The bytes LOG_READ moves. -/
def State.logData (s : State) (found : Found) (first n : Nat) : List Nat :=
  (logWords first n).flatMap fun a => bytesOf 8 (s.logHalf found a)

/-- LOG_READ: it waits for the far store (R139). -/
def execLogRead (id : Nat) (found : Found) (s : State) : Result :=
  .next (
    if !s.storeInit true then s
    else
      s.runCmd id 0xD002 fun r s =>
        let first := recField r 16 4
        let n := recField r 20 4
        if 1048575 < first then (.badParam 16, s)
        else if n < 1 ∨ 65536 < n then (.badParam 20, s)
        else
          (.ok 0 ((first + n) % 1048576),
            ((s.hostWrite (recField r 8 8) (s.logData found first n)).senseWords found (logWords first n)).tookN (2 ^ 32)))

/-- STORE_CORRECTED_WRITEBACK (R123): the corrected word is written back, which leaves its value. -/
def execStoreCorrectedWriteback (s : State) : Result :=
  .next { s with store := { s.store with writebacks := s.store.writebacks.tail } }

/-! ### Patrol (R126, R127) -/

/-- Patrol of a store. -/
def State.patrol (s : State) (far : Bool) : Patrol := if far then s.store.patrolFar else s.store.patrolNear

/-- Patrol of a store set; PATROL_BEHIND shows either store behind. -/
def State.setPatrol (s : State) (far : Bool) (p : Patrol) : State :=
  let s1 := if far then { s with store := { s.store with patrolFar := p } }
            else { s with store := { s.store with patrolNear := p } }
  s1.wr STR_STATUS_PATROL_BEHIND (flag (s1.store.patrolNear.behind || s1.store.patrolFar.behind))

/-- The patrol period in ticks. -/
def State.patrolPeriod (s : State) (far : Bool) : Nat :=
  (if far then s.rd STR_PATROL_FAR_MS else s.rd STR_PATROL_NEAR_MS) * 1000000

/-- Words of a store. -/
def storeWords (far : Bool) : Nat := if far then 0x2000_0000 else 0x80_0000

/-- The word patrol reads next. -/
def State.patrolPos (s : State) (far : Bool) : Nat := if far then s.rd STR_PATROL_FAR_POS else s.rd STR_PATROL_NEAR_POS

/-- The pace of a pass of which `n` words are read: behind by more than 1 % of the period, back when on pace. -/
def State.patrolPace (s : State) (far : Bool) (n : Nat) : State :=
  let p := s.patrol far
  let t := s.patrolPeriod far
  let done := n * t
  let due := storeWords far * (s.now - p.passStart)
  if done * 100 + storeWords far * t < due * 100 then
    if p.posted then s.setPatrol far { p with behind := true }
    else (s.setPatrol far { p with behind := true, posted := true }).post 0x3006 0x300 2 (flag far)
  else if due ≤ done then s.setPatrol far { p with behind := false }
  else s

/-- A pass ends: counted, late when it took longer than its period; the next one starts. -/
def State.patrolPass (s : State) (far : Bool) : State :=
  let s1 := if far then s.incSat STR_PATROL_PASS_CNT_FAR_PASS else s.incSat STR_PATROL_PASS_CNT_NEAR_PASS
  let s2 := if s.patrolPeriod far < s.now - (s.patrol far).passStart then s1.incSat STR_PATROL_LATE_CNT else s1
  s2.setPatrol far { passStart := s.now }

/-- PATROL_READ: the next word is treated as a read. -/
def execPatrolRead (far : Bool) (found : Syndrome) (s : State) : Result :=
  let a := s.patrolPos far
  .next (
    if s.isSet STR_CTRL_PATROL_EN && s.storeServes a then
      let s1 := (s.storeSense a found).2
      let n := a + 1 - storeBase far
      if n < storeWords far then
        (if far then s1.wr STR_PATROL_FAR_POS (a + 1) else s1.wr STR_PATROL_NEAR_POS (a + 1)).patrolPace far n
      else
        (if far then s1.wr STR_PATROL_FAR_POS 0 else s1.wr STR_PATROL_NEAR_POS 0x4000_0000).patrolPass far
    else s)

/-- PATROL_PERIOD_ELAPSED: while PATROL_EN is 0 every period that elapses counts as late (R142). -/
def execPatrolPeriodElapsed (far : Bool) (s : State) : Result :=
  .next (
    if s.isSet STR_CTRL_PATROL_EN then s
    else if s.now < (s.patrol far).passStart + s.patrolPeriod far then s
    else (s.incSat STR_PATROL_LATE_CNT).setPatrol far { s.patrol far with passStart := s.now })

/-! ### Buffers (R128, R542, 18 R483) -/

/-- A store's slots in use that lie in the range of buffer `b`. -/
def State.slotsInBuffer (s : State) (b : Nat) : List Nat :=
  (s.usedSlots (inFar (s.bufFirst b))).filter fun a => s.inBuffer b a

/-- Slots of the range of buffer `b` on units that are not live. -/
def State.lostInBuffer (s : State) (b : Nat) : List Nat :=
  let far := inFar (s.bufFirst b)
  if s.lostUnits far = 0 then []
  else ((List.range (s.rdAt STR_BUF_LEN b)).map fun i => s.bufFirst b + 8 * i).filter fun a => !s.unitLive far (unitOf a)

/-- A buffer takes effect (R542): VALID reads 1. Slots of its range on retired units get a place on a live one (DESIGN CHOICE, log 21). -/
def State.bufEffect (s : State) (b : Nat) : State :=
  (s.relocateSlots (inFar (s.bufFirst b)) (s.lostInBuffer b) {}).wrAt STR_BUF_VALID b 1

/-- Two buffers' ranges overlap. -/
def State.bufOverlap (s : State) (a b : Nat) : Bool :=
  decide (s.bufFirst a < s.bufEnd b) && decide (s.bufFirst b < s.bufEnd a)

/-- The first reason for which BASE and LEN of buffer `b` are refused (R128). BASE is kept without its low bits, so it
is slot-aligned. -/
def State.bufRefusal (s : State) (b : Nat) : Option Nat :=
  let first := s.bufFirst b
  let len := s.rdAt STR_BUF_LEN b
  let far := inFar first
  let moved := (s.slotsInBuffer b).length
  let freeIn := len - moved - (s.lostInBuffer b).length
  if len = 0 then some 1
  else if !inUser first || decide (userEnd far < s.bufEnd b) then some 2
  else if (List.range 256).any fun x => x != b && s.bufHolds x && s.bufOverlap b x then some 3
  else if 3 * userSlots far < 4 * (s.bufSlots far + len) then some 4
  else if 0 < moved ∧ s.poolFree far - freeIn - s.reservedFree far < moved then some 5
  else none

/-- A write of LEN with VALID = 1. -/
def State.bufDefine (s : State) (b len : Nat) : State :=
  if s.bufHolds b then s
  else
    let s1 := (s.wrAt STR_BUF_LEN b len).wrAt STR_BUF_RELOCATED b 0
    match s1.bufRefusal b with
    | some reason => (s1.wr STR_ERR_BUF_REFUSED 1).wr STR_BUF_ERR reason
    | none =>
      if (s1.slotsInBuffer b).isEmpty then s1.bufEffect b
      else { s1 with store := { s1.store with bufPending := s1.store.bufPending ++ [b] } }

/-- A write of LEN with VALID = 0: the buffer is removed, or its pending definition cancelled; its words return to the pool. -/
def State.bufRemove (s : State) (b len : Nat) : State :=
  let back := fun (e : Nat × Nat) => !(s.bufHolds b && s.inBuffer b e.1)
  ({ s with store := { s.store with
      bufPending := s.store.bufPending.filter (· != b), redirect := s.store.redirect.filter back } }.wrAt STR_BUF_VALID b 0).wrAt
    STR_BUF_LEN b len

/-- A host write to a buffer the design has claimed is refused (18 R483). -/
def State.bufGuarded (s : State) (b : Nat) (act : State → State) : State :=
  if s.rdBit CFG_CLAIM_BUF b then s.resRefuse RES_ERR_BUF_REFUSED 0x94 5 0 b else act s

/-- A host write of a buffer's word with LEN and VALID. -/
def State.bufLenWrite (s : State) (b v : Nat) : State :=
  s.bufGuarded b fun s => if bitOf v 31 = 1 then s.bufDefine b (v % 2 ^ 26) else s.bufRemove b (v % 2 ^ 26)

/-- A host write of a buffer's BASE: stored while the buffer holds no range. -/
def State.bufBaseWrite (s : State) (b v : Nat) : State :=
  s.bufGuarded b fun s => if s.bufHolds b then s else s.wrAt STR_BUF_BASE b (v / 8)

/-- BUFFER_DEFINE. -/
def execBufferDefine (buffer value : Nat) (s : State) : Result :=
  .next (if buffer < 256 ∧ bitOf value 31 = 1 then s.bufLenWrite buffer value else s)

/-- BUFFER_REMOVE. -/
def execBufferRemove (buffer value : Nat) (s : State) : Result :=
  .next (if buffer < 256 ∧ bitOf value 31 = 0 then s.bufLenWrite buffer value else s)

/-- BUFFER_EFFECTIVE (R542): the last ticket slot of the range has moved. -/
def execBufferEffective (buffer : Nat) (found : Found) (s : State) : Result :=
  .next (
    if s.store.bufPending.contains buffer then
      let s1 := s.rehome (inFar (s.bufFirst buffer)) (s.slotsInBuffer buffer) found
      ({ s1 with store := { s1.store with bufPending := s1.store.bufPending.filter (· != buffer) } }).bufEffect buffer
    else s)

/-- STORE_INIT_DONE (R139), once the rails are good: patrol starts its first pass, and log records that waited are written. -/
def execStoreInitDone (far : Bool) (s : State) : Result :=
  .next (
    let f := if far then STR_STATUS_FAR_INIT else STR_STATUS_NEAR_INIT
    if s.isSet GLB_LANDS_PWR_GOOD && !s.isSet f then
      let s1 := (s.wr f 1).setPatrol far { passStart := s.now }
      if far then s1.logFlush else s1
    else s)

end Sys2Proof.Machine
end

