-- ==== Sys2Proof/Machine/AdmissionOps.lean ====
section
/-! DEFINITION. Admission and tickets (06), the operations: resources and charges, the admission test, tickets created,
delivered and discarded, contracts that end, rechecks. -/

namespace Sys2Proof.Machine

/-! ### Endpoints of a flow (07 R177) -/

/-- Region of a pack FIFO or delivery port. -/
def portRegion (p : Nat) : Nat := p / 16

/-- The egress flow of a path: the flow itself, or the peer an ingress flow feeds. -/
def State.egressOf (s : State) (f : Nat) : Option Nat :=
  if s.flowEgress f then some f else if s.flowPeerKind f = 0 then some (s.flowPeer f) else none

/-- The source is a lane. -/
def State.sourceLane (s : State) (f : Nat) : Bool := !s.flowEgress f || s.flowPeerKind f == 0

/-- The pack FIFO at the source. -/
def State.sourcePort (s : State) (f : Nat) : Option Nat :=
  if s.flowEgress f && s.flowPeerKind f == 1 then some (s.flowPeer f) else none

/-- The delivery port at the destination. -/
def State.destPort (s : State) (f : Nat) : Option Nat :=
  if !s.flowEgress f && s.flowPeerKind f == 1 then some (s.flowPeer f) else none

/-- Lanes of a flow: A, and B of a pair. -/
def State.flowLanes (s : State) (f : Nat) : List Nat :=
  if s.flowPair f then [s.flowLaneA f, s.flowLaneB f] else [s.flowLaneA f]

/-- Every lane at either end of a flow's path. -/
def State.pathLanes (s : State) (f : Nat) : List Nat :=
  s.flowLanes f ++ (if s.flowPeerKind f = 0 then s.flowLanes (s.flowPeer f) else [])

/-- The endpoints of an enabled flow exist (R153). -/
def State.endpointsExist (s : State) (f : Nat) : Bool :=
  if s.flowPeerKind f = 1 then decide (s.flowPeer f < 256)
  else if s.flowEgress f then
    !s.flowEgress (s.flowPeer f) && s.flowPeerKind (s.flowPeer f) == 0 && s.flowPeer (s.flowPeer f) == f
  else s.flowEn (s.flowPeer f)

/-- A retired lane, or a port in a retired region. -/
def State.laneRetired (s : State) (n : Nat) : Bool := s.rdAt LNE_LN_STATUS_STATE n == 4
def State.regionRetired (s : State) (r : Nat) : Bool := s.isSetAt FAB_REGION_RETIRED r

/-- An endpoint of the flow is retired. -/
def State.endpointRetired (s : State) (f : Nat) : Bool :=
  (s.pathLanes f).any s.laneRetired || (s.flowPeerKind f == 1 && s.regionRetired (portRegion (s.flowPeer f)))

/-! ### Resources (R149, R150) -/

/-- The bond whose lowest lane is `n`. -/
def State.bondOf (s : State) (n : Nat) : Option Nat :=
  (List.range 16).find? fun b => s.isSetAt LNE_BOND_CTRL_EN b && s.rdAt LNE_BOND_CTRL_FIRST b == n

/-- DIV1001 of the PLL a lane transmits from. -/
def State.laneFrac (s : State) (n : Nat) : Bool :=
  if s.isSetAt LNE_LN_CTRL_TX_PLL n then s.isSetAt LNE_Q_PLL1_DIV1001 (n / 4) else s.isSetAt LNE_Q_PLL0_DIV1001 (n / 4)

/-- Rate after framing of an egress lane in bits per ns, as a fraction (R150). -/
def State.laneRate (s : State) (n : Nat) : Nat × Nat :=
  let m := s.rdAt LNE_LN_CTRL_MODE n
  match s.rdAt LNE_LN_CTRL_PROTO n with
  | 1 => if m = 0 then (10, 1) else if m = 3 then (100, 1) else (25, 1)
  | 2 => if s.laneFrac n then (1485 * 2 ^ m, 1001) else (1485 * 2 ^ m, 1000)
  | 3 =>
    match s.bondOf n with
    | some b => (28125 * 144 * s.rdAt LNE_BOND_CTRL_DATA_CNT b, 148000)
    | none => (0, 1)
  | _ => (0, 1)

/-- Halves of capacity of the groups `first` to `first + 47` of interface 01. -/
def State.if01Halves (s : State) (first : Nat) : Nat := ((List.range 48).map fun k => s.riserHalves 1 (first + k)).sum

/-- Capacity of a resource in its unit per store tick, as a fraction. -/
def State.capacity (s : State) (kind inst : Nat) : Nat × Nat :=
  match kind with
  | 1 => (s.rd STR_STATUS_NEAR_LIVE_CNT, 1)
  | 2 =>
    let halves := s.guard.half.filter fun k => k / 2 ^ 24 == 7 && s.unitLive true (k % 2 ^ 24 / 4)
    (64 * s.rd STR_STATUS_FAR_LIVE_CNT - 16 * (halves.length / 2), 10)
  | 3 => s.laneRate inst
  | 4 => (64 * s.if01Halves (if inst = 0 then 0 else 48), 1)
  | _ => (s.riserHalves 2 inst, 4)

/-- Reservable fraction of a resource in percent. -/
def State.reservable (s : State) (kind : Nat) : Nat :=
  match kind with
  | 1 => s.rd ADM_NEAR_PCT
  | 2 => s.rd ADM_FAR_PCT
  | _ => s.rd ADM_LANE_PCT

/-- What a contract of flow `f` for `w` words per period is charged, in the order of the tests (R153). -/
def State.chargesOf (s : State) (f w : Nat) : List Charge :=
  let store : List Charge := [{ kind := if s.flowFar f then 2 else 1, inst := 0, amount := 64 * (2 * w) }]
  let lanes : List Charge :=
    match s.egressOf f with
    | some g => (s.flowLanes g).map fun n => { kind := 3, inst := n, amount := w * s.flowWireCost g }
    | none => []
  let up : List Charge := if s.sourceLane f then [{ kind := 4, inst := 0, amount := 64 * (72 * w) }] else []
  let down : List Charge := if (s.egressOf f).isSome then [{ kind := 4, inst := 1, amount := 64 * (72 * w) }] else []
  let pf : List Charge :=
    match s.sourcePort f with
    | some p => [{ kind := 5, inst := p, amount := 64 * w }]
    | none => []
  let dp : List Charge :=
    match s.destPort f with
    | some p => [{ kind := 6, inst := p, amount := 64 * w }]
    | none => []
  store ++ lanes ++ up ++ down ++ pf ++ dp

/-- The grid period of a contract in ns, as a fraction (R143). -/
def State.gridPeriod (s : State) (g unit : Nat) : Nat × Nat :=
  if unit = 2 then (s.gridD g, s.gridQ g)
  else if unit = 1 ∧ s.gridTwoFields g then (s.gridL g / 2 * s.gridD g, s.gridQ g)
  else (s.gridD g, s.rdAt CLR_GRID_NUM g)

/-- Slots that a contract reserves (05 R130). -/
def slotsFor (w d q tNum tDen : Nat) : Nat := ceilDiv (w * (ceilDiv (d * tDen) tNum + 1)) 8 + q

/-! ### The admission test (R152) -/

/-- A contract as one resource sees it. -/
structure Demand where
  amount : Nat
  tNum : Nat
  tDen : Nat
  deadline : Nat
  deriving DecidableEq, Repr

/-- What a contract demands of a resource. -/
def demandOn (c : Contract) (kind inst : Nat) : List Demand :=
  (c.charges.filter fun x => x.kind == kind && x.inst == inst).map fun x =>
    { amount := x.amount, tNum := c.tNum, tDen := c.tDen, deadline := c.deadline }

/-- Condition (a): how far the rounded demand over one period `tn / td` exceeds the rounded capacity. -/
def shortA (set : List Demand) (pct capN capD tn td : Nat) : Nat :=
  (set.map fun j => ceilDiv (j.amount * tn * j.tDen) (64 * td * j.tNum)).sum - pct * capN * tn / (100 * capD * td)

/-- Condition (b) at deadline `d`. -/
def shortB (set : List Demand) (pct capN capD d : Nat) : Nat :=
  (set.map fun j =>
      if j.deadline ≤ d then ceilDiv (j.amount * ((d - j.deadline) * j.tDen + j.tNum)) (64 * j.tNum) else 0).sum -
    pct * capN * d / (100 * capD)

/-- The failing point with the smallest deadline, and its shortfall. -/
def failB (set : List Demand) (pct capN capD : Nat) : Option (Nat × Nat) :=
  (sortBy (fun a b => decide (a < b)) (set.map fun j => j.deadline)).findSome? fun d =>
    if shortB set pct capN capD d = 0 then none else some (d, shortB set pct capN capD d)

/-- Why a request is refused: status, resource kind and number, the two halves of RESULT (R172). -/
structure AdmitFailure where
  status : Nat
  kind : Nat := 0
  inst : Nat := 0
  point : Nat := 0
  short : Nat := 0
  deriving DecidableEq, Repr

/-- Status of a failed bandwidth test by resource kind (R173). -/
def bandwidthStatus (kind : Nat) : Nat :=
  match kind with
  | 1 => 0x40
  | 2 => 0x41
  | 3 => 0x42
  | 4 => 0x42
  | _ => 0x43

/-- One resource tested with the contracts `others` and the new one. -/
def State.testResource (s : State) (others : SMap Contract) (c : Contract) (kind inst : Nat) : Option AdmitFailure :=
  let set := (others.flatMap fun (e : Nat × Contract) => demandOn e.2 kind inst) ++ demandOn c kind inst
  let cap := s.capacity kind inst
  let pct := s.reservable kind
  let a := shortA set pct cap.1 cap.2 c.tNum c.tDen
  if 0 < a then some { status := bandwidthStatus kind, kind := kind, inst := inst, short := a }
  else
    match failB set pct cap.1 cap.2 with
    | some b => some { status := bandwidthStatus kind, kind := kind, inst := inst, point := b.1, short := b.2 }
    | none => none

/-- Every resource the contract is charged to, in the order of the charges. -/
def State.testResources (s : State) (others : SMap Contract) (c : Contract) : Option AdmitFailure :=
  c.charges.findSome? fun x => s.testResource others c x.kind x.inst

/-- Slots by which the reservation of flow `f`'s new contract does not fit, beside the contracts `others` (R130): slots
its tickets hold already count toward it. -/
def State.slotShort (s : State) (others : SMap Contract) (f : Nat) (c : Contract) : Nat :=
  let kept := (others.map fun (e : Nat × Contract) =>
    if e.2.far == c.far then e.2.slots - s.heldSlots e.1 else 0).sum
  (c.slots - s.heldSlots f) + kept + s.takenSlots c.far - userSlots c.far

/-- Sum of quotas. -/
def quotaSum (m : SMap Contract) : Nat := (m.map fun (e : Nat × Contract) => e.2.quota).sum

/-- The checks of R153 for flow `f`, in order; the old contract of the flow counts as gone (R144). -/
def State.admitCheck (s : State) (f : Nat) (c : Contract) : Option AdmitFailure :=
  let others := SMap.erase s.adm.contracts f
  if !s.flowEn f || !s.endpointsExist f then some { status := 0x48 }
  else if !s.gridActive c.grid then some { status := 0x4B }
  else if s.endpointRetired f then some { status := 0x4A }
  else if 196608 < quotaSum others + c.quota then
    some { status := 0x44, kind := 7, short := quotaSum others + c.quota - 196608 }
  else
    match s.testResources others c with
    | some x => some x
    | none =>
      if 0 < s.slotShort others f c then some { status := 0x45, kind := 8, short := s.slotShort others f c } else none

/-! ### Tickets (R145 to R148, R156 to R159) -/

/-- Number of the grid period that holds the present tick (R145). -/
def State.periodNow (s : State) (g unit : Nat) : Int :=
  let p := s.pos g
  match unit with
  | 0 => p.frame
  | 1 => if s.gridTwoFields g then 2 * p.frame + s.fieldOf g p else p.frame
  | _ => p.frame * s.gridL g + p.line

/-- Words a contract has carried in the present period. -/
def State.carriedNow (s : State) (c : Contract) : Nat := if c.period = s.periodNow c.grid c.unit then c.carried else 0

/-- The contract of a flow. -/
def State.contract (s : State) (f : Nat) : Option Contract := SMap.find s.adm.contracts f

/-- ADM_CONTRACT_CNT (R175): contracts that stand, being admitted or withdrawing; a demoted flow has lost its contract
(R166). -/
def State.contractCount (s : State) : Nat :=
  (s.adm.contracts.filter fun (e : Nat × Contract) => decide (e.2.state ≠ .demoted)).length

/-- The contract that a flow's tickets follow: in the tick of a decision, the one before it (R154, R168). -/
def State.ticketContract (s : State) (f : Nat) : Option Contract :=
  if SMap.find s.adm.decidedAt f = some s.now then SMap.find s.adm.before f else s.contract f

/-- A flow's contract recorded. -/
def State.setContract (s : State) (f : Nat) (c : Contract) : State :=
  { s with adm := { s.adm with contracts := SMap.put s.adm.contracts f c } }

/-- The contract that a flow's tickets follow, with what the present period has carried. -/
def State.countCarried (s : State) (f : Nat) (c : Contract) : State :=
  if SMap.find s.adm.decidedAt f = some s.now then { s with adm := { s.adm with before := SMap.put s.adm.before f c } }
  else s.setContract f c

/-- Contracted tickets a flow holds. -/
def State.heldTickets (s : State) (f : Nat) : Nat :=
  (s.adm.tickets.filter fun (e : Nat × Ticket) => e.2.flow == f && e.2.contracted).length

/-- Tickets of the shared part (R155). -/
def State.sharedTickets (s : State) : Nat := (s.adm.tickets.filter fun (e : Nat × Ticket) => !e.2.contracted).length

/-- An entry of the ticket table replaced. -/
def State.setTicket (s : State) (i : Nat) (t : Ticket) : State :=
  { s with adm := { s.adm with tickets := SMap.put s.adm.tickets i t } }

/-- The lowest free index of the ticket table from `i` on (DESIGN CHOICE, log 20). -/
def freeTicket (m : SMap Ticket) (i : Nat) : Nat :=
  match m with
  | [] => i
  | e :: r => if e.1 = i then freeTicket r (i + 1) else i

/-- What became of a request for a ticket. -/
inductive TicketOutcome where
  | created (index : Nat)
  | stalled
  | refused
  deriving DecidableEq, Repr

/-- The ticket entered, with its slots: those it brings (10 R278), or newly allocated ones. -/
def State.enterTicket (s : State) (t : Ticket) : TicketOutcome × State :=
  let r := if t.slots.isEmpty then s.takeSlots t.far (ceilDiv t.words 8) else (t.slots, s)
  let i := freeTicket r.2.adm.tickets 0
  (.created i, r.2.setTicket i { t with slots := r.1 })

/-- A producer stalls at its quota or its reservation (R148, 05 R130): counted when the stall begins. -/
def State.stall (s : State) (f : Nat) : State :=
  if s.adm.stalled.contains f then s
  else
    (({ s with adm := { s.adm with stalled := f :: s.adm.stalled } }).incSat ADM_QUOTA_STALL_CNT).postLimited 0x3019 f
      0x310 1 fun _ => f

/-- A best-effort request: shed, then the ticket, then the slots (R156, R157, 05 R131). -/
def State.bestEffort (s : State) (t : Ticket) : TicketOutcome × State :=
  let n := ceilDiv t.words 8
  if !s.isSet ADM_CTRL_BE_EN || s.isSet ADM_STATUS_SHED then (.refused, s.incSat ADM_BE_SHED_CNT)
  else if 65536 ≤ s.sharedTickets then
    (.refused, (s.incSat ADM_BE_FULL_CNT).postLimited 0x3010 0 0x310 2 sat32)
  else if s.beFree t.far < n then
    (.refused, (s.incSat STR_BE_REFUSE_CNT).postLimited 0x3007 0 0x300 2 fun k =>
      flag t.far + satN 16 k * 2 ^ 16)
  else s.enterTicket { t with contracted := false }

/-- A ticket requested for flow `t.flow` (R145 to R148); its deadline follows its class, and a flow at its quota stalls and
never takes a shared ticket. `t.deadline` gives the tick its deadline counts from. -/
def State.createTicket (s : State) (t : Ticket) : TicketOutcome × State :=
  let f := t.flow
  let be := { t with deadline := t.deadline + s.rd ADM_BE_DEADLINE_NS }
  if s.mode = modePromenade then (.refused, s)
  else
    match s.ticketContract f with
    | none => s.bestEffort be
    | some c =>
      if c.state ≠ .admitted then s.bestEffort be
      else if c.quota ≤ s.heldTickets f then (.stalled, s.stall f)
      else if c.rate ≤ s.carriedNow c then
        ((s.incSat ADM_EXCESS_CNT).postLimited 0x3018 f 0x310 2 fun _ => f).bestEffort be
      else if c.slots < s.heldSlots f + ceilDiv t.words 8 then (.stalled, s.stall f)
      else
        (s.countCarried f { c with
          period := s.periodNow c.grid c.unit, carried := s.carriedNow c + t.words }).enterTicket
          { t with contracted := true, deadline := t.deadline + c.deadline }

/-- An open ticket ends: the segment that fills it keeps no ticket, and the words that are still to come are late ones. -/
def State.orphan (s : State) (i : Nat) (t : Ticket) : State :=
  let r := s.flowRun t.flow
  let left := r.segments.map fun g => if g.ticket = some i then { g with ticket := none, gone := t.unwritten } else g
  s.setFlowRun t.flow { r with segments := left }

/-- The entry returns for reuse, with its slots; a stall of its flow ends (R147, R148). -/
def State.releaseTicket (s : State) (i : Nat) : State :=
  match SMap.find s.adm.tickets i with
  | none => s
  | some t =>
    let s1 := if t.unwritten.isEmpty then s else s.orphan i t
    { s1 with adm := { s1.adm with
        tickets := SMap.erase s1.adm.tickets i, stalled := s1.adm.stalled.filter (· != t.flow) } }

/-- A flow's contract counts one more LATE, or discarded, ticket. -/
def State.countLate (s : State) (f : Nat) : State :=
  match s.contract f with
  | none => s
  | some c => s.setContract f { c with late := c.late + 1 }
def State.countDiscarded (s : State) (f : Nat) : State :=
  match s.contract f with
  | none => s
  | some c => s.setContract f { c with discarded := c.discarded + 1 }

/-- Index under which a delivered segment is kept as a hold copy (07 R190): line kinds by segment, packet kinds once. -/
def State.holdIndex (s : State) (t : Ticket) : Nat :=
  if s.flowKind t.flow = 3 ∨ s.flowKind t.flow = 6 then t.segment else 0

/-- The delivered segment of a HOLD_LAST flow becomes its hold copy (07 R190); a contracted flow's only when the
unreserved pool covers it. -/
def State.keepHold (s : State) (t : Ticket) : State :=
  let f := t.flow
  if s.flowEgress f || s.flowSubst f != 0 || t.borrowed || !s.flowEn f then s
  else
    let r := s.flowRun f
    let k := s.holdIndex t
    let old := ((SMap.find r.holds k).map fun h => h.slots.length).getD 0
    if t.contracted && decide (s.beFree t.far + old < t.slots.length) then s
    else s.setFlowRun f { r with holds := SMap.put r.holds k { slots := t.slots, words := t.words, validBytes := t.validBytes } }

/-- A ticket's last word is handed over in this tick (R147, R158): on time, on time in the deadline tick, or LATE. -/
def State.deliverTicket (s : State) (i : Nat) : State :=
  match SMap.find s.adm.tickets i with
  | none => s
  | some t =>
    let f := t.flow
    let s1 :=
      if t.deadline < s.now then
        (((s.incSat ADM_LATE_CNT).countLate f).flowStat f 7 (t.words - t.handed)).postLimited 0x3011 f 0x310 3 fun k =>
          f + satN 16 k * 2 ^ 16
      else if t.deadline = s.now then s.incSat ADM_TIE_CNT
      else s
    (s1.keepHold t).releaseTicket i

/-- A ticket discarded because its deadline passed before it started (R159). -/
def State.discardLate (s : State) (i : Nat) (t : Ticket) : State :=
  ((((s.incSat ADM_DISCARD_CNT).countDiscarded t.flow).flowStat t.flow 7 t.words).postLimited 0x3012 t.flow 0x310 3
    fun k => t.flow + satN 16 k * 2 ^ 16).releaseTicket i

/-- Every ticket discarded (R169). -/
def State.dropTickets (s : State) : State :=
  { s with adm := { s.adm with tickets := [], stalled := [] } }

/-- The order in which the store serves tickets: contracted ones by their deadline (05 R120 class 3), then best-effort ones by their
arrival (class 8; R146), a lower index first. -/
def ticketBefore (a b : Nat × Ticket) : Bool :=
  if a.2.contracted && b.2.contracted then decide (a.2.deadline < b.2.deadline)
  else if a.2.contracted || b.2.contracted then a.2.contracted
  else decide (a.2.created < b.2.created)

/-! ### Contracts that end, rechecks (R164 to R166) -/

/-- A contract ends without its flow's wish (R164): it is withdrawn, and event 0x3016 names lane (3) or region (9). -/
def State.loseContract (s : State) (why f : Nat) : State :=
  match s.contract f with
  | none => s
  | some c =>
    if c.state = .admitted then
      ((s.setContract f { c with state := .withdrawing }).affect f).post 0x3016 0x310 3 (f + why * 2 ^ 28)
    else s

/-- The commands that wait on a flow's contract complete: it has ended. -/
def State.withdrawEnds (s : State) (ids : List Nat) : State := ids.foldl (fun (x : State) i => x.complete i .ok) s

/-- Every contract withdrawn and every ticket discarded (R169): a WITHDRAW that waits completes, and an ADMIT that waits is refused. -/
def State.dropAdmission (s : State) : State :=
  let s1 := s.withdrawEnds (s.adm.contracts.flatMap fun (e : Nat × Contract) => e.2.withdrawIds)
  let s2 := (s.adm.requests.foldl (fun (x : State) q => x.complete q.id .notInMode) s1).dropTickets
  { s2 with adm := { s2.adm with contracts := [], requests := [], rechecks := [], decidedAt := [], before := [] } }

/-- The recheck at the head of the queue begins (R165 step 2). -/
def State.beginRecheck (s : State) : State :=
  match s.adm.rechecks with
  | [] => s.wr ADM_STATUS_RECHECK 0
  | r :: _ => (s.wr ADM_STATUS_RECHECK 1).post 0x3013 0x310 2 (r.kind * 2 ^ 28 + r.inst)

/-- The flows whose contracts a recheck covers: those charged to the resource, PRIORITY 0 first and in ascending flow number. -/
def State.recheckFlows (s : State) (r : Recheck) : List Nat :=
  let hit := s.adm.contracts.filter fun (e : Nat × Contract) => e.2.charges.any fun x => x.kind == r.kind && x.inst == r.inst
  (sortBy (fun (a b : Nat × Contract) => decide (a.2.priority < b.2.priority)) hit).map fun (e : Nat × Contract) => e.1

/-- A resource lost capacity (R164): a recheck of the contracts charged to it is queued. -/
def State.startRecheck (s : State) (kind inst : Nat) : State :=
  let first := s.adm.rechecks.isEmpty
  let s1 := { s with adm := { s.adm with rechecks := s.adm.rechecks ++ [{ kind := kind, inst := inst }] } }
  if first then s1.beginRecheck else s1

/-- A contract demoted (R166): its reservation is released, its tickets become best effort and keep their deadlines. A WITHDRAW that
waits for its end completes. -/
def State.demote (s : State) (f kind : Nat) : State :=
  match s.contract f with
  | none => s
  | some c =>
    let s1 := s.setContract f { c with state := .demoted, quota := 0, slots := 0, charges := [], withdrawIds := [] }
    let s2 := { s1 with adm := { s1.adm with
      tickets := SMap.mapVal s1.adm.tickets fun _ t => if t.flow = f then { t with contracted := false } else t
      stalled := s1.adm.stalled.filter (· != f)
      decidedAt := SMap.erase s1.adm.decidedAt f } }
    (((s2.incSat ADM_DEMOTE_CNT).affect f).post 0x3015 0x310 3 (f + kind * 2 ^ 28)).withdrawEnds c.withdrawIds

/-- Contracts added back one at a time (R165 step 4): the kept ones, and the flows that fail with the resource kind. -/
def State.addBack (s : State) (kept : SMap Contract) (flows : List Nat) : List (Nat × Nat) :=
  match flows with
  | [] => []
  | f :: r =>
    match s.contract f with
    | none => s.addBack kept r
    | some c =>
      match s.testResources kept c with
      | some x => (f, x.kind) :: s.addBack kept r
      | none =>
        if 0 < s.slotShort kept f c then (f, 8) :: s.addBack kept r else s.addBack (SMap.put kept f c) r

end Sys2Proof.Machine
end

