-- ==== Sys2Proof/Machine/Admission.lean ====
section
/-! DEFINITION. Admission and tickets (06): the three commands, the check, the life of a ticket, rechecks. -/

namespace Sys2Proof.Machine

/-! ### Commands (R170 to R173) -/

/-- The parts of a contract that the device computes: placement, period, charges, slots. -/
def State.charged (s : State) (f : Nat) (c : Contract) : Contract :=
  let t := s.gridPeriod c.grid c.unit
  { c with
    far := s.flowFar f
    tNum := t.1
    tDen := t.2
    charges := s.chargesOf f c.rate
    slots := slotsFor c.rate c.deadline c.quota t.1 t.2
    period := s.periodNow c.grid c.unit }

/-- The contract an ADMIT asks for (R171). -/
def askedContract (r : List Nat) : Contract :=
  let o := recField r 10 2
  { grid := bitsOf o 2 0
    unit := bitsOf o 5 4
    rate := recField r 12 4
    deadline := recField r 16 4
    quota := recField r 20 4
    discardLate := bitOf o 8 == 1
    priority := bitsOf o 13 12
    far := false
    tNum := 0
    tDen := 1
    charges := []
    slots := 0 }

/-- A parameter of ADMIT outside its range (R171): its byte. -/
def admitBadParam (r : List Nat) : Option Nat :=
  if bitsOf (recField r 10 2) 5 4 = 3 then some 10
  else if recField r 12 4 = 0 ∨ 16777215 < recField r 12 4 then some 12
  else if recField r 16 4 < 1000 then some 16
  else if recField r 20 4 = 0 ∨ 196608 < recField r 20 4 then some 20
  else none

/-- ADMIT (R153, R154, R169): the request waits for its check; refused with NOT_IN_MODE in HALTED and PROMENADE, and in
every mode that admits none. -/
def execAdmitFlow (id : Nat) (s : State) : Result :=
  .next (s.startCmd id 0x3001 fun r s =>
    if !s.running then (some .notInMode, s)
    else
      match admitBadParam r with
      | some b => (some (.badParam b), s)
      | none =>
        let q : AdmitRequest := {
          id := id
          flow := recField r 8 2 % 2 ^ 14
          contract := askedContract r
          trial := bitOf (recField r 10 2) 9 == 1 }
        (none, { s with adm := { s.adm with requests := s.adm.requests ++ [q] } }))

/-- A refused ADMIT recorded (R172, R175). -/
def State.admitRefused (s : State) (q : AdmitRequest) (x : AdmitFailure) : State :=
  let s1 := (((s.wr ADM_LAST_REFUSAL_STATUS x.status).wr ADM_LAST_REFUSAL_KIND x.kind).wr ADM_LAST_REFUSAL_FLOW
    q.flow).wr ADM_LAST_INSTANCE x.inst
  (if q.trial then s1 else s1.incSat ADM_REFUSE_CNT).complete q.id
    ⟨x.status, x.kind * 2 ^ 28 + x.inst, x.point + sat32 x.short * 2 ^ 32⟩

/-- WITHDRAWs that wait for the end of the flow's contract. -/
def State.withdrawIds (s : State) (f : Nat) : List Nat := ((s.contract f).map fun c => c.withdrawIds).getD []

/-- An admitted contract takes force for the tickets from the next store tick on (R144, R154); the tickets of the flow count toward it,
and a WITHDRAW that waits on the contract it replaces completes (DEDUCED, log 140). -/
def State.contractTakes (s : State) (f : Nat) (c : Contract) : State :=
  let was := s.ticketContract f
  { s.setContract f c with adm := { (s.setContract f c).adm with
      decidedAt := SMap.put s.adm.decidedAt f s.now
      before := match was with
        | some o => SMap.put s.adm.before f o
        | none => SMap.erase s.adm.before f } }

/-- An ADMIT that passed its checks (R172). -/
def State.admitted (s : State) (q : AdmitRequest) (c : Contract) : State :=
  let done := fun (x : State) => x.complete q.id (.ok 0 (sat32 c.slots + quotaSum x.adm.contracts % 2 ^ 18 * 2 ^ 32))
  if q.trial then done s else (done (s.contractTakes q.flow c)).withdrawEnds (s.withdrawIds q.flow)

/-- ADMISSION_CHECK_DONE (R152 to R154): the oldest request is decided; none while a recheck runs (R165), and none is admitted in HALTED
or PROMENADE (R169). -/
def execAdmissionCheckDone (s : State) : Result :=
  .next (
    match s.adm.requests with
    | [] => s
    | q :: rest =>
      if !s.adm.rechecks.isEmpty then s
      else
        let c := s.charged q.flow q.contract
        let s1 := { s with adm := { s.adm with requests := rest } }
        if s.mode = modeHalted ∨ s.mode = modePromenade then s1.complete q.id .notInMode
        else
        match s.admitCheck q.flow c with
        | some x => s1.admitRefused q x
        | none => s1.admitted q c)

/-- The flow's contract begins to end (R172): its later tickets are best effort. -/
def State.withdraw (s : State) (f : Nat) (ids : List Nat) : State :=
  match s.contract f with
  | none => s
  | some c => s.setContract f { c with state := .withdrawing, withdrawIds := c.withdrawIds ++ ids }

/-- WITHDRAW. -/
def execWithdraw (id : Nat) (s : State) : Result :=
  .next (s.startCmd id 0x3002 fun r s =>
    let f := recField r 8 2
    if 16383 < f then (some (.badParam 8), s)
    else
      match s.contract f with
      | none => (some ⟨0x49, 0, 0⟩, s)
      | some c => if c.state = .demoted then (some ⟨0x49, 0, 0⟩, s) else (none, s.withdraw f [id]))

/-- WITHDRAW_DONE: the last contracted ticket ended; bandwidth, quota and slots are released. -/
def execWithdrawDone (flow : Nat) (s : State) : Result :=
  .next (
    match s.contract flow with
    | none => s
    | some c =>
      if c.state = .withdrawing ∧ s.heldTickets flow = 0 then
        State.withdrawEnds { s with adm := { s.adm with contracts := SMap.erase s.adm.contracts flow } } c.withdrawIds
      else s)

/-- State of a contract in CONTRACT_QUERY's encoding. -/
def contractCode (c : ContractState) : Nat :=
  match c with
  | .admitted => 1
  | .withdrawing => 2
  | .demoted => 3

/-- CONTRACT_QUERY. -/
def execContractQuery (id : Nat) (s : State) : Result :=
  .next (s.runCmd id 0x3003 fun r s =>
    let f := recField r 8 2
    let held := (s.adm.tickets.filter fun (e : Nat × Ticket) => e.2.flow == f).length
    if 16383 < f then (.badParam 8, s)
    else
      match s.contract f with
      | none => (.ok 0 (held * 2 ^ 32), s)
      | some c => (.ok (contractCode c.state + satN 16 c.discarded * 2 ^ 16) (sat32 c.late + held * 2 ^ 32), s))

/-! ### Tickets -/

/-- TICKET_CREATE for `words` words of an enabled flow, which the store has yet to write (R145 to R148, R156, R157; 05 R121). -/
def execTicketCreate (flow words : Nat) (s : State) : Result :=
  .next (
    if s.flowEn flow ∧ 0 < words then
      (s.createTicket {
        flow := flow
        contracted := false
        created := s.now
        deadline := s.now
        words := words
        slots := []
        far := s.flowFar flow
        unwritten := List.range words }).2
    else s)

/-! ### Rechecks and relocation -/

/-- RECHECK_DONE (R165 steps 3 to 5). -/
def execRecheckDone (s : State) : Result :=
  .next (
    match s.adm.rechecks with
    | [] => s
    | r :: rest =>
      let flows := s.recheckFlows r
      let kept := s.adm.contracts.filter fun (e : Nat × Contract) => !flows.contains e.1
      let failed := s.addBack kept flows
      let s1 := failed.foldl (fun (x : State) (p : Nat × Nat) => x.demote p.1 p.2) s
      let s2 := ({ s1 with adm := { s1.adm with rechecks := rest } }).incSat ADM_RECHECK_CNT
      (s2.post 0x3014 0x310 1 (satN 16 flows.length + satN 16 failed.length * 2 ^ 16)).beginRecheck)

/-- Slots of contracted tickets on a unit that move into free slots of their own reservations (05 R133 item 1). -/
def State.absorbed (s : State) (far : Bool) (u : Nat) : Nat :=
  (s.adm.contracts.map fun (e : Nat × Contract) =>
    min ((s.adm.tickets.map fun (x : Nat × Ticket) =>
        if x.2.flow == e.1 && x.2.contracted then
          (x.2.ownSlots.filter fun a => inFar a == far && unitOf a == u).length else 0).sum)
      (if e.2.far == far then e.2.slots - s.heldSlots e.1 else 0)).sum

/-- Unreserved free slots that the moves of a retired unit lack (05 R133 item 3). -/
def State.relocationShort (s : State) (far : Bool) (u : Nat) : Nat :=
  s.takenSlots far + s.reservedFree far - userSlots far - s.absorbed far u

/-- Best-effort tickets of a store in the order relocation discards them: latest deadline first, then lower index. -/
def State.discardOrder (s : State) (far : Bool) : List Nat :=
  (sortBy (fun (a b : Nat × Ticket) => decide (b.2.deadline < a.2.deadline))
    (s.adm.tickets.filter fun (e : Nat × Ticket) => !e.2.contracted && e.2.far == far && !e.2.borrowed)).map
    fun (e : Nat × Ticket) => e.1

/-- Tickets discarded one after the other until the moves have room; their number. -/
def State.discardFor (s : State) (far : Bool) (u : Nat) (l : List Nat) : Nat × State :=
  match l with
  | [] => (0, s)
  | i :: r =>
    if s.relocationShort far u = 0 then (0, s)
    else
      let x := State.discardFor ((s.incSat ADM_BE_RELOC_DISCARD_CNT).releaseTicket i) far u r
      (x.1 + 1, x.2)

/-- Buffers with slots on the unit show RELOCATED (05 R142). -/
def State.markRelocated (far : Bool) (u : Nat) (s : State) (b : Nat) : State :=
  let n := storeUnits far
  let q := (s.bufFirst b - storeBase far) / 8 % n
  if s.bufValid b ∧ inFar (s.bufFirst b) = far ∧ (u + n - q) % n < s.rdAt STR_BUF_LEN b then
    s.wrAt STR_BUF_RELOCATED b 1
  else s

/-- RELOCATION_DONE (05 R132 steps 2 to 4, R133): slots of fixed partitions and buffers, and slots of tickets, move to live units; the
unit's bit is cleared, the loss goes to admission. -/
def execRelocationDone (far : Bool) (unit : Nat) (found : Found) (s : State) : Result :=
  .next (
    if s.store.relocating.contains (far, unit) then
      let d := s.discardFor far unit (s.discardOrder far)
      let s1 := if d.1 = 0 then d.2 else d.2.post 0x301A 0x310 2 (sat32 d.1)
      let sf := s1.relocateSlots far (s1.boundSlots far unit) found
      let s2 := sf.rehome far ((sf.usedSlots far).filter fun a => unitOf a == unit) found
      let s3 := (List.range 256).foldl (State.markRelocated far unit) s2
      let s4 := { s3 with store := { s3.store with
        relocating := s3.store.relocating.filter fun (r : Bool × Nat) => r != (far, unit) } }
      let s5 :=
        if far then
          ((s4.wrBit STR_FAR_LIVE unit false).wr STR_STATUS_FAR_LIVE_CNT (s4.rd STR_STATUS_FAR_LIVE_CNT - 1)).wrAt
            STR_PART_WORDS 3 (s4.rdAt STR_PART_WORDS 3 - 16777216)
        else
          ((s4.wrBit STR_NEAR_LIVE unit false).wr STR_STATUS_NEAR_LIVE_CNT (s4.rd STR_STATUS_NEAR_LIVE_CNT - 1)).wrAt
            STR_PART_WORDS 5 (s4.rdAt STR_PART_WORDS 5 - 16384)
      (s5.post 0x3005 0x300 3 (unit + flag far * 2 ^ 31)).startRecheck (if far then 2 else 1) 0
    else s)

end Sys2Proof.Machine
end

