-- ==== Sys2Proof/Machine/Access.lean ====
section
/-! DEFINITION. Accesses to the central store (05 R120, R121, R129, R135): the order in which a bank or channel serves those that wait,
and a ticket whose words arrive. -/

namespace Sys2Proof.Machine

open Sys2Proof

/-! ### Cut-through (05 R135) -/

/-- An egress lane of flow `g` is wanted by flow `x` too. -/
def State.sharesLane (s : State) (g x : Nat) : Bool := (s.flowLanes g).any (s.flowLanes x).contains

/-- Ticket `i` of flow `f`, with deadline `d`, starts cut-through: it is first in its egress lanes' deadline order, the lower index at
equal deadlines, and no other ticket is being sent there. -/
def State.cutThrough (s : State) (f i d : Nat) : Bool :=
  match s.egressOf f with
  | none => false
  | some g =>
    let b := s.laneRate (s.flowLaneA f)
    s.isSet STR_CTRL_CT_EN && !s.flowEgress f && !s.flowFar f && !s.flowFar g &&
      ((s.flowLanes g).all fun n => decide ((s.laneRate n).1 * b.2 ≤ b.1 * (s.laneRate n).2)) &&
      (s.adm.tickets.all fun (e : Nat × Ticket) =>
        match s.egressOf e.2.flow with
        | some x =>
          e.1 == i || !s.sharesLane g x ||
            (e.2.handed == 0 && (decide (d < e.2.deadline) || (d == e.2.deadline && decide (i < e.1))))
        | none => true)

/-- Words of a ticket written: the ticket starts cut-through with its first word, and is ready with its last (R135). -/
def State.ticketFilled (s : State) (i : Nat) (t : Ticket) (left : List Nat) : State :=
  let cut := !t.cutThrough && t.unwritten.length == t.words && decide (left.length < t.words) && s.cutThrough t.flow i t.deadline
  let s1 := s.setTicket i { t with
    unwritten := left
    cutThrough := t.cutThrough || cut
    readyAt := if left.isEmpty && !t.unwritten.isEmpty then s.tai else t.readyAt }
  if cut then s1.incSat STR_CT_CNT else s1

/-- A word of the store was written: a ticket that waits for it has it now (R121). -/
def State.wordWritten (s : State) (a : Nat) : State :=
  match s.adm.tickets.find? fun (e : Nat × Ticket) => e.2.unwritten.any fun k => ticketAddr e.2.slots k == a with
  | none => s
  | some e => s.ticketFilled e.1 e.2 (e.2.unwritten.filter fun k => ticketAddr e.2.slots k != a)

/-! ### The order of service (R120, R121) -/

/-- The place of an access in the class order: twice its class, and one more for the writes of class 8. Transfers that carry an address
are of class 8 (07 R192). -/
def StoreAccess.rank (x : StoreAccess) : Nat :=
  let after := flag x.write.isSome
  match x.requester with
  | .promenade => 4
  | .contracted _ => 6 + 2 * after
  | .guard => 10
  | .config => 10
  | .steward => 12
  | .relocation => 14
  | .bestEffort => 16 + after
  | .flow => 16 + after
  | .design => 16 + after
  | .hostDma => 18

/-- The deadline that orders the reads of class 3. -/
def StoreAccess.deadline (x : StoreAccess) : Nat :=
  match x.requester, x.write with
  | .contracted d, none => d
  | _, _ => 0

/-- What orders the accesses that wait: class, deadline in class 3, arrival, requester number. -/
def StoreAccess.order (x : StoreAccess) : List Nat := [x.rank, x.deadline, x.arrived, x.number]

/-- The first number in which two lists differ is the lower one in the first list. -/
def lowerList (a b : List Nat) : Bool :=
  match a, b with
  | x :: r, y :: t => decide (x < y) || (x == y && lowerList r t)
  | _, _ => false

/-- The same requester, whatever deadline its access carries. -/
def sameRequester (x y : StoreAccess) : Bool :=
  x.number == y.number &&
    (match x.requester, y.requester with
     | .contracted _, .contracted _ => true
     | a, b => a == b)

/-- The accesses that no earlier one of the same requester to the same word precedes (R121). -/
def firstOfEach (seen l : List StoreAccess) : List StoreAccess :=
  match l with
  | [] => []
  | x :: r =>
    if seen.any fun y => y.addr == x.addr && sameRequester y x then firstOfEach (x :: seen) r else x :: firstOfEach (x :: seen) r

/-- The access that unit `u` of a store serves next. -/
def State.nextAccess (s : State) (far : Bool) (u : Nat) : Option StoreAccess :=
  (sortBy (fun x y => lowerList x.order y.order)
    ((firstOfEach [] s.store.waiting).filter fun x => inFar x.addr == far && s.unitAt x.addr == u && s.storeServes x.addr)).head?

/-- An access served: a word is written, or delivered with its poison flag (R123, R125). -/
def State.serveAccess (s : State) (x : StoreAccess) : State :=
  match x.write with
  | some w => (s.storePut x.addr w).wordWritten x.addr
  | none =>
    { (s.storeSense x.addr x.found).2 with reply := {
        data := (s.storeWord x.addr).data, poison := (s.storeSense x.addr x.found).1 } }

/-- Key of a unit among those that served an access in this tick. -/
def unitCode (far : Bool) (u : Nat) : Nat := u + 512 * flag far

/-- A bank or channel serves one access in a store tick (R120). -/
def State.serveUnit (s : State) (far : Bool) (u : Nat) : State :=
  if SMap.find s.store.served (unitCode far u) = some s.now then s
  else
    match s.nextAccess far u with
    | none => s
    | some x =>
      State.serveAccess { s with store := { s.store with
        waiting := s.store.waiting.erase x, served := SMap.put s.store.served (unitCode far u) s.now } } x

/-- Every bank and channel for which accesses wait serves one. -/
def State.serveUnits (s : State) : State :=
  ((s.store.waiting.map fun x => (inFar x.addr, s.unitAt x.addr)).eraseDups).foldl
    (fun (x : State) (u : Bool × Nat) => x.serveUnit u.1 u.2) s

/-- An access arrives at its bank or channel, which serves it now when it is the first of those that wait and none was served in this
tick. An address outside every store reaches none (R118). DESIGN CHOICE (log 142): of the accesses that arrive in one tick, the row that
comes first finds its unit idle. -/
def State.present (s : State) (x : StoreAccess) : State :=
  if inStore x.addr then
    State.serveUnit { s with store := { s.store with waiting := s.store.waiting ++ [x] } } (inFar x.addr) (s.unitAt x.addr)
  else s

/-- STORE_WRITE (R121, R125, R129). -/
def execStoreWrite (requester : Requester) (number addr data : Nat) (poison : Bool) (s : State) : Result :=
  .next (
    match s.accessRefusal requester addr with
    | some reason => s.addrRefuse addr reason
    | none =>
      s.present {
        requester := requester
        number := number
        addr := addr
        write := some { data := data % 2 ^ 72, poison := poison }
        arrived := s.now })

/-- STORE_READ (R123, R129): a refused read returns a poisoned word, whose data the spec leaves open. -/
def execStoreRead (requester : Requester) (number addr : Nat) (found : Syndrome) (s : State) : Result :=
  .next (
    match s.accessRefusal requester addr with
    | some reason => { (s.addrRefuse addr reason).took with reply := { data := s.free 72, poison := true } }
    | none => s.present { requester := requester, number := number, addr := addr, found := found, arrived := s.now })

end Sys2Proof.Machine
end

