-- ==== Sys2Proof/Machine/Packets.lean ====
section
/-! DEFINITION. Packets and lines as words and as octets (07 R181, R185, R187, R195, R196): the views, the samples of a format, ancillary
packets, the words of an SDI line. What the standards that the spec names fix is PRESUMED (log 22). -/

namespace Sys2Proof.Machine

open Sys2Proof

/-! ### Views (R181) -/

/-- Fields of `n` bits as one number, the first lowest. -/
def packFields (n : Nat) (xs : List Nat) : Nat :=
  match xs with
  | [] => 0
  | x :: r => x % 2 ^ n + 2 ^ n * packFields n r

/-- Six 12-bit lanes as a word. -/
def packLanes (lanes : List Nat) : Nat := packFields 12 lanes

/-- A list cut into pieces of `n`. -/
def pieces (fuel n : Nat) (xs : List Nat) : List (List Nat) :=
  match fuel with
  | 0 => []
  | k + 1 => if xs.isEmpty then [] else xs.take n :: pieces k n (xs.drop n)

/-- Lanes as words of `72 / n` lanes, a word with a poisoned lane (bit `n`) poisoned (bit 72). -/
def packWords (n : Nat) (lanes : List Nat) : List Nat :=
  (pieces lanes.length (72 / n) lanes).map fun p => packFields n p + (if p.any fun x => decide (2 ^ n ≤ x) then 2 ^ 72 else 0)

/-- The samples of a word in V12x6. -/
def lanesOf (w : Nat) : List Nat := (List.range 6).map fun i => w / 2 ^ (12 * i) % 2 ^ 12

/-- The samples of a word, each with the word's poison in bit 12. -/
def flaggedLanes (w : Nat) : List Nat := (lanesOf w).map fun x => x + 2 ^ 12 * bitOf w 72

/-- A word as a number with its poison flag in bit 72. -/
def flagWord (w : StoreWord) : Nat := w.data % 2 ^ 72 + 2 ^ 72 * flag w.poison

/-- Octets of a packet as words of V9x8: the tag is 1 on the first byte. -/
def byteWords (bs : List Nat) : List Nat :=
  match bs with
  | [] => []
  | b :: r => packWords 9 ((b % 256 + 256) :: r.map (· % 256))

/-- Octets as one number, the first octet highest. -/
def octetNumber (bs : List Nat) : Nat := bs.foldl (fun x b => x * 256 + b % 256) 0

/-- Values of `n` bits that follow one another in octets, the first in the highest bits. -/
def octetFields (n : Nat) (bs : List Nat) : List Nat :=
  let total := 8 * bs.length
  let v := octetNumber bs
  (List.range (total / n)).map fun i => v / 2 ^ (total - n * (i + 1)) % 2 ^ n

/-- Fields (width, value) written one after the other as octets, the last octet filled with zeros. -/
def fieldOctets (fs : List (Nat × Nat)) : List Nat :=
  let total := (fs.map fun f => f.1).sum
  let v := fs.foldl (fun x f => x * 2 ^ f.1 + f.2 % 2 ^ f.1) 0
  let n := ceilDiv total 8
  (bytesOf n (v * 2 ^ (8 * n - total))).reverse

/-- Bits of a video sample by FMT of KIND 0x3 (R178). -/
def sampleBits (fmt : Nat) : Nat :=
  match fmt with
  | 1 => 12
  | 2 => 8
  | 5 => 12
  | _ => 10

/-- Video samples of octets, each in the high bits of its lane. -/
def videoLanes (fmt : Nat) (bs : List Nat) : List Nat :=
  (octetFields (sampleBits fmt) bs).map fun x => x * 2 ^ (12 - sampleBits fmt)

/-- Octets of video samples. -/
def videoOctets (fmt : Nat) (lanes : List Nat) : List Nat :=
  fieldOctets (lanes.map fun x => (sampleBits fmt, x / 2 ^ (12 - sampleBits fmt)))

/-- Bits of an audio sample by FMT of KIND 0x4: L24 or L16. -/
def audioBits (fmt : Nat) : Nat := if bitOf fmt 0 = 1 then 16 else 24

/-- Audio samples of octets, each in the high bits of its 24-bit lane. -/
def audioLanes (fmt : Nat) (bs : List Nat) : List Nat :=
  (octetFields (audioBits fmt) bs).map fun x => x * 2 ^ (24 - audioBits fmt)

/-- Octets of the audio samples of words whose last one has `valid` bytes. -/
def audioOctets (fmt : Nat) (ws : List Nat) (valid : Nat) : List Nat :=
  let lanes := (ws.flatMap fun w => (List.range 3).map fun i => w / 2 ^ (24 * i) % 2 ^ 24).take (3 * (ws.length - 1) + valid / 3)
  fieldOctets (lanes.map fun x => (audioBits fmt, x / 2 ^ (24 - audioBits fmt)))

/-- Octets of V9x8 words whose last one has `valid` bytes. -/
def wordOctets (ws : List Nat) (valid : Nat) : List Nat :=
  (ws.flatMap fun w => (List.range 8).map fun i => w / 2 ^ (9 * i) % 256).take (8 * (ws.length - 1) + min 8 valid)

/-- One bit of the CRC-32 of IEEE 802.3, reflected. -/
def crc32Step (n c : Nat) : Nat :=
  match n with
  | 0 => c
  | k + 1 => crc32Step k (if c % 2 = 1 then (c / 2) ^^^ 0xEDB88320 else c / 2)

/-- The running CRC-32 over bytes. -/
def crc32Run (c : Nat) (bs : List Nat) : Nat := bs.foldl (fun x b => crc32Step 8 (x ^^^ (b % 256))) c

/-- CRC-32 of IEEE 802.3 over bytes. -/
def crc32 (bs : List Nat) : Nat := crc32Run 0xFFFFFFFF bs ^^^ 0xFFFFFFFF

/-- A frame with its frame check sequence (R199). -/
def withFcs (bs : List Nat) : List Nat := bs ++ bytesOf 4 (crc32 bs)

/-! ### Ancillary packets (R187) -/

/-- The header word of an ancillary packet. -/
def ancHeader (p : AncPacket) : Nat :=
  p.checksum % 2 ^ 10 + p.count % 2 ^ 10 * 2 ^ 10 + p.sdid % 2 ^ 10 * 2 ^ 20 + p.did % 2 ^ 10 * 2 ^ 30 +
    p.stream % 2 ^ 8 * 2 ^ 40 + flag p.c * 2 ^ 48 + p.offset % 2 ^ 12 * 2 ^ 49 + p.line % 2 ^ 11 * 2 ^ 61

/-- The words of an ancillary packet: the header word, then its user data words, six to a word. -/
def ancWords (p : AncPacket) : List Nat := ancHeader p :: packWords 12 (p.user.map fun u => u % 2 ^ 10 * 4)

/-- Ancillary packets of words in that layout. -/
def ancPackets (fuel : Nat) (ws : List Nat) : List AncPacket :=
  match fuel, ws with
  | 0, _ => []
  | _, [] => []
  | n + 1, h :: r =>
    let count := bitsOf h 17 10
    { line := bitsOf h 71 61
      offset := bitsOf h 60 49
      c := bitOf h 48 == 1
      stream := bitsOf h 47 40
      did := bitsOf h 39 30
      sdid := bitsOf h 29 20
      count := bitsOf h 19 10
      user := ((r.flatMap lanesOf).map fun x => x / 4).take count
      checksum := bitsOf h 9 0 } :: ancPackets n (r.drop (ceilDiv count 6))

/-- The checksum word matches: nine bits of DID, SDID, data count and user data summed, bit 9 the inverse of bit 8 (PRESUMED, log 141:
SMPTE ST 291-1). -/
def ancSumOk (p : AncPacket) : Bool :=
  let sum := (p.did % 2 ^ 9 + p.sdid % 2 ^ 9 + p.count % 2 ^ 9 + (p.user.map fun u => u % 2 ^ 9).sum) % 2 ^ 9
  p.checksum == sum + 2 ^ 9 * (1 - sum / 2 ^ 8)

/-- The ancillary packets of the octets of an RFC 8331 payload behind its eight octets of header, from bit `pos` on. -/
def rfcPackets (fuel v total pos : Nat) : List AncPacket :=
  match fuel with
  | 0 => []
  | n + 1 =>
    if total < pos + 62 then []
    else
      let get (p w : Nat) : Nat := v / 2 ^ (total - pos - p - w) % 2 ^ w
      let count := get 52 10 % 2 ^ 8
      { line := get 1 11
        offset := get 12 12
        c := get 0 1 == 1
        stream := get 24 8
        did := get 32 10
        sdid := get 42 10
        count := get 52 10
        user := (List.range count).map fun i => get (62 + 10 * i) 10
        checksum := get (62 + 10 * count) 10 } :: rfcPackets n v total (pos + ceilDiv (72 + 10 * count) 32 * 32)

/-- Words of an RFC 8331 packet. -/
def rfcWords (bs : List Nat) : List Nat :=
  let body := bs.drop 8
  (rfcPackets (bs.getD 4 0) (octetNumber body) (8 * body.length) 0).flatMap ancWords

/-- An ancillary packet as fields of RFC 8331, filled to 32 bits. -/
def ancFields (p : AncPacket) : List (Nat × Nat) :=
  let n := p.user.length
  [(1, flag p.c), (11, p.line), (12, p.offset), (8, p.stream), (10, p.did), (10, p.sdid), (10, p.count)] ++
    (p.user.map fun u => (10, u)) ++ [(10, p.checksum), (ceilDiv (72 + 10 * n) 32 * 32 - (72 + 10 * n), 0)]

/-- Octets of an RFC 8331 payload: extended sequence number, length, count, field bits. -/
def rfcOctets (seqHigh fieldBits : Nat) (ps : List AncPacket) : List Nat :=
  let body := fieldOctets (ps.flatMap ancFields)
  fieldOctets [(16, seqHigh), (16, body.length), (8, ps.length), (2, fieldBits), (22, 0)] ++ body

/-! ### A frame in the view of its flow (R181, R185) -/

/-- Payload octets cut at the rows of the sample row data headers. -/
def rowParts (fmt : Nat) (hs : List SrdHeader) (bs : List Nat) : List RowPart :=
  match hs with
  | [] => []
  | h :: r =>
    { row := h.row, offset := h.offset, second := h.second, samples := videoLanes fmt (bs.take h.length) } ::
      rowParts fmt r (bs.drop h.length)

/-- Valid bytes of the last word of `n` lanes of `k` bytes, `m` lanes to a word. -/
def lastBytes (n m k : Nat) : Nat := if n % m = 0 then m * k else n % m * k

/-- A received frame in the view of a flow of KIND `kind` and format `fmt`. -/
def packetOf (kind fmt lane now : Nat) (x : Frame) : Packet :=
  let p : Packet := {
    lane := lane
    arrived := now
    seq := x.rtpSeq
    extended := x.seqIsExtended
    marker := x.marker
    endsInError := x.endsInError }
  match kind with
  | 3 => { p with rows := rowParts fmt x.srd x.payload }
  | 4 =>
    let lanes := audioLanes fmt x.payload
    { p with words := packWords 24 lanes, validBytes := lastBytes lanes.length 3 3 }
  | 5 => { p with words := rfcWords x.payload }
  | _ => { p with words := byteWords x.payload, validBytes := lastBytes x.payload.length 8 1 }

/-- Samples of an SDI line in the order of its data streams, sample by sample. -/
def interleave (streams : List (List Nat)) : List Nat :=
  (List.range ((streams.map List.length).foldl max 0)).flatMap fun i => streams.filterMap fun x => x[i]?

/-- An active line, or an ancillary packet, as a packet of its own. -/
def sdiPacket (lane now row : Nat) (x : SdiLine) : Packet :=
  { lane := lane
    arrived := now
    row := row
    words :=
      match x.anc with
      | some p => ancWords p
      | none => packWords 12 ((interleave x.streams).map fun u => u % 2 ^ 10 * 4) }

/-- The words in which a packet lies in a merge buffer. -/
def Packet.stored (x : Packet) : List Nat := x.words ++ x.rows.flatMap fun l => packWords 12 l.samples

/-- Rows whose samples are taken from words read back. -/
def rowsRead (rows : List RowPart) (ws : List Nat) : List RowPart :=
  match rows with
  | [] => []
  | l :: r =>
    let n := ceilDiv l.samples.length 6
    { l with samples := ((ws.take n).flatMap flaggedLanes).take l.samples.length } :: rowsRead r (ws.drop n)

/-- The packet with the words read back from a merge buffer. -/
def Packet.readBack (x : Packet) (ws : List Nat) : Packet :=
  { x with words := ws.take x.words.length, rows := rowsRead x.rows (ws.drop x.words.length) }

/-! ### SDI lines (R194, R195; the rasters and words of the SMPTE standards, log 22) -/

/-- Index of the active line with number `l`: none in vertical blanking. -/
def sdiIndex (fmt : Nat) (twoFields : Bool) (l : Nat) : Option Nat :=
  let within (first n base : Nat) : Option Nat := if first ≤ l ∧ l < first + n then some (l - first + base) else none
  if fmt = 0 then within 26 720 0
  else if 3 ≤ fmt then within 83 2160 0
  else if twoFields then (within 21 540 0).orElse fun _ => within 584 540 540
  else within 42 1080 0

/-- The timing reference word: field, vertical blanking, end of active video. -/
def trsWord (f v h : Bool) : Nat :=
  512 + 256 * flag f + 128 * flag v + 64 * flag h + 32 * flag (v != h) + 16 * flag (f != h) + 8 * flag (f != v) +
    4 * flag ((f != v) != h)

/-- The two line number words. -/
def lineWords (l : Nat) : List Nat := [l % 128 * 4 + 512 * (1 - l / 64 % 2), 512 + l / 128 % 16 * 4]

/-- One word into the line CRC, polynomial x^18 + x^5 + x^4 + 1. -/
def lineCrcWord (n c : Nat) : Nat :=
  match n with
  | 0 => c
  | k + 1 => lineCrcWord k (if c % 2 = 1 then (c / 2) ^^^ 0x23000 else c / 2)

/-- The line CRC of words, and its two words. -/
def lineCrc (ws : List Nat) : Nat := ws.foldl (fun c w => lineCrcWord 10 (c ^^^ (w % 2 ^ 10))) 0
def crcWords (ws : List Nat) : List Nat :=
  [lineCrc ws % 512, lineCrc ws / 512 % 512].map fun x => x + 512 * (1 - x / 256)

/-- The words of an ancillary packet on an SDI stream. -/
def ancSdiWords (p : AncPacket) : List Nat := [0, 1023, 1023, p.did, p.sdid, p.count] ++ p.user ++ [p.checksum]

/-- One stream of a line: EAV, line number, CRC over the active words before and these, blanking with its ancillary words, SAV, active
words. -/
def sdiStream (f v : Bool) (l room blank : Nat) (before anc active : List Nat) : List Nat :=
  let eav := [1023, 0, 0, trsWord f v true] ++ lineWords l
  eav ++ crcWords (before ++ eav) ++ anc ++ List.replicate (room - anc.length) blank ++ [1023, 0, 0, trsWord f v false] ++ active

/-- Every second element from the `k`-th on. -/
def everySecond (k : Nat) (xs : List Nat) : List Nat :=
  (List.range (xs.length / 2)).map fun i => xs.getD (2 * i + k) 0

end Sys2Proof.Machine
end

