-- ==== Sys2Proof/Machine/Blocks.lean ====
section
/-! DEFINITION. The Hokutu link's coding (08 R214 to R217): blocks, tickets as blocks, the side channel, and the bonds that send and
receive them. Bonds 0 to 15 are those of the LNE registers; bond 16 + r is the input bond and bond 48 + r the output bond of lifeline
route r (17 R466). -/

namespace Sys2Proof.Machine

/-! ### Checks and the scrambler (R214) -/

/-- One bit of a CRC-16 with polynomial 0x1021, not reflected. -/
def crc16Bit (c : Nat) (b : Bool) : Nat :=
  if (c / 2 ^ 15 % 2 == 1) != b then (2 * c % 2 ^ 16) ^^^ 0x1021 else 2 * c % 2 ^ 16

/-- The low `n` bits of `v`, most significant first. -/
def crc16Nat (c n v : Nat) : Nat :=
  match n with
  | 0 => c
  | k + 1 => crc16Nat (crc16Bit c (bitOf v k == 1)) k v

/-- The scrambler 1 + x^39 + x^58 over `n` pieces of 36 bits, the highest first: what it sends, and its register. -/
def scramble (n reg v : Nat) : Nat × Nat :=
  match n with
  | 0 => (0, reg)
  | k + 1 =>
    let out := ((v / 2 ^ (36 * k)) ^^^ (reg / 2 ^ 3) ^^^ (reg / 2 ^ 22)) % 2 ^ 36
    let rest := scramble k ((reg * 2 ^ 36 + out) % 2 ^ 58) v
    (out * 2 ^ (36 * k) + rest.1, rest.2)

/-- The descrambler over a payload of 144 bits behind the 58 bits before it. -/
def descramble (reg v : Nat) : Nat :=
  let x := reg * 2 ^ 144 + v % 2 ^ 144
  (v ^^^ (x / 2 ^ 39) ^^^ (x / 2 ^ 58)) % 2 ^ 144

/-- The 148 bits of a block, with its side-channel bit and its payload as scrambled. -/
def LinkBlock.bits (b : LinkBlock) (side scrambled : Nat) : Nat :=
  b.sync % 4 * 2 ^ 146 + side % 2 * 2 ^ 145 + flag b.poison * 2 ^ 144 + scrambled % 2 ^ 144

/-- The block that 148 bits are, behind the 58 payload bits before them. -/
def blockOf (reg v : Nat) : LinkBlock := { sync := bitsOf v 147 146, poison := bitOf v 144 == 1, payload := descramble reg v }

/-! ### Control blocks, tickets (R215) -/

/-- Sync bits of a data block and of a control block. -/
def syncData : Nat := 1
def syncControl : Nat := 2

/-- The code of a control block. -/
def LinkBlock.code (b : LinkBlock) : Nat := bitsOf b.payload 143 136

/-- The block is a sync error: its sync bits, or an IDLE block that is not all 0. -/
def LinkBlock.syncError (b : LinkBlock) : Bool :=
  (b.sync != syncData && b.sync != syncControl) || (b.sync == syncControl && b.code == 0 && b.payload % 2 ^ 144 != 0)

/-- A control block. -/
def controlBlock (code rest : Nat) : LinkBlock := { sync := syncControl, payload := code * 2 ^ 136 + rest % 2 ^ 136 }

/-- START, END, TRAIN_REQ, TRAIN_ACK. -/
def startBlock (flowId : Nat) : LinkBlock := controlBlock 1 (flowId % 2 ^ 14 * 2 ^ 122)
def endBlock (flowId valid odd error crc : Nat) : LinkBlock :=
  controlBlock 2 (flowId % 2 ^ 14 * 2 ^ 122 + valid % 2 ^ 4 * 2 ^ 118 + odd % 2 * 2 ^ 117 + error % 2 * 2 ^ 116 + crc % 2 ^ 32 * 2 ^ 84)
def trainReqBlock (mono position : Nat) : LinkBlock := controlBlock 3 (mono % 2 ^ 64 * 2 ^ 72 + position % 2 ^ 5 * 2 ^ 67)
def trainAckBlock (echo turnaround position : Nat) : LinkBlock :=
  controlBlock 4 (echo % 2 ^ 64 * 2 ^ 72 + turnaround % 2 ^ 32 * 2 ^ 40 + position % 2 ^ 5 * 2 ^ 35)

/-- Words as data blocks, word A the earlier; a last word alone has padding beside it. -/
def dataBlocks (ws : List StoreWord) : List LinkBlock :=
  match ws with
  | [] => []
  | [a] => [{ sync := syncData, poison := a.poison, payload := a.data % 2 ^ 72 * 2 ^ 72 }]
  | a :: b :: r =>
    { sync := syncData, poison := a.poison || b.poison, payload := a.data % 2 ^ 72 * 2 ^ 72 + b.data % 2 ^ 72 } :: dataBlocks r

/-- CRC-32 over every word of a ticket (DESIGN CHOICE, log 147: a word's nine octets from bit 71 down). -/
def ticketCrc (ws : List StoreWord) : Nat := crc32 (ws.flatMap fun w => (bytesOf 9 (w.data % 2 ^ 72)).reverse)

/-- A ticket as blocks: START, its data blocks, END. -/
def ticketBlocks (flowId valid : Nat) (error : Bool) (ws : List StoreWord) : List LinkBlock :=
  startBlock flowId :: dataBlocks ws ++ [endBlock flowId valid (ws.length % 2) (flag error) (ticketCrc ws)]

/-- A ticket whose END never came ends in error when the next one starts (DEDUCED, log 147). -/
def LinkTicket.cut (t : LinkTicket) (lane : Nat) : HokutuTicket :=
  { flowId := t.flowId, words := t.words, endLane := lane, validBytes := 9, errorFlag := false, crcOk := true, syncError := true }

/-- A ticket as its END block ends it. -/
def LinkTicket.ended (t : LinkTicket) (lane : Nat) (b : LinkBlock) : HokutuTicket :=
  let ws := if bitOf b.payload 117 = 1 then t.words.dropLast else t.words
  { flowId := t.flowId
    words := ws
    endLane := lane
    validBytes := bitsOf b.payload 121 118
    errorFlag := bitOf b.payload 116 == 1
    crcOk := bitsOf b.payload 115 84 == ticketCrc ws
    syncError := t.bad }

/-- One block, from its lane, in the order of the bond: the ticket under way, and a ticket that ends. A block with a sync error adds no
word (DESIGN CHOICE, log 147). -/
def linkStep (o : Option LinkTicket) (lane : Nat) (b : LinkBlock) : Option LinkTicket × Option HokutuTicket :=
  if b.syncError then (o.map fun t => { t with bad := true }, none)
  else if b.sync = syncData then
    (o.map fun t => { t with words := t.words ++
      [{ data := bitsOf b.payload 143 72, poison := b.poison }, { data := bitsOf b.payload 71 0, poison := b.poison }] }, none)
  else
    match b.code with
    | 1 => (some { flowId := bitsOf b.payload 135 122 }, o.map fun t => t.cut lane)
    | 2 => (none, o.map fun t => t.ended lane b)
    | _ => (o, none)

/-- Blocks one after the other: the ticket under way behind them, and those that ended. -/
def linkRun (o : Option LinkTicket) (bs : List (Nat × LinkBlock)) : Option LinkTicket × List HokutuTicket :=
  match bs with
  | [] => (o, [])
  | b :: r =>
    let q := linkStep o b.1 b.2
    let rest := linkRun q.1 r
    (rest.1, q.2.toList ++ rest.2)

/-- Blocks released in the order of their numbers, block `k` from position `k mod n`, and what still waits (R216). -/
def releaseBlocks (fuel n k : Nat) (waiting : SMap (List Nat)) : List (Nat × Nat) × SMap (List Nat) :=
  match fuel with
  | 0 => ([], waiting)
  | m + 1 =>
    match SMap.read waiting [] (k % n) with
    | [] => ([], waiting)
    | x :: r =>
      let q := releaseBlocks m n (k + 1) (SMap.store waiting [] (k % n) r)
      ((k % n, x) :: q.1, q.2)

/-! ### The side channel (R217) -/

/-- A side-channel frame of 160 bits. -/
def sideFrame (x : TimeFrame) : Nat :=
  let v := 0xF62B * 2 ^ 128 + x.sec % 2 ^ 48 * 2 ^ 80 + x.ns % 2 ^ 30 * 2 ^ 50 + x.lockState % 4 * 2 ^ 48 + flag x.todValid * 2 ^ 47 +
    x.position % 2 ^ 5 * 2 ^ 42 + x.spareCmd % 2 ^ 5 * 2 ^ 37
  v * 2 ^ 16 + crc16Nat 0xFFFF 144 v

/-- The fields of a side-channel frame; one without its mark counts as bad. CRC-16 as 11 R297 starts it (DEDUCED, log 28). -/
def sideFields (v : Nat) : TimeFrame :=
  { sec := bitsOf v 143 96
    ns := bitsOf v 95 66
    lockState := bitsOf v 65 64
    todValid := bitOf v 63 == 1
    position := bitsOf v 62 58
    spareCmd := bitsOf v 57 53
    crcOk := bitsOf v 159 144 == 0xF62B && bitsOf v 15 0 == crc16Nat 0xFFFF 144 (v / 2 ^ 16 % 2 ^ 144) }

/-! ### Lifeline routes (17 R462) -/

/-- Fields of a route word. -/
def routeValid (w : Nat) : Bool := bitOf w 143 == 1
def routeKind (w : Nat) : Nat := bitsOf w 142 141
def routeIn (w : Nat) : Nat := bitsOf w 140 134
def routeOut (w : Nat) : Nat := bitsOf w 133 127
def routeCount (w : Nat) : Nat := bitsOf w 126 122
def routeSpare (w : Nat) : Nat := bitOf w 121
def routeMode (w : Nat) : Nat := bitsOf w 120 118
def routeDiv (w : Nat) : Nat := bitOf w 117
def routeGrid (w : Nat) : Nat := bitsOf w 116 114
def routeFmt (w : Nat) : Nat := bitsOf w 113 111
def routeBlank (w : Nat) : Bool := bitOf w 110 == 1
def routeOffset (w : Nat) : Int := toSigned 32 (bitsOf w 109 78)

/-- Input and output lanes of a route, its spares among them. -/
def routeLanesFrom (w first : Nat) : List Nat :=
  (List.range (if routeKind w = 3 then routeCount w + routeSpare w else 1)).map fun k => first + k
def routeInputs (w : Nat) : List Nat := routeLanesFrom w (routeIn w)
def routeOutputs (w : Nat) : List Nat := routeLanesFrom w (routeOut w)

/-! ### Bonds -/

/-- What training, sending and receiving keep of a bond. -/
def State.bondRun (s : State) (b : Nat) : BondRun := SMap.read s.lanes.bonds {} b

/-- What training, sending and receiving keep of a bond, replaced. -/
def State.setBondRun (s : State) (b : Nat) (r : BondRun) : State :=
  { s with lanes := { s.lanes with bonds := SMap.store s.lanes.bonds {} b r } }

/-- The route word of a bond above 15. -/
def State.bondRoute (s : State) (b : Nat) : Nat := SMap.read s.prom.routes 0 ((b - 16) % 32)

/-- Lowest data lane and number of data lanes of a bond. -/
def State.bondFirst (s : State) (b : Nat) : Nat :=
  if b < 16 then s.rdAt LNE_BOND_CTRL_FIRST b else if b < 48 then routeIn (s.bondRoute b) else routeOut (s.bondRoute b)
def State.bondCount (s : State) (b : Nat) : Nat := if b < 16 then s.rdAt LNE_BOND_CTRL_DATA_CNT b else routeCount (s.bondRoute b)

/-- STATE of a bond: 0 = DOWN, 1 = TRAINING, 2 = UP, 3 = UP_SPARED, 4 = FAILED. -/
def State.bondState (s : State) (b : Nat) : Nat := if b < 16 then s.rdAt LNE_BOND_STATUS_STATE b else (s.bondRun b).state

/-- The bond is in UP or UP_SPARED. -/
def State.bondUp (s : State) (b : Nat) : Bool := s.bondState b == 2 || s.bondState b == 3

/-- Lane that carries position `p` of a bond (R216). -/
def State.bondLane (s : State) (b p : Nat) : Nat := SMap.read (s.bondRun b).moved (s.bondFirst b + p) p

/-- Lanes of a bond: data lanes in the order of their positions, then the spare. -/
def State.bondLanes (s : State) (b : Nat) : List Nat :=
  ((List.range (s.bondCount b)).map (s.bondLane b)) ++ (s.bondRun b).spare.toList

/-- Position of a data lane. -/
def State.bondPosition (s : State) (b n : Nat) : Option Nat :=
  (List.range (s.bondCount b)).find? fun p => s.bondLane b p == n

/-- Positions of a bond: the data positions, and 16 for a spare. -/
def State.bondPositions (s : State) (b : Nat) : List Nat :=
  List.range (s.bondCount b) ++ (if (s.bondRun b).spare.isSome then [16] else [])

/-! ### Sending (R214 to R217) -/

/-- The frame that position `p` of a bond sends at a TAI instant. -/
def State.frameAt (s : State) (b p sec ns : Nat) : Nat :=
  sideFrame {
    sec := sec
    ns := ns
    lockState := s.rd CLR_STATUS_STATE
    todValid := s.isSet CLR_STATUS_TOD_VALID
    position := p
    spareCmd := match (s.bondRun b).spareWanted with
      | some w => w.1
      | none => 0x1F
    crcOk := true }

/-- A block period is 148 bits at 28.125 Gb/s. Times are in units of 1/28,125 ns: a block lasts 148,000 of them, a microsecond
28,125,000. -/
def blockUnits : Nat := 148000

/-- The side-channel bit of the block of position `p` that leaves `slot` block periods from now: a bit of the frame of its microsecond,
or 0 behind it. -/
def State.sideBit (s : State) (b p slot : Nat) : Nat :=
  let t := s.tai * 28125 + slot * blockUnits
  let micro := t / 28125000
  let into := t % 28125000
  let k := into / blockUnits
  if k < 160 then
    let at_ := micro * 1000 + into % blockUnits / 28125
    bitOf (s.frameAt b p (at_ / 1000000000) (at_ % 1000000000)) (159 - k)
  else 0

/-- A block sent on a position: the lane and its 148 bits, and the scrambler's register behind it. -/
def State.sendBlock (s : State) (b p slot : Nat) (x : LinkBlock) : (Nat × Nat) × State :=
  let r := s.bondRun b
  let q := scramble 4 (SMap.read r.tx 0 p) x.payload
  ((s.bondLane b p, x.bits (s.sideBit b p slot) q.1), s.setBondRun b { r with tx := SMap.store r.tx 0 p q.2 })

/-- Blocks sent one after the other, from number `k` on. -/
def State.sendFrom (s : State) (b k slot : Nat) (bs : List LinkBlock) : List (Nat × Nat) × State :=
  match bs with
  | [] => ([], s)
  | x :: r =>
    let n := s.bondCount b
    let q := s.sendBlock b (k % n) slot x
    let rest := State.sendFrom q.2 b (k + 1) (if (k + 1) % n = 0 then slot + 1 else slot) r
    (q.1 :: rest.1, rest.2)

/-- IDLE blocks have filled the slots since the block sent last: the next number, and scrambler registers that are free values, since
the spec starts the scrambler at none (DESIGN CHOICE, log 147). -/
def State.fillIdle (s : State) (b : Nat) : State :=
  let r := s.bondRun b
  let n := s.bondCount b
  let number := n * ((s.now - r.numberedAt) * 28125 / blockUnits)
  if r.sentCount < number then
    let tx : SMap Nat := ((List.range n).map fun p => (p, s.freeK p 58)).filter fun (e : Nat × Nat) => e.2 != 0
    (s.setBondRun b { r with sentCount := number, tx := tx }).tookN n
  else s

/-- Blocks sent on a bond (R216): block `i` of the bond travels on data position `i mod N`. -/
def State.sendBlocks (s : State) (b : Nat) (bs : List LinkBlock) : List (Nat × Nat) × State :=
  let s1 := s.fillIdle b
  let k := (s1.bondRun b).sentCount
  let q := s1.sendFrom b k 0 bs
  (q.1, q.2.setBondRun b { q.2.bondRun b with sentCount := k + bs.length })

/-! ### Receiving (R214 to R216) -/

/-- A block taken from a position: descrambled; a sync error is counted on its lane. -/
def State.takeBlock (s : State) (b p v : Nat) : LinkBlock × State :=
  let r := s.bondRun b
  let x := blockOf (SMap.read r.rx 0 p) v
  let s1 := s.setBondRun b { r with
    rx := SMap.store r.rx 0 p (v % 2 ^ 58)
    clean := SMap.store r.clean 0 p (if x.syncError then 0 else SMap.read r.clean 0 p + 1) }
  (x, if x.syncError && decide (b < 16) then s1.addSatAt LNE_LN_SYNC_ERR (s.bondLane b p) 1 else s1)

/-- Blocks of one position, one after the other. -/
def State.takeBlocks (s : State) (b p : Nat) (vs : List Nat) : List LinkBlock × State :=
  match vs with
  | [] => ([], s)
  | v :: r =>
    let q := s.takeBlock b p v
    let rest := State.takeBlocks q.2 b p r
    (q.1 :: rest.1, rest.2)

/-- Blocks in the bond's order, each taken from its position: with the lane it came on. -/
def State.takeReleased (s : State) (b : Nat) (vs : List (Nat × Nat)) : List (Nat × LinkBlock) × State :=
  match vs with
  | [] => ([], s)
  | v :: r =>
    let q := s.takeBlock b v.1 v.2
    let rest := State.takeReleased q.2 b r
    ((s.bondLane b v.1, q.1) :: rest.1, rest.2)

/-- Blocks that arrive on the data positions of a bond: those that every earlier block of the bond is there for are released (R216). -/
def State.receiveBlocks (s : State) (b : Nat) (arrived : List (List Nat)) : List (Nat × LinkBlock) × State :=
  let r := s.bondRun b
  let n := s.bondCount b
  let queues : SMap (List Nat) :=
    (List.range n).filterMap fun p =>
      let l := SMap.read r.waiting [] p ++ arrived.getD p []
      if l.isEmpty then none else some (p, l)
  let q := releaseBlocks (queues.map fun (e : Nat × List Nat) => e.2.length).sum n r.released queues
  (s.setBondRun b { r with waiting := q.2, released := r.released + q.1.length }).takeReleased b q.1

end Sys2Proof.Machine
end

