-- ==== Sys2Proof/Machine/FlowOps.lean ====
section
/-! DEFINITION. The flow engines' operations (07): checks of an entry, segments, windows, substitution, merging. -/

namespace Sys2Proof.Machine

open Sys2Proof

/-! ### Tables, enabling and disabling (07 R176 to R180) -/

/-- A word of the flow table written. DESIGN CHOICE (log 121): its reserved bits are stored as they are written. -/
def State.setFlowWord (s : State) (f n v : Nat) : State :=
  { s with flows := { s.flows with table := SMap.store s.flows.table 0 (16 * f + n) (v % 2 ^ 32) } }

/-- EN of an entry set or cleared. -/
def State.setFlowEn (s : State) (f : Nat) (b : Bool) : State :=
  s.setFlowWord f 0 (s.flowWord f 0 % 2 ^ 31 + (if b then 2 ^ 31 else 0))

/-- The enabled flows, in ascending number. -/
def State.enabledFlows (s : State) : List Nat :=
  (s.flows.table.filter fun (e : Nat × Nat) => e.1 % 16 == 0 && bitOf e.2 31 == 1).map fun (e : Nat × Nat) => e.1 / 16

/-- An event of a flow (R203): `bits` are DETAIL bits beside the flow, `n` occurrences counted in DETAIL[31:16] where
`counted`. -/
def State.flowEvent (s : State) (code f severity bits n : Nat) (counted : Bool) : State :=
  s.postLimitedN n code f (0x400 + s.flowLaneA f) severity fun k =>
    f + bits + (if counted then satN 16 k * 2 ^ 16 else 0)

/-- The valid pair records that name the flow (R191). -/
def State.pairRecords (s : State) (f : Nat) : List Nat :=
  (List.range 256).filter fun p => s.isSetAt FLW_PAIR_VALID p && s.rdAt FLW_PAIR_FLOW p == f

/-- The pair record of a flow. -/
def State.pairOf (s : State) (f : Nat) : Option Nat := (s.pairRecords f).head?

/-- FMT is one the KIND has (R178). -/
def fmtOk (kind fmt : Nat) : Bool :=
  match kind with
  | 3 => decide (fmt ≤ 5)
  | 4 => decide (fmt ≤ 3)
  | 6 => decide (fmt ≤ 4)
  | _ => fmt == 0

/-- VIEW that the KIND has (R178); Hokutu link takes any. -/
def viewOk (kind view : Nat) : Bool :=
  match kind with
  | 1 => view == 5
  | 2 => view == 5
  | 4 => view == 2
  | 8 => decide (view ≤ 5)
  | _ => view == 4

/-- Lane protocol of a KIND, in LNE_LN_CTRL.PROTO's encoding. -/
def protoOf (kind : Nat) : Nat := if kind ≤ 5 then 1 else if kind ≤ 7 then 2 else 3

/-- Active width, total lines of an SDI format (PRESUMED, log 22: the SMPTE rasters). -/
def sdiWidth (fmt : Nat) : Nat :=
  match fmt with
  | 0 => 1280
  | 1 => 1920
  | 2 => 2048
  | 3 => 3840
  | _ => 4096
def sdiLines (fmt : Nat) : Nat :=
  match fmt with
  | 0 => 750
  | 1 => 1125
  | 2 => 1125
  | _ => 2250

/-- Total pixels of a line: lane rate over frame rate, lines and 20 bits; none where that is no whole number. -/
def State.sdiTotal (s : State) (f : Nat) : Option Nat :=
  let r := s.laneRate (s.flowLaneA f)
  let g := s.flowGrid f
  let num := r.1 * 1000000000 * s.rdAt CLR_GRID_DEN g
  let den := r.2 * s.rdAt CLR_GRID_NUM g * s.gridL g * 20
  if den ≠ 0 ∧ num % den = 0 then some (num / den) else none

/-- LINES and rate of PACE_GRID match the format of an egress SDI video flow (R195). -/
def State.sdiGridOk (s : State) (f : Nat) : Bool :=
  s.gridL (s.flowGrid f) == sdiLines (s.flowFmt f) &&
    (match s.sdiTotal f with
     | some n => decide (sdiWidth (s.flowFmt f) < n)
     | none => false)

/-- The MODE of the pack FIFO that feeds an egress flow is not the one its KIND needs (10 R276). -/
def State.flowPackBad (s : State) (f : Nat) : Bool :=
  let k := s.flowKind f
  s.flowEgress f && s.flowPeerKind f == 1 && decide (s.flowPeer f < 256) && s.rdAt PF_CFG_MODE (s.flowPeer f) != flag (k == 1 || k == 2)

/-- Check 2 of R179, with the checks of R195 and 10 R276. -/
def State.flowKindBad (s : State) (f : Nat) : Bool :=
  let k := s.flowKind f
  k == 0 || decide (8 < k) || !fmtOk k (s.flowFmt f) || decide (1 < bitsOf (s.flowWord f 0) 29 28) || s.flowSubst f == 3 ||
    s.flowSegWords f == 0 || (k == 4 && (s.flowCh f == 0 || decide (64 < s.flowCh f))) ||
    ((k == 5 || k == 7) && s.flowSubst f != 2) || (k == 6 && s.flowEgress f && !s.sdiGridOk f) || s.flowPackBad f

/-- A lane cannot carry the flow (R179 step 4, 08 R210, R212): an egress SDI flow needs a PLL that the Caller references, and no
receive-only MODE. -/
def State.flowLaneBad (s : State) (f n : Nat) : Bool :=
  let k := s.flowKind f
  let caller := if s.isSetAt LNE_LN_CTRL_TX_PLL n then s.isSetAt LNE_Q_PLL1_SRC (n / 4) else s.isSetAt LNE_Q_PLL0_SRC (n / 4)
  !s.isSetAt LNE_LN_STATUS_CLAIMED n || s.laneRetired n || s.rdAt LNE_LN_CTRL_PROTO n != protoOf k ||
    (k ≤ 5 && s.rdAt LNE_LN_CTRL_MODE n == 3 && n % 4 != 0) || (protoOf k == 2 && s.flowEgress f && (!caller || s.rdAt LNE_LN_CTRL_MODE n == 4))

/-- The pair record is missing, duplicated or invalid (R179 step 6, R191). -/
def State.flowPairBad (s : State) (f : Nat) : Bool :=
  if !s.flowPair f then false
  else if 6 ≤ s.flowKind f then true
  else
    match s.pairRecords f with
    | [p] =>
      let skew := s.rdAt FLW_PAIR_SKEW_US p
      let b := s.rdAt FLW_PAIR_BUF p
      let need (r : Nat × Nat) : Nat := ceilDiv (r.1 * skew * 1000) (r.2 * 576)
      skew == 0 || decide (4000 < skew) || !s.bufValid b || inFar (s.bufFirst b) != decide (500 < skew) ||
        decide (s.rdAt STR_BUF_LEN b <
          max (need (s.laneRate (s.flowLaneA f))) (need (s.laneRate (s.flowLaneB f))))
    | _ => true

/-- The peer does not fit (R179 step 7). -/
def State.flowPeerBad (s : State) (f : Nat) : Bool :=
  let g := s.flowPeer f
  match s.flowPeerKind f with
  | 0 =>
    let back := s.flowPeerKind g == 0 && s.flowPeer g == f
    if s.flowEgress f then !(!s.flowEgress g && back) else !(s.flowEn g && s.flowEgress g && back)
  | 1 => decide (255 < g) || s.regionRetired (portRegion g)
  | _ => true

/-- Two entries have an equal match key (R182). -/
def State.sameKey (s : State) (f g : Nat) : Bool :=
  s.flowLaneA f == s.flowLaneA g && s.flowVlan f == s.flowVlan g && s.flowVid f == s.flowVid g &&
    s.flowDstIp f == s.flowDstIp g && s.flowDstPort f == s.flowDstPort g && s.flowSrcIp f == s.flowSrcIp g &&
    s.flowSrcPort f == s.flowSrcPort g && s.flowPt f == s.flowPt g && s.flowSsrcMatch f == s.flowSsrcMatch g &&
    s.flowSsrc f == s.flowSsrc g && protoOf (s.flowKind f) == protoOf (s.flowKind g)

/-- An enabled ingress flow has an equal key. SDI flows of one lane are told apart by KIND and have no key (DEDUCED,
log 23). -/
def State.flowDup (s : State) (f : Nat) : Bool :=
  !s.flowEgress f && protoOf (s.flowKind f) != 2 &&
    s.enabledFlows.any fun g => g != f && !s.flowEgress g && s.sameKey f g

/-- Bytes of the IP packet of `n` words (R179 step 9); RFC 8331 for KIND 0x5 is PRESUMED (log 22). -/
def State.packetBytes (s : State) (f n : Nat) : Nat :=
  let ip := if s.flowIpv6 f then 40 else 20
  match s.flowKind f with
  | 4 => ip + 8 + 12 + 3 * n * (if bitOf (s.flowFmt f) 0 = 1 then 2 else 3)
  | 5 => ip + 8 + 12 + 8 + 4 + 4 * ceilDiv (10 * (4 + 6 * (n - 1))) 32
  | _ => ip + 8 + 8 * n

/-- An egress packet of SEG_WORDS words would exceed FLW_MTU. -/
def State.flowMtuBad (s : State) (f : Nat) : Bool :=
  let k := s.flowKind f
  s.flowEgress f && (k == 1 || k == 2 || k == 4 || k == 5) &&
    decide (s.rd FLW_MTU < s.packetBytes f (s.flowSegWords f))

/-- The first failing status of FLOW_ENABLE (R179). -/
def State.flowRefusal (s : State) (f : Nat) : Option Nat :=
  if s.flowEn f then some 0x50
  else if s.flowKindBad f then some 0x51
  else if !viewOk (s.flowKind f) (s.flowView f) then some 0x52
  else if (s.flowLanes f).any (s.flowLaneBad f) then some 0x53
  else if (!s.flowEgress f && s.flowWin f && decide (1024 ≤ f)) || (s.flowWin f && s.flowWinSegs f == 0) then some 0x54
  else if s.flowPairBad f then some 0x55
  else if s.flowPeerBad f then some 0x56
  else if s.flowDup f then some 0x57
  else if s.flowMtuBad f then some 0x51
  else none

/-! ### Words of a segment (R181, R185, R186, R188, R189) -/

/-- The KIND carries lines. -/
def lineKind (k : Nat) : Bool := k == 3 || k == 6

/-- Lane `i` of a blank word. -/
def State.blankLane (s : State) (f i : Nat) : Nat :=
  match s.flowKind f with
  | 3 => if 3 ≤ s.flowFmt f then (if i % 3 = 1 then 0x100 else 0x800) else (if i % 2 = 1 then 0x100 else 0x800)
  | 6 => if i % 2 = 1 then 0x100 else 0x800
  | _ => 0

/-- A blank word. -/
def State.blankWord (s : State) (f : Nat) : Nat := packLanes ((List.range 6).map fun i => s.blankLane f i)

/-- Word `w` of a hold copy, with its poison flag (05 R124). -/
def State.holdWord (s : State) (h : HoldCopy) (w : Nat) : Nat := flagWord (s.storeWord (ticketAddr h.slots w))

/-- What lane `i` of word `w` of segment `k` takes when its sample is missing (R186, R189). -/
def State.missingLane (s : State) (f k w i : Nat) : Nat :=
  match s.flowSubst f with
  | 0 =>
    match SMap.find (s.flowRun f).holds k with
    | some h => (flaggedLanes (s.holdWord h w)).getD i 0
    | none => s.blankLane f i
  | 1 => s.blankLane f i
  | _ => 0

/-- Word `w` of a line segment; one with a poisoned sample is poisoned. -/
def State.segmentWord (s : State) (f : Nat) (g : Segment) (w : Nat) : StoreWord :=
  let lanes := (List.range 6).map fun i =>
    match SMap.find g.samples (6 * w + i) with
    | some x => x
    | none => s.missingLane f g.index w i
  { data := packLanes lanes, poison := lanes.any fun x => decide (2 ^ 12 ≤ x) }

/-- The word's six samples are present. -/
def wordPresent (g : Segment) (w : Nat) : Bool := (List.range 6).all fun i => (SMap.find g.samples (6 * w + i)).isSome

/-- The words of a segment written to its ticket: those that are present, or all of them when it closes. -/
def State.writeSegment (s : State) (f : Nat) (g : Segment) (all : Bool) : State :=
  match g.ticket with
  | none => s
  | some i =>
    match SMap.find s.adm.tickets i with
    | none => s
    | some t =>
      let here := t.unwritten.filter fun w => all || wordPresent g w
      let s1 := here.foldl (fun (x : State) w => x.storePut (ticketAddr t.slots w) (s.segmentWord f g w)) s
      if here.isEmpty then s else s1.ticketFilled i t (t.unwritten.filter fun w => !here.contains w)

/-- A segment index is received by the open window (R188); a flow without a window keeps none. -/
def State.noteReceived (s : State) (f k : Nat) : State :=
  let r := s.flowRun f
  if !s.flowWin f || r.received.contains k || (r.windowOpen && r.missingAt == some s.now) then s
  else s.setFlowRun f { r with received := r.received ++ [k] }

/-- An open line segment closes (R185, R186): its words are complete, its index is received. Words that arrived after their line was
sent were discarded (R195). -/
def State.closeSegment (f : Nat) (s : State) (g : Segment) : State :=
  let late := (g.gone.filter (wordPresent g)).length
  let s1 := ((s.writeSegment f g true).flowStat f 1 (if g.ticket.isSome then s.flowSegWords f else 0)).flowStat
    ((s.egressOf f).getD f) 7 late
  let r := s1.flowRun f
  (s1.setFlowRun f { r with segments := r.segments.filter (fun x => x.index != g.index) }).noteReceived f g.index

/-- The open segments of a flow that `p` selects close. -/
def State.closeSegments (s : State) (f : Nat) (p : Segment → Bool) : State :=
  ((s.flowRun f).segments.filter p).foldl (State.closeSegment f) s

/-- The device clears EN itself (R180): 1 = lane retired, 2 = region retired, 3 = LOAD. The contract of the flow that has the lost lane at
its other end is withdrawn too (06 R164). -/
def State.deviceDisable (s : State) (why f : Nat) : State :=
  if !s.flowEn f then s
  else
    let s0 := s.closeSegments f fun _ => true
    let s1 := ((s0.flowEvent 0x400B f 3 (why * 2 ^ 28) 1 false).setFlowEn f false).setFlowRun f {}
    let lost := if why = 1 then 3 else 9
    let g := s.flowPeer f
    let s2 := (s1.loseContract lost f).affect f
    if why = 3 then s1
    else if s.flowPeerKind f = 0 ∧ s.flowPeerKind g = 0 ∧ s.flowPeer g = f then s2.loseContract lost g
    else s2

/-! ### Segments that arrive (R183 to R185) -/

/-- A ticket requested for a segment of `words` words, none of which is written. -/
def State.segmentTicket (s : State) (f words segment valid arrived : Nat) : TicketOutcome × State :=
  s.createTicket {
    flow := f
    contracted := false
    created := s.now
    deadline := s.now
    words := words
    slots := []
    far := s.flowFar f
    unwritten := List.range words
    arrived := some arrived
    segment := segment
    validBytes := valid }

/-- What became of a packet's words: taken or discarded, or what of it is left to wait. -/
inductive Arrival where
  | done
  | wait (rest : Packet)
  deriving DecidableEq, Repr

/-- Index of the segment that samples of a row belong to (R185). -/
def State.segmentIndex (s : State) (f : Nat) (l : RowPart) : Nat :=
  if l.second then l.row + ceilDiv (s.flowWinSegs f) 2 else l.row

/-- Samples of a pixel (R181). -/
def State.samplesPerPixel (s : State) (f : Nat) : Nat := if 3 ≤ s.flowFmt f then 3 else 2

/-- Samples put at consecutive places. -/
def putSamples (m : SMap Nat) (k : Nat) (xs : List Nat) : SMap Nat :=
  match xs with
  | [] => m
  | x :: r => putSamples (SMap.put m k (x % 2 ^ 13)) (k + 1) r

/-- Samples added to the open segment `k`; a complete one closes. -/
def State.addSamples (s : State) (f k : Nat) (l : RowPart) : State :=
  let r := s.flowRun f
  match r.segments.find? fun g => g.index == k with
  | none => s
  | some g =>
    let g1 := { g with samples := putSamples g.samples (l.offset * s.samplesPerPixel f) l.samples }
    let s1 := s.setFlowRun f { r with segments := r.segments.map fun y => if y.index = k then g1 else y }
    let full := (List.range (s.flowSegWords f)).all (wordPresent g1)
    if full then s1.closeSegments f fun y => y.index == k else s1.writeSegment f g1 false

/-- A new line segment, with its ticket or none; its index repeated in one window is counted. -/
def State.openSegment (s : State) (f k : Nat) (ticket : Option Nat) : State :=
  let r := s.flowRun f
  let s1 := s.setFlowRun f { r with segments := r.segments ++ [{ index := k, samples := [], ticket := ticket }] }
  if s.flowWin f && r.received.contains k then s1.flowStat f 5 1 else s1

/-- Samples of a row placed by row and pixel offset (R185), and whether they have to wait for a ticket. -/
def State.rowArrive (s : State) (f arrived : Nat) (l : RowPart) : Bool × State :=
  let k := s.segmentIndex f l
  let s0 := s.closeSegments f fun g => decide (g.index + 2 ≤ k)
  if (s0.flowRun f).segments.any fun g => g.index == k then (false, s0.addSamples f k l)
  else
    let q := s0.segmentTicket f (s.flowSegWords f) k 9 arrived
    match q.1 with
    | .stalled => (true, q.2)
    | .refused => (false, (q.2.openSegment f k none).addSamples f k l)
    | .created i => (false, (q.2.openSegment f k (some i)).addSamples f k l)

/-- The rows of a packet, one after the other, and those that are left to wait. -/
def State.rowsArrive (s : State) (f arrived : Nat) (ls : List RowPart) : List RowPart × State :=
  match ls with
  | [] => ([], s)
  | l :: r =>
    let q := s.rowArrive f arrived l
    if q.1 then (l :: r, q.2) else State.rowsArrive q.2 f arrived r

/-- A ticket's packet ended in error: a cut-through one is aborted (05 R138). -/
def State.endInError (s : State) (e : Nat × Ticket) : State :=
  let s1 := s.setTicket e.1 { e.2 with errored := true }
  if e.2.cutThrough then (s1.incSat STR_CT_ABORT_CNT).post 0x3008 0x300 2 ((s.egressOf e.2.flow).getD 0) else s1

/-- Tickets of the segments that a packet's rows belong to. -/
def State.rowTickets (s : State) (f : Nat) (ls : List RowPart) : List (Nat × Ticket) :=
  s.adm.tickets.filter fun (e : Nat × Ticket) => e.2.flow == f && ls.any fun l => s.segmentIndex f l == e.2.segment

/-- A packet of KIND 0x3; its marker closes every open segment. -/
def State.lineArrive (s : State) (f : Nat) (x : Packet) : Arrival × State :=
  let q := s.rowsArrive f x.arrived x.rows
  if q.1.isEmpty then
    let s1 := q.2.flowStat f 0 1
    let s2 := if x.endsInError then (s1.rowTickets f x.rows).foldl State.endInError s1 else s1
    (.done, if x.marker then s2.closeSegments f fun _ => true else s2)
  else (.wait { x with rows := q.1 }, q.2)

/-- A segment of ANC packets counts those whose checksum does not match (R187). -/
def State.countAnc (s : State) (f : Nat) (ws : List Nat) : State :=
  if s.flowKind f = 5 ∨ s.flowKind f = 7 then
    s.flowStat f 6 ((ancPackets ws.length ws).filter fun p => !ancSumOk p).length
  else s

/-- A packet, or an SDI line, that is a segment of its own (R185). -/
def State.packetArrive (s : State) (f : Nat) (x : Packet) : Arrival × State :=
  let n := x.words.length
  let k := if lineKind (s.flowKind f) then x.row else (s.flowRun f).received.length
  if s.flowSegWords f < n then (.done, (s.flowStat f 3 1).flowEvent 0x4001 f 2 (2 * 2 ^ 14) 1 true)
  else
    let q := s.segmentTicket f n k x.validBytes x.arrived
    match q.1 with
    | .stalled => (.wait x, q.2)
    | .refused => (.done, q.2)
    | .created i =>
      match SMap.find q.2.adm.tickets i with
      | none => (.done, q.2)
      | some t =>
        let s1 := ((q.2.ticketWrite t.slots 0 x.words).ticketFilled i t []).countAnc f x.words
        let s2 := if s.flowWin f && (s1.flowRun f).received.contains k then s1.flowStat f 5 1 else s1
        let s3 := ((s2.noteReceived f k).flowStat f 0 1).flowStat f 1 n
        match SMap.find s3.adm.tickets i with
        | some y => (.done, if x.endsInError then s3.endInError (i, y) else s3)
        | none => (.done, s3)

/-- Line segments that were opened in the tick of a DEADLINE, after it, close when that tick is over (R188). -/
def State.settleWindow (s : State) (f : Nat) : State :=
  let r := s.flowRun f
  if s.flowWin f && !r.windowOpen && r.missingAt != some s.now then s.closeSegments f fun _ => true else s

/-- A packet's words processed, or left to wait for a ticket or a window. -/
def State.segmentArrive (s : State) (f : Nat) (x : Packet) : Arrival × State :=
  let s0 := s.settleWindow f
  let r := s0.flowRun f
  if s.flowWin f && !r.windowOpen && r.missingAt != some s.now then (.wait x, s0)
  else if s.flowKind f = 3 then s0.lineArrive f x
  else s0.packetArrive f x

/-! ### The lane ingress buffer (R183) -/

/-- Bytes a waiting packet takes: 9 for a word (DEDUCED, log 24). -/
def waitBytes (x : Packet) : Nat := 9 * x.stored.length

/-- Bytes of packets that wait in the buffer of lane `n`. -/
def bytesOn (n : Nat) (l : List Packet) : Nat := ((l.filter fun x => x.lane == n).map waitBytes).sum

/-- Bytes a flow holds of a lane's buffer. -/
def State.flowWaiting (s : State) (f n : Nat) : Nat := bytesOn n (s.flowRun f).waiting

/-- Bytes in use of a lane's buffer. -/
def State.laneWaiting (s : State) (n : Nat) : Nat := (s.flows.run.map fun (e : Nat × FlowRun) => bytesOn n e.2.waiting).sum

/-- A packet joins the ingress buffer of the lane it came on, or is dropped whole. -/
def State.bufferPacket (s : State) (f : Nat) (x : Packet) : State :=
  let n := x.lane
  let b := waitBytes x
  let r := s.flowRun f
  if 1024 * s.rd FLW_SHARE_KIB < s.flowWaiting f n + b then
    (s.flowStat f 3 1).flowEvent 0x4001 f 2 0 1 true
  else if 131072 < s.laneWaiting n + b then
    ((s.addSatAt FLW_LN_BUF_DROP n 1).flowStat f 3 1).flowEvent 0x4001 f 2 (1 * 2 ^ 14) 1 true
  else
    (s.setFlowRun f { r with waiting := r.waiting ++ [x] }).wrAt FLW_LN_BUF_PEAK n
      (max (s.rdAt FLW_LN_BUF_PEAK n) (s.laneWaiting n + b))

/-- The packets that wait, replaced. -/
def State.setWaiting (s : State) (f : Nat) (l : List Packet) : State := s.setFlowRun f { s.flowRun f with waiting := l }

/-- Waiting packets processed in their order until one has to wait. -/
def State.drain (s : State) (f : Nat) (fuel : Nat) : State :=
  match fuel with
  | 0 => s
  | n + 1 =>
    match (s.flowRun f).waiting with
    | [] => s
    | x :: rest =>
      let q := s.segmentArrive f x
      match q.1 with
      | .wait y => q.2.setWaiting f (y :: rest)
      | .done => State.drain (q.2.setWaiting f rest) f n

/-- Everything that waits is tried again. -/
def State.drainAll (s : State) (f : Nat) : State := s.drain f (s.flowRun f).waiting.length

/-- Every flow with waiting packets is tried again, after tickets were released (06 R148). -/
def State.drainFlows (s : State) : State :=
  (s.flows.run.filter fun (e : Nat × FlowRun) => !e.2.waiting.isEmpty).foldl
    (fun (x : State) (e : Nat × FlowRun) => x.drainAll e.1) s

/-- Sequence number extended to 32 bits (R184): the number nearest the highest seen. -/
def extendSeq (highest : Option Nat) (x : Packet) : Nat :=
  if x.extended then x.seq % 2 ^ 32
  else
    match highest with
    | none => x.seq % 2 ^ 16
    | some h =>
      let c := h / 2 ^ 16 * 2 ^ 16 + x.seq % 2 ^ 16
      if c + 32768 < h then (c + 65536) % 2 ^ 32 else if h + 32768 < c ∧ 65536 ≤ c then c - 65536 else c

/-- The KIND has RTP sequence numbers. -/
def hasSeq (k : Nat) : Bool := decide (2 ≤ k ∧ k ≤ 5)

/-- Segments still missing after a packet that arrived in the tick of the DEADLINE (R188, R200). -/
def State.stillMissing (s : State) (f : Nat) (x : Packet) (l : List Nat) : List Nat :=
  match s.flowKind f with
  | 3 => l.filter fun k => !(x.rows.any fun p => s.segmentIndex f p == k)
  | 6 => l.filter fun k => k != x.row
  | _ => l.tail

/-- A matched packet passes to segment processing (R184): sequence losses, old packets, the buffer. -/
def State.passPacket (s : State) (f : Nat) (x : Packet) : State :=
  let r := s.flowRun f
  let n := extendSeq r.highest x
  let old := hasSeq (s.flowKind f) && (match r.highest with | some h => decide (n < h) | none => false)
  if old && s.flowKind f != 3 then s.flowStat f 3 1
  else
    let gap := if hasSeq (s.flowKind f) then (match r.highest with | some h => n - (h + 1) | none => 0) else 0
    let high := match r.highest with | some h => max h n | none => n
    let tie := s.flowWin f && r.missingAt == some s.now
    let s1 := s.setFlowRun f { r with
      highest := some high
      lastArrival := some s.now
      missing := if tie then s.stillMissing f x r.missing else r.missing }
    let s2 := if tie && r.lastArrival != some s.now then s1.incSat FLW_TIE_CNT else s1
    let s3 := if gap = 0 then s2 else (s2.flowStat f 2 gap).flowEvent 0x4002 f 2 0 gap true
    if !(s3.flowRun f).waiting.isEmpty then s3.bufferPacket f x
    else
      let q := s3.segmentArrive f x
      match q.1 with
      | .done => q.2
      | .wait y => q.2.bufferPacket f y

/-! ### ST 2022-7 pairs (R192, R193) -/

/-- Merge state of a pair record. -/
def State.pairRun (s : State) (p : Nat) : PairRun := SMap.read s.flows.pairs {} p

/-- Merge state of a pair record replaced. -/
def State.setPairRun (s : State) (p : Nat) (r : PairRun) : State :=
  { s with flows := { s.flows with pairs := SMap.store s.flows.pairs {} p r } }

/-- Reason of the refusal of an address outside every valid buffer (05 R129). -/
def refusedFor (a : Nat) : Nat := if fixedPartition a then 1 else 2

/-- A word written by an addressed transfer. -/
def State.addressedWrite (s : State) (a w : Nat) : State :=
  if s.inValidBuffer a then s.storePut a { data := w % 2 ^ 72, poison := bitOf w 72 == 1 } else s.addrRefuse a (refusedFor a)

/-- A word read by an addressed transfer, with its poison in bit 72; a refused one is poisoned, with data that the spec leaves open. -/
def State.addressedRead (s : State) (a : Nat) : Nat × State :=
  if s.inValidBuffer a then (flagWord (s.storeWord a), (s.storeSense a .zero).2)
  else (s.free 72 + 2 ^ 72, (s.addrRefuse a (refusedFor a)).took)

/-- Words the merge buffer of a pair holds, and its capacity. -/
def State.mergeWords (s : State) (p : Nat) : Nat := ((s.pairRun p).held.map fun h => h.packet.stored.length).sum
def State.mergeRoom (s : State) (p : Nat) : Nat := 8 * s.rdAt STR_BUF_LEN (s.rdAt FLW_PAIR_BUF p)

/-- Address of place `i` of the merge buffer, which is used round and round (DESIGN CHOICE, log 143). -/
def State.mergeAddr (s : State) (p i : Nat) : Nat := s.bufFirst (s.rdAt FLW_PAIR_BUF p) + i % s.mergeRoom p

/-- Words written to a merge buffer from place `i` on. -/
def State.mergeWrite (s : State) (p i : Nat) (ws : List Nat) : State :=
  match ws with
  | [] => s
  | w :: r => State.mergeWrite (s.addressedWrite (s.mergeAddr p i) w) p (i + 1) r

/-- `n` words read from a merge buffer from place `i` on. -/
def State.mergeRead (s : State) (p i n : Nat) : List Nat × State :=
  match n with
  | 0 => ([], s)
  | k + 1 =>
    let q := s.addressedRead (s.mergeAddr p i)
    let r := State.mergeRead q.2 p (i + 1) k
    (q.1 :: r.1, r.2)

/-- A held packet passes on, as its words are read back. -/
def State.mergeRelease (s : State) (p f : Nat) (h : HeldPacket) : State :=
  let q := s.mergeRead p h.place h.packet.stored.length
  q.2.passPacket f (h.packet.readBack q.1)

/-- Held packets that follow E without a gap pass on in order. -/
def State.mergePass (s : State) (p f fuel : Nat) : State :=
  match fuel with
  | 0 => s
  | n + 1 =>
    let r := s.pairRun p
    match r.expected with
    | none => s
    | some e =>
      match r.held.find? fun h => h.seq == e with
      | none => s
      | some h =>
        State.mergePass ((s.setPairRun p { r with
          expected := some (e + 1), held := r.held.filter fun y => y.seq != e }).mergeRelease p f h) p f n

/-- The lowest number held. -/
def lowestHeld (l : List HeldPacket) : Option Nat := (l.map fun h => h.seq).min?

/-- E moves past the gap before the lowest held number, and the held packets pass on (R192). -/
def State.mergeSkip (s : State) (p f : Nat) : State :=
  let r := s.pairRun p
  match lowestHeld r.held with
  | none => s
  | some n => (s.setPairRun p { r with expected := some n }).mergePass p f r.held.length

/-- A packet is written into the merge buffer. -/
def State.mergeHold (s : State) (p n : Nat) (x : Packet) : State :=
  let r := s.pairRun p
  (s.setPairRun p { r with
    held := r.held ++ [{ seq := n, tick := s.now, place := r.place, packet := x }]
    place := r.place + x.stored.length }).mergeWrite p r.place x.stored

/-- A duplicate is counted for its path; of two copies that arrive in one tick, path A's is taken, so path B's is the duplicate. The
copies hold the same words (R193). -/
def State.duplicate (s : State) (p n : Nat) (pathB : Bool) : State :=
  let r := s.pairRun p
  if pathB || r.takenB == some (n, s.now) then s.setPairRun p { r with dupB := r.dupB + 1 }
  else s.setPairRun p { r with dupA := r.dupA + 1 }

/-- A packet numbered `n` of a pair (R192); the oldest held packets pass on while the merge buffer has no room for it. -/
def State.mergeIn (s : State) (p f n fuel : Nat) (pathB : Bool) (x : Packet) : State :=
  match fuel with
  | 0 => s
  | k + 1 =>
    let r := s.pairRun p
    let taken := { r with takenB := if pathB then some (n, s.now) else r.takenB }
    match r.expected with
    | none => (s.setPairRun p { taken with expected := some (n + 1) }).passPacket f x
    | some e =>
      if n < e ∨ (r.held.any fun h => h.seq == n) then s.duplicate p n pathB
      else if n = e then
        ((s.setPairRun p { taken with expected := some (e + 1) }).passPacket f x).mergePass p f r.held.length
      else if s.mergeRoom p < s.mergeWords p + x.stored.length then
        let first := (lowestHeld r.held).getD n
        let s1 := s.flowEvent 0x4006 f 3 0 (first - e) true
        State.mergeIn (if first < n then s1.mergeSkip p f else s1.setPairRun p { r with expected := some n }) p f n k pathB x
      else (s.setPairRun p taken).mergeHold p n x

/-- A packet of a pair on path A or B (R192). -/
def State.mergeArrive (s : State) (p f : Nat) (pathB : Bool) (x : Packet) : State :=
  let r := s.pairRun p
  s.mergeIn p f (extendSeq (r.expected.orElse fun _ => (s.flowRun f).highest) x) (r.held.length + 2) pathB x

/-- The path of a pair delivers a packet: it is up (R193). -/
def State.pathSeen (s : State) (p f : Nat) (pathB : Bool) : State :=
  let r := s.pairRun p
  let up := if pathB then FLW_PAIR_B_UP else FLW_PAIR_A_UP
  let s1 := s.setPairRun p (if pathB then { r with lastB := s.now } else { r with lastA := s.now })
  let last := if pathB then r.lastB else r.lastA
  if s.isSetAt up p then
    if s.now = last + s.rd FLW_PATH_LOSS_MS * 1000000 then s1.incSat FLW_TIE_CNT else s1
  else (s1.wrAt up p 1).flowEvent 0x4005 f 1 (flag pathB * 2 ^ 16) 1 false

end Sys2Proof.Machine
end

