-- ==== Sys2Proof/Machine/Flows.lean ====
section
/-! DEFINITION. Flows and flow engines (07): tables, commands, ingress, windows, egress, injection. -/

namespace Sys2Proof.Machine

open Sys2Proof

/-! ### Tables (R176, R191) -/

/-- A host write of word `n` of flow table entry `f`; bit 31 of word 0 is left unchanged. -/
def State.flowTableWrite (s : State) (f n v : Nat) : State :=
  if s.flowEn f then s.wr FLW_ERR_ENTRY_LOCKED 1
  else if n = 0 then s.setFlowWord f 0 (v % 2 ^ 31)
  else s.setFlowWord f n v

/-- FLOW_TABLE_WRITE at BAR0 address `addr`. -/
def execFlowTableWrite (addr data : Nat) (s : State) : Result :=
  let k := (addr - 0xC00000) / 4
  .next (if 0xC00000 ≤ addr ∧ addr < 0xD00000 then s.flowTableWrite (k / 16) (k % 16) data else s)

/-- Fields of a pair record's word `n`. -/
def State.pairWord (s : State) (p n v : Nat) : State :=
  match n with
  | 0 => ((s.wrAt FLW_PAIR_VALID p (bitOf v 31)).wrAt FLW_PAIR_SKEW_US p (bitsOf v 28 16)).wrAt FLW_PAIR_FLOW p v
  | 1 => s.wrAt FLW_PAIR_BUF p v
  | 2 =>
    (((s.wrAt FLW_PAIR_VLAN_B p (bitOf v 31)).wrAt FLW_PAIR_PCP_B p (bitsOf v 30 28)).wrAt FLW_PAIR_VID_B p
      (bitsOf v 27 16)).wrAt FLW_PAIR_DST_MAC_B_HI p v
  | 3 => s.wrAt FLW_PAIR_DST_MAC_B_LO p v
  | 4 => s.wrAt FLW_PAIR_DST_IP_B0 p v
  | 5 => s.wrAt FLW_PAIR_DST_IP_B1 p v
  | 6 => s.wrAt FLW_PAIR_DST_IP_B2 p v
  | 7 => s.wrAt FLW_PAIR_DST_IP_B3 p v
  | 8 => s.wrAt FLW_PAIR_SRC_IP_B0 p v
  | 9 => s.wrAt FLW_PAIR_SRC_IP_B1 p v
  | 10 => s.wrAt FLW_PAIR_SRC_IP_B2 p v
  | 11 => s.wrAt FLW_PAIR_SRC_IP_B3 p v
  | _ => s

/-- A host write of word `n` of pair record `p`: ignored while the flow the valid record names is enabled. -/
def State.pairRecordWrite (s : State) (p n v : Nat) : State :=
  if s.isSetAt FLW_PAIR_VALID p && s.flowEn (s.rdAt FLW_PAIR_FLOW p) && s.flowPair (s.rdAt FLW_PAIR_FLOW p) then
    s.wr FLW_ERR_PAIR_LOCKED 1
  else s.pairWord p n v

/-- PAIR_RECORD_WRITE at BAR0 address `addr`. -/
def execPairRecordWrite (addr data : Nat) (s : State) : Result :=
  let k := (addr - 0x390000) / 4
  .next (if 0x390000 ≤ addr ∧ addr < 0x394000 then s.pairRecordWrite (k / 16) (k % 16) data else s)

/-! ### Commands (R179, R180, R199, R201) -/

/-- FLOW_ENABLE. -/
def execFlowEnable (id : Nat) (s : State) : Result :=
  .next (s.runCmd id 0x4001 fun r s =>
    let f := recField r 8 2
    if 16383 < f then (.badParam 8, s)
    else
      match s.flowRefusal f with
      | some x => (⟨x, 0, 0⟩, s)
      | none =>
        let s1 := (s.setFlowEn f true).setFlowRun f { enabledAt := some s.now }
        match s.pairOf f with
        | some p => (.ok, s1.setPairRun p { lastA := s.now, lastB := s.now })
        | none => (.ok, s1))

/-- An egress flow that an enabled ingress flow feeds (R180). -/
def State.flowFed (s : State) (f : Nat) : Bool :=
  s.flowEgress f && s.flowPeerKind f == 0 && s.flowEn (s.flowPeer f) && !s.flowEgress (s.flowPeer f) &&
    s.flowPeer (s.flowPeer f) == f

/-- Packets of a flow whose first word arrived in this tick are dropped (R180): those that wait, and those that have a ticket. -/
def State.dropArrivals (s : State) (f : Nat) : State :=
  let r := s.flowRun f
  let keep := r.waiting.filter fun x => x.arrived != s.now
  let hit := s.adm.tickets.filter fun (e : Nat × Ticket) => e.2.flow == f && e.2.arrived == some s.now
  hit.foldl (fun (x : State) (e : Nat × Ticket) => (x.releaseTicket e.1).flowStat f 3 1)
    ((s.setWaiting f keep).flowStat f 3 (r.waiting.length - keep.length))

/-- The reader of a pack FIFO has begun a packet of flow `f` that is not dropped. -/
def State.packBegun (s : State) (f : Nat) (e : Nat × PackFifo) : Bool :=
  s.rdAt PF_CFG_BIND e.1 == 1 && s.rdAt PF_CFG_TARGET e.1 == f && decide (0 < e.2.taken) && !e.2.drop

/-- The packets of pack FIFOs whose first word was taken in this tick create no ticket. -/
def State.dropPacks (s : State) (f : Nat) : State :=
  { s with hard := { s.hard with packs := s.hard.packs.map fun (e : Nat × PackFifo) =>
      (e.1, if s.packBegun f e && e.2.frontAt == s.now then { e.2 with drop := true, slots := [] } else e.2) } }

/-- What FLOW_DISABLE stops in its tick. DESIGN CHOICE (log 144): open line segments close, as no packet for them can follow. -/
def State.stopFlow (s : State) (f id : Nat) : State :=
  let x := s.flowRun f
  (((s.setFlowRun f { x with disabling := x.disabling ++ [id], disabledAt := some s.now }).dropArrivals f).dropPacks f).closeSegments f
    fun _ => true

/-- FLOW_DISABLE. -/
def execFlowDisable (id : Nat) (s : State) : Result :=
  .next (s.startCmd id 0x4002 fun r s =>
    let f := recField r 8 2
    if 16383 < f then (some (.badParam 8), s)
    else if !s.flowEn f then (some .ok, s)
    else if s.flowFed f then (some ⟨0x56, 0, 0⟩, s)
    else
      let s1 := s.stopFlow f id
      match s1.contract f with
      | some c => (none, if c.state = .admitted then s1.withdraw f [] else s1)
      | none => (none, s1))

/-- Something of a flow that is being disabled has yet to end: a ticket, a packet that waits, one that a pack FIFO's reader takes. -/
def State.flowBusy (s : State) (f : Nat) : Bool :=
  (s.adm.tickets.any fun (e : Nat × Ticket) => e.2.flow == f) || !(s.flowRun f).waiting.isEmpty || s.hard.packs.any (s.packBegun f)

/-- FLOW_DISABLE_DONE: the last ticket ended; EN falls, hold copies are released. -/
def execFlowDisableDone (flow : Nat) (s : State) : Result :=
  .next (
    let r := s.flowRun flow
    if r.disabling.isEmpty || s.flowBusy flow then s
    else r.disabling.foldl (fun (x : State) i => x.complete i .ok) ((s.setFlowEn flow false).setFlowRun flow {}))

/-- Counter `k` of a flow. -/
def State.flowCount (s : State) (f k : Nat) : Nat := SMap.read s.flows.stats 0 (8 * f + k)

/-- The eight counters as bytes. -/
def State.flowStatBytes (s : State) (f : Nat) : List Nat := (List.range 8).flatMap fun k => bytesOf 8 (s.flowCount f k)

/-- The counters of a flow cleared. -/
def State.flowStatClear (s : State) (f : Nat) : State :=
  { s with flows := { s.flows with stats := s.flows.stats.filter fun (e : Nat × Nat) => e.1 / 8 != f } }

/-- FLOW_STATS (R201, R202). On a disabled flow it shows the counters as left at disable, and clears none. -/
def execFlowStats (id : Nat) (s : State) : Result :=
  .next (s.runCmd id 0x4003 fun r s =>
    let f := recField r 8 2
    if 16383 < f then (.badParam 8, s)
    else
      let s1 := s.hostWrite (recField r 16 8) (s.flowStatBytes f)
      (.ok, if recByte r 10 % 2 = 1 ∧ s.flowEn f then s1.flowStatClear f else s1))

/-- The lane can take an injected frame. -/
def State.injectLane (s : State) (n : Nat) : Bool :=
  decide (n < 128) && s.isSetAt LNE_LN_STATUS_CLAIMED n && s.rdAt LNE_LN_CTRL_PROTO n == 1

/-- INJECT (R199): it waits while its lane holds a frame; lane, then token (DESIGN CHOICE, log 25). -/
def execInject (id : Nat) (s : State) : Result :=
  .next (
    if (SMap.find s.flows.inject (recByte (s.record id) 12)).isSome then s
    else
      s.runCmd id 0x4004 fun r s =>
        let len := recField r 10 2
        let n := recByte r 12
        if len < 60 ∨ 1514 < len then (.badParam 10, s)
        else if !s.injectLane n then (⟨0x59, 0, 0⟩, s)
        else if s.rd FLW_INJ_TOKENS = 0 then (⟨0x58, 0, 0⟩, s.incSat FLW_INJ_REFUSE_CNT)
        else
          (.ok, ({ s with flows := { s.flows with
            inject := SMap.put s.flows.inject n (s.hostRead (recField r 16 8) len) } }).wr FLW_INJ_TOKENS
            (s.rd FLW_INJ_TOKENS - 1)))

/-- INJECT_TOKEN_REFILL: one token every 500 µs, up to 16. -/
def execInjectTokenRefill (s : State) : Result :=
  .next (
    if s.now < s.flows.tokenAt + 500000 then s
    else
      ({ s with flows := { s.flows with tokenAt := s.now } }).wr FLW_INJ_TOKENS (min 16 (s.rd FLW_INJ_TOKENS + 1)))

/-! ### Ingress (R182) -/

/-- Path B addresses of a pair record. -/
def State.pairDstIp (s : State) (p : Nat) : Nat :=
  s.rdAt FLW_PAIR_DST_IP_B0 p + s.rdAt FLW_PAIR_DST_IP_B1 p * 2 ^ 32 + s.rdAt FLW_PAIR_DST_IP_B2 p * 2 ^ 64 +
    s.rdAt FLW_PAIR_DST_IP_B3 p * 2 ^ 96
def State.pairSrcIp (s : State) (p : Nat) : Nat :=
  s.rdAt FLW_PAIR_SRC_IP_B0 p + s.rdAt FLW_PAIR_SRC_IP_B1 p * 2 ^ 32 + s.rdAt FLW_PAIR_SRC_IP_B2 p * 2 ^ 64 +
    s.rdAt FLW_PAIR_SRC_IP_B3 p * 2 ^ 96

/-- Tag and addresses match. -/
def addressMatch (vlan : Bool) (vid dst src : Nat) (x : Frame) : Bool :=
  x.vlan == vlan && (!vlan || x.vid == vid) && x.dstIp == dst && (src == 0 || x.srcIp == src)

/-- The parts of the key both paths share. -/
def State.keyMatch (s : State) (f : Nat) (x : Frame) : Bool :=
  x.isUdp && x.ipv6 == s.flowIpv6 f && x.dstPort == s.flowDstPort f &&
    (s.flowSrcPort f == 0 || x.srcPort == s.flowSrcPort f) && (s.flowPt f == 0 || x.pt == s.flowPt f) &&
    (!s.flowSsrcMatch f || x.ssrc == s.flowSsrc f)

/-- The flow was enabled before this tick (R179). -/
def State.flowStarted (s : State) (f : Nat) : Bool := (s.flowRun f).enabledAt != some s.now

/-- The flow takes new packets: enabled ingress Ethernet flow, not being disabled. -/
def State.flowListens (s : State) (f : Nat) : Bool :=
  !s.flowEgress f && decide (s.flowKind f ≤ 5) && (s.flowRun f).disabling.isEmpty && s.flowStarted f

/-- The frame matches the flow on path A, or on path B of a pair. -/
def State.matchA (s : State) (lane f : Nat) (x : Frame) : Bool :=
  s.flowListens f && s.flowLaneA f == lane && s.keyMatch f x &&
    addressMatch (s.flowVlan f) (s.flowVid f) (s.flowDstIp f) (s.flowSrcIp f) x
def State.matchB (s : State) (lane f : Nat) (x : Frame) : Bool :=
  s.flowListens f && s.flowPair f && s.flowLaneB f == lane && s.keyMatch f x &&
    (match s.pairOf f with
     | some p => addressMatch (s.isSetAt FLW_PAIR_VLAN_B p) (s.rdAt FLW_PAIR_VID_B p) (s.pairDstIp p) (s.pairSrcIp p) x
     | none => false)

/-- Order of the entries that match one packet (R182). -/
def State.matchRank (s : State) (f : Nat) : Nat :=
  (if s.flowSrcIp f = 0 then 4 else 0) + (if s.flowSrcPort f = 0 then 2 else 0) + (if s.flowSsrcMatch f then 0 else 1)

/-- The flow that takes a frame. -/
def State.matchFlow (s : State) (lane : Nat) (x : Frame) : Option Nat :=
  (sortBy (fun a b => decide (s.matchRank a < s.matchRank b))
    (s.enabledFlows.filter fun f => s.matchA lane f x || s.matchB lane f x)).head?

/-- The lane is enabled as a PTP port (03 R71). -/
def State.ptpLane (s : State) (n : Nat) : Bool :=
  (List.range 4).any fun p => s.isSetAt CLR_PTP_PORT_EN p && s.rdAt CLR_PTP_PORT_LANE p == n

/-- The frame fails a check of steps 1, 3 or 4, or is a MAC control frame (08 R210). -/
def badFrame (x : Frame) : Bool :=
  !x.fcsOk || decide (9216 < x.length) || x.isMacControl || !x.ipHeaderOk || x.fragment || (x.ipv6 && !x.isUdp) ||
    (x.isUdp && !x.udpChecksumOk)

/-- A frame received on a lane, steps 1 to 6. -/
def State.receiveFrame (s : State) (lane : Nat) (x : Frame) : State :=
  if !x.fcsOk || decide (9216 < x.length) || x.isMacControl then s.addSatAt FLW_LN_BAD_FRAME lane 1
  else if x.isPtp && s.ptpLane lane then s
  else if badFrame x then s.addSatAt FLW_LN_BAD_FRAME lane 1
  else
    match s.matchFlow lane x with
    | none => s.addSatAt FLW_LN_UNMATCHED lane 1
    | some f =>
      let y := packetOf (s.flowKind f) (s.flowFmt f) lane s.now x
      if s.flowPair f then
        match s.pairOf f with
        | some p =>
          let b := !s.matchA lane f x
          (s.pathSeen p f b).mergeArrive p f b y
        | none => s
      else s.passPacket f y

/-- INGRESS_FRAME: a lane receives frames while it is UP with Ethernet. -/
def execIngressFrame (lane : Nat) (frame : Frame) (s : State) : Result :=
  .next (
    if lane < 128 ∧ s.rdAt LNE_LN_STATUS_STATE lane = 2 ∧ s.rdAt LNE_LN_CTRL_PROTO lane = 1 then
      s.receiveFrame lane frame
    else s)

/-- MERGE_SKEW_EXPIRY (R192): SKEW_US has passed since the first held packet after the gap arrived. -/
def execMergeSkewExpiry (record : Nat) (s : State) : Result :=
  .next (
    let r := s.pairRun record
    match r.held.head? with
    | none => s
    | some h =>
      if s.now < h.tick + 1000 * s.rdAt FLW_PAIR_SKEW_US record then s
      else s.mergeSkip record (s.rdAt FLW_PAIR_FLOW record))

/-- PATH_LOSS_TIMEOUT (R193): no packet within FLW_PATH_LOSS_MS, and none in the tick in which that time ends, so the path goes down once
that tick is over. -/
def execPathLossTimeout (record : Nat) (pathB : Bool) (s : State) : Result :=
  .next (
    let r := s.pairRun record
    let up := if pathB then FLW_PAIR_B_UP else FLW_PAIR_A_UP
    let last := if pathB then r.lastB else r.lastA
    if s.isSetAt up record && decide (last + s.rd FLW_PATH_LOSS_MS * 1000000 < s.now) then
      (s.wrAt up record 0).flowEvent 0x4004 (s.rdAt FLW_PAIR_FLOW record) 3 (flag pathB * 2 ^ 16) 1 false
    else s)

/-! ### SDI ingress (R194) -/

/-- Lock of an SDI lane. -/
def State.sdiLock (s : State) (n : Nat) : SdiLock := SMap.read s.flows.sdi {} n

/-- Lock of an SDI lane replaced. -/
def State.setSdiLock (s : State) (n : Nat) (x : SdiLock) : State :=
  { s with flows := { s.flows with sdi := SMap.store s.flows.sdi {} n x } }

/-- Lock of lane `n` after 4 consecutive lines with TRS, loss after 4 without; the events name flow `f`. -/
def State.sdiTrs (s : State) (n f : Nat) (ok : Bool) : State :=
  let r := s.sdiLock n
  let good := if ok then r.good + 1 else 0
  let bad := if ok then 0 else r.bad + 1
  if !r.locked && decide (4 ≤ good) then
    (s.setSdiLock n { locked := true, good := good, bad := bad }).flowEvent 0x4007 f 1 (2 ^ 16) 1 false
  else if r.locked && decide (4 ≤ bad) then
    (s.setSdiLock n { locked := false, good := good, bad := bad }).flowEvent 0x4007 f 3 0 1 false
  else s.setSdiLock n { r with good := good, bad := bad }

/-- The rows of the flow tell the lines of its lane: those of a video flow, or of an ancillary flow on a lane without one. -/
def State.tellsLines (s : State) (f : Nat) : Bool :=
  s.flowKind f == 6 || !(s.enabledFlows.any fun g => s.flowKind g == 6 && !s.flowEgress g && s.flowLaneA g == s.flowLaneA f)

/-- A line of the signal: TRS, CRC, and the active words, which are a segment of a video flow. -/
def State.lineReceived (s : State) (f : Nat) (x : SdiLine) : State :=
  let n := s.flowLaneA f
  let s1 := if s.tellsLines f then s.sdiTrs n f x.trsOk else s
  let s2 := if x.crcOk then s1 else (s1.flowStat f 6 1).flowEvent 0x4008 f 2 0 1 true
  match sdiIndex (s.flowFmt f) (s.gridTwoFields (s.flowGrid f)) x.lineNo with
  | some k =>
    if (s2.sdiLock n).locked && s.flowKind f == 6 && (s.flowRun f).disabling.isEmpty then s2.passPacket f (sdiPacket n s.now k x)
    else s2
  | none => s2

/-- SDI_LINE: a line of a signal, or an ANC packet of its blanking, which goes to an ancillary flow once the lane is locked. -/
def execSdiLine (flow : Nat) (line : SdiLine) (s : State) : Result :=
  .next (
    let n := s.flowLaneA flow
    if s.flowEn flow && !s.flowEgress flow && protoOf (s.flowKind flow) == 2 && s.flowKind flow != 0 && s.flowStarted flow &&
        s.rdAt LNE_LN_STATUS_STATE n == 2 then
      match line.anc with
      | none => s.lineReceived flow line
      | some _ =>
        if (s.sdiLock n).locked && s.flowKind flow == 7 && (s.flowRun flow).disabling.isEmpty then
          s.passPacket flow (sdiPacket n s.now 0 line)
        else s
    else s)

/-! ### Windows (R188, R189; 04 R97, R111) -/

/-- A window action on a flow: ignored on a flow that has no window, or whose window does not change. -/
def State.windowIgnored (s : State) : State := s.incSat FLW_WIN_IGNORED_CNT

/-- WINDOW on flow `f`. -/
def State.openWindow (s : State) (f : Nat) : State :=
  if !s.flowWin f || (s.flowRun f).windowOpen then s.windowIgnored
  else
    let s1 := s.settleWindow f
    let r := s1.flowRun f
    (s1.setFlowRun f { r with windowOpen := true, windowNo := r.windowNo + 1, received := [] }).drainAll f

/-- The segments the window has not received. -/
def State.missingSegments (s : State) (f : Nat) : List Nat :=
  let r := s.flowRun f
  if lineKind (s.flowKind f) then (List.range (s.flowWinSegs f)).filter fun k => !r.received.contains k
  else (List.range (s.flowWinSegs f)).drop r.received.length

/-- DEADLINE on flow `f`: open segments close, what is missing is to be made good. -/
def State.closeWindow (s : State) (f : Nat) : State :=
  if !s.flowWin f || !(s.flowRun f).windowOpen then s.windowIgnored
  else
    let s0 := if (s.flowRun f).lastArrival = some s.now then s.incSat FLW_TIE_CNT else s
    let s1 := s0.closeSegments f fun _ => true
    let missing := s1.missingSegments f
    let skip := s1.flowSubst f == 2
    let s2 := s1.setFlowRun f { s1.flowRun f with
      windowOpen := false
      missing := if skip then [] else missing
      missingAt := some s1.now }
    if missing.isEmpty then s2
    else s2.flowEvent 0x4003 f 2 (s2.flowSubst f * 2 ^ 14) missing.length true

/-- The flow is an enabled ingress flow, or an enabled egress flow. -/
def State.enabledIngress (s : State) (f : Nat) : Bool := s.flowEn f && !s.flowEgress f
def State.enabledEgress (s : State) (f : Nat) : Bool := s.flowEn f && s.flowEgress f

/-- Flow of an action's operand. -/
def QueuedAction.flow (q : QueuedAction) : Nat := bitsOf (entryOperand q.word) 13 0

/-- DNC_WINDOW. -/
def execDncWindow (s : State) : Result :=
  .next (s.runAction 0x05 fun q s => if s.enabledIngress q.flow then s.openWindow q.flow else s.actionFailed q 1)

/-- DNC_DEADLINE. -/
def execDncDeadline (s : State) : Result :=
  .next (s.runAction 0x06 fun q s => if s.enabledIngress q.flow then s.closeWindow q.flow else s.actionFailed q 1)

/-- DNC_RELEASE: the gate opens, or its count restarts (R197). -/
def execDncRelease (s : State) : Result :=
  .next (s.runAction 0x07 fun q s =>
    if s.enabledEgress q.flow then
      let n := s.flowWinSegs q.flow
      s.setFlowRun q.flow { s.flowRun q.flow with
        gateOpen := true, gateLeft := n, gateUnlimited := n == 0, gateAt := s.tai, sentSegs := 0 }
    else s.actionFailed q 2)

/-- A substitute ticket that delivers a hold copy: best effort, on the copy's slots. -/
def State.holdTicket (s : State) (f k : Nat) (h : HoldCopy) (deadline : Nat) : TicketOutcome × State :=
  if s.mode = modePromenade then (.refused, s)
  else if !s.isSet ADM_CTRL_BE_EN || s.isSet ADM_STATUS_SHED then (.refused, s.incSat ADM_BE_SHED_CNT)
  else if 65536 ≤ s.sharedTickets then (.refused, (s.incSat ADM_BE_FULL_CNT).postLimited 0x3010 0 0x310 2 sat32)
  else
    let i := freeTicket s.adm.tickets 0
    let t : Ticket := {
      flow := f
      contracted := false
      created := s.now
      deadline := deadline
      words := h.words
      slots := h.slots
      far := s.flowFar f
      borrowed := true
      readyAt := s.tai
      segment := k
      validBytes := h.validBytes }
    (.created i, { s with adm := { s.adm with tickets := SMap.put s.adm.tickets i t } })

/-- D of the flow's contract, or ADM_BE_DEADLINE_NS for a flow without one (R189). -/
def State.substituteOffset (s : State) (f : Nat) : Nat :=
  match s.contract f with
  | some c => if c.state = .admitted then c.deadline else s.rd ADM_BE_DEADLINE_NS
  | none => s.rd ADM_BE_DEADLINE_NS

/-- The next missing segment made good. -/
def State.substituteOne (s : State) (f k : Nat) : TicketOutcome × State :=
  let r := s.flowRun f
  let at_ := r.missingAt.getD s.now
  let hold := if s.flowSubst f = 0 then SMap.find r.holds (if lineKind (s.flowKind f) then k else 0) else none
  match hold with
  | some h => s.holdTicket f k h (at_ + s.substituteOffset f)
  | none =>
    let t : Ticket := {
      flow := f
      contracted := false
      created := s.now
      deadline := at_
      words := s.flowSegWords f
      slots := []
      far := s.flowFar f
      readyAt := s.tai
      segment := k }
    let q := s.createTicket t
    match q.1 with
    | .created i =>
      match SMap.find q.2.adm.tickets i with
      | none => q
      | some x =>
        (q.1, (q.2.setTicket i { x with deadline := at_ + s.substituteOffset f }).ticketWrite x.slots 0
          (List.replicate (s.flowSegWords f) (s.blankWord f)))
    | _ => q

/-- Up to `n` missing segments made good in ascending index; one whose ticket stalls waits. -/
def State.substitute (s : State) (f n : Nat) : State :=
  match n with
  | 0 => s
  | k + 1 =>
    match (s.flowRun f).missing with
    | [] => s
    | m :: rest =>
      let q := s.substituteOne f m
      match q.1 with
      | .stalled => q.2
      | .created _ =>
        State.substitute ((q.2.setFlowRun f { q.2.flowRun f with missing := rest }).flowStat f 4 1) f k
      | .refused => State.substitute (q.2.setFlowRun f { q.2.flowRun f with missing := rest }) f k

/-- SUBSTITUTE_TICKET_CREATE: at up to four per store tick. -/
def execSubstituteTicketCreate (flow : Nat) (s : State) : Result :=
  .next (
    if s.enabledIngress flow && (s.flowRun flow).substAt != some s.now then
      (s.setFlowRun flow { s.flowRun flow with substAt := some s.now }).substitute flow 4
    else s)

/-! ### Egress: what is sent next (R197; 05 R120) -/

/-- The order of the tickets of one flow: the one that is being sent, then the store's order. -/
def sendBefore (a b : Nat × Ticket) : Bool :=
  if (a.2.handed == 0) != (b.2.handed == 0) then b.2.handed == 0 else ticketBefore a b

/-- Tickets whose words leave on egress flow `g`. -/
def State.ticketsFor (s : State) (g : Nat) : SMap Ticket :=
  s.adm.tickets.filter fun (e : Nat × Ticket) => s.egressOf e.2.flow == some g

/-- The ticket egress flow `g` sends next: closed, or cut-through. -/
def State.nextTicket (s : State) (g : Nat) : Option (Nat × Ticket) :=
  (sortBy sendBefore ((s.ticketsFor g).filter fun (e : Nat × Ticket) => e.2.closed || e.2.cutThrough)).head?

/-- Bytes and samples of a pgroup (PRESUMED, log 22: ST 2110-20). -/
def pgroupBytes (fmt : Nat) : Nat :=
  match fmt with
  | 0 => 5
  | 1 => 6
  | 2 => 4
  | 5 => 9
  | _ => 15
def pgroupSamples (fmt : Nat) : Nat :=
  match fmt with
  | 0 => 4
  | 1 => 4
  | 2 => 4
  | 5 => 6
  | _ => 12

/-- pgroups that fit a packet of KIND 0x3 within FLW_MTU. -/
def State.pgroupsPerPacket (s : State) (g : Nat) : Nat :=
  (s.rd FLW_MTU - ((if s.flowIpv6 g then 40 else 20) + 28)) / pgroupBytes (s.flowFmt g)

/-- Samples that a packet of KIND 0x3 carries, at most. -/
def State.packetSamples (s : State) (g : Nat) : Nat := pgroupSamples (s.flowFmt g) * max 1 (s.pgroupsPerPacket g)

/-- Packets of a segment of `n` words. -/
def State.packetsOf (s : State) (g n : Nat) : Nat :=
  if s.flowKind g = 3 then
    max 1 (ceilDiv (ceilDiv (6 * n) (pgroupSamples (s.flowFmt g))) (max 1 (s.pgroupsPerPacket g)))
  else 1

/-- First word, and number of words, from which packet `j` of a segment of `n` words is made. -/
def State.packetRange (s : State) (g j n : Nat) : Nat × Nat :=
  if s.flowKind g = 3 then
    let first := j * s.packetSamples g / 6
    let last := min n (ceilDiv ((j + 1) * s.packetSamples g) 6)
    (first, last - first)
  else (0, n)

/-- The store has written the words of packet `j` (05 R121). -/
def State.packetReady (s : State) (g j : Nat) (t : Ticket) : Bool :=
  let r := s.packetRange g j t.words
  t.unwritten.all fun k => decide (k < r.1 ∨ r.1 + r.2 ≤ k)

/-- The gate lets a packet pass (R197). -/
def State.gatePasses (s : State) (g : Nat) : Bool := !s.flowGated g || (s.flowRun g).gateOpen

/-- The flow is an enabled ingress flow, or an enabled egress flow. -/
def State.enabledEgressNow (s : State) (g : Nat) : Bool := s.flowEn g && s.flowEgress g && s.flowStarted g

/-- Lane `n` carries packets of egress flow `g`: it is UP, or the lowest lane of a bond that is UP (08 R220). -/
def State.carries (s : State) (g n : Nat) : Bool :=
  if s.flowKind g = 8 then
    match s.bondOf n with
    | some b => s.bondUp b
    | none => false
  else s.rdAt LNE_LN_STATUS_STATE n == 2

/-- The egress flow may send packets now, on one lane at least. -/
def State.egressUp (s : State) (g : Nat) : Bool :=
  s.enabledEgressNow g && s.flowKind g != 6 && s.flowKind g != 7 && s.gatePasses g && (s.flowLanes g).any (s.carries g)

/-- No packet is leaving on the lane. -/
def State.laneFree (s : State) (n : Nat) : Bool := decide (SMap.read s.flows.busyUntil 0 n ≤ s.now)

/-- The tickets whose next packet is ready on lane `n`, of the flows that send as soon as the lane is free. -/
def State.readyOn (s : State) (n : Nat) : SMap Ticket :=
  s.adm.tickets.filter fun (e : Nat × Ticket) =>
    match s.egressOf e.2.flow with
    | none => false
    | some g =>
      (s.flowLanes g).contains n && s.egressUp g && !s.flowPace g && (e.2.closed || e.2.cutThrough) &&
        s.packetReady g (s.flowRun g).sentOf e.2

/-- The ticket that lane `n` sends from next (R197): in the deadline order of 05 R120. -/
def State.laneFirst (s : State) (n : Nat) : Option (Nat × Ticket) := (sortBy ticketBefore (s.readyOn n)).head?

/-- A flow that does not pace its packets may send from ticket `i` now: its lanes are free, and no ticket of another flow comes first. -/
def State.turnOf (s : State) (g i : Nat) : Bool :=
  (s.flowLanes g).all fun n =>
    s.laneFree n &&
      (match s.laneFirst n with
       | some e => e.1 == i || s.egressOf e.2.flow == some g
       | none => true)

/-! ### Egress: packets (R193, R196, R198) -/

/-- RTP timestamp (R196): 90 kHz count at the frame or field start, or the audio count at the line start. -/
def State.rtpTime (s : State) (g : Nat) : Nat :=
  let grid := s.flowGrid g
  let p := s.pos grid
  let line := if s.fieldOf grid p = 1 then s.halfLines grid else 0
  match s.flowKind g with
  | 3 => (s.timeOf grid p.frame line 0).toNat * 90000 / 1000000000 % 2 ^ 32
  | 5 => (s.timeOf grid p.frame line 0).toNat * 90000 / 1000000000 % 2 ^ 32
  | 4 =>
    (s.timeOf grid p.frame p.line 0).toNat * (if bitOf (s.flowFmt g) 1 = 1 then 96000 else 48000) / 1000000000 % 2 ^ 32
  | _ => 0

/-- Marker of the last packet of a segment: the segment ends a frame, or a field of a grid with two; with no WIN_SEGS
the spec names no last segment, and the bit is a free value. -/
def State.markerOf (s : State) (g : Nat) : Bool :=
  let n := s.flowWinSegs g
  let k := (s.flowRun g).sentSegs + 1
  if s.flowKind g ≠ 3 ∧ s.flowKind g ≠ 5 then false
  else if n = 0 then s.free 1 == 1
  else k % n == 0 || (s.gridTwoFields (s.flowGrid g) && k % n == ceilDiv n 2)

/-- A segment has been sent: the gate counts it. -/
def State.gateCount (s : State) (g : Nat) : State :=
  let r := s.flowRun g
  let left := r.gateLeft - 1
  s.setFlowRun g { r with
    sentSegs := r.sentSegs + 1, sentOf := 0, paceAt := none, lastPace := r.paceAt.orElse fun _ => r.lastPace
    gateLeft := left, gateOpen := r.gateOpen && (r.gateUnlimited || decide (0 < left)) }

/-- TAI nanosecond at which packet `j` of `m` leaves under PACE. -/
def State.paceTime (s : State) (g j m : Nat) (start : Int) : Int :=
  let grid := s.flowGrid g
  start + ((2 * j * s.gridD grid + s.gridQ grid * m) / (2 * s.gridQ grid * m) : Nat)

/-- The line start that paces a segment (R197): the first line that starts after the segment is ready and its gate open, or the one after
the previous segment's. -/
def State.paceStart (s : State) (g : Nat) (t : Ticket) : Int :=
  let grid := s.flowGrid g
  let ready := if s.flowGated g then max t.readyAt (s.flowRun g).gateAt else t.readyAt
  let next := s.lineStart grid (s.lineAt grid ready + 1)
  match (s.flowRun g).lastPace with
  | some p => if next ≤ p then s.lineStart grid (s.lineAt grid p + 1) else next
  | none => next

/-- MAC address of a lane. -/
def State.laneMac (s : State) (n : Nat) : Nat := s.rdAt LNE_LN_MAC_LO n + s.rdAt LNE_LN_MAC_HI n * 2 ^ 32

/-- Headers on path A: the entry's addresses, TTL or hop limit 64. -/
def State.headerA (s : State) (g : Nat) : NetHeader :=
  { srcMac := s.laneMac (s.flowLaneA g)
    dstMac := s.flowDstMac g
    tag := if s.flowVlan g then some (s.flowPcp g, s.flowVid g) else none
    ipv6 := s.flowIpv6 g
    dscp := s.flowDscp g
    hops := 64
    srcIp := s.flowSrcIp g
    dstIp := s.flowDstIp g
    srcPort := s.flowSrcPort g
    dstPort := s.flowDstPort g }

/-- Headers on path B: the record's addresses. -/
def State.headerB (s : State) (g p : Nat) : NetHeader :=
  { s.headerA g with
    srcMac := s.laneMac (s.flowLaneB g)
    dstMac := s.rdAt FLW_PAIR_DST_MAC_B_LO p + s.rdAt FLW_PAIR_DST_MAC_B_HI p * 2 ^ 32
    tag := if s.isSetAt FLW_PAIR_VLAN_B p then some (s.rdAt FLW_PAIR_PCP_B p, s.rdAt FLW_PAIR_VID_B p) else none
    srcIp := s.pairSrcIp p
    dstIp := s.pairDstIp p }

/-- The copies of a packet: one on LANE_A, and one on LANE_B of a pair, each where its lane is up. -/
def State.copiesOf (s : State) (g : Nat) : List (Nat × NetHeader) :=
  let b :=
    match (if s.flowPair g then s.pairOf g else none) with
    | some p => [(s.flowLaneB g, s.headerB g p)]
    | none => []
  ((s.flowLaneA g, s.headerA g) :: b).filter fun (e : Nat × NetHeader) => s.carries g e.1

/-- Row of a segment within its field, and whether the field is the second. A flow that a lane feeds keeps its segment's index; one that
a pack FIFO feeds counts its segments (DESIGN CHOICE, log 145). -/
def State.rowOf (s : State) (g : Nat) (t : Ticket) : Nat × Bool :=
  let n := s.flowWinSegs g
  let k := if t.flow ≠ g ∨ n = 0 then t.segment else (s.flowRun g).sentSegs % n
  if s.gridTwoFields (s.flowGrid g) && decide (ceilDiv n 2 ≤ k) then (k - ceilDiv n 2, true) else (k, false)

/-- Samples that packet `j` carries, of the words it is made from. -/
def State.packetLanes (s : State) (g j first : Nat) (ws : List StoreWord) : List Nat :=
  let n := s.packetSamples g
  ((ws.flatMap fun w => lanesOf w.data).drop (j * n - 6 * first)).take n

/-- The RTP header of a packet. -/
def State.rtpOf (s : State) (g stamp : Nat) (marker : Bool) : RtpHeader :=
  { pt := s.flowPt g
    seq := (s.flowRun g).egressSeq % 2 ^ 16
    timestamp := stamp
    ssrc := s.flowSsrc g
    marker := marker }

/-- Packet `j` of a segment as it leaves, its words taken from word `first` on (R196). -/
def State.packetSent (s : State) (g j first stamp : Nat) (t : Ticket) (marker : Bool) (ws : List StoreWord) : SentPacket :=
  let words := ws.map fun w => w.data
  let high := (s.flowRun g).egressSeq / 2 ^ 16
  let base : SentPacket := { flow := g, copies := s.copiesOf g }
  match s.flowKind g with
  | 3 =>
    let lanes := s.packetLanes g j first ws
    let octets := videoOctets (s.flowFmt g) lanes
    let row := s.rowOf g t
    { base with
      rtp := some (s.rtpOf g stamp marker)
      extended := some high
      srd := some {
        length := octets.length
        second := row.2
        row := row.1
        offset := j * s.packetSamples g / s.samplesPerPixel g }
      payload := octets }
  | 4 => { base with rtp := some (s.rtpOf g stamp marker), payload := audioOctets (s.flowFmt g) words t.validBytes }
  | 5 =>
    let field := if s.gridTwoFields (s.flowGrid g) then (if (s.rowOf g t).2 then 3 else 2) else 0
    { base with
      rtp := some (s.rtpOf g stamp marker)
      payload := rfcOctets high field (ancPackets words.length words) }
  | 8 => { base with link := some (s.flowDstPort g % 2 ^ 14), words := ws }
  | _ => { base with payload := wordOctets words t.validBytes }

/-- The lanes of a packet are busy for the bits that its words take on the wire (DEDUCED, log 146: the flow's WIRE_COST). -/
def State.occupyLanes (s : State) (g words : Nat) : State :=
  (s.flowLanes g).foldl (fun (x : State) n =>
    let r := s.laneRate n
    let until_ := s.now + ceilDiv (words * s.flowWireCost g * r.2) (64 * r.1)
    { x with flows := { x.flows with busyUntil := SMap.store x.flows.busyUntil 0 n until_ } }) s

/-- The blocks of a Hokutu ticket as they leave on its bond (08 R215, R216); none for another packet. -/
def State.sendTicketBlocks (s : State) (g : Nat) (t : Ticket) (ws : List StoreWord) : List (Nat × Nat) × State :=
  match (if s.flowKind g = 8 then s.bondOf (s.flowLaneA g) else none) with
  | some b => s.sendBlocks b (ticketBlocks (s.flowDstPort g) t.validBytes t.errored ws)
  | none => ([], s)

/-- Packet `j` of `m` of ticket `i` leaves; after the last the ticket is delivered. A packet that holds a poisoned word has an inverted
FCS (R198). -/
def State.sendPacket (s0 : State) (g i : Nat) (t : Ticket) (j m : Nat) (found : Found) : State :=
  let range := s0.packetRange g j t.words
  let addrs := ticketAddrs t.slots range.1 range.2
  let ws := addrs.map (s0.viewWord found)
  let s := s0.senseWords found addrs
  let poisoned := ws.any fun w => w.poison
  let last := decide (m ≤ j + 1)
  let late := decide (t.deadline < s.now)
  let r := s.flowRun g
  let stamp := if j = 0 then s.rtpTime g else r.stamp
  let link := s.sendTicketBlocks g t ws
  let sent := { s.packetSent g j range.1 stamp t (last && s.markerOf g) ws with
    blocks := link.1, badFcs := poisoned || (last && t.errored), late := late }
  let s0 := link.2
  let s1 := (({ s0 with flows := { s0.flows with lastSent := some sent } }).took).occupyLanes g range.2
  let s2 := (s1.setFlowRun g { r with egressSeq := (r.egressSeq + 1) % 2 ^ 32, sentOf := j + 1, stamp := stamp }).flowStat g 0 1
  let s3 := if poisoned then (s2.flowStat g 6 1).flowEvent 0x400A g 3 0 1 true else s2
  if last then ((s3.flowStat g 1 t.words).gateCount g).deliverTicket i
  else
    let handed := range.1 + range.2
    (if late then s3.flowStat t.flow 7 (handed - t.handed) else s3).setTicket i { t with handed := handed }

/-- EGRESS_PACKET_SEND: the next packet of the flow's first ticket, when a lane of the flow is up, its gate is open, its words are written,
and its time or its turn on the lane has come. -/
def execEgressPacketSend (flow : Nat) (found : Found) (s : State) : Result :=
  .next (
    if s.egressUp flow then
      match s.nextTicket flow with
      | none => s
      | some (i, t) =>
        let r := s.flowRun flow
        let m := s.packetsOf flow t.words
        if !s.packetReady flow r.sentOf t then s
        else if !s.flowPace flow then
          (if s.turnOf flow i then (s.sendPacket flow i t r.sentOf m found).drainFlows else s)
        else
          let start := r.paceAt.getD (s.paceStart flow t)
          let s1 := s.setFlowRun flow { r with paceAt := some start }
          if (s.tai : Int) < s.paceTime flow r.sentOf m start then s1
          else (s1.sendPacket flow i t r.sentOf m found).drainFlows
    else s)

/-- A paced packet of a flow on lane `n` is due. -/
def State.pacedDue (s : State) (n : Nat) : Bool :=
  s.enabledFlows.any fun g =>
    s.egressUp g && s.flowPace g && (s.flowLanes g).contains n &&
      (match s.nextTicket g with
       | none => false
       | some (_, t) =>
         let r := s.flowRun g
         decide (s.paceTime g r.sentOf (s.packetsOf g t.words) (r.paceAt.getD (s.paceStart g t)) ≤ (s.tai : Int)))

/-- INJECT_FRAME_SEND (R199): the frame leaves with its FCS, in a gap that no flow packet needs. -/
def execInjectFrameSend (lane : Nat) (s : State) : Result :=
  .next (
    match SMap.find s.flows.inject lane with
    | none => s
    | some x =>
      if s.rdAt LNE_LN_STATUS_STATE lane = 2 ∧ s.laneFree lane ∧ (s.laneFirst lane).isNone ∧ !s.pacedDue lane then
        ({ s with flows := { s.flows with
          inject := SMap.erase s.flows.inject lane, lastInjected := some (lane, withFcs x) } }).incSat FLW_INJ_CNT
      else s)

/-! ### Egress: SDI (R195, R198) -/

/-- The egress ANC packets of the lane whose header names line `l` (R187, R195). -/
def State.ancFor (s : State) (lane l : Nat) : List (Nat × Ticket) :=
  s.adm.tickets.filter fun (e : Nat × Ticket) =>
    match s.egressOf e.2.flow with
    | some x => s.flowEn x && s.flowKind x == 7 && s.flowLaneA x == lane && e.2.closed &&
        bitsOf (s.storeWord (ticketAddr e.2.slots 0)).data 71 61 == l
    | none => false

/-- Words of an ANC packet as sent: a poisoned one is blank. -/
def ancSentWords (ws : List StoreWord) : List Nat := ws.map fun w => if w.poison then 0 else w.data

/-- ANC words already placed on a line: of the colour-difference stream, of the luma stream. -/
structure AncRoom where
  c : List Nat := []
  y : List Nat := []
  deriving DecidableEq, Repr

/-- An ANC packet inserted into the blanking of its stream, or dropped and counted when it does not fit (R195). -/
def State.sendAnc (g room : Nat) (found : Found) (q : AncRoom × State) (e : Nat × Ticket) : AncRoom × State :=
  let s := q.2
  let addrs := ticketAddrs e.2.slots 0 e.2.words
  let ws := addrs.map (s.viewWord found)
  let f := (s.egressOf e.2.flow).getD g
  let s1 := s.senseWords found addrs
  let s2 := if ws.any fun w => w.poison then (s1.flowStat f 6 1).flowEvent 0x400A f 3 0 1 true else s1
  match ancPackets e.2.words (ancSentWords ws) with
  | [] => (q.1, (s2.flowStat f 3 1).deliverTicket e.1)
  | p :: _ =>
    let old := if p.c then q.1.c else q.1.y
    if room < old.length + (ancSdiWords p).length then (q.1, (s2.flowStat f 3 1).deliverTicket e.1)
    else
      (if p.c then { q.1 with c := old ++ ancSdiWords p } else { q.1 with y := old ++ ancSdiWords p },
        ((s2.flowStat f 0 1).flowStat f 1 e.2.words).deliverTicket e.1)

/-- The ANC packets of a line, one after the other. -/
def State.sendAncs (s : State) (g room : Nat) (found : Found) (l : List (Nat × Ticket)) : AncRoom × State :=
  l.foldl (State.sendAnc g room found) ({}, s)

/-- Tickets whose line has been sent without them are discarded as they become ready (R195). -/
def State.dropLateLines (s : State) (g fuel : Nat) : State :=
  match fuel with
  | 0 => s
  | n + 1 =>
    let r := s.flowRun g
    match s.nextTicket g with
    | none => s
    | some (i, t) =>
      if r.lateLines = 0 then s
      else
        State.dropLateLines (((s.setFlowRun g { r with lateLines := r.lateLines - 1 }).flowStat g 7 t.words).releaseTicket i) g n

/-- Ten-bit samples of words of V12x6. -/
def tenBits (ws : List Nat) : List Nat := (ws.flatMap lanesOf).map fun x => x / 4

/-- What stands for the words of a line that have not arrived: those of the line sent one line earlier, or blank words. -/
def State.standIn (s : State) (g : Nat) : List Nat :=
  let r := s.flowRun g
  if s.flowSubst g = 0 ∧ !r.lastLine.isEmpty then r.lastLine else List.replicate (s.flowSegWords g) (s.blankWord g)

/-- Words of an active line: a poisoned one is sent blank, one that is not written is replaced. -/
def State.lineWordsOf (s : State) (g : Nat) (t : Ticket) (ws : List StoreWord) : List Nat :=
  let stand := s.standIn g
  (List.range t.words).map fun k =>
    let w := ws.getD k {}
    if t.errored || t.unwritten.contains k then stand.getD k (s.blankWord g)
    else if w.poison then s.blankWord g else w.data

/-- The active words of the line that starts now, and what taking them does. -/
def State.takeLine (s : State) (g : Nat) (found : Found) : List Nat × State :=
  let s0 := s.dropLateLines g (s.flowRun g).lateLines
  match (if s0.gatePasses g then s0.nextTicket g else none) with
  | some (i, t) =>
    let addrs := (ticketAddrs t.slots 0 t.words)
    let ws := addrs.map (s0.viewWord found)
    let missing := t.errored || !t.unwritten.isEmpty
    let s1 := s0.senseWords found ((List.range t.words).filterMap fun k => if t.unwritten.contains k then none else addrs[k]?)
    let s2 := if ws.any fun w => w.poison then (s1.flowStat g 6 1).flowEvent 0x400A g 3 0 1 true else s1
    let s3 := if missing then s2.flowEvent 0x4009 g 2 0 1 true else s2
    (s0.lineWordsOf g t ws, (((s3.flowStat g 0 1).flowStat g 1 t.words).gateCount g).deliverTicket i)
  | none =>
    (s0.standIn g, (s0.setFlowRun g { s0.flowRun g with lateLines := (s0.flowRun g).lateLines + 1 }).flowEvent 0x4009 g 2 0 1 true)

/-- A line put together and sent: blanking, TRS, LN and CRC words, its ANC packets, its active words. -/
def State.sendLine (s : State) (g number room : Nat) (anc : AncRoom) (active : List Nat) (blanking : Bool) : State :=
  let r := s.flowRun g
  let f := s.fieldOf (s.flowGrid g) (s.pos (s.flowGrid g)) == 1
  let before := tenBits r.lastLine
  let now := tenBits active
  let line : SentLine := {
    flow := g
    lane := s.flowLaneA g
    number := number
    streamC := sdiStream f blanking number room 0x200 (everySecond 0 before) anc.c (everySecond 0 now)
    streamY := sdiStream f blanking number room 0x040 (everySecond 1 before) anc.y (everySecond 1 now) }
  ({ s with flows := { s.flows with lastLine := some line } }).setFlowRun g { r with
    lastLine := active, lineSent := some (s.lineAt (s.flowGrid g) s.tai) }

/-- EGRESS_SDI_LINE: the line of the flow's grid that has started, once, with the ANC packets of its number. -/
def execEgressSdiLine (flow : Nat) (found : Found) (s : State) : Result :=
  .next (
    let lane := s.flowLaneA flow
    let grid := s.flowGrid flow
    if s.enabledEgressNow flow && s.flowKind flow == 6 && s.rdAt LNE_LN_STATUS_STATE lane == 2 &&
        (s.flowRun flow).lineSent != some (s.lineAt grid s.tai) then
      let number := (s.pos grid).line + 1
      let width := sdiWidth (s.flowFmt flow)
      let room := (s.sdiTotal flow).getD 0 - width - 12
      let active := (sdiIndex (s.flowFmt flow) (s.gridTwoFields grid) number).isSome
      let q := s.sendAncs flow (if active then room else room + width) found (s.ancFor lane number)
      let w := if active then q.2.takeLine flow found else (List.replicate (s.flowSegWords flow) (s.blankWord flow), q.2)
      (w.2.sendLine flow number room q.1 w.1 !active).drainFlows
    else s)

/-! ### Tickets that end -/

/-- TICKET_DELIVERED (06 R147, R158), of a ticket whose words are all written (05 R121): packets that waited for one of its flow's tickets are taken now (R148). -/
def execTicketDelivered (ticket : Nat) (s : State) : Result :=
  .next (
    match SMap.find s.adm.tickets ticket with
    | none => s
    | some t => if t.closed then (s.deliverTicket ticket).drainFlows else s)

/-- TICKET_DEADLINE (06 R159): in the tick after its deadline tick, a ticket that has not started is discarded when its flow
is set DISCARD_LATE. -/
def execTicketDeadline (ticket : Nat) (s : State) : Result :=
  .next (
    match SMap.find s.adm.tickets ticket with
    | none => s
    | some t =>
      match s.contract t.flow with
      | none => s
      | some c => if c.discardLate && t.handed == 0 && decide (t.deadline < s.now) then (s.discardLate ticket t).drainFlows else s)

end Sys2Proof.Machine
end

