-- ==== Sys2Proof/Machine/LaneOps.lean ====
section
/-! DEFINITION. Lanes, bonds and lands (08), the operations: states of a lane, refusals, members of a bond, what a land
shows. -/

namespace Sys2Proof.Machine

/-! ### States of a lane (R208): 0 = OFF, 1 = ACQUIRE, 2 = UP, 3 = TEST, 4 = RETIRED, 5 = PROMENADE -/

/-- State of a lane. -/
def State.lane (s : State) (n : Nat) : Nat := s.rdAt LNE_LN_STATUS_STATE n

/-- The design claims the lane. -/
def State.laneClaimed (s : State) (n : Nat) : Bool := s.isSetAt LNE_LN_STATUS_CLAIMED n

/-- A lane leaves UP for state `next`: event 0x5002 with its reason, and count; its receiver keeps the CTLE value to which it adapted, a
free value (R209). -/
def State.laneDown (s : State) (n next why : Nat) : State :=
  let s1 := ((((s.wrAt LNE_LN_STATUS_STATE n next).wrAt LNE_LN_STATUS_CDR_LOCK n 0).wrAt LNE_LN_STATUS_BLOCK_LOCK n 0).addSatAt
    LNE_LN_DOWN_CNT n 1).post 0x5002 (0x500 + n) 2 why
  if s.isSetAt LNE_LN_RX_ADAPT n then
    ({ s1 with lanes := { s1.lanes with adapted := SMap.put s1.lanes.adapted n (s1.free 5) } }).took
  else s1

/-- A lane goes to state `next`, leaving UP with reason `why` where it was UP. -/
def State.laneTo (s : State) (n next why : Nat) : State :=
  if s.lane n = 2 then s.laneDown n next why else s.wrAt LNE_LN_STATUS_STATE n next

/-- The transmit PLL of a lane is locked (R205). -/
def State.lanePllLock (s : State) (n : Nat) : Bool :=
  if s.isSetAt LNE_LN_CTRL_TX_PLL n then s.isSetAt LNE_Q_PLL1_LOCK (n / 4) else s.isSetAt LNE_Q_PLL0_LOCK (n / 4)

/-- Lanes in a state; bonds in UP or UP_SPARED. -/
def State.lanesIn (s : State) (k : Nat) : Nat := ((List.range 128).filter fun n => s.lane n == k).length
def State.bondsUp (s : State) : Nat := ((List.range 16).filter s.bondUp).length

/-- A write refused (R230): its error bit, LNE_ERR_INFO, event 0x500A. -/
def State.laneRefuse (s : State) (err : Field) (source index why : Nat) : State :=
  let s1 := ((s.wr err 1).wr LNE_ERR_INFO_REASON why).wr LNE_ERR_INFO_INDEX index
  (if 3 ≤ why then s1.wr LNE_ERR_BAD_CONFIG 1 else s1).post 0x500A source 2 (index + why * 2 ^ 8)

/-- The lane follows a 100GBASE-R4 group that lane 4q leads (R210). -/
def State.laneFollows (s : State) (n : Nat) : Bool :=
  n % 4 != 0 && s.rdAt LNE_LN_CTRL_PROTO (n / 4 * 4) == 1 && s.rdAt LNE_LN_CTRL_MODE (n / 4 * 4) == 3

/-- PROTO and MODE are listed (R230). -/
def laneModeOk (proto mode : Nat) : Bool :=
  match proto with
  | 0 => mode == 0
  | 1 => decide (mode ≤ 3)
  | 2 => decide (mode ≤ 4)
  | 3 => mode == 0
  | 4 => decide (mode ≤ 2)
  | _ => false

/-- A port is bound to the lane for raw PCS (R213). -/
def State.rawBound (s : State) (n : Nat) : Bool :=
  (List.range 256).any fun p =>
    (s.rdAt PF_CFG_BIND p == 2 && s.rdAt PF_CFG_TARGET p == n) || (s.rdAt DP_CFG_BIND p == 2 && s.rdAt DP_CFG_TARGET p == n)

/-- The lane is in use: an enabled flow, a PTP port, an enabled bond, a raw PCS binding (R206). -/
def State.laneInUse (s : State) (n : Nat) : Bool :=
  (s.enabledFlows.any fun f => (s.flowLanes f).contains n) || s.ptpLane n || s.isSetAt LNE_LN_STATUS_IN_BOND n || s.rawBound n

/-- The first reason for which a write of LNE_LN_CTRL is refused (R206, R207, R210, R230). -/
def State.laneCtrlRefusal (s : State) (n v : Nat) : Option Nat :=
  let proto := bitsOf v 30 28
  let mode := bitsOf v 27 24
  if !s.laneClaimed n || s.lane n == 5 then some 1
  else if s.laneInUse n then some 2
  else if !laneModeOk proto mode then some 7
  else if s.laneFollows n then some 3
  else if proto = 1 ∧ mode = 3 ∧ (n % 4 ≠ 0 ∨ !(s.laneClaimed (n + 1) && s.laneClaimed (n + 2) && s.laneClaimed (n + 3))) then
    some 3
  else none

/-- The lane is under a host test: loopback, or the PRBS generator (R208). -/
def State.hostTest (s : State) (n : Nat) : Bool :=
  s.rdAt LNE_LN_CTRL_LOOPBACK n != 0 || s.isSetAt LNE_LN_PRBS_GEN_EN n

/-- The mode runs the user lanes (16 R435). -/
def State.lanesRun (s : State) : Bool := s.running || s.mode == modeIdle || s.mode == modeHalted

/-- The state that a lane's settings ask for (R208). -/
def State.laneSettle (s : State) (n : Nat) : State :=
  let k := s.lane n
  if k = 4 ∨ k = 5 ∨ s.underTest kindLane n then s
  else if !s.lanesRun || !s.laneClaimed n then s.laneTo n 0 6
  else if !s.isSetAt LNE_LN_CTRL_EN n then s.laneTo n 0 4
  else if s.hostTest n then (if k = 3 then s else s.laneTo n 3 5)
  else if k = 0 ∨ k = 3 then s.wrAt LNE_LN_STATUS_STATE n 1
  else s

/-- Every lane in the state that its settings and the mode ask for. -/
def State.lanesSettle (s : State) : State := (List.range 128).foldl (fun (x : State) n => x.laneSettle n) s

/-- The bonds of the lifeline routes end with Promenade (17 R466). -/
def State.dropRouteBonds (s : State) : State :=
  { s with lanes := { s.lanes with bonds := s.lanes.bonds.filter fun (e : Nat × BondRun) => decide (e.1 < 16) } }

/-- The lifeline lanes handed back by the promenade crossbar (17 R469). -/
def State.handBack (s : State) : State :=
  (List.range 128).foldl (fun (x : State) n => if x.lane n = 5 then (x.wrAt LNE_LN_STATUS_STATE n 0).laneSettle n else x)
    s.dropRouteBonds

/-- EN, PROTO and MODE of the lanes that follow lane 4q (R210; DEDUCED, log 66: EN follows, as the host cannot write it). -/
def State.laneFollowers (s : State) (n was : Nat) : State :=
  let lead := decide (n % 4 = 0)
  let group := s.rdAt LNE_LN_CTRL_PROTO n == 1 && s.rdAt LNE_LN_CTRL_MODE n == 3
  if lead && group then
    [n + 1, n + 2, n + 3].foldl (fun (x : State) m =>
      (((x.wrAt LNE_LN_CTRL_PROTO m 1).wrAt LNE_LN_CTRL_MODE m 3).wrAt LNE_LN_CTRL_EN m (x.rdAt LNE_LN_CTRL_EN n)).laneSettle m) s
  else if lead && was == 1 then
    [n + 1, n + 2, n + 3].foldl (fun (x : State) m =>
      (((x.wrAt LNE_LN_CTRL_PROTO m 0).wrAt LNE_LN_CTRL_MODE m 0).wrAt LNE_LN_CTRL_EN m 0).laneSettle m) s
  else s

/-- Fields of a lane that the host writes (R231). -/
def laneHostFields : List Field :=
  [LNE_LN_CTRL_EN, LNE_LN_CTRL_PROTO, LNE_LN_CTRL_MODE, LNE_LN_CTRL_TX_PLL, LNE_LN_CTRL_TX_INV, LNE_LN_CTRL_RX_INV,
   LNE_LN_CTRL_LOOPBACK, LNE_LN_CTRL_TX_DIS, LNE_LN_TXEQ_TX_PRE, LNE_LN_TXEQ_TX_MAIN, LNE_LN_TXEQ_TX_POST, LNE_LN_RX_ADAPT,
   LNE_LN_RX_CTLE, LNE_LN_MAC_LO, LNE_LN_MAC_HI, LNE_LN_PRBS_GEN_EN, LNE_LN_PRBS_CHK_EN, LNE_LN_PRBS_PATTERN, LNE_LN_PRBS_ERR,
   LNE_LN_SYNC_ERR, LNE_LN_CRC_ERR, LNE_LN_DOWN_CNT, LNE_LN_RAW_DP, LNE_LN_RAW_PF, LNE_LN_FEC_CORR, LNE_LN_FEC_UNCORR]

/-- What the lane's registers hold before this tick's host writes is noted, for a handover in the same tick (R207). -/
def State.noteLane (s : State) (n : Nat) : State :=
  match SMap.find s.lanes.before n with
  | some x =>
    if x.1 = s.now then s
    else { s with lanes := { s.lanes with before := SMap.put s.lanes.before n (s.now, laneHostFields.map fun f => s.rdAt f n) } }
  | none => { s with lanes := { s.lanes with before := SMap.put s.lanes.before n (s.now, laneHostFields.map fun f => s.rdAt f n) } }

/-- Fields given values in turn. -/
def State.putFields (s : State) (n : Nat) (fs : List Field) (vs : List Nat) : State :=
  match fs, vs with
  | f :: fr, v :: vr => State.putFields (s.wrAt f n v) n fr vr
  | _, _ => s

/-- A host write that reached the lane in the tick of its handover is ignored, and sets UNCLAIMED (R207, R229). -/
def State.undoWrites (s : State) (n : Nat) : State :=
  match SMap.find s.lanes.before n with
  | some x => if x.1 = s.now then (s.putFields n laneHostFields x.2).wr LNE_ERR_UNCLAIMED 1 else s
  | none => s

/-- A host write of LNE_LN_CTRL. -/
def State.laneCtrlWrite (s : State) (n v : Nat) : State :=
  match s.laneCtrlRefusal n v with
  | some why =>
    s.laneRefuse (if why = 1 then LNE_ERR_UNCLAIMED else if why = 2 then LNE_ERR_IN_USE else LNE_ERR_BAD_CONFIG)
      (0x500 + n) n why
  | none =>
    let was := flag (s.rdAt LNE_LN_CTRL_PROTO n == 1 && s.rdAt LNE_LN_CTRL_MODE n == 3)
    let s1 := (((s.wrAt LNE_LN_CTRL_EN n (bitOf v 31)).wrAt LNE_LN_CTRL_PROTO n (bitsOf v 30 28)).wrAt LNE_LN_CTRL_MODE n
      (bitsOf v 27 24)).wrAt LNE_LN_CTRL_TX_PLL n (bitOf v 23)
    let s2 := (((s1.wrAt LNE_LN_CTRL_TX_INV n (bitOf v 21)).wrAt LNE_LN_CTRL_RX_INV n (bitOf v 20)).wrAt
      LNE_LN_CTRL_LOOPBACK n (bitsOf v 19 17)).wrAt LNE_LN_CTRL_TX_DIS n (bitOf v 16)
    (s2.laneFollowers n was).laneSettle n

/-- Settings with which a lane runs: PRE, MAIN, POST taps, polarity of transmitter and receiver. The promenade crossbar runs a lane with
those of the lifeline table (R207; 17 R462). -/
structure LaneSettings where
  pre : Nat
  main : Nat
  post : Nat
  txInv : Nat
  rxInv : Nat
  deriving DecidableEq, Repr

/-- The settings that the lifeline table gives lane `n`. -/
def State.tableSettings (s : State) (n : Nat) : Option LaneSettings :=
  (s.prom.routes.find? fun (e : Nat × Nat) => (routeInputs e.2 ++ routeOutputs e.2).contains n).map fun e =>
    { pre := bitsOf e.2 77 74
      main := bitsOf e.2 73 68
      post := bitsOf e.2 67 63
      txInv := bitOf e.2 62
      rxInv := bitOf e.2 61 }

/-- The settings of the lane's registers. -/
def State.hostSettings (s : State) (n : Nat) : LaneSettings :=
  { pre := s.rdAt LNE_LN_TXEQ_TX_PRE n
    main := s.rdAt LNE_LN_TXEQ_TX_MAIN n
    post := s.rdAt LNE_LN_TXEQ_TX_POST n
    txInv := s.rdAt LNE_LN_CTRL_TX_INV n
    rxInv := s.rdAt LNE_LN_CTRL_RX_INV n }

/-- The settings in force. -/
def State.laneSettings (s : State) (n : Nat) : LaneSettings :=
  if s.lane n = 5 then (s.tableSettings n).getD (s.hostSettings n) else s.hostSettings n

/-- A host write of LNE_LN_PRBS. -/
def State.lanePrbsWrite (s : State) (n v : Nat) : State :=
  if !s.laneClaimed n || s.lane n == 5 then s.wr LNE_ERR_UNCLAIMED 1
  else
    (((s.wrAt LNE_LN_PRBS_GEN_EN n (bitOf v 31)).wrAt LNE_LN_PRBS_CHK_EN n (bitOf v 30)).wrAt LNE_LN_PRBS_PATTERN n
      (bitsOf v 26 24)).laneSettle n

/-! ### Bonds (R216, R218, R220) -/

/-- The enabled bond a lane belongs to. -/
def State.laneBond (s : State) (n : Nat) : Option Nat :=
  if s.isSetAt LNE_LN_STATUS_IN_BOND n then some (s.rdAt LNE_LN_STATUS_BOND n) else none

/-- The bond of a lifeline route that a lane handed over to the promenade crossbar belongs to (17 R466). -/
def State.routeBond (s : State) (n : Nat) : Option Nat :=
  if s.lane n = 5 then
    (List.range 64).map (· + 16) |>.find? fun b => routeKind (s.bondRoute b) == 3 && (s.bondLanes b).contains n
  else none

/-- The bond's state changes, with event 0x5004. The bond of a lifeline route has no registers and reports through its route (R208; 17
R466). -/
def State.setBond (s : State) (b st why : Nat) : State :=
  if 16 ≤ b then s.setBondRun b { s.bondRun b with state := st }
  else
    ((s.wrAt LNE_BOND_STATUS_STATE b st).wrAt LNE_BOND_STATUS_FAIL_REASON b why).post 0x5004 (0x580 + b)
      (if st = 4 ∨ st = 0 then 3 else 1) (st + why * 2 ^ 4)

/-- Enabled flows with a lane in a list. -/
def State.flowsOn (s : State) (ns : List Nat) : List Nat := s.enabledFlows.filter fun f => (s.flowLanes f).any ns.contains

/-- The bond goes DOWN; its flows are disabled (R220). They name lane FIRST, whichever lane carries position 0. -/
def State.bondDown (s : State) (b : Nat) : State :=
  let flows := if b < 16 then s.flowsOn (s.bondFirst b :: s.bondLanes b) else []
  flows.foldl (fun (x : State) f => x.deviceDisable 1 f) (s.setBond b 0 0)

/-- A lane of a bond is faulty (R220): a bond that is UP with a spare asks for the switch of a data lane, and a ticket under way loses
blocks; another goes DOWN, and so does one whose spare fails before the switch. -/
def State.bondLose (s : State) (b n : Nat) : State :=
  let r := s.bondRun b
  match s.bondPosition b n with
  | some p =>
    if s.bondState b = 2 ∧ r.spare.isSome ∧ r.spareWanted.isNone then
      s.setBondRun b { r with
        spareWanted := some (p, n)
        faultAt := s.now
        opened := r.opened.map fun t => { t with bad := true } }
    else if s.bondUp b then s.bondDown b
    else s
  | none =>
    if r.spare = some n then
      let s1 := s.setBondRun b { r with spare := none }
      if r.spareWanted.isSome then s1.bondDown b else s1
    else s

/-- The bond of a faulty lane, if it has one. -/
def State.bondFault (s : State) (n : Nat) : State :=
  match s.laneBond n with
  | none => s
  | some b => s.bondLose b n

/-- A fault trigger of R221 on a lane in UP: event 0x5003, TEST, self-test. On a lane that the promenade crossbar holds it is the fault of
its route's bond (17 R466). -/
def State.laneFault (s : State) (n trigger : Nat) : State :=
  if s.lane n = 2 then
    ((((s.post 0x5003 (0x500 + n) 3 trigger).laneDown n 3 3).startTest kindLane n causeFailed).bondFault n)
  else
    match s.routeBond n with
    | some b => s.bondLose b n
    | none => s

/-- A link-down condition of the lane waits in the queue. What waits there falls in this tick (DESIGN CHOICE, log 148), and link down
comes before a fault trigger of its tick (R229). -/
def State.linkDownWaits (s : State) (n : Nat) : Bool :=
  s.pending.any fun c =>
    match c with
    | .laneLinkDown m _ => m == n
    | _ => false

/-- A fault trigger of the lane waits in the queue, and no link-down condition: a ticket whose END the lane carries in this tick ends in
error (R229). -/
def State.faultWaits (s : State) (n : Nat) : Bool :=
  !s.linkDownWaits n && s.pending.any fun c =>
    match c with
    | .laneFault m _ => m == n
    | _ => false

/-! ### Lands (R223 to R226) -/

/-- The bank's outputs drive: VIOB_OK has been 1 for 1 ms (R226). -/
def State.bankDrives (s : State) (b : Nat) : Bool :=
  s.isSetAt LNE_GPIO_BANK_VIOB_OK b &&
    (match SMap.find s.lanes.viobSince b with
     | some t => decide (t + 1000000 ≤ s.now)
     | none => false)

/-- The instruction whose effect boundary scan has (R228). -/
def State.jtagActs (s : State) : JtagInstr := if s.lanes.jtag.drives && !s.scanMode then .bypass else s.lanes.jtag

/-- Level that boundary scan drives on a land: its cells 2p and 2p + 1 are the level and the enable (DESIGN CHOICE, log 151). -/
def State.scanDriven (s : State) (p : Nat) : Option Bool :=
  if s.jtagActs = .highz ∨ SMap.read s.lanes.cells false (2 * p + 1) = false then none
  else some (SMap.read s.lanes.cells false (2 * p))

/-- Level that the land's owner drives on it (R223; 03 R84; 04 R97; 16 R456; 18 R480): user logic's is the environment's (log 149). In
DEEP_SLEEP a Caller alternate stands at its idle level, by POL, and every other land is high-impedance; in PROMENADE those of the design
and the dance card engine are. -/
def State.ownerDrives (s : State) (p : Nat) : Option Bool :=
  let m := s.mode
  if m = modeLoad ∨ m = modeConfigFault ∨ m = modeOff then none
  else if s.landOwnedBy p 2 && s.isSetAt CLR_PULSE_EN p then
    some ((decide (s.now < (s.pulse p).endsAt) && m != modeDeepSleep) != s.isSetAt CLR_PULSE_POL p)
  else if m = modeDeepSleep then none
  else if s.landOwnedBy p 3 then (if s.isSetAt LNE_GPIO_OE p then some (s.isSetAt LNE_GPIO_OUT p) else none)
  else if m = modePromenade then none
  else if s.landOwnedBy p 1 then (SMap.find s.lanes.danceLevel p).map fun x => x == 1
  else if s.landOwnedBy p 0 then Config.designLevel s.now p
  else none

/-- The land is one of an LVDS pair (R224). -/
def State.pairLvds (s : State) (p : Nat) : Bool := s.rdAt LNE_GPIO_IO_STD (p / 2 * 2) == 1

/-- Level the device drives on a land, where it drives one. An LVDS pair drives only where LVDS_OK permits it, N the inverse of P, whose
settings it takes (R224). -/
def State.landDriven (s : State) (p : Nat) : Option Bool :=
  if !s.bankDrives (p / 32) then none
  else if s.jtagActs.drives then s.scanDriven p
  else if s.pairLvds p then
    if s.isSetAt LNE_GPIO_BANK_LVDS_OK (p / 32) then (s.ownerDrives (p / 2 * 2)).map fun x => x != (p % 2 == 1) else none
  else s.ownerDrives p

/-- Level that a land takes which neither the device nor the board drives (R223, R231): unclaimed, in LOAD, CONFIG_FAULT and
DEEP_SLEEP, and as the design's or the dance card engine's in PROMENADE, that of a weak pull-down (16 R452; 18 R480); else by PULL: undefined (a free value), 0, 1, or what the keeper holds. -/
def State.landPulled (s : State) (p : Nat) : Nat :=
  if !s.landClaimed p || s.mode == modeLoad || s.mode == modeConfigFault || s.mode == modeDeepSleep ||
      (s.mode == modePromenade && (s.landOwnedBy p 0 || s.landOwnedBy p 1)) then 0
  else
    match s.rdAt LNE_GPIO_PULL p with
    | 0 => s.free 1
    | 1 => 0
    | 2 => 1
    | _ => SMap.read s.lanes.keeper (s.free 1) p

/-- Level that the device or the board drives on a land. -/
def State.landHeld (s : State) (p : Nat) : Option Bool := (s.landDriven p).orElse fun _ => Config.boardLevel s.now p

/-- Level of a land. -/
def State.landLevel (s : State) (p : Nat) : Nat :=
  match s.landHeld p with
  | some x => flag x
  | none => s.landPulled p

/-- The keepers hold the levels that they see (R231), at each tick. -/
def State.keepLevels (s : State) : State :=
  ((List.range 192).filter fun p => s.rdAt LNE_GPIO_PULL p == 3).foldl (fun (x : State) p =>
    match x.landHeld p with
    | some v => { x with lanes := { x.lanes with keeper := SMap.put x.lanes.keeper p (flag v) } }
    | none => x) s

/-- A land's level driven by the dance card engine. -/
def State.danceDrive (s : State) (p : Nat) (level : Bool) : State :=
  { s with
    lanes := { s.lanes with danceLevel := SMap.put s.lanes.danceLevel p (flag level) }
    dance := { s.dance with pulses := SMap.erase s.dance.pulses p } }

end Sys2Proof.Machine
end

