-- ==== Sys2Proof/Machine/Lanes.lean ====
section
/-! DEFINITION. Lanes, Hokutu link, lands and boundary scan (08), with the dance card's actions on lands (04) and the
Caller's time messages (03). -/

namespace Sys2Proof.Machine

open Sys2Proof

/-! ### Lanes -/

/-- LANE_CTRL_WRITE. -/
def execLaneCtrlWrite (lane value : Nat) (s : State) : Result :=
  .next (if lane < 128 then (s.noteLane lane).laneCtrlWrite lane value else s)

/-- LANE_PRBS_WRITE. -/
def execLanePrbsWrite (lane value : Nat) (s : State) : Result :=
  .next (if lane < 128 then (s.noteLane lane).lanePrbsWrite lane value else s)

/-- QUAD_PLL_LOCK_CHANGE (R205): a rate outside its range never locks; lanes in UP on the PLL leave UP when it unlocks. -/
def execQuadPllLockChange (quad pll : Nat) (lock : Bool) (s : State) : Result :=
  let en := if pll = 0 then LNE_Q_PLL0_EN else LNE_Q_PLL1_EN
  let rate := if pll = 0 then LNE_Q_PLL0_RATE_KBPS else LNE_Q_PLL1_RATE_KBPS
  let bit := if pll = 0 then LNE_Q_PLL0_LOCK else LNE_Q_PLL1_LOCK
  .next (
    if 31 < quad ∨ 1 < pll then s
    else if lock then
      if s.isSetAt en quad ∧ 1250000 ≤ s.rdAt rate quad ∧ s.rdAt rate quad ≤ 28125000 then s.wrAt bit quad 1 else s
    else
      ([4 * quad, 4 * quad + 1, 4 * quad + 2, 4 * quad + 3].filter fun n =>
        s.lane n == 2 && s.rdAt LNE_LN_CTRL_TX_PLL n == pll).foldl (fun (x : State) n => x.laneDown n 1 6)
        (s.wrAt bit quad 0))

/-- QREFCLK_PRESENCE_CHANGE (R205): PRESENT is 1 within ±100 ppm of REF_KHZ. -/
def execQrefclkPresenceChange (quad kilohertz : Nat) (s : State) : Result :=
  .next (
    if quad < 32 then
      let r := s.rdAt LNE_Q_REF_KHZ quad
      s.wrAt LNE_Q_PRESENT quad (flag (decide ((kilohertz - r + (r - kilohertz)) * 1000000 ≤ 100 * r)))
    else s)

/-- The detected SDI rate (R212): MODE 0x4 detects it, another MODE is locked to its own. -/
def State.sdiDetected (s : State) (n sdiRate : Nat) (sdiFrac : Bool) : State :=
  if s.rdAt LNE_LN_CTRL_PROTO n ≠ 2 then s
  else if s.rdAt LNE_LN_CTRL_MODE n = 4 then
    ((s.wrAt LNE_LN_STATUS_SDI_RATE n sdiRate).wrAt LNE_LN_STATUS_SDI_FRAC n (flag sdiFrac)).post 0x5009 (0x500 + n) 1
      (sdiRate % 16 + 16 * flag sdiFrac)
  else
    (s.wrAt LNE_LN_STATUS_SDI_RATE n (s.rdAt LNE_LN_CTRL_MODE n)).wrAt LNE_LN_STATUS_SDI_FRAC n (flag sdiFrac)

/-- LANE_UP (R208, R211 to R213, R543). -/
def execLaneUp (lane : Nat) (sdiRate : Nat) (sdiFrac : Bool) (s : State) : Result :=
  .next (
    if lane < 128 ∧ s.lane lane = 1 ∧ s.laneClaimed lane ∧ s.isSetAt LNE_LN_CTRL_EN lane ∧
        s.rdAt LNE_LN_CTRL_PROTO lane ≠ 0 ∧ s.lanePllLock lane then
      ((((s.wrAt LNE_LN_STATUS_STATE lane 2).wrAt LNE_LN_STATUS_CDR_LOCK lane 1).wrAt LNE_LN_STATUS_BLOCK_LOCK lane
        1).post 0x5001 (0x500 + lane) 1
        (s.rdAt LNE_LN_CTRL_PROTO lane + 16 * s.rdAt LNE_LN_CTRL_MODE lane)).sdiDetected lane sdiRate sdiFrac
    else s)

/-- LANE_LINK_DOWN (R221): no fault, no self-test. -/
def execLaneLinkDown (lane : Nat) (remote : Bool) (s : State) : Result :=
  .next (if lane < 128 ∧ s.lane lane = 2 then s.laneDown lane 1 (if remote then 2 else 1) else s)

/-- LANE_FAULT (R221): no fault in the tick of a link-down condition (R229). -/
def execLaneFault (lane trigger : Nat) (s : State) : Result :=
  .next (if lane < 128 ∧ !s.linkDownWaits lane then s.laneFault lane trigger else s)

/-! ### Bonds (R218 to R220, R230) -/

/-- The lane's transmit PLL is set to 28.125 Gb/s, not divided (R218). -/
def State.linkRate (s : State) (n : Nat) : Bool :=
  (if s.isSetAt LNE_LN_CTRL_TX_PLL n then s.rdAt LNE_Q_PLL1_RATE_KBPS (n / 4) else s.rdAt LNE_Q_PLL0_RATE_KBPS (n / 4)) == 28125000 &&
    !s.laneFrac n

/-- Why a write of LNE_BOND_CTRL that sets EN is refused. -/
def State.bondRefusal (s : State) (b : Nat) : Option Nat :=
  let n := s.rdAt LNE_BOND_CTRL_DATA_CNT b
  let first := s.rdAt LNE_BOND_CTRL_FIRST b
  let spare := s.rdAt LNE_BOND_CTRL_SPARE b
  let lanes := ((List.range n).map fun p => first + p) ++ (if spare < 128 then [spare] else [])
  if n = 0 ∨ 16 < n ∨ 128 < first + n ∨ (spare ≠ 0xFF ∧ 127 < spare) then some 4
  else if lanes.any fun m => !s.laneClaimed m then some 1
  else if lanes.any fun m => s.rdAt LNE_LN_CTRL_PROTO m != 3 then some 4
  else if (lanes.any fun m => s.isSetAt LNE_LN_STATUS_IN_BOND m) ∨ (first ≤ spare ∧ spare < first + n) then some 5
  else if lanes.any fun m => !s.linkRate m then some 6
  else none

/-- A training attempt starts. -/
def State.bondTrain (s : State) (b : Nat) : State :=
  let r := s.bondRun b
  let s1 := s.setBondRun b { startedAt := s.now, moved := r.moved, spare := r.spare, state := r.state }
  (if b < 16 then s1.addSatAt LNE_BOND_TRAIN_CNT b 1 else s1).setBond b 1 0

/-- A lane becomes a member of a bond, or ceases to be one. -/
def State.joinBond (s : State) (b n p : Nat) : State :=
  ((s.wrAt LNE_LN_STATUS_IN_BOND n 1).wrAt LNE_LN_STATUS_BOND n b).wrAt LNE_LN_STATUS_POSITION n p
def State.leaveBond (s : State) (n : Nat) : State :=
  ((s.wrAt LNE_LN_STATUS_IN_BOND n 0).wrAt LNE_LN_STATUS_BOND n 0).wrAt LNE_LN_STATUS_POSITION n 0

/-- The lanes of an enabled bond recorded: data lanes, spare. -/
def State.bondMembers (s : State) (b : Nat) : State :=
  let spare := s.rdAt LNE_BOND_CTRL_SPARE b
  let s1 := (List.range (s.rdAt LNE_BOND_CTRL_DATA_CNT b)).foldl (fun (x : State) p =>
    x.joinBond b (s.rdAt LNE_BOND_CTRL_FIRST b + p) p) s
  let s2 := if spare < 128 then s1.joinBond b spare 16 else s1
  s2.setBondRun b { spare := if spare < 128 then some spare else none }

/-- EN set: members recorded, training starts. -/
def State.bondStart (s : State) (b : Nat) : State :=
  ((s.bondMembers b).wrAt LNE_BOND_STATUS_SPARED_POS b 0x1F).bondTrain b

/-- EN is kept by a warm reset, and with it the membership of the bond's lanes (R206; DEDUCED, log 152). -/
def State.rejoinBonds (s : State) : State :=
  ((List.range 16).filter fun b => s.isSetAt LNE_BOND_CTRL_EN b).foldl (fun (x : State) b => x.bondMembers b) s

/-- EN cleared: every member is free, also a lane that the spare replaced; the bond is DOWN. -/
def State.bondStop (s : State) (b : Nat) : State :=
  let ns := (List.range 128).filter fun n => s.laneBond n == some b
  let s1 := ns.foldl (fun (x : State) n => x.leaveBond n) s
  let s2 := (s1.setBondRun b {}).wrAt LNE_BOND_STATUS_SPARED_POS b 0x1F
  if s.rdAt LNE_BOND_STATUS_STATE b = 0 then s2 else s2.setBond b 0 0

/-- A host write of LNE_BOND_CTRL. -/
def State.bondCtrlWrite (s : State) (b v : Nat) : State :=
  if s.isSetAt LNE_BOND_CTRL_EN b then
    if bitOf v 31 = 1 then s else (s.wrAt LNE_BOND_CTRL_EN b 0).bondStop b
  else
    let s1 := ((s.wrAt LNE_BOND_CTRL_SPARE b (bitsOf v 23 16)).wrAt LNE_BOND_CTRL_DATA_CNT b (bitsOf v 12 8)).wrAt
      LNE_BOND_CTRL_FIRST b (bitsOf v 6 0)
    if bitOf v 31 = 0 then s1
    else
      match s1.bondRefusal b with
      | some why => s.laneRefuse LNE_ERR_BOND_REFUSED (0x580 + b) b why
      | none => (s1.wrAt LNE_BOND_CTRL_EN b 1).bondStart b

/-- BOND_ENABLE. -/
def execBondEnable (bond value : Nat) (s : State) : Result :=
  .next (if bond < 16 then s.bondCtrlWrite bond value else s)

/-- The bond is enabled: EN, or a pass-through route that the promenade crossbar runs (17 R466). -/
def State.bondEnabled (s : State) (b : Nat) : Bool :=
  if b < 16 then s.isSetAt LNE_BOND_CTRL_EN b else s.mode == modePromenade && routeKind (s.bondRoute b) == 3

/-- Blocks taken on a position, and the last of them. -/
def State.takeLast (s : State) (b p : Nat) (blocks : List Nat) : Option LinkBlock × State :=
  let q := s.takeBlocks b p blocks
  (q.1.getLast?, q.2)

/-- The control block `x` has the code `c`, and no sync error. -/
def LinkBlock.isCode (x : LinkBlock) (c : Nat) : Bool := !x.syncError && x.sync == syncControl && x.code == c

/-- HOKUTU_TRAIN_REQ (R215): the last of the blocks that arrived on a position is TRAIN_REQ; it is answered with TRAIN_ACK, its value
echoed. -/
def execHokutuTrainReq (bond position : Nat) (blocks : List Nat) (turnaround : Nat) (s : State) : Result :=
  .next (
    if s.bondEnabled bond then
      let q := s.takeLast bond position blocks
      match q.1 with
      | some x =>
        if x.isCode 3 then
          let a := q.2.sendBlock bond position 0 (trainAckBlock (bitsOf x.payload 135 72) turnaround position)
          a.2.setBondRun bond { a.2.bondRun bond with ackSent := some (position, a.1.2) }
        else q.2
      | none => q.2
    else s)

/-- ASYM in ps; the bond of a route has none. -/
def State.bondAsym (s : State) (b : Nat) : Int := if b < 16 then toSigned 16 (s.rdAt LNE_BOND_ASYM b) else 0

/-- Flight time of one exchange in ps (R218); turnaround and fixed delays are in units of 0.25 ns. -/
def State.flightTime (s : State) (b echo turnaround fixedDelay : Nat) : Nat :=
  let rt : Int := ((s.now - echo : Nat) : Int) * 1000 - (turnaround * 250 : Nat) - (fixedDelay * 250 : Nat)
  (rt / 2 + s.bondAsym b).toNat

/-- An exchange of a position enters its average (R218). -/
def State.addExchange (s : State) (b p flight : Nat) : State :=
  let r := s.bondRun b
  if SMap.read r.exchanges 0 p < 1024 then
    s.setBondRun b { r with
      exchanges := SMap.put r.exchanges p (SMap.read r.exchanges 0 p + 1)
      flightSum := SMap.put r.flightSum p (SMap.read r.flightSum 0 p + flight) }
  else s

/-- HOKUTU_TRAIN_ACK (R218): the last of the blocks that arrived on a position is TRAIN_ACK; the exchange enters the average of the
position. -/
def execHokutuTrainAck (bond position : Nat) (blocks : List Nat) (fixedDelay : Nat) (s : State) : Result :=
  .next (
    if s.bondState bond = 1 then
      let q := s.takeLast bond position blocks
      match q.1 with
      | some x =>
        if x.isCode 4 then
          q.2.addExchange bond position (q.2.flightTime bond (bitsOf x.payload 135 72) (bitsOf x.payload 71 40) fixedDelay)
        else q.2
      | none => q.2
    else s)

/-- Average flight of a position in ps. -/
def State.bondFlight (s : State) (b p : Nat) : Nat := SMap.read (s.bondRun b).flightSum 0 p / 1024

/-- Largest and smallest flight in ps. -/
def State.flightMax (s : State) (b : Nat) : Nat := ((s.bondPositions b).map (s.bondFlight b)).foldl max 0
def State.flightMin (s : State) (b : Nat) : Nat := ((s.bondPositions b).map (s.bondFlight b)).foldl min (s.flightMax b)

/-- A lane of the bond is not UP at 28.125 Gb/s. The lanes of a route are the crossbar's, which runs them at that rate. -/
def State.bondLaneDown (s : State) (b : Nat) : Bool :=
  decide (b < 16) && (s.bondLanes b).any fun n => s.lane n != 2 || !s.linkRate n

/-- A lane of the bond has no block lock: 64 consecutive blocks without a sync error. -/
def State.bondUnlocked (s : State) (b : Nat) : Bool :=
  (decide (b < 16) && (s.bondLanes b).any fun n => !s.isSetAt LNE_LN_STATUS_BLOCK_LOCK n) ||
    (s.bondPositions b).any fun p => decide (SMap.read (s.bondRun b).clean 0 p < 64)

/-- The first condition of R218 that does not hold, as FAIL_REASON. -/
def State.bondFail (s : State) (b : Nat) (farMatches : Bool) : Option Nat :=
  if s.bondLaneDown b then some 1
  else if s.bondUnlocked b then some 2
  else if (s.bondPositions b).any fun p => decide (SMap.read (s.bondRun b).exchanges 0 p < 1024) then some 6
  else if !farMatches then some 3
  else if 10000 < s.flightMax b - s.flightMin b then some 4
  else if 2000000 < s.flightMax b then some 5
  else none

/-- Training succeeds: LAT and SKEW, rounded to their unit of 0.25 ns (DESIGN CHOICE, log 26), and the numbering of blocks starts. -/
def State.bondTrained (s : State) (b : Nat) : State :=
  let lat := (s.flightMax b + 125) / 250
  let s1 := s.setBondRun b { s.bondRun b with numberedAt := s.now, lat := lat }
  let s2 :=
    if b < 16 then (s1.wrAt LNE_BOND_LAT b lat).wrAt LNE_BOND_SKEW b ((s.flightMax b - s.flightMin b + 125) / 250) else s1
  s2.setBond b 2 0

/-- BOND_TRAINING_DONE: success, or failure 10 ms after the attempt started. -/
def execBondTrainingDone (bond : Nat) (farMatches : Bool) (s : State) : Result :=
  .next (
    if s.bondState bond ≠ 1 then s
    else
      match s.bondFail bond farMatches with
      | none => s.bondTrained bond
      | some why => if s.now < (s.bondRun bond).startedAt + 10000000 then s else s.setBond bond 4 why)

/-- The bond waits to train again: FAILED, or DOWN as the bond of a route, which no host enables again (DESIGN CHOICE, log 150). -/
def State.bondIdle (s : State) (b : Nat) : Bool := s.bondState b == 4 || (decide (16 ≤ b) && s.bondState b == 0)

/-- BOND_RETRAIN: a failed bond trains again every 100 ms. -/
def execBondRetrain (bond : Nat) (s : State) : Result :=
  .next (
    if s.bondIdle bond ∧ s.bondEnabled bond ∧ (s.bondRun bond).startedAt + 100000000 ≤ s.now then s.bondTrain bond
    else s)

/-- A position of a bond that is UP moves onto the spare lane `m` (R220). -/
def State.moveToSpare (s : State) (b p n m : Nat) : State :=
  let r := s.bondRun b
  let s1 := s.setBondRun b { r with
    spareWanted := none
    spare := none
    state := 3
    moved := SMap.put r.moved p m
    rx := SMap.store r.rx 0 p (SMap.read r.rx 0 16) }
  if 16 ≤ b then s1
  else
    (((s1.wrAt LNE_BOND_STATUS_STATE b 3).wrAt LNE_BOND_STATUS_SPARED_POS b p).addSatAt LNE_BOND_SPARE_SWITCH_CNT b
      1).wrAt LNE_LN_STATUS_POSITION m p |>.post 0x5005 (0x580 + b) 2 (p + n * 2 ^ 8)

/-- BOND_SPARE_SWITCH (R220): at a frame start after the tick of the fault (R229). -/
def execBondSpareSwitch (bond : Nat) (s : State) : Result :=
  .next (
    let r := s.bondRun bond
    match r.spareWanted, r.spare with
    | some (p, n), some m => if s.bondState bond = 2 ∧ r.faultAt < s.now then s.moveToSpare bond p n m else s
    | _, _ => s)

/-- The ingress flow of a link flow identifier on a bond. -/
def State.hokutuFlow (s : State) (b flowId : Nat) : Option Nat :=
  s.enabledFlows.find? fun f =>
    !s.flowEgress f && s.flowKind f == 8 && s.flowLaneA f == s.rdAt LNE_BOND_CTRL_FIRST b &&
      s.flowDstPort f % 2 ^ 14 == flowId && (s.flowRun f).disabling.isEmpty

/-- The ticket ended in error (R215). -/
def HokutuTicket.inError (t : HokutuTicket) : Bool := t.errorFlag || !t.crcOk || t.syncError

/-- A ticket as a packet of its words. -/
def ticketPacket (lane now : Nat) (t : HokutuTicket) : Packet :=
  { lane := lane
    arrived := now
    words := t.words.map flagWord
    validBytes := t.validBytes
    endsInError := t.inError }

/-- How a Hokutu ticket ended in error: 0 = CRC, 1 = ERROR flag, 2 = sync error. -/
def ticketErrorType (t : HokutuTicket) : Nat := if !t.crcOk then 0 else if t.errorFlag then 1 else 2

/-- A ticket whose END has arrived: its error counted and told, its words given to its flow. One whose END came on a lane that is faulty
in this tick ends in error (R229). -/
def State.linkTicket (b : Nat) (s : State) (t0 : HokutuTicket) : State :=
  let t := if s.faultWaits t0.endLane || s.lane t0.endLane != 2 then { t0 with syncError := true } else t0
  let s1 := if t.crcOk then s else s.addSatAt LNE_LN_CRC_ERR t.endLane 1
  let s2 :=
    if t.inError then
      (s1.addSatAt LNE_BOND_TICKET_ERR_CNT b 1).post 0x5007 (0x580 + b) 2 (t.flowId % 2 ^ 14 + ticketErrorType t * 2 ^ 14)
    else s1
  match s2.hokutuFlow b (t.flowId % 2 ^ 14) with
  | some f => s2.passPacket f (ticketPacket (s.bondFirst b) s.now t)
  | none => s2

/-- Blocks of the input bond of a pass-through route leave on its output bond, in order, with the side channel of this device (17 R466). -/
def State.forwardBlocks (s : State) (b : Nat) (bs : List (Nat × LinkBlock)) : State :=
  if s.bondUp (b + 32) then
    let q := s.sendBlocks (b + 32) (bs.map fun x => x.2)
    { q.2 with prom := { q.2.prom with forwarded := q.1 } }
  else s

/-- HOKUTU_TICKET_RECEIVE (R215, R216): the blocks that arrived on each data position, and at 16 on the spare, since the last time. On
the input bond of a pass-through route they go on to its output bond. -/
def execHokutuTicketReceive (bond : Nat) (arrived : List (List Nat)) (s : State) : Result :=
  .next (
    if s.bondUp bond then
      let spare := s.takeBlocks bond 16 (arrived.getD 16 [])
      let q := spare.2.receiveBlocks bond arrived
      if bond < 16 then
        let l := linkRun (q.2.bondRun bond).opened q.1
        l.2.foldl (State.linkTicket bond) (q.2.setBondRun bond { q.2.bondRun bond with opened := l.1 })
      else q.2.forwardBlocks bond q.1
    else s)

/-! ### Time messages (R217; 03 R69, R88) -/

/-- A candidate slot that lists Hokutu time on the bond. -/
def State.hokutuSlot (s : State) (b slot : Nat) : Bool := s.refKind slot == 4 && s.refInstance slot == b

/-- The lane whose frames carry the reference: that of position 0, or the spare that replaces it (R217). -/
def State.timeLane (s : State) (b : Nat) : Nat := s.bondLane b 0

/-- A frame with a bad CRC: event 0x5008; it counts as missing, and two in a row lose the reference. -/
def State.frameMissing (s : State) (b n : Nat) : State :=
  let r := s.bondRun b
  let s0 := s.post 0x5008 (0x580 + b) 2 n
  if n ≠ s.timeLane b then s0
  else
    let s1 := s0.setBondRun b { r with missing := r.missing + 1 }
    if 2 ≤ r.missing + 1 then s1.loseGone else s1

/-- Time taken from a frame of the reference's lane: the sender's state and its offset; the flight is that of the lane. -/
def State.takeTime (s : State) (b : Nat) (x : TimeFrame) : State :=
  let a := s.rd CLR_STATUS_ACTIVE_SLOT
  if a ≠ 7 ∧ s.hokutuSlot b a then
    let p := if (SMap.find (s.bondRun b).moved 0).isSome then 16 else 0
    let sent := x.sec * 1000000000 + x.ns + s.bondFlight b p / 1000
    ((({ s with caller := { s.caller with upstreamTod := x.todValid } }).measure 4 ((s.tai : Int) - (sent : Int))).wr
      CLR_STATUS_UPSTREAM_STATE x.lockState).updateTod
  else s

/-- A good frame of the reference's lane: no frame is missing, and its time is taken. -/
def State.frameGood (s : State) (b : Nat) (x : TimeFrame) : State :=
  let r := s.bondRun b
  let s1 := s.setBondRun b { r with missing := 0, lastFrame := s.now }
  (if r.lastFrame ≠ 0 ∧ s.now = r.lastFrame + 2000 then s1.resTie 2 else s1).takeTime b x

/-- The far end asks that the spare replace a position (R220): at the next frame start. -/
def State.spareAsked (s : State) (b p : Nat) : State :=
  if p < 16 ∧ s.bondState b = 2 then
    s.setBondRun b { s.bondRun b with spareWanted := some (p, s.bondLane b p), faultAt := s.now }
  else s

/-- A lane's frame starts more than 1 ns from the time that its flight predicts: event 0x5006, and the lane is faulty. -/
def State.alignmentLost (s : State) (b lane : Nat) (alignErr : Int) : State :=
  if 4 < alignErr.natAbs then
    (if b < 16 then s.post 0x5006 (0x580 + b) 3 (lane + ofInt 16 alignErr * 2 ^ 16) else s).laneFault lane 6
  else s

/-- HOKUTU_TIME_MESSAGE (R217): a side-channel frame of a lane, and how far its start is from the predicted time, in units of 0.25 ns. -/
def execHokutuTimeMessage (bond lane frame : Nat) (alignErr : Int) (s : State) : Result :=
  .next (
    let x := sideFields frame
    if !s.bondUp bond then s
    else if 16 ≤ bond then (if x.crcOk then s.spareAsked bond x.spareCmd else s).alignmentLost bond lane alignErr
    else if !x.crcOk then s.frameMissing bond lane
    else
      ((if lane = s.timeLane bond then s.frameGood bond x else s).spareAsked bond x.spareCmd).alignmentLost bond lane alignErr)

/-- The frames of every position of a bond, as they leave now. -/
def State.sideFrames (s : State) (b : Nat) : SMap Nat :=
  (s.bondPositions b).map fun p => (p, s.frameAt b p (s.tai / 1000000000) (s.tai % 1000000000))

/-- One side-channel frame on every lane of a bond that is UP, for each TAI microsecond (R217). -/
def State.sendTime (s : State) (b : Nat) : State :=
  let micro := s.tai / 1000 + 1
  if s.bondUp b ∧ SMap.read s.caller.timeSent 0 (2 * b + 1) ≠ micro then
    let m := SMap.put s.caller.timeSent (2 * b) (SMap.read s.caller.timeSent 0 (2 * b) + 1)
    let s1 := { s with caller := { s.caller with timeSent := SMap.put m (2 * b + 1) micro } }
    s1.setBondRun b { s.bondRun b with frames := s.sideFrames b }
  else s

/-- TIME_MESSAGE_SEND. -/
def execTimeMessageSend (s : State) : Result := .next ((List.range 80).foldl (fun (x : State) b => x.sendTime b) s)

/-! ### Lands (R223, R226; 04 R97, R99, R111) -/

/-- A keeper that is switched on holds what the land shows, which is undefined where nothing drives it (R231). -/
def State.keeperOn (s : State) (p was : Nat) : State :=
  if s.rdAt LNE_GPIO_PULL p = 3 ∧ was ≠ 3 then
    match s.landHeld p with
    | some x => { s with lanes := { s.lanes with keeper := SMap.put s.lanes.keeper p (flag x) } }
    | none => ({ s with lanes := { s.lanes with keeper := SMap.put s.lanes.keeper p (s.free 1) } }).took
  else s

/-- A host write of LNE_GPIO. -/
def State.gpioWrite (s : State) (p v : Nat) : State :=
  if !s.landOwnedBy p 3 then s.wr LNE_ERR_UNCLAIMED 1
  else
    let s1 := (((s.wrAt LNE_GPIO_OUT p (bitOf v 23)).wrAt LNE_GPIO_OE p (bitOf v 22)).wrAt LNE_GPIO_PULL p
      (bitsOf v 21 20)).wrAt LNE_GPIO_DRIVE p (bitsOf v 19 18)
    (((((s1.wrAt LNE_GPIO_SLEW p (bitOf v 17)).wrAt LNE_GPIO_SCHMITT p (bitOf v 16)).wrAt LNE_GPIO_IO_STD p
      (bitsOf v 13 12)).wrAt LNE_GPIO_TERM p (bitOf v 10)).wrAt LNE_GPIO_OVS p (bitOf v 9)).keeperOn p (s.rdAt LNE_GPIO_PULL p)

/-- GPIO_WRITE. -/
def execGpioWrite (land value : Nat) (s : State) : Result :=
  .next (if land < 192 then s.gpioWrite land value else s)

/-- Land of a GPIO action's operand. -/
def QueuedAction.land (q : QueuedAction) : Nat := bitsOf (entryOperand q.word) 7 0

/-- DNC_GPIO_SET. -/
def execDncGpioSet (s : State) : Result :=
  .next (s.runAction 0x08 fun q s => if s.landOwnedBy q.land 1 then s.danceDrive q.land true else s.actionFailed q 3)

/-- DNC_GPIO_CLEAR. -/
def execDncGpioClear (s : State) : Result :=
  .next (s.runAction 0x09 fun q s => if s.landOwnedBy q.land 1 then s.danceDrive q.land false else s.actionFailed q 3)

/-- DNC_GPIO_PULSE: the first level for WIDTH × 8 ns, then the other. -/
def execDncGpioPulse (s : State) : Result :=
  .next (s.runAction 0x0A fun q s =>
    if s.landOwnedBy q.land 1 then
      let low := bitOf (entryOperand q.word) 8 == 1
      let s1 := s.danceDrive q.land !low
      let x : GpioPulse := { endsAt := s1.now + 8 * bitsOf (entryOperand q.word) 31 16, after := low }
      { s1 with dance := { s1.dance with pulses := SMap.put s1.dance.pulses q.land x } }
    else s.actionFailed q 3)

/-- GPIO_PULSE_END. -/
def execGpioPulseEnd (land : Nat) (s : State) : Result :=
  .next (
    match SMap.find s.dance.pulses land with
    | none => s
    | some p => if s.now < p.endsAt then s else s.danceDrive land p.after)

/-- VIOB_FAULT (R226). -/
def execViobFault (bank millivolts : Nat) (s : State) : Result :=
  .next (
    if bank < 6 ∧ (millivolts < 1140 ∨ 1890 < millivolts) then
      let s1 := ((s.wrAt LNE_GPIO_BANK_VIOB_MV bank millivolts).wrAt LNE_GPIO_BANK_VIOB_OK bank 0).wrAt
        LNE_GPIO_BANK_LVDS_OK bank 0
      ({ s1 with lanes := { s1.lanes with viobSince := SMap.erase s1.lanes.viobSince bank } }).post 0x500B
        (0x5C0 + bank) 3 (bank + millivolts % 2 ^ 16 * 2 ^ 16)
    else s)

/-- VIOB_RESTORE: the supply is in range, and the bank's outputs drive 1 ms later. LVDS outputs need 1.71 V
and more (20 R525; DEDUCED, log 27). -/
def execViobRestore (bank millivolts : Nat) (s : State) : Result :=
  .next (
    if bank < 6 ∧ 1140 ≤ millivolts ∧ millivolts ≤ 1890 then
      let s1 := ((s.wrAt LNE_GPIO_BANK_VIOB_MV bank millivolts).wrAt LNE_GPIO_BANK_VIOB_OK bank 1).wrAt
        LNE_GPIO_BANK_LVDS_OK bank (flag (decide (1710 ≤ millivolts)))
      if s.isSetAt LNE_GPIO_BANK_VIOB_OK bank then s1
      else { s1 with lanes := { s1.lanes with viobSince := SMap.put s1.lanes.viobSince bank s1.now } }
    else s)

/-! ### Boundary scan (R227, R228) -/

/-- An instruction in the instruction register; the bypass register captures 0 (IEEE 1149.1). -/
def State.setJtag (s : State) (i : JtagInstr) : State := { s with lanes := { s.lanes with jtag := i, bypassBit := false } }

/-- BYPASS. -/
def execBypass (s : State) : Result := .next (s.setJtag .bypass)

/-- IDCODE: the device ID code of the identity registers. -/
def execIdcode (s : State) : Result := .next ((s.setJtag .idcode).answer (s.rd GLB_IDCODE))

/-- Boundary cells given their values. -/
def putCells (m : SMap Bool) (cs : List (Nat × Bool)) : SMap Bool :=
  match cs with
  | [] => m
  | c :: r => putCells (SMap.put m c.1 c.2) r

/-- In SCRAP only BYPASS and IDCODE act (19 R513). -/
def State.scrapped (s : State) : Bool := s.rd LCS_STATE_STATE == 6

/-- The control lands that the boundary register covers (R227), in the order of their cells from 384 on: PWR_GOOD, FAULT_N, CFG_DONE,
CFG_ERR, PROM_ACT, TEMP_ALERT_N, WAKE, PROM_REQ_N, PERST_N. The other covered lands show what the board gives them. -/
def State.controlLevels (s : State) : List Bool :=
  [s.isSet GLB_LANDS_PWR_GOOD, s.isSet GLB_LANDS_FAULT_N, s.isSet GLB_LANDS_CFG_DONE, s.isSet GLB_LANDS_CFG_ERR,
   s.isSet GLB_LANDS_PROM_ACT, s.isSet GLB_LANDS_TEMP_ALERT_N, s.modes.wakeHigh, s.modes.promReqLow.isNone, s.mgmt.perstN]

/-- What SAMPLE captures (DESIGN CHOICE, log 151): at cell 2p the level of GPIO land `p`, at 2p + 1 whether the device drives it, then
the control lands. -/
def State.scanCaptured (s : State) : SMap Bool :=
  ((List.range 192).flatMap fun p => [(2 * p, s.landLevel p == 1), (2 * p + 1, (s.landDriven p).isSome)]) ++
    (List.range 9).map fun k => (384 + k, s.controlLevels.getD k false)

/-- SAMPLE/PRELOAD: the lands are captured, then the cells given take their values. -/
def execSamplePreload (cells : List (Nat × Bool)) (s : State) : Result :=
  .next (
    if s.scrapped then s.setJtag .bypass
    else
      { s.setJtag .samplePreload with
        lanes := { (s.setJtag .samplePreload).lanes with cells := putCells s.lanes.cells cells, captured := s.scanCaptured } })

/-- An instruction that takes effect in LOAD, CONFIG_FAULT and SERVICE only (R228). -/
def State.scan (s : State) (i : JtagInstr) : State :=
  if s.scrapped then s.setJtag .bypass
  else if s.mode = modeLoad ∨ s.mode = modeConfigFault ∨ s.mode = modeService then s.setJtag i
  else (s.setJtag .bypass).wr LNE_ERR_SCAN_REFUSED 1

/-- EXTEST. -/
def execExtest (s : State) : Result := .next (s.scan .extest)

/-- EXTEST_PULSE. -/
def execExtestPulse (s : State) : Result := .next (s.scan .extestPulse)

/-- EXTEST_TRAIN. -/
def execExtestTrain (s : State) : Result := .next (s.scan .extestTrain)

/-- CLAMP. -/
def execClamp (s : State) : Result := .next (s.scan .clamp)

/-- HIGHZ. -/
def execHighz (s : State) : Result := .next (s.scan .highz)

/-- TRST_N low: the test access port is in reset, which selects IDCODE (PRESUMED, log 17). -/
def execJtagTrst (s : State) : Result := .next (s.setJtag .idcode)

end Sys2Proof.Machine
end

