-- ==== Sys2Proof/Machine/Fabric.lean ====
section
/-! DEFINITION. The fabric (09): column steering, PLLs, grids with the PLLs that follow them, set-reset. What user logic in the fabric
computes is not in the model. -/

namespace Sys2Proof.Machine

/-! ### Steering (R233, R235, R236) -/

/-- Offsets of a region's logic columns: logical ones below 96, physical ones below 98. -/
def logicOffsets (n : Nat) : List Nat := (List.range n).filter fun q => offsetType q == 0

/-- Retired physical columns the steering of region `r` in force passes over. -/
def State.steeredOver (s : State) (r : Nat) : List Nat := SMap.read s.fabric.steered [] r

/-- Physical column of logical column `c` under retired columns `gone`. -/
def physicalUnder (gone : List Nat) (c : Nat) : Nat :=
  let r := c / 96
  if columnType c ≠ 0 then columnUnsteered c
  else
    let live := (logicOffsets 98).filter fun q => !gone.contains (98 * r + q)
    98 * r + live.getD ((logicOffsets 96).idxOf (c % 96)) 0

/-- Physical column of a logical column under the steering in force. -/
def State.physicalOf (s : State) (c : Nat) : Nat := physicalUnder (s.steeredOver (c / 96)) c

/-- Logical column that a physical column carries, if one does. -/
def State.logicalOf (s : State) (p : Nat) : Option Nat :=
  ((List.range 96).map fun j => 96 * (p / 98) + j).find? fun c => s.physicalOf c == p

/-! ### PLLs (R249 to R251) -/

/-- Divider of output `o`. -/
def State.pllDiv (s : State) (p o : Nat) : Nat :=
  match o with
  | 0 => s.rdAt FAB_PLL_DIV_D0 p
  | 1 => s.rdAt FAB_PLL_DIV_D1 p
  | 2 => s.rdAt FAB_PLL_DIV_D2 p
  | _ => s.rdAt FAB_PLL_DIV_D3 p

/-- VCO frequency of a PLL in kHz as a fraction; none for a land or lane reference, whose frequency no register gives. -/
def State.pllVco (s : State) (p : Nat) : Option (Nat × Nat) :=
  let g := s.rdAt FAB_PLL_CTRL_GRID p
  let k := s.rdAt FAB_PLL_K p * s.rdAt FAB_PLL_DIV_D0 p * 1000000
  match s.rdAt FAB_PLL_CTRL_MODE p with
  | 0 =>
    if s.rdAt FAB_PLL_CTRL_REF p = 0 then some (1000000 * s.rdAt FAB_PLL_MN_M p, s.rdAt FAB_PLL_MN_N p) else none
  | 1 => some (k * s.gridQ g, s.gridD g)
  | _ => some (k * s.rdAt CLR_GRID_NUM g, s.gridD g)

/-- The frequency of output `o` exceeds `mhz` MHz. -/
def State.pllAbove (s : State) (p o mhz : Nat) : Bool :=
  match s.pllVco p with
  | some f => decide (mhz * 1000 * f.2 * s.pllDiv p o < f.1)
  | none => false

/-- Frequency of output `o` in kHz, rounded down. -/
def State.pllKhz (s : State) (p o : Nat) : Option Nat := (s.pllVco p).map fun f => f.1 / (f.2 * s.pllDiv p o)

/-- Net selected for region clock `i` of region `r`; 0x7F = none. -/
def State.regionNet (s : State) (r i : Nat) : Nat :=
  match i with
  | 0 => s.rdAt FAB_REGION_CLK_RCLK0 r
  | 1 => s.rdAt FAB_REGION_CLK_RCLK1 r
  | 2 => s.rdAt FAB_REGION_CLK_RCLK2 r
  | _ => s.rdAt FAB_REGION_CLK_RCLK3 r

/-- FMAX of region clock `i` in MHz. -/
def State.regionFmax (s : State) (r i : Nat) : Nat :=
  match i with
  | 0 => s.rdAt FAB_REGION_FMAX0 r
  | 1 => s.rdAt FAB_REGION_FMAX1 r
  | 2 => s.rdAt FAB_REGION_FMAX2 r
  | _ => s.rdAt FAB_REGION_FMAX3 r

/-- Source of region clock `i`: none where it selects no net, or the net is held low. -/
def State.regionSource (s : State) (r i : Nat) : Option Nat :=
  let n := s.regionNet r i
  if 47 < n then none
  else if s.rdAt FAB_GCLK_SRC n = 0xFF then none
  else some (s.rdAt FAB_GCLK_SRC n)

/-- The limit in MHz that the region clocks put on output `o` of PLL `p` (R246, R252). -/
def State.outputLimit (s : State) (p o : Nat) : Nat :=
  ((List.range 16).flatMap fun r => (List.range 4).filterMap fun i =>
    if s.regionSource r i = some (4 * p + o) then some (s.regionFmax r i) else none).foldl min 800

/-- The first output that its grid's parameters take above its limit. -/
def State.pllTooFast (s : State) (p : Nat) : Option Nat :=
  (List.range 4).find? fun o => s.pllAbove p o (s.outputLimit p o)

/-- The PLL's outputs run. -/
def State.pllRuns (s : State) (p : Nat) : Bool := s.fabric.running.contains p

/-- PLLs that feed a region's clocks. -/
def State.regionPlls (s : State) (r : Nat) : List Nat :=
  (List.range 4).filterMap fun i =>
    match s.regionSource r i with
    | some x => if x < 0x40 then some (x / 4) else none
    | none => none

/-- Every PLL that feeds the region has locked. -/
def State.regionLocked (s : State) (r : Nat) : Bool := (s.regionPlls r).all s.pllRuns

/-- Region clocks that select a net. -/
def State.clocksSelected (s : State) (r : Nat) : Nat :=
  ((List.range 4).map fun i => if s.regionNet r i < 48 then 2 ^ i else 0).sum

/-- A region in step 1 of R254 goes on to step 2 when its PLLs have locked: its clocks are ungated. -/
def State.releaseStep (s : State) (r : Nat) : State :=
  if s.isSetAt FAB_REGION_WAIT_LOCK r && s.regionLocked r then
    ((s.wrAt FAB_REGION_WAIT_LOCK r 0).wrAt FAB_REGION_WAIT_CLK r 1).wrAt FAB_REGION_CLK_RUN r (s.clocksSelected r)
  else s

/-- A PLL enabled at commit (R251): it locks later, or cannot start because its grid is disabled. -/
def State.pllStart (s : State) (p : Nat) : State :=
  let s1 := { s with fabric := { s.fabric with running := s.fabric.running.filter (· != p) } }
  let s2 := (((s1.wrAt FAB_PLL_STATUS_LOCK p 0).wrAt FAB_PLL_STATUS_ALIGNED p 0).wrAt FAB_PLL_STATUS_HOLDOVER p 0).wrAt
    FAB_PLL_STATUS_GRID_LOST p 0
  let g := s.rdAt FAB_PLL_CTRL_GRID p
  if s.isSetAt FAB_PLL_CTRL_EN p && s.rdAt FAB_PLL_CTRL_MODE p != 0 && !s.gridActive g then
    (((s2.wrAt FAB_PLL_STATUS_GRID_LOST p 1).wr FAB_ERR_GRID_LOST 1)).post 0x7802 (0x7C0 + p) 2 (g + 2 ^ 9)
  else s2

/-- Global set-reset of a region held, and its release begun (R254). -/
def State.releaseStart (s : State) (r : Nat) : State :=
  (((s.wrAt FAB_REGION_GSR_HELD r 1).wrAt FAB_REGION_WAIT_CLK r 0).wrAt FAB_REGION_WAIT_LOCK r 1).releaseStep r

/-- The fabric has its clocks: not in SLEEP, DEEP_SLEEP, OFF or PROMENADE (16 R444; 17 R460). -/
def State.fabricClocked (s : State) : Bool :=
  s.mode != modeSleep && s.mode != modeDeepSleep && s.mode != modeOff && s.mode != modePromenade

/-- FPLL_LOCK: a PLL locks after enable, or relocks when its reference has returned; on a grid, once the grid gives it a
frequency it may run at (R251). -/
def execFpllLock (pll : Nat) (s : State) : Result :=
  .next (
    let grid := s.rdAt FAB_PLL_CTRL_MODE pll != 0
    if pll < 16 ∧ s.fabricClocked ∧ s.isSetAt FAB_PLL_CTRL_EN pll ∧ s.rdAt FAB_PLL_STATUS_LOCK pll = 0 ∧
        (!grid || (s.gridActive (s.rdAt FAB_PLL_CTRL_GRID pll) && s.rdAt FAB_PLL_STATUS_GRID_LOST pll == 0)) then
      let s1 := { s with fabric := { s.fabric with
        running := if s.pllRuns pll then s.fabric.running else s.fabric.running ++ [pll] } }
      let s2 := (((s1.wrAt FAB_PLL_STATUS_LOCK pll 1).wrAt FAB_PLL_STATUS_HOLDOVER pll 0).wrAt FAB_PLL_STATUS_ALIGNED pll
        (flag grid)).wrAt FAB_PLL_STATUS_GRID_LOST pll 0
      let s3 := (s2.wrAt FAB_PLL_STATUS_FMAX_REFUSED pll 0).wrAt FAB_PLL_STATUS_F0_KHZ pll
        (match s.pllKhz pll 0 with
         | some k => satN 20 k
         | none => s.free 20)
      (List.range 16).foldl (fun (x : State) r => x.releaseStep r) (s3.took.post 0x7801 (0x7C0 + pll) 1 1)
    else s)

/-- FPLL_REF_LOST: a land or lane reference without an edge for 1 µs. -/
def execFpllRefLost (pll : Nat) (s : State) : Result :=
  .next (
    if pll < 16 ∧ s.isSetAt FAB_PLL_CTRL_EN pll ∧ s.rdAt FAB_PLL_CTRL_MODE pll = 0 ∧
        s.rdAt FAB_PLL_CTRL_REF pll ≠ 0 ∧ s.isSetAt FAB_PLL_STATUS_LOCK pll then
      (((s.wrAt FAB_PLL_STATUS_LOCK pll 0).wrAt FAB_PLL_STATUS_HOLDOVER pll 1).addSatAt FAB_PLL_LOCK_LOSS_CNT pll 1).post
        0x7801 (0x7C0 + pll) 3 2
    else s)

/-- FPLL_REALIGN_DONE: aligned again, at the frequency of the grid's present parameters; the realignment counts as the
relock that clears FMAX_REFUSED (R260; DEDUCED, log 112). -/
def execFpllRealignDone (pll : Nat) (s : State) : Result :=
  let g := s.rdAt FAB_PLL_CTRL_GRID pll
  .next (
    if pll < 16 ∧ s.pllOnGrid g pll ∧ s.isSetAt FAB_PLL_STATUS_LOCK pll ∧ s.rdAt FAB_PLL_STATUS_ALIGNED pll = 0 ∧
        s.gridActive g ∧ s.rdAt FAB_PLL_STATUS_GRID_LOST pll = 0 then
      (((s.wrAt FAB_PLL_STATUS_ALIGNED pll 1).wrAt FAB_PLL_STATUS_FMAX_REFUSED pll 0).wrAt FAB_PLL_STATUS_F0_KHZ pll
        ((s.pllKhz pll 0).elim (s.rdAt FAB_PLL_STATUS_F0_KHZ pll) (satN 20))).post 0x7802 (0x7C0 + pll) 2 (g + 2 ^ 8)
    else s)

/-! ### Grids switched on and off (03 R78, R81; R251) -/

/-- A PLL's grid runs again: it realigns, or starts, unless an output would be too fast: then it stays as it is. -/
def State.pllGridBack (s : State) (p : Nat) : State :=
  match s.pllTooFast p with
  | some o =>
    ((s.wrAt FAB_PLL_STATUS_FMAX_REFUSED p 1).wr FAB_ERR_FMAX_REFUSED 1).post 0x7803 (0x7C0 + p) 3
      (o + satN 16 (((s.pllKhz p o).getD 0) / 1000) * 2 ^ 16)
  | none => (s.wrAt FAB_PLL_STATUS_GRID_LOST p 0).wrAt FAB_PLL_STATUS_ALIGNED p 0

/-- A PLL's grid stops: holdover at the last frequency. -/
def State.pllGridLost (s : State) (g p : Nat) : State :=
  (((s.wrAt FAB_PLL_STATUS_GRID_LOST p 1).wrAt FAB_PLL_STATUS_ALIGNED p 0).wr FAB_ERR_GRID_LOST 1).post 0x7802 (0x7C0 + p) 2
    g

/-- The pulse under way of an output that grid `g` drives ends: it returns to its idle level (03 R81). -/
def State.endPulse (g : Nat) (s : State) (n : Nat) : State :=
  if s.rdAt CLR_PULSE_UNIT n ≠ 3 ∧ s.rdAt CLR_PULSE_SOURCE n = g then
    s.setPulse n { s.pulse n with endsAt := min (s.pulse n).endsAt s.now }
  else s

/-- The tick in which a grid is enabled: it runs from the next one on (03 R81). -/
def State.startGrid (s : State) (g : Nat) : State :=
  { s with caller := { s.caller with gridStart := SMap.put s.caller.gridStart g s.now } }

/-- A host write of CLR_GRIDn_CTRL: parameters are ignored while EN is 1; EN from 0 to 1 checks them. -/
def State.gridCtrlWrite (s : State) (g v : Nat) : State :=
  if s.isSetAt CLR_GRID_CTRL_EN g then
    if bitOf v 31 = 1 then s
    else
      (s.pllsOn g).foldl (fun (x : State) p => x.pllGridLost g p)
        ((List.range 8).foldl (State.endPulse g) ((s.wrAt CLR_GRID_CTRL_EN g 0).wrAt CLR_GRID_STATUS_ACTIVE g 0))
  else
    let s1 := (s.wrAt CLR_GRID_CTRL_FIELDS g (bitOf v 16)).wrAt CLR_GRID_CTRL_LINES g (bitsOf v 13 0)
    if bitOf v 31 = 0 then s1
    else
      match s1.gridLimit g with
      | some k => (s1.wrAt CLR_GRID_STATUS_CFG_ERR g 1).post 0x1008 0x100 2 (g + k * 2 ^ 8)
      | none =>
        (s.pllsOn g).foldl (fun (x : State) p => x.pllGridBack p)
          ((((s1.startGrid g).wrAt CLR_GRID_CTRL_EN g 1).wrAt CLR_GRID_STATUS_ACTIVE g 1).wrAt CLR_GRID_STATUS_CFG_ERR g 0)

/-- GRID_ENABLE. -/
def execGridEnable (grid value : Nat) (s : State) : Result :=
  .next (if grid < 8 ∧ bitOf value 31 = 1 then s.gridCtrlWrite grid value else s)

/-- GRID_DISABLE. -/
def execGridDisable (grid value : Nat) (s : State) : Result :=
  .next (if grid < 8 ∧ bitOf value 31 = 0 then s.gridCtrlWrite grid value else s)

/-! ### Set-reset, throttling (R253, R254) -/

/-- The region's turn clock has a source. -/
def State.turnClock (s : State) (r : Nat) : Bool := (s.regionSource r (s.rdAt FAB_REGION_CTRL_TURN_CLK r)).isSome

/-- GSR_RELEASE: step 3 of R254, after 4 edges of the turn clock with every PLL locked. The clocks of a region that was
parked meanwhile stay gated (12 R338). -/
def execGsrRelease (region : Nat) (s : State) : Result :=
  .next (
    if region < 16 ∧ s.isSetAt FAB_REGION_GSR_HELD region ∧ s.isSetAt FAB_REGION_WAIT_CLK region ∧ s.turnClock region ∧
        !s.regionRetired region ∧ (s.rdMask CTX_STATUS_PARKED region || s.rdAt FAB_REGION_CLK_RUN region != 0) then
      (s.wrAt FAB_REGION_WAIT_CLK region 0).wrAt FAB_REGION_GSR_HELD region 0
    else s)

/-- A region's throttling starts or ends (R253). -/
def State.throttleRegion (s : State) (on : Bool) (r : Nat) : State :=
  if !s.isSetAt FAB_REGION_CTRL_THROTTLEABLE r || s.regionRetired r || s.isSetAt FAB_REGION_THROTTLED r == on then s
  else
    ((s.wrAt FAB_REGION_THROTTLED r (flag on)).wrMask FAB_STATUS_THROTTLED r on).post 0x7805 (0x7E0 + r) 2
      (r + 16 * flag on)

end Sys2Proof.Machine
end

