-- ==== Sys2Proof/Machine/ModeOps.lean ====
section
/-! DEFINITION. The operating mode as the blocks follow it (16 R436), and whether region clocks run (09, 12). -/

namespace Sys2Proof.Machine

/-- RUN, or RUN_DEGRADED while HLT_STATUS.DEGRADED is 1 (R436). -/
def State.runMode (s : State) : Nat := if s.isSet HLT_STATUS_DEGRADED then modeRunDegraded else modeRun

/-- RUN and RUN_DEGRADED follow HLT_STATUS.DEGRADED (R436). -/
def State.followDegraded (s : State) : State := if s.running then s.setMode s.runMode else s

/-- The region's clocks run: ungated, set-reset released, not parked, no set-reset cycle in progress (09 R254, R255;
12 R333). -/
def State.regionRuns (s : State) (r : Nat) : Bool :=
  s.rdAt FAB_REGION_CLK_RUN r != 0 && !s.isSetAt FAB_REGION_GSR_HELD r && !s.rdMask CTX_STATUS_PARKED r &&
    decide (SMap.read s.ctx.resetUntil 0 r ≤ s.now)

/-- Region clocks gated, or ungated where the region is neither parked nor before step 2 of the release (09 R254). -/
def State.gateRegion (s : State) (on : Bool) (r : Nat) : State :=
  s.wrAt FAB_REGION_CLK_RUN r
    (if on && !s.rdMask CTX_STATUS_PARKED r && !s.regionRetired r &&
        (!s.isSetAt FAB_REGION_GSR_HELD r || s.isSetAt FAB_REGION_WAIT_CLK r) then s.clocksSelected r
     else 0)

/-- Every region clock gated or ungated. -/
def State.gateAll (s : State) (on : Bool) : State := (List.range 16).foldl (fun (x : State) r => x.gateRegion on r) s

end Sys2Proof.Machine
end

