-- ==== Sys2Proof/Machine/Planes.lean ====
section
/-! DEFINITION. Frames and where they are kept: addresses (11 R296), checks (11 R297), planes and the context mirror
(12 R326, R327), golden copies (13 R374), the source of a repair (12 R329); and the cyclic checks of the spec. -/

namespace Sys2Proof.Machine

/-! ### Cyclic checks -/

/-- CRC-16/CCITT over bits 127 to 0 (DEDUCED, log 28: initial value and bit order as R297 states them). -/
def crc16of128 (v : Nat) : Nat := crc16Nat 0xFFFF 128 v

/-! ### Frame addresses -/

/-- Frames of a column type in FAB_COLMAP.TYPE's encoding (R296). -/
def framesOf (type : Nat) : Nat :=
  match type with
  | 0 => 256
  | 1 => 192
  | 2 => 128
  | _ => 96

/-- F(c) of R327: frames of the logical columns below `c`. -/
def framesBelow (c : Nat) : Nat := 22176 * (c / 96) + ((List.range (c % 96)).map fun j => framesOf (offsetType j)).sum

/-- Key of a frame in a map of frames. -/
def frameKey (context index : Nat) : Nat := context * 2 ^ 19 + index

/-- Linear index of frame `f` of logical column `c`. -/
def frameIndex (c f : Nat) : Nat := framesBelow c + f

/-- FAR after one frame (R296): context, column, frame. -/
def farNext (far : Nat) : Nat :=
  let k := far / 2 ^ 19
  let c := bitsOf far 18 8
  let f := bitsOf far 7 0
  if f + 1 < framesOf (columnType c) then far + 1 else k * 2 ^ 19 + (c + 1) % 2 ^ 11 * 2 ^ 8

/-- The check of a frame (R297). -/
def frameCheck (c f bits : Nat) : Nat := crc16Nat (crc16Nat 0xFFFF 24 (c * 2 ^ 8 + f)) 1728 bits

/-! ### Planes -/

/-- Frame `f` of logical column `c` in the plane of context `k`. -/
def State.planeFrame (s : State) (k c f : Nat) : PlaneFrame := SMap.read s.cfg.planes {} (frameKey k (frameIndex c f))

/-- A frame written into a plane. -/
def State.writePlane (s : State) (k index : Nat) (x : PlaneFrame) : State :=
  { s with cfg := { s.cfg with planes := SMap.store s.cfg.planes {} (frameKey k index) x } }

/-- Active context of a region (R326). -/
def State.active (s : State) (r : Nat) : Nat := bitsOf (s.rd CTX_ACTIVE) (2 * r + 1) (2 * r)

/-- The active context of a region set. -/
def State.setActive (s : State) (r k : Nat) : State :=
  s.wr CTX_ACTIVE (s.rd CTX_ACTIVE - s.active r * 4 ^ r + k % 4 * 4 ^ r)

/-- A region is parked or retired. -/
def State.parked (s : State) (r : Nat) : Bool := s.rdMask CTX_STATUS_PARKED r

/-- The pair of region `r` and context `k` is loaded; is locked (R312). -/
def State.loaded (s : State) (r k : Nat) : Bool := s.rdMask CFG_CTX_LOADED (4 * r + k)
def State.locked (s : State) (r k : Nat) : Bool := s.rdMask CFG_CTX_LOCKED (4 * r + k)

/-! ### The context mirror (R327) -/

/-- First word of a frame in the context mirror. -/
def mirrorAddr (k index : Nat) : Nat := 0x00A0_0000 * k + 25 * index

/-- A frame written into the mirror. -/
def State.writeMirror (s : State) (k index : Nat) (x : PlaneFrame) : State :=
  ((List.range 24).foldl (fun (y : State) w =>
    y.storePut (mirrorAddr k index + w) { data := x.bits / 2 ^ (72 * w) % 2 ^ 72 }) s).storePut (mirrorAddr k index + 24)
    { data := x.check % 2 ^ 16 }

/-- Words of a frame in the mirror. -/
def mirrorAddrs (k index : Nat) : List Nat := (List.range 25).map fun w => mirrorAddr k index + w

/-- A frame of the mirror; none where a word is poisoned, or is found so. -/
def State.mirrorFrame (s : State) (k index : Nat) (found : Found) : Option PlaneFrame :=
  let ws := (mirrorAddrs k index).map (s.viewWord found)
  if ws.any fun w => w.poison then none
  else
    some {
      bits := (List.range 24).foldl (fun x w => x + ((ws.getD w {}).data % 2 ^ 72) * 2 ^ (72 * w)) 0
      check := (ws.getD 24 {}).data % 2 ^ 16 }

/-! ### Golden copies (13 R355, R358, R374) -/

/-- Key of code word `w` of sector `n` of bank `b`. -/
def codeKey (b n w : Nat) : Nat := (1536 * b + n) * 4096 + w

/-- State of the sector that holds a code word (13 R360): 0 = CLEAN, 1 = WRITTEN, 2 = ERASE_SUSPENDED, 3 = ERASE_INCOMPLETE,
4 = PROGRAM_INCOMPLETE. -/
def State.wordSector (s : State) (key : Nat) : Nat := s.rdAt FLC_SECTOR_STATE (key / 4096)

/-- The code word is the maker's: its sector holds the firmware of a device as shipped. -/
def State.shippedWord (s : State) (key : Nat) : Bool := s.flash.shipped.contains (key / 4096)

/-- Data bits of a code word by key: an erased one reads as ones; none where it is undefined. -/
def State.codeWord (s : State) (key : Nat) : Option Nat :=
  if s.wordSector key = 2 ∨ s.wordSector key = 3 then none
  else
    match SMap.find s.flash.words key with
    | none => some (if s.shippedWord key then Config.factoryWord key % 2 ^ 144 else 2 ^ 144 - 1)
    | some x => if x.undefined then none else some x.bits

/-- The code word was written, by the host, the device or the maker, or can read as such. -/
def State.codeWritten (s : State) (key : Nat) : Bool :=
  (SMap.find s.flash.words key).isSome || s.shippedWord key || (s.codeWord key).isNone

/-- What a command's read of a code word finds. -/
def codeFound (found : Found) (key : Nat) : FlashRead :=
  match found.codes.find? fun (e : Nat × FlashRead) => e.1 == key with
  | some e => e.2
  | none => .good

/-- The read delivers the code word poisoned (13 R357); an erased one reads without an error (13 R356). -/
def State.codePoisoned (s : State) (found : Found) (key : Nat) : Bool := s.codeWritten key && codeFound found key == .bad

/-- Data bits of a code word as a read delivers them: none where it is poisoned. An undefined one can pass its check (13 R360): free
bits. -/
def State.viewCode (s : State) (found : Found) (key : Nat) : Option Nat :=
  if s.codePoisoned found key then none else some ((s.codeWord key).getD (s.freeK key 144))

/-- Data bits of a code word for what is never taken from an unsettled sector (13 R362). -/
def State.settledWord (s : State) (found : Found) (key : Nat) : Option Nat :=
  if 1 < s.wordSector key ∨ s.codePoisoned found key then none else s.codeWord key

/-- A bank programs or erases. -/
def State.flashRuns (s : State) (b : Nat) : Bool := s.isSetAt FLC_BANK_BUSY b

/-- Key of code word `n` of a bank's golden range of context `k`. -/
def goldenPlace (k b n : Nat) : Nat := codeKey b (1008 + 132 * k) 0 + n

/-- Key of code word `j` of the golden image of context `k`. -/
def goldenKey (k j : Nat) : Nat := goldenPlace k (j % 8) (j / 8)

/-- Code words of the frame of linear index `i` in the golden image, its check word last. -/
def goldenKeys (k i : Nat) : List Nat := ((List.range 12).map fun m => goldenKey k (12 * i + m)) ++ [goldenKey k (4257792 + i / 9)]

/-- The frame of linear index `i` in the golden image; none where a code word is poisoned or its sector unsettled. -/
def State.goldenFrame (s : State) (found : Found) (k i : Nat) : Option PlaneFrame :=
  let ws := (List.range 12).map fun m => s.settledWord found (goldenKey k (12 * i + m))
  match s.settledWord found (goldenKey k (4257792 + i / 9)) with
  | none => none
  | some c =>
    if ws.any fun w => w.isNone then none
    else
      some {
        bits := (List.range 12).foldl (fun x m => x + ((ws.getD m none).getD 0 % 2 ^ 144) * 2 ^ (144 * m)) 0
        check := c / 2 ^ (16 * (i % 9)) % 2 ^ 16 }

/-- The golden copy of a pair is valid (R328). -/
def State.goldenValid (s : State) (r k : Nat) : Bool := s.rdMask CTX_GOLDEN_VALID (4 * r + k)

/-- A frame of a loaded pair that no load has written is zero with the check that matches (DEDUCED, log 105). -/
def shownFrame (c f : Nat) (x : PlaneFrame) : PlaneFrame := if x = {} then { bits := 0, check := frameCheck c f 0 } else x

/-- Column, within its region, and frame number of the `o`-th frame from column `j` on. -/
def framePlace (fuel j o : Nat) : Nat × Nat :=
  match fuel with
  | 0 => (j, o)
  | n + 1 => if o < framesOf (offsetType j) then (j, o) else framePlace n (j + 1) (o - framesOf (offsetType j))

/-- A frame with a matching check. -/
def goodFrame (c f : Nat) (x : PlaneFrame) : Bool := x.check == frameCheck c f x.bits

/-- A frame as the mirror holds it, where it is good. -/
def State.mirrorSource (s : State) (k c f : Nat) (found : Found) : Option PlaneFrame :=
  ((s.mirrorFrame k (frameIndex c f) found).map (shownFrame c f)).filter (goodFrame c f)

/-- The golden copy of a pair can be read frame by frame: it is valid, and no bank programs or erases (13 R370, R376). -/
def State.goldenServes (s : State) (r k : Nat) : Bool := s.goldenValid r k && !(List.range 8).any s.flashRuns

/-- What a frame is rewritten from (R329): the mirror, else the valid golden copy; none where neither serves. -/
def State.repairSource (s : State) (k c f : Nat) (found : Found) : Option PlaneFrame :=
  match s.mirrorSource k c f found with
  | some x => some x
  | none => if s.goldenServes (c / 96) k then (s.goldenFrame found k (frameIndex c f)).filter (goodFrame c f) else none

/-! ### Bits of the active context (11 R299) -/

/-- Bits `hi` to `lo` of the frame group that starts at frame `f` of logical column `c`, in the region's active context. -/
def State.groupBits (s : State) (c f hi lo : Nat) : Nat :=
  bitsOf (s.planeFrame (s.active (c / 96)) c (f + lo / 1728)).bits (hi % 1728) (lo % 1728)

/-- Logical columns of one type in region `r`, ascending. -/
def columnsOf (r type : Nat) : List Nat :=
  ((List.range 96).filter fun j => offsetType j == type).map fun j => 96 * r + j

/-! ### Express segments (09 R242 to R244) -/

/-- The segment that drive tap `t` of a site at cluster row `row` of logical column `c` reaches (R243). -/
def segmentOf (c row t : Nat) : Nat :=
  if t < 64 then row * 2 ^ 13 + t / 2 * 2 ^ 8 + c / 16
  else 2 ^ 19 + c * 2 ^ 8 + (t - 64) / 2 * 2 ^ 3 + row / 16

/-- Tap sites of a column: cluster row, first frame of the group, first group bit of the taps. -/
def tapSites (c : Nat) : List (Nat × Nat × Nat) :=
  match columnType c with
  | 0 => (List.range 64).map fun k => (k, 4 * k, 4864)
  | 1 => (List.range 16).map fun k => (4 * k, 160 + 2 * k, 0)
  | 2 => (List.range 16).map fun k => (4 * k, 8 * k, 2048)
  | _ => []

/-- Position of a drive tap along its segment (R243): twice the offset of its site from the lower end, and which of the track's two taps
it is. Row `row` counts clusters; in a memory or mix column every fourth one has a site. -/
def tapPosition (c row t : Nat) : Nat :=
  2 * (if t < 64 then c % 16 else if columnType c = 0 then row % 16 else row % 16 / 4) + t % 2

/-- The drive tap's EN in the region's active context. -/
def State.tapEnabled (s : State) (c row t : Nat) : Bool :=
  match (tapSites c).find? fun p => p.1 == row with
  | some p => s.groupBits c p.2.1 (p.2.2 + 16 * t + 8) (p.2.2 + 16 * t + 8) == 1
  | none => false

/-- Sites and taps that reach the segment of drive tap `t`: column, row, tap. -/
def segmentTaps (c row t : Nat) : List (Nat × Nat × Nat) :=
  if t < 64 then (List.range 32).map fun n => (c / 16 * 16 + n / 2, row, t / 2 * 2 + n % 2)
  else (List.range 32).map fun n => (c, row / 16 * 16 + n / 2, t / 2 * 2 + n % 2)

/-- Positions of the other drive taps that drive the segment of drive tap `t`. -/
def State.otherDrivers (s : State) (c row t : Nat) : List Nat :=
  ((segmentTaps c row t).filter fun x => x != (c, row, t) && s.tapEnabled x.1 x.2.1 x.2.2).map fun x => tapPosition x.1 x.2.1 x.2.2

/-- EXPRESS_CONFLICT (R244): an upset enabled drive tap `tap` of the site at cluster row `row` of a logical column, and its segment has
another driver; the lowest position drives. -/
def execExpressConflict (column row tap : Nat) (s : State) : Result :=
  .next (
    match s.otherDrivers column row tap with
    | [] => s
    | p :: rest =>
      let x := segmentOf column row tap
      let position := rest.foldl min (min p (tapPosition column row tap))
      ((((s.wr FAB_ERR_XCONF 1).wr FAB_XCONF_LAST_SEGMENT x).wr FAB_XCONF_LAST_POS position).incSat FAB_XCONF_CNT).post 0x7804
        (0x7E0 + column / 96) 3 (x % 2 ^ 20 + position % 2 ^ 5 * 2 ^ 20))

end Sys2Proof.Machine
end

