-- ==== Sys2Proof/Machine/Hard.lean ====
section
/-! DEFINITION. The hard blocks of the fabric (10): tile memories, mix slices, pack FIFOs, delivery ports. The signals that
user logic gives them are operands of the commands. -/

namespace Sys2Proof.Machine

open Sys2Proof

/-! ### Tile memories (R261 to R267) -/

/-- A row of a tile memory; an undefined one becomes defined by a free value (R267). -/
def State.tileRow (s : State) (r m row : Nat) : Nat × State :=
  let k := (240 * r + m) * 1024 + row
  match SMap.find s.hard.rows k with
  | some v => (v, s)
  | none => (s.free 72, { s.took with hard := { s.hard with rows := SMap.put s.hard.rows k (s.free 72) } })

/-- A row written. -/
def State.setTileRow (s : State) (r m row v : Nat) : State :=
  { s with hard := { s.hard with rows := SMap.put s.hard.rows ((240 * r + m) * 1024 + row) (v % 2 ^ 72) } }

/-- A port of a tile memory. -/
def State.tilePort (s : State) (r m : Nat) (b : Bool) : TilePort :=
  SMap.read s.hard.tilePorts {} (2 * (240 * r + m) + flag b)
def State.setTilePort (s : State) (r m : Nat) (b : Bool) (p : TilePort) : State :=
  { s with hard := { s.hard with tilePorts := SMap.store s.hard.tilePorts {} (2 * (240 * r + m) + flag b) p } }

/-- Configuration of a tile memory in the active context (11 R299). -/
def State.tileBits (s : State) (r m hi lo : Nat) : Nat :=
  s.groupBits ((columnsOf r 1).getD (m / 20) 0) (8 * (m % 20)) hi lo

/-- Lanes per row of an aspect ratio. -/
def aspectLanes (aspect : Nat) : Nat :=
  match aspect with
  | 0 => 1
  | 1 => 2
  | 2 => 3
  | 3 => 4
  | 4 => 6
  | _ => 8

/-- `n` bits of `v` at bit `k` replaced. -/
def putBits (v k n x : Nat) : Nat := v - v / 2 ^ k % 2 ^ n * 2 ^ k + x % 2 ^ n * 2 ^ k

/-- The access writes. -/
def tileWrites (aspect : Nat) (ecc : Bool) (x : TileAccess) : Bool :=
  x.en && (if aspect = 0 ∧ !ecc then x.we % 256 != 0 else x.we % 2 == 1)

/-- A row after a write. -/
def tileMerge (aspect : Nat) (ecc : Bool) (x : TileAccess) (old : Nat) : Nat :=
  if ecc then x.din % 2 ^ 64 + Config.tileCheck (x.din % 2 ^ 64) % 2 ^ 8 * 2 ^ 64
  else if aspect = 0 then
    (List.range 8).foldl (fun v i => if bitOf x.we i = 1 then putBits v (9 * i) 9 (x.din / 2 ^ (9 * i)) else v) old
  else
    let n := 72 / aspectLanes aspect
    putBits old (n * (x.addr % aspectLanes aspect)) n x.din

/-- The outputs of an access, or an edge without one, pass the optional output register (R263). -/
def TilePort.clock (p : TilePort) (outReg : Bool) (new : Option TileOut) : TilePort :=
  if outReg then { p with out := p.next.getD p.out, next := new } else { p with out := new.getD p.out }

/-- The values the port's next access starts from. -/
def TilePort.latest (p : TilePort) : TileOut := p.next.getD p.out

/-- An access to a row cancels the write-backs that wait for it (R266). -/
def State.cancelWriteback (s : State) (r m row : Nat) : State :=
  [false, true].foldl (fun (x : State) b =>
    let p := x.tilePort r m b
    if p.writeback = some row then x.setTilePort r m b { p with writeback := none } else x) s

/-- A correction counted (R266, R286). -/
def State.tileCorrected (s : State) (r m : Nat) : State :=
  ((s.addSatAt HB_TM_CORR_CNT r 1).wr HB_ERR_TM_CORR 1).postLimited 0x7901 r (0x7A0 + r) 0 fun k =>
    m + satN 16 k * 2 ^ 16

/-- An uncorrectable read counted and reported. -/
def State.tileUncorrectable (s : State) (r m row : Nat) : State :=
  (((((s.addSatAt HB_TM_UNCORR_CNT r 1).wr HB_ERR_TM_UNCORR 1).wr HB_LAST_UNCORR_REGION r).wr HB_LAST_UNCORR_TILE m).wr
    HB_LAST_UNCORR_ROW row).post 0x7902 (0x7A0 + r) 3 (m + row * 2 ^ 8)

/-- What a read delivers: its outputs, and whether a write-back follows. -/
def State.tileSense (s : State) (r m aspect : Nat) (ecc : Bool) (addr : Nat) (found : SpadRead) : TileOut × Bool × State :=
  let n := aspectLanes aspect
  let row := addr / n
  let q := s.tileRow r m row
  if !ecc then
    ({ dout := q.1 / 2 ^ (72 / n * (addr % n)) % 2 ^ (72 / n) }, false, q.2)
  else
    match found with
    | .good => ({ dout := q.1 % 2 ^ 64 }, false, q.2)
    | .single => ({ dout := q.1 % 2 ^ 64, corr := true }, s.tileBits r m 4 4 == 1, q.2.tileCorrected r m)
    | .uncorrectable =>
      ({ dout := q.2.free 64, uncorr := true }, false, q.2.took.tileUncorrectable r m row)

/-- One port at its clock edge: `lost` = a write that is dropped, `busy` = the port lost a collision, `blind` = a read
that returns undefined data (R264). -/
def State.tileAccess (s : State) (r m : Nat) (b : Bool) (x : TileAccess) (found : SpadRead) (lost busy blind : Bool) :
    State :=
  let aspect := s.tileBits r m 2 0
  let ecc := s.tileBits r m 3 3 == 1
  let outReg := (if b then s.tileBits r m 6 6 else s.tileBits r m 5 5) == 1
  let p := s.tilePort r m b
  if !x.en then s.setTilePort r m b (p.clock outReg none)
  else
    let row := x.addr / aspectLanes aspect
    let s1 := if busy then s.addSatAt HB_TM_BUSY_CNT r 1 else s
    let inRange := decide (x.addr < 1024 * aspectLanes aspect)
    if tileWrites aspect ecc x then
      let s2 :=
        if inRange && !lost then
          let q := s1.tileRow r m row
          (q.2.setTileRow r m row (tileMerge aspect ecc x q.1)).cancelWriteback r m row
        else s1
      s2.setTilePort r m b ((s2.tilePort r m b).clock outReg (some { p.latest with busy := busy }))
    else if !inRange then s1.setTilePort r m b (p.clock outReg (some {}))
    else if blind then
      let s2 := s1.took.cancelWriteback r m row
      s2.setTilePort r m b ((s2.tilePort r m b).clock outReg
        (some { dout := s1.free (72 / aspectLanes aspect), busy := busy }))
    else
      let q := (s1.cancelWriteback r m row).tileSense r m aspect ecc x.addr found
      let s2 := q.2.2
      let p2 := s2.tilePort r m b
      let p3 := if q.2.1 then { p2 with writeback := some row } else p2
      s2.setTilePort r m b (p3.clock outReg (some { q.1 with busy := busy }))

/-- TILE_MEMORY_ACCESS: an edge of both ports' clocks. Ports with one clock and inversion are in one cycle and B is the
later port (R265); an address beyond the range reaches no row and collides with none. -/
def execTileMemoryAccess (region tile : Nat) (a b : TileAccess) (sameCycle bLater : Bool) (foundA foundB : SpadRead)
    (s : State) : Result :=
  .next (
    if region < 16 ∧ tile < 240 ∧ s.regionRuns region then
      let aspect := s.tileBits region tile 2 0
      let ecc := s.tileBits region tile 3 3 == 1
      let oneClock := s.tileBits region tile 9 7 == s.tileBits region tile 12 10
      let meet := (oneClock || sameCycle) && a.en && b.en && a.addr == b.addr &&
        decide (a.addr < 1024 * aspectLanes aspect)
      let later := oneClock || bLater
      let wa := tileWrites aspect ecc a
      let wb := tileWrites aspect ecc b
      if meet && wa && wb then
        (s.tileAccess region tile false a foundA false false false).tileAccess region tile true b foundB true true false
      else if meet && (wa || wb) then
        (s.tileAccess region tile false a foundA false (!later) wb).tileAccess region tile true b foundB false later wa
      else if later then
        (s.tileAccess region tile false a foundA false false false).tileAccess region tile true b foundB false false false
      else
        (s.tileAccess region tile true b foundB false false false).tileAccess region tile false a foundA false false false
    else s)

/-- TILE_ECC_WRITEBACK: the corrected row, which the row's value already is, is written back. -/
def execTileEccWriteback (region tile : Nat) (portB : Bool) (s : State) : Result :=
  let p := s.tilePort region tile portB
  .next (if s.regionRuns region && p.writeback.isSome then s.setTilePort region tile portB { p with writeback := none } else s)

/-! ### Mix slices (R268 to R273) -/

/-- The low `w` bits of a signed sum. -/
def wrap (w : Nat) (x : Int) : Nat := ofInt w x

/-- The pre-adder of MAC24x36: its 24-bit result, saturated, and whether it was. -/
def preAdd (pre x : Nat) : Nat × Bool :=
  let a := toSigned 24 x
  let d := toSigned 24 (x / 2 ^ 24)
  let v :=
    match pre % 4 with
    | 0 => a
    | 1 => a + d
    | 2 => a - d
    | _ => d
  let c := clampInt (-8388608) 8388607 v
  (ofInt 24 c, c != v)

/-- The product P by mode (R269): 60 bits, or two halves of 30. -/
def mixProduct (mode a2 x b : Nat) : Nat :=
  match mode with
  | 0 => ofInt 60 (toSigned 24 a2 * toSigned 36 b)
  | 1 =>
    ofInt 30 (toSigned 12 x * toSigned 18 b) + ofInt 30 (toSigned 12 (x / 2 ^ 36 % 2 ^ 36) * toSigned 18 (b / 2 ^ 18)) *
      2 ^ 30
  | _ => ofInt 60 (toSigned 24 x + toSigned 24 (x / 2 ^ 24) + toSigned 24 (x / 2 ^ 48))

/-- P + Z in the accumulator (R269). -/
def mixSum (mode p z : Nat) : Nat :=
  if mode = 1 then
    ofInt 44 (toSigned 30 p + toSigned 44 z) + ofInt 44 (toSigned 30 (p / 2 ^ 30) + toSigned 44 (z / 2 ^ 44)) * 2 ^ 44
  else ofInt 88 (toSigned 60 p + toSigned 88 z)

/-- The rounded value (R272). -/
def mixRound (rnd s : Nat) (v : Int) : Int :=
  let d : Int := (2 ^ s : Nat)
  let q := v / d
  match rnd with
  | 0 => q
  | 1 => if s = 0 then v else (v + (2 ^ (s - 1) : Nat)) / d
  | _ =>
    let r := 2 * (v - q * d)
    if r < d then q else if d < r then q + 1 else if q % 2 = 0 then q else q + 1

/-- Saturated to `w` bits, and whether it was. -/
def mixSaturate (w : Nat) (signed : Bool) (v : Int) : Nat × Bool :=
  let lo : Int := if signed then -((2 ^ (w - 1) : Nat) : Int) else 0
  let hi : Int := if signed then ((2 ^ (w - 1) : Nat) : Int) - 1 else ((2 ^ w : Nat) : Int) - 1
  let c := clampInt lo hi v
  (ofInt w c, c != v)

/-- OUT and its saturation (R272). -/
def mixOut (mode rnd shift : Nat) (narrow signed : Bool) (acc : Nat) : Nat × Bool :=
  if mode = 1 then
    let l := mixSaturate 12 signed (mixRound rnd shift (toSigned 44 acc))
    let h := mixSaturate 12 signed (mixRound rnd shift (toSigned 44 (acc / 2 ^ 44)))
    (l.1 + h.1 * 2 ^ 12, l.2 || h.2)
  else mixSaturate (if narrow then 12 else 24) signed (mixRound rnd shift (toSigned 88 acc))

/-- A slice of a mix column. -/
def State.mixSlice (s : State) (c k : Nat) : MixSlice := SMap.read s.hard.mix {} (32 * c + k)

/-- CASC_IN of slice `k` as it stood before this edge (R271): slices that share an edge share its tick, and no region
clock has two edges in one. -/
def State.cascIn (s : State) (c k : Nat) : Nat :=
  if k = 0 then 0
  else
    let below := s.mixSlice c (k - 1)
    if below.edgeAt = some s.now then below.accWas else below.acc

/-- The addend Z (R268). -/
def mixAddend (mode zsel acc casc : Nat) : Nat :=
  match zsel % 4 with
  | 0 => 0
  | 1 => acc
  | 2 => casc
  | _ =>
    if mode = 1 then
      (acc + casc) % 2 ^ 44 + (acc / 2 ^ 44 + casc / 2 ^ 44) % 2 ^ 44 * 2 ^ 44
    else (acc + casc) % 2 ^ 88

/-- All five stages at one edge (R270). -/
def MixSlice.clock (m : MixSlice) (mode rnd shift : Nat) (narrow signed : Bool) (casc : Nat) (i : MixInput) : MixSlice :=
  let pre := preAdd m.pre m.x
  let o := mixOut mode rnd shift narrow signed m.acc
  { x := i.x % 2 ^ 72
    b := i.b % 2 ^ 36
    pre := i.pre % 4
    zsel := i.zsel % 4
    a2 := if mode = 0 then pre.1 else m.x % 2 ^ 12 + m.x / 2 ^ 36 % 2 ^ 12 * 2 ^ 12
    x2 := m.x
    b2 := m.b
    z2 := m.zsel
    sat2 := mode == 0 && pre.2
    p := mixProduct mode m.a2 m.x2 m.b2
    z3 := m.z2
    sat3 := m.sat2
    acc := mixSum mode m.p (mixAddend mode m.z3 m.acc casc)
    sat4 := m.sat3
    out := o.1
    sat := o.2 || m.sat4
    edgeAt := m.edgeAt
    accWas := m.accWas }

/-- MIX_SLICE_EDGE: with CE 0 every stage holds. -/
def execMixSliceEdge (column slice : Nat) (input : MixInput) (s : State) : Result :=
  .next (
    if column < 1536 ∧ columnType column = 2 ∧ slice < 32 ∧ s.regionRuns (column / 96) then
      let m := s.mixSlice column slice
      let bits (hi lo : Nat) : Nat := s.groupBits column (4 * slice) hi lo
      let n := if input.ce then
          m.clock (bits 1 0) (bits 3 2) (bits 9 4) (bits 10 10 == 1) (bits 11 11 == 1) (s.cascIn column slice) input
        else m
      let stamped : MixSlice := { n with edgeAt := some s.now, accWas := m.acc }
      { s with hard := { s.hard with mix := SMap.store s.hard.mix {} (32 * column + slice) stamped } }
    else s)

/-- Region set-reset on the hard blocks (R267, R273): output registers and pipelines load 0; contents stay. -/
def State.resetHard (s : State) (r : Nat) : State :=
  { s with hard := { s.hard with
      tilePorts := s.hard.tilePorts.filter fun (e : Nat × TilePort) => e.1 / 480 != r
      mix := s.hard.mix.filter fun (e : Nat × MixSlice) => e.1 / 32 / 96 != r } }

/-! ### Pack FIFOs (R275 to R280) -/

/-- A pack FIFO. -/
def State.pack (s : State) (p : Nat) : PackFifo := SMap.read s.hard.packs {} p

/-- A pack FIFO replaced; FULL, OPEN and LEVEL show it. -/
def State.setPack (s : State) (p : Nat) (x : PackFifo) : State :=
  let n := x.words.length + (if x.part.isEmpty then 0 else 1)
  (((({ s with hard := { s.hard with packs := SMap.store s.hard.packs {} p x } }).wrAt PF_STATUS_LEVEL p n).wrAt
    PF_STATUS_FULL p (flag (decide (512 ≤ n)))).wrAt PF_STATUS_OPEN p (flag x.isOpen))

/-- Bytes of a word: 9 dense, 8 in lane mode (R276). -/
def State.packWide (s : State) (p : Nat) : Nat := if s.isSetAt PF_CFG_MODE p then 8 else 9

/-- The word of the bytes `bs` of a packet (R276): dense, or lanes of the V9x8 view with the tag bit on the packet's
first byte. -/
def packWord (lane first : Bool) (bs : List Nat) : Nat :=
  if lane then
    ((List.range bs.length).map fun i =>
      (bs.getD i 0 % 256 + (if first && i == 0 then 256 else 0)) * 2 ^ (9 * i)).sum
  else ofBytes bs

/-- The length check of a closed packet (R277). -/
def State.packLength (s : State) (p words : Nat) : Nat :=
  let f := s.rdAt PF_CFG_TARGET p
  if s.rdAt PF_CFG_BIND p ≠ 1 then 0
  else if s.flowKind f = 3 ∨ s.flowKind f = 6 then (if words = s.flowSegWords f then 0 else 2)
  else if s.flowSegWords f < words then 2
  else 0

/-- The open packet closes: its last word is complete, its notice waits. -/
def State.packClose (s : State) (p reason : Nat) (x : PackFifo) : PackFifo :=
  let w := packWord (s.isSetAt PF_CFG_MODE p) (x.filled == 0) x.part
  let n := x.filled + (if x.part.isEmpty then 0 else 1)
  let done : PackClosed := {
    bytes := x.bytes
    words := n
    valid := if n = 0 then 0 else if x.part.isEmpty then s.packWide p else x.part.length
    reason := max (max x.reason reason) (s.packLength p n)
    offset := ofBytes x.header % 2 ^ 26 }
  { x with
    words := if x.part.isEmpty then x.words else x.words ++ [w]
    isOpen := false
    header := []
    part := []
    bytes := 0
    filled := 0
    reason := 0
    closed := x.closed ++ [done] }

/-- One byte enters; the packet's 65,535th word closes it (R277). `stop` is set when it does. -/
def State.packByte (s : State) (p : Nat) (q : PackFifo × Bool) (b : Nat) : PackFifo × Bool :=
  if q.2 then q
  else
    let x := q.1
    if s.rdAt PF_CFG_BIND p = 3 ∧ x.header.length < 4 then ({ x with isOpen := true, header := x.header ++ [b] }, false)
    else
      let part := x.part ++ [b]
      let y : PackFifo := { x with isOpen := true, part := part, bytes := x.bytes + 1 }
      if part.length < s.packWide p then (y, false)
      else
        let z : PackFifo := { y with
          words := y.words ++ [packWord (s.isSetAt PF_CFG_MODE p) (y.filled == 0) part]
          part := []
          filled := y.filled + 1 }
        if s.rdAt PF_CFG_BIND p ≠ 2 ∧ 65535 ≤ z.filled then (s.packClose p 2 z, true) else (z, false)

/-- PACK_FIFO_WRITE. -/
def execPackFifoWrite (port data : Nat) (wend : Bool) (wbytes : Nat) (s : State) : Result :=
  .next (
    if port < 256 ∧ s.rdAt PF_CFG_BIND port ≠ 0 ∧ s.regionRuns (portRegion port) then
      let x := s.pack port
      let ends := wend && s.rdAt PF_CFG_BIND port != 2
      if s.isSetAt PF_STATUS_FULL port then
        let y : PackFifo := { x with isOpen := true, reason := max x.reason 1 }
        (s.wrAt PF_STATUS_OVERRUN port 1).setPack port (if ends then s.packClose port 1 y else y)
      else
        let width := s.rdAt PF_CFG_WIDTH port + 1
        let n := if ends && decide (0 < wbytes % 4) then min (wbytes % 4) width else width
        let q := (bytesOf n data).foldl (s.packByte port) (x, false)
        s.setPack port (if ends && !q.2 then s.packClose port 0 q.1 else q.1)
    else s)

/-- Slot offset of the packet at the front (R280). -/
def PackFifo.frontOffset (x : PackFifo) : Nat :=
  match x.closed with
  | c :: _ => c.offset
  | [] => ofBytes x.header % 2 ^ 26

/-- The packet at the front has a word for the reader. -/
def PackFifo.frontHas (x : PackFifo) : Bool :=
  !x.words.isEmpty &&
    (match x.closed with
     | c :: _ => decide (x.taken < c.words)
     | [] => true)

/-- The reader finds room for the next word of a flow's packet (R278): a slot is at hand, or one can be taken. -/
def State.readerRoom (s : State) (g : Nat) (x : PackFifo) : Bool :=
  if x.taken / 8 < x.slots.length then true
  else
    match s.contract g with
    | some c =>
      if c.state = .admitted then decide (s.heldTickets g < c.quota) && decide (s.heldSlots g < c.slots)
      else decide (0 < s.beFree (s.flowFar g))
    | none => decide (0 < s.beFree (s.flowFar g))

/-- The flow of a pack FIFO takes its packets: an enabled egress flow that is not being disabled (R277; 07 R180). -/
def State.packListens (s : State) (g : Nat) : Bool := s.flowEn g && s.flowEgress g && (s.flowRun g).disabling.isEmpty

/-- The reader takes word `w` of a flow's packet into its slots: `y` is the FIFO without it. A reader that stops at a quota or
reservation counts as a stalled producer (06 R148). Words of a packet to be dropped are discarded (07 R180). -/
def State.takePacketWord (s : State) (port g w : Nat) (y : PackFifo) : State :=
  let k := y.taken - 1
  if y.drop then s.setPack port y
  else if s.readerRoom g { y with taken := k } then
    if k / 8 < y.slots.length then (s.storePut (ticketAddr y.slots k) { data := w }).setPack port y
    else
      let q := s.takeSlots (s.flowFar g) 1
      let slots := y.slots ++ q.1
      (q.2.storePut (ticketAddr slots k) { data := w }).setPack port { y with slots := slots }
  else
    match s.contract g with
    | some c => if c.state = .admitted then s.stall g else s
    | none => s

/-- The raw lane that a pack FIFO feeds sends now: it is UP in raw PCS, and names the FIFO (08 R213). -/
def State.rawSends (s : State) (port lane : Nat) : Bool :=
  s.lane lane == 2 && s.rdAt LNE_LN_CTRL_PROTO lane == 4 && s.rdAt LNE_LN_RAW_PF lane == port

/-- Bits of a word that a raw lane sends by its MODE: a 66-bit block, eight 9-bit characters, 72 line bits (08 R213). -/
def rawBits (mode w : Nat) : Nat := if mode = 0 then w % 2 ^ 66 else w % 2 ^ 72

/-- PACK_FIFO_READER_TAKE: the word goes into the flow's slots, to the raw lane, or to the bound buffer. -/
def execPackFifoReaderTake (port : Nat) (s : State) : Result :=
  .next (
    let x := s.pack port
    if !x.frontHas then s
    else
      let w := x.words.headD 0
      let t := s.rdAt PF_CFG_TARGET port
      let y : PackFifo := { x with words := x.words.tail, taken := x.taken + 1 }
      match s.rdAt PF_CFG_BIND port with
      | 1 =>
        s.takePacketWord port t w
          (if x.taken = 0 then { y with frontAt := s.now, drop := !s.packListens t, slots := [] } else y)
      | 2 =>
        if s.rawSends port t then
          let s1 := s.setPack port { y with taken := 0 }
          { s1 with hard := { s1.hard with rawSent := some (t, rawBits (s.rdAt LNE_LN_CTRL_MODE t) w) } }
        else s
      | 3 =>
        let a := s.bufFirst t + 8 * x.frontOffset + x.taken
        if s.bufValid t && decide (a < s.bufEnd t) then (s.storePut a { data := w }).setPack port y
        else (s.addrRefuse a (refusedFor a)).setPack port y
      | _ => s.setPack port y)

/-- A ticket for a packet whose words lie in `slots` (R277): created at the notice, damaged packets with the error flag. -/
def State.packTicket (s : State) (g : Nat) (slots : List Nat) (c : PackClosed) : TicketOutcome × State :=
  let t : Ticket := {
    flow := g
    contracted := false
    created := s.now
    deadline := s.now
    words := c.words
    slots := slots
    far := s.flowFar g
    readyAt := s.tai
    validBytes := c.valid
    errored := c.reason != 0 }
  s.createTicket t

/-- The counts of a notice (R277, R287). -/
def State.packCount (s : State) (p : Nat) (c : PackClosed) : State :=
  let s1 := s.addSatAt PF_PACKET_CNT p 1
  if c.reason = 0 then s1
  else
    ((s1.addSatAt PF_DAMAGED_CNT p 1).wr HB_ERR_PF_DAMAGED 1).postLimited 0x7903 p (0x7A0 + portRegion p) 2 fun k =>
      p + c.reason * 2 ^ 8 + satN 16 k * 2 ^ 16

/-- PACK_FIFO_NOTICE: the notice makes the ticket of its packet; one that is dropped with its flow counts there (07 R180). -/
def execPackFifoNotice (port : Nat) (s : State) : Result :=
  .next (
    let x := s.pack port
    match x.closed with
    | [] => s
    | c :: rest =>
      if x.taken < c.words then s
      else
        let g := s.rdAt PF_CFG_TARGET port
        let s1 := s.setPack port { x with closed := rest, taken := 0, slots := [], drop := false }
        let dropped := x.drop || !s.flowEn g || !s.flowEgress g
        if s.rdAt PF_CFG_BIND port ≠ 1 ∨ c.words = 0 then s1.packCount port c
        else if dropped then (s1.flowStat g 3 1).packCount port c
        else
          let q := s1.packTicket g x.slots c
          match q.1 with
          | .stalled => s.stall g
          | _ => q.2.packCount port c)

/-! ### Delivery ports (R281 to R283) -/

/-- A delivery port. -/
def State.port (s : State) (p : Nat) : DeliveryPort := SMap.read s.hard.ports {} p

/-- A delivery port replaced; VALID, QUEUED and LEVEL show it. -/
def State.setPort (s : State) (p : Nat) (x : DeliveryPort) : State :=
  (((({ s with hard := { s.hard with ports := SMap.store s.hard.ports {} p x } }).wrAt DP_STATUS_LEVEL p x.words.length).wrAt
    DP_STATUS_VALID p (flag !x.words.isEmpty)).wrAt DP_STATUS_QUEUED p x.requests.length)

/-- A word placed; a POISON, LATE or ERR word is counted (R282). -/
def State.portPlace (s : State) (p : Nat) (w : DeliveryWord) : State :=
  let x := s.port p
  let s1 := s.setPort p { x with words := x.words ++ [w] }
  if w.poison || w.late || w.err then s1.addSatAt DP_FLAG_CNT p 1 else s1

/-- The ticket whose words go to port `p` next: the one under way, else by deadline (01 R22; DEDUCED, log 79). -/
def State.portTicket (s : State) (p : Nat) : Option (Nat × Ticket) :=
  (sortBy sendBefore (s.adm.tickets.filter fun (e : Nat × Ticket) => s.destPort e.2.flow == some p && e.2.closed)).head?

/-- The next word of a ticket placed (06 R147, R158). -/
def State.placeTicket (s : State) (p i : Nat) (t : Ticket) (found : Syndrome) : State :=
  let q := s.storeSense (ticketAddr t.slots t.handed) found
  let last := decide (t.words ≤ t.handed + 1)
  let late := decide (t.deadline < s.now)
  let w : DeliveryWord := {
    data := (s.storeWord (ticketAddr t.slots t.handed)).data
    valid := if last then t.validBytes else 0
    poison := q.1
    late := late
    err := last && t.errored }
  let s1 := q.2.portPlace p w
  let s2 := if q.1 then s1.flowStat t.flow 6 1 else s1
  let s3 := if late then s2.flowStat t.flow 7 1 else s2
  let t1 : Ticket := { t with handed := t.handed + 1 }
  let s4 := { s3 with adm := { s3.adm with tickets := SMap.put s3.adm.tickets i t1 } }
  if last then (s4.deliverTicket i).drainFlows else s4

/-- The next word of the buffer read at the head placed (R283): a word beyond the buffer arrives poisoned, with data that
the spec leaves open (05 R129). -/
def State.placeRead (s : State) (p : Nat) (q : BufferRead) (rest : List BufferRead) (found : Syndrome) : State :=
  let b := s.rdAt DP_CFG_TARGET p
  let a := s.bufFirst b + 8 * q.offset + q.placed
  let last := decide (q.words ≤ q.placed + 1)
  let fits := s.bufValid b && decide (a < s.bufEnd b)
  let r := if fits then s.storeSense a found else (true, (s.addrRefuse a (refusedFor a)).took)
  let w : DeliveryWord := {
    data := if fits then (s.storeWord a).data else s.free 72
    valid := if last then 9 else 0
    poison := r.1 }
  let x := r.2.port p
  let left := if last then rest else { q with placed := q.placed + 1 } :: rest
  (r.2.setPort p { x with requests := left }).portPlace p w

/-- DELIVERY_PORT_PLACE: one word, while the port has room. -/
def execDeliveryPortPlace (port ticket : Nat) (found : Syndrome) (s : State) : Result :=
  .next (
    if port < 256 ∧ (s.port port).words.length < 512 ∧ !s.regionRetired (portRegion port) then
      match s.rdAt DP_CFG_BIND port with
      | 1 =>
        match s.portTicket port with
        | some (i, t) => if i = ticket then s.placeTicket port i t found else s
        | none => s
      | 3 =>
        match (s.port port).requests with
        | q :: rest => s.placeRead port q rest found
        | [] => s
      | _ => s
    else s)

/-- DELIVERY_PORT_READ: the word passes when VALID and READY are both 1. -/
def execDeliveryPortRead (port : Nat) (s : State) : Result :=
  .next (
    if port < 256 ∧ s.regionRuns (portRegion port) then
      match (s.port port).words with
      | [] => s
      | w :: rest =>
        { (s.setPort port { s.port port with words := rest }).addSatAt DP_WORD_CNT port 1 with
          reply := { data := w.data, poison := w.poison } }
    else s)

/-- BUFFER_READ_REQUEST. -/
def execBufferReadRequest (port offset words : Nat) (s : State) : Result :=
  .next (
    let x := s.port port
    if port < 256 ∧ s.rdAt DP_CFG_BIND port = 3 ∧ s.regionRuns (portRegion port) ∧ x.requests.length < 8 ∧
        words % 2 ^ 16 ≠ 0 then
      s.setPort port { x with requests := x.requests ++ [{ offset := offset % 2 ^ 26, words := words % 2 ^ 16 }] }
    else s)

/-- The word that a raw lane delivers, by its MODE (08 R213): in MODE 0x0 the block with the block lock above it. -/
def State.rawWord (s : State) (lane word : Nat) : Nat :=
  if s.rdAt LNE_LN_CTRL_MODE lane = 0 then word % 2 ^ 66 + 2 ^ 66 * s.rdAt LNE_LN_STATUS_BLOCK_LOCK lane else word % 2 ^ 72

/-- The re-clock route whose input lane the promenade crossbar holds, and which is up (17 R464). -/
def State.reclockRoute (s : State) (lane : Nat) : Option (Nat × Nat) :=
  if s.lane lane = 5 then
    s.prom.routes.find? fun (e : Nat × Nat) => routeKind e.2 == 1 && routeIn e.2 == lane && s.isSetAt PRM_ROUTE_UP e.1
  else none

/-- RAW_PCS_RECEIVE (08 R213): a word of a raw lane that is UP goes to its delivery port, or is lost and counted. Of the input lane of a
re-clock route it is 72 bits of the stream, which leave unchanged on the output lane (17 R464). -/
def execRawPcsReceive (lane word : Nat) (s : State) : Result :=
  .next (
    if lane < 128 ∧ s.lane lane = 2 ∧ s.rdAt LNE_LN_CTRL_PROTO lane = 4 then
      let p := s.rdAt LNE_LN_RAW_DP lane
      let w := s.rawWord lane word
      if s.rdAt DP_CFG_BIND p = 2 ∧ s.rdAt DP_CFG_TARGET p = lane ∧ (s.port p).words.length < 512 ∧
          !s.regionRetired (portRegion p) then
        s.portPlace p { data := w }
      else
        { s.addSatAt LNE_LN_SYNC_ERR lane 1 with lanes := { (s.addSatAt LNE_LN_SYNC_ERR lane 1).lanes with
            rawLost := some (lane, w) } }
    else
      match s.reclockRoute lane with
      | some r => { s with prom := { s.prom with reclocked := some (routeOut r.2, word % 2 ^ 72) } }
      | none => s)

/-! ### Retirement, LOAD, reset, PROMENADE (R284) -/

/-- The ports of a retired region: the open packet closes DAMAGED 0x3, the delivery port's contents are discarded. -/
def State.retirePorts (s : State) (r : Nat) : State :=
  (List.range 16).foldl (fun (x : State) k =>
    let p := 16 * r + k
    let y := x.pack p
    (if y.isOpen then x.setPack p (x.packClose p 3 y) else x).setPort p {}) s

/-- Every pack FIFO and delivery port emptied, without a notice. -/
def State.emptyPorts (s : State) : State :=
  let s1 := (s.hard.packs.map fun (e : Nat × PackFifo) => e.1).foldl (fun (x : State) p => x.setPack p {}) s
  (s1.hard.ports.map fun (e : Nat × DeliveryPort) => e.1).foldl (fun (x : State) p => x.setPort p {}) s1

/-- VL2 is removed (R267, R284): contents of tile memories, pipelines and ports are lost. -/
def State.loseFabric (s : State) : State :=
  let s1 := s.emptyPorts
  { s1 with hard := { s1.hard with rows := [], tilePorts := [], mix := [] } }

end Sys2Proof.Machine
end

