-- ==== Sys2Proof/Machine/Contexts.lean ====
section
/-! DEFINITION. Contexts, turns, park, capture, readback (12), and the dance card actions that ask for them (04 R97). The
levels of boundary cells and of flip-flops come from user logic, which the model does not hold. -/

namespace Sys2Proof.Machine

/-! ### Clocks as the requests see them (R331, R335) -/

/-- A global net runs: its PLL's outputs run, or a lane of its quad is UP. The edges of a land are not in the model; where none
arrives, the rows of R335 and R340 say so. -/
def State.netRuns (s : State) (n : Nat) : Bool :=
  let x := s.rdAt FAB_GCLK_SRC n
  if 47 < n || x == 0xFF then false
  else if x < 0x40 then s.pllRuns (x / 4)
  else if x < 0x58 then true
  else if x < 0x60 ∨ 0x7F < x then false
  else (List.range 4).any fun k => s.lane (4 * (x - 0x60) + k) == 2

/-- The net of a region's turn clock runs. -/
def State.turnRuns (s : State) (r : Nat) : Bool := s.netRuns (s.regionNet r (s.rdAt FAB_REGION_CTRL_TURN_CLK r))

/-- Length of a turn clock cycle in store ticks, rounded up; a free value for a clock whose rate no register gives. -/
def State.turnCycle (s : State) (r : Nat) : Nat :=
  let div := if s.isSetAt FAB_REGION_THROTTLED r then (if s.isSetAt FAB_REGION_CTRL_THR_DIV r then 4 else 2) else 1
  match s.regionSource r (s.rdAt FAB_REGION_CTRL_TURN_CLK r) with
  | some x =>
    match (if x < 0x40 then s.pllVco (x / 4) else none) with
    | some f => ceilDiv (div * 1000000 * f.2 * s.pllDiv (x / 4) (x % 4)) f.1
    | none => s.free 16
  | none => s.free 16

/-! ### Requests (R331, R335 to R341, R351) -/

/-- Requests that wait for a region's edge. -/
def State.requests (s : State) (r : Nat) : List RegionRequest := SMap.read s.ctx.requests [] r

/-- The requests of a region; CTX_PENDING shows them. -/
def State.setRequests (s : State) (r : Nat) (qs : List RegionRequest) : State :=
  { s with ctx := { s.ctx with requests := SMap.store s.ctx.requests [] r qs } }.wrMask CTX_PENDING r (!qs.isEmpty)

/-- What a region answered to command `cmd`: `none`, the request took effect; 0, it is OK without effect (R340, R341); else
the status of its refusal. The command completes when no region of it waits (R351), with the status of the lowest region
refused. -/
def State.settle (s : State) (cmd : Option Nat) (r : Nat) (why : Option Nat) : State :=
  match cmd with
  | none => s
  | some id =>
    match SMap.find s.ctx.cmds id with
    | none => s
    | some c =>
      let rest := c.waiting.filter (· != r)
      let d : RegionCmd :=
        match why with
        | none => { c with waiting := rest, done := c.done + 2 ^ r }
        | some 0 => { c with waiting := rest }
        | some st =>
          { c with
            waiting := rest
            refused := c.refused + 2 ^ r
            status := if c.refused % 2 ^ r = 0 then st else c.status }
      if rest.isEmpty then
        { s with ctx := { s.ctx with cmds := SMap.erase s.ctx.cmds id } }.complete id ⟨d.status, d.refused, d.done⟩
      else { s with ctx := { s.ctx with cmds := SMap.put s.ctx.cmds id d } }

/-- The commit of the background load waits in the queue and falls in this tick (DESIGN CHOICE, log 148): it releases its locks before a
turn of the tick (R350). -/
def State.releaseWaits (s : State) : Bool :=
  s.pending.any fun c =>
    match c with
    | .backgroundLoadCommit _ => true
    | _ => false

/-- The first reason for which a turn of region `r` to context `k` is refused (R335). A parked region needs no edge
(R336). -/
def State.turnRefusal (s : State) (r k : Nat) : Option Nat :=
  if !s.running then some 0x04
  else if !s.loaded r k then some 0x60
  else if s.locked r k && !s.releaseWaits then some 0x61
  else if s.regionRetired r then some 0x62
  else if !s.parked r && !s.turnRuns r then some 0x63
  else none

/-- A turn refused: error bit, count, event 0x7001. -/
def State.turnRefused (s : State) (r : Nat) (q : RegionRequest) (st : Nat) : State :=
  (((s.wr CTX_ERR_TURN_REFUSED 1).addSatAt CTX_TURN_REFUSE_CNT r 1).postLimited 0x7001 r (0x710 + r) 2 fun n =>
    r + (if st = 0x04 then 0xF else st - 0x60) * 2 ^ 4 + q.context % 4 * 2 ^ 8 + flag q.dance * 2 ^ 10 +
      satN 16 n * 2 ^ 16).settle q.cmd r (some st)

/-- A request refused with a status. -/
def State.refuseRequest (s : State) (r : Nat) (q : RegionRequest) (st : Nat) : State :=
  if q.kind = 0 then s.turnRefused r q st else s.settle q.cmd r (some st)

/-- Every pending request of a region refused: CTX_RETIRED when it is retired (R350), NOT_IN_MODE when RUN is left. -/
def State.refuseRequests (s : State) (st r : Nat) : State :=
  (s.requests r).foldl (fun (x : State) q => x.refuseRequest r q st) (s.setRequests r [])

/-- A relocation that waits for a park of the region begins (14 R408). -/
def State.moveColumns (s : State) (r : Nat) : State :=
  match SMap.find s.guard.relocations r with
  | none => s
  | some x =>
    if x.startedAt.isSome then s
    else
      { s with guard := { s.guard with relocations := SMap.put s.guard.relocations r { x with startedAt := some s.now } } }

/-- The region parks (R338): last edge taken, clocks gated, set-reset asserted. -/
def State.parkRegion (s : State) (r : Nat) (forced : Bool) : State :=
  ((((s.wrMask CTX_STATUS_PARKED r true).wrAt FAB_REGION_CLK_RUN r 0).resetHard r).moveColumns r).post 0x7002 (0x710 + r) 1
    (r + 16 + 32 * flag forced)

/-- The end of an unpark (R341): clocks run, set-reset released; a change of the steering becomes visible (09 R236). -/
def State.unparkRegion (s : State) (r : Nat) : State :=
  let s1 := s.wrMask CTX_STATUS_PARKED r false
  ({ s1 with fabric := { s1.fabric with shown := SMap.erase s1.fabric.shown r } }.gateRegion true r).post 0x7002
    (0x710 + r) 1 r

/-- Set-reset asserted for one turn clock cycle (R333, R255). -/
def State.resetCycle (s : State) (r : Nat) : State :=
  let s1 := s.resetHard r
  { s1.took with ctx := { s1.ctx with resetUntil := SMap.put s1.ctx.resetUntil r (s.now + s.turnCycle r) } }

/-- A request waits for its edge; one of the dance card before the host's of the same tick (04 R110). -/
def State.waitEdge (s : State) (r : Nat) (q : RegionRequest) : State :=
  if q.dance then
    let p := (s.requests r).partition fun h => !h.dance && h.issued == s.now
    s.setRequests r (p.2 ++ q :: p.1)
  else s.setRequests r (s.requests r ++ [q])

/-- A turn takes region `r` to context `k`; the context it leaves is noted (14 R397). -/
def State.turnTo (s : State) (r k : Nat) : State :=
  { s with ctx := { s.ctx with left := SMap.put s.ctx.left (4 * r + s.active r) s.now } }.setActive r k

/-- A turn reaches a region: a parked one takes the context at once (R336). -/
def State.turnArrives (s : State) (r : Nat) (q : RegionRequest) : State :=
  match s.turnRefusal r q.context with
  | some st => s.turnRefused r q st
  | none =>
    if s.parked r then (((s.turnTo r q.context).addSatAt CTX_TURN_CNT r 1).resetHard r).settle q.cmd r none
    else s.waitEdge r q

/-- A park reaches a region (R340): in HALTED it takes effect at once, as a forced one (R345). -/
def State.parkArrives (s : State) (r : Nat) (q : RegionRequest) : State :=
  if !s.running && s.mode != modeHalted then s.settle q.cmd r (some 0x04)
  else if s.parked r && (s.requests r).isEmpty then s.settle q.cmd r (some 0)
  else if s.mode = modeHalted then (s.parkRegion r true).settle q.cmd r none
  else s.waitEdge r q

/-- The first reason for which an unpark is refused (R341). -/
def State.unparkRefusal (s : State) (r : Nat) : Option Nat :=
  if !s.loaded r (s.active r) then some 0x60
  else if s.locked r (s.active r) then some 0x61
  else if s.regionRetired r then some 0x62
  else if !s.turnRuns r then some 0x63
  else none

/-- An unpark reaches a region. -/
def State.unparkArrives (s : State) (r : Nat) (q : RegionRequest) : State :=
  if !s.running then s.settle q.cmd r (some 0x04)
  else if !s.parked r && (s.requests r).isEmpty then s.settle q.cmd r (some 0)
  else
    match s.unparkRefusal r with
    | some st => s.settle q.cmd r (some st)
    | none => s.waitEdge r q

/-- A request reaches a region. -/
def State.arrives (q : RegionRequest) (s : State) (r : Nat) : State :=
  match q.kind with
  | 0 => s.turnArrives r q
  | 1 => s.parkArrives r q
  | _ => s.unparkArrives r q

/-- A host request that its region settles as it arrives is noted for the tick. -/
def State.noteHost (s : State) (r : Nat) (q : RegionRequest) : State :=
  let kept := s.ctx.hostNow.filter fun (h : Nat × RegionRequest) => h.2.issued == s.now
  { s with ctx := { s.ctx with hostNow := kept ++ [(r, q)] } }

/-- A host request settled earlier in this tick takes effect again, after the dance card action that comes before it (04 R110): a turn of
a parked region names its context, a park or an unpark is asked for anew. -/
def State.hostAgain (s : State) (r : Nat) (q : RegionRequest) : State :=
  if q.kind = 0 then (if s.parked r && (s.turnRefusal r q.context).isNone then (s.turnTo r q.context).resetHard r else s)
  else State.arrives { q with cmd := none } s r

/-- A request reaches a region, in the order that 04 R110 gives requests of the dance card and of the host in one tick. -/
def State.requestArrives (q : RegionRequest) (s : State) (r : Nat) : State :=
  let s1 := State.arrives q s r
  if q.dance then
    (s.ctx.hostNow.filter fun (h : Nat × RegionRequest) => h.1 == r && h.2.issued == s.now).foldl (fun (x : State) h =>
      x.hostAgain r h.2) s1
  else if s.running && (s1.requests r).length == (s.requests r).length then s1.noteHost r q
  else s1

/-- The regions of a mask, ascending. -/
def regionsOf (mask : Nat) : List Nat := (List.range 16).filter fun r => bitOf mask r == 1

/-- A request reaches every region of a mask. -/
def State.requestAll (s : State) (mask : Nat) (q : RegionRequest) : State :=
  (regionsOf mask).foldl (fun (x : State) r => x.requestArrives q r) s

/-- The park state that the last PARK or UNPARK of a list asks for. -/
def lastPark (qs : List RegionRequest) : Option Nat := ((qs.filter fun q => q.kind != 0).getLast?).map fun q => q.kind

/-- Every request of a list took effect. -/
def State.settleAll (s : State) (r : Nat) (qs : List RegionRequest) : State :=
  qs.foldl (fun (x : State) q => x.settle q.cmd r none) s

/-- The turns of a list applied together: the last names the context, RESET applies when any carries it (R337). -/
def State.turnsApply (s : State) (r : Nat) (turns : List RegionRequest) : State :=
  match turns.getLast? with
  | none => s
  | some q =>
    let s1 := ((s.turnTo r q.context).addSatAt CTX_TURN_CNT r turns.length).wrAt CTX_LAST_TURN_MONO r s.now
    if turns.any fun t => t.reset then s1.resetCycle r else s1

/-- A turn clock edge of a running region: all pending requests take effect together (R337). -/
def State.regionEdge (s : State) (r : Nat) : State :=
  let qs := s.requests r
  let s1 := (s.setRequests r []).turnsApply r (qs.filter fun q => q.kind == 0)
  (if lastPark qs = some 1 then s1.parkRegion r false else s1).settleAll r qs

/-- A request of one kind is pending. -/
def State.waits (s : State) (r kind : Nat) : Bool := (s.requests r).any fun q => q.kind == kind

/-- The pending requests of `kind` that were issued `ns` ago or earlier; the others. -/
def State.overdue (s : State) (r kind ns : Nat) : List RegionRequest × List RegionRequest :=
  (s.requests r).partition fun q => q.kind == kind && decide (q.issued + ns ≤ s.now)

/-- Turns, and unparks (R341), whose edge has not come within `ns` are refused. -/
def State.noClock (s : State) (r ns : Nat) : State :=
  let t := s.overdue r 0 ns
  let s1 := t.1.foldl (fun (x : State) q => x.refuseRequest r q 0x63) (if t.1.isEmpty then s else s.setRequests r t.2)
  let u := s1.overdue r 2 ns
  u.1.foldl (fun (x : State) q => x.refuseRequest r q 0x63) (if u.1.isEmpty then s1 else s1.setRequests r u.2)

/-! ### The rows of turns and parks -/

/-- TURN_EFFECT. An edge after 10 µs comes too late for a request (R335). -/
def execTurnEffect (region : Nat) (s : State) : Result :=
  .next (
    if region < 16 ∧ s.waits region 0 ∧ !s.parked region ∧ s.turnRuns region then (s.noClock region 10001).regionEdge region
    else s)

/-- TURN_NO_CLOCK: a turn, or an unpark (R341), whose edge has not come within 10 µs. -/
def execTurnNoClock (region : Nat) (s : State) : Result :=
  .next (
    if region < 16 then s.noClock region 10000 else s)

/-- PARK_EFFECT. -/
def execParkEffect (region : Nat) (s : State) : Result :=
  .next (
    if region < 16 ∧ s.waits region 1 ∧ !s.parked region ∧ s.turnRuns region then (s.noClock region 10001).regionEdge region
    else s)

/-- PARK_FORCED (R340): the park takes effect in the tick in which its 10 µs end. -/
def execParkForced (region : Nat) (s : State) : Result :=
  .next (
    let p := s.overdue region 1 10000
    if region < 16 ∧ !p.1.isEmpty ∧ !s.parked region then
      ((s.setRequests region p.2).parkRegion region true).settleAll region p.1
    else s)

/-- UNPARK_RELEASE (R341). A PARK that came after the UNPARK leaves the region parked (R337); an unpark waits for a relocation
(14 R410). A turn that waited when the park was forced takes effect with it. -/
def execUnparkRelease (region : Nat) (s0 : State) : Result :=
  .next (
    let s := if region < 16 then s0.noClock region 10001 else s0
    let qs := s.requests region
    if region < 16 ∧ s.waits region 2 ∧ s.parked region ∧ s.turnRuns region ∧
        (SMap.find s.guard.relocations region).isNone then
      let s1 := (s.setRequests region []).turnsApply region (qs.filter fun q => q.kind == 0)
      (if lastPark qs = some 2 then s1.unparkRegion region else s1).settleAll region qs
    else s)

/-! ### The commands -/

/-- A command of R351 on the regions of its mask. -/
def State.regionCommand (s : State) (id mask : Nat) (q : RegionRequest) : Option Completion × State :=
  if mask = 0 then (some .ok, s)
  else
    (none, { s with ctx := { s.ctx with
      cmds := SMap.put s.ctx.cmds id { waiting := regionsOf mask } } }.requestAll mask { q with cmd := some id })

/-- CTX_TURN. -/
def execCtxTurn (id : Nat) (s : State) : Result :=
  .next (s.startCmd id 0x7001 fun r s =>
    s.regionCommand id (recField r 8 2)
      { kind := 0, context := recByte r 10 % 4, reset := bitOf (recByte r 10) 2 == 1, issued := s.now })

/-- CTX_PARK. -/
def execCtxPark (id : Nat) (s : State) : Result :=
  .next (s.startCmd id 0x7002 fun r s => s.regionCommand id (recField r 8 2) { kind := 1, issued := s.now })

/-- CTX_UNPARK. -/
def execCtxUnpark (id : Nat) (s : State) : Result :=
  .next (s.startCmd id 0x7003 fun r s => s.regionCommand id (recField r 8 2) { kind := 2, issued := s.now })

/-- DNC_TURN (04 R97). -/
def execDncTurn (s : State) : Result :=
  .next (s.runAction 0x01 fun q s =>
    let o := entryOperand q.word
    s.requestAll (bitsOf o 15 0)
      { kind := 0, context := bitsOf o 17 16, reset := bitOf o 18 == 1, issued := s.now, dance := true })

/-- DNC_PARK. -/
def execDncPark (s : State) : Result :=
  .next (s.runAction 0x02 fun q s =>
    s.requestAll (bitsOf (entryOperand q.word) 15 0) { kind := 1, issued := s.now, dance := true })

/-- DNC_UNPARK. -/
def execDncUnpark (s : State) : Result :=
  .next (s.runAction 0x03 fun q s =>
    s.requestAll (bitsOf (entryOperand q.word) 15 0) { kind := 2, issued := s.now, dance := true })

/-! ### Capture (R342 to R346) -/

/-- CAP_STATE. -/
def State.capState (s : State) : Nat := s.rd CTX_STATUS_CAP_STATE

/-- The first reason for which a capture on net `n` is refused, in DETAIL's encoding (R344). -/
def State.captureRefusal (s : State) (n : Nat) : Option Nat :=
  if s.capState = 1 then some 1
  else if s.capState = 2 ∧ s.isSet CTX_CAP_CFG_KEEP then some 2
  else if !s.netRuns n then some 3
  else none

/-- A capture refused. -/
def State.captureRefused (s : State) (why : Nat) : State :=
  ((s.wr CTX_ERR_CAP_REFUSED 1).incSat CTX_REFUSE_CNT).post 0x7004 0x700 2 why

/-- A capture armed. -/
def State.captureArm (s : State) (x : CaptureRun) : State :=
  { s with ctx := { s.ctx with capture := some x } }.wr CTX_STATUS_CAP_STATE 1

/-- An armed capture cancelled: the cells hold no set. -/
def State.captureCancel (s : State) : State :=
  { s with ctx := { s.ctx with capture := none } }.wr CTX_STATUS_CAP_STATE 0

/-- CTX_CAPTURE (R342, R344); n = 0 cancels. -/
def execCtxCapture (id : Nat) (s : State) : Result :=
  .next (s.startCmd id 0x7004 fun r s =>
    let n := recByte r 10 % 64
    if recField r 12 4 = 0 then
      match s.ctx.capture with
      | none => (some .ok, s)
      | some x =>
        (some .ok,
          match x.cmd with
          | some old => s.captureCancel.complete old .ok
          | none => s.captureCancel)
    else
      match s.captureRefusal n with
      | some 3 => (some ⟨0x63, 0, 0⟩, s.captureRefused 3)
      | some k => (some ⟨0x65, 0, 0⟩, s.captureRefused k)
      | none =>
        (none, s.captureArm {
          mask := recField r 8 2
          clock := n
          edge := recField r 12 4
          halt := bitOf (recByte r 10) 7 == 1
          issued := s.now
          cmd := some id }))

/-- DNC_CAPTURE (04 R97). -/
def execDncCapture (s : State) : Result :=
  .next (s.runAction 0x04 fun q s =>
    let n := s.rd CTX_CAP_CFG_CLK
    match s.captureRefusal n with
    | some k => s.captureRefused k
    | none =>
      s.captureArm {
        mask := s.rd CTX_CAP_CFG_MASK
        clock := n
        halt := bitOf (entryOperand q.word) 0 == 1
        issued := s.now })

/-- The region's flip-flops are held at INIT. -/
def State.regionHeld (s : State) (r : Nat) : Bool :=
  s.parked r || s.isSetAt FAB_REGION_GSR_HELD r || decide (s.now < SMap.read s.ctx.resetUntil 0 r)

/-- Byte `i` of a logic column's capture record: flip-flops 8i to 8i + 7 in R348's order, at INIT (R239). -/
def State.initByte (s : State) (c i : Nat) : Nat :=
  ((List.range 8).map fun j =>
    let b := 8 * i + j
    s.groupBits c (4 * (b / 32)) (96 * (b % 32 / 2) + 78 + b % 2) (96 * (b % 32 / 2) + 78 + b % 2) * 2 ^ j).sum

/-- Capture of a logic column: INIT where the region is held, else what user logic left, free values from `k` on. -/
def State.captureLogic (s : State) (k c : Nat) : List Nat :=
  if s.regionHeld (c / 96) then (List.range 256).map (s.initByte c)
  else (List.range 256).map fun i => s.freeK (k + i) 8

/-- Output registers of a tile memory port as R348 packs them. -/
def TileOut.pack (x : TileOut) : Nat :=
  x.dout % 2 ^ 72 + flag x.busy * 2 ^ 72 + flag x.corr * 2 ^ 73 + flag x.uncorr * 2 ^ 74

/-- Capture of a memory column: `i` is its place among the region's memory columns. -/
def State.captureMemory (s : State) (r i : Nat) : List Nat :=
  (List.range 20).flatMap fun m =>
    bytesOf 32 ((s.tilePort r (20 * i + m) false).out.pack + (s.tilePort r (20 * i + m) true).out.pack * 2 ^ 128)

/-- A mix slice as R348 packs it. -/
def MixSlice.pack (m : MixSlice) : Nat :=
  m.acc % 2 ^ 88 + m.out % 2 ^ 24 * 2 ^ 88 + flag m.sat * 2 ^ 112 + m.x % 2 ^ 72 * 2 ^ 128 + m.b % 2 ^ 36 * 2 ^ 200 +
    m.pre % 4 * 2 ^ 236 + m.zsel % 4 * 2 ^ 238 + m.a2 % 2 ^ 24 * 2 ^ 240 + m.p % 2 ^ 60 * 2 ^ 264

/-- Capture of a mix column. -/
def State.captureMix (s : State) (c : Nat) : List Nat :=
  (List.range 32).flatMap fun k => bytesOf 48 (s.mixSlice c k).pack

/-- Capture of the column at offset `j` of region `r`. -/
def State.captureColumn (s : State) (r j : Nat) : List Nat :=
  let c := 96 * r + j
  match offsetType j with
  | 0 => s.captureLogic (256 * c) c
  | 1 => s.captureMemory r ((columnsOf r 1).idxOf c)
  | 2 => s.captureMix c
  | _ => []

/-- The capture cells of region `r` (R343, R348). -/
def State.captureRegion (s : State) (r : Nat) : List Nat := (List.range 96).flatMap (s.captureColumn r)

/-- HALTED is entered immediately after the capture edge (R345): pending parks take effect, other requests are refused. -/
def State.enterHalted (s : State) : State :=
  let s1 := ((s.wr GLB_MODE_RETURN_MODE s.mode).gateAll false).setMode modeHalted
  let s2 := (List.range 16).foldl (fun (x : State) r =>
    let p := (x.requests r).partition fun q => q.kind == 1
    let y := p.2.foldl (fun (z : State) q => z.refuseRequest r q 0x04) (x.setRequests r [])
    if p.1.isEmpty then y else ((if y.parked r then y else y.parkRegion r false).settleAll r p.1)) s1
  s2.post 0x7005 0x700 4 1

/-- The context that a turn of the capture's tick left, or a turn of a parked region in the tick of the request (R343, R350; 04 R110). -/
def State.contextBefore (s : State) (x : CaptureRun) (r : Nat) : Nat :=
  ((List.range 4).find? fun k =>
    match SMap.find s.ctx.left (4 * r + k) with
    | some t => t == s.now || (t == x.issued && s.parked r)
    | none => false).getD (s.active r)

/-- The regions in the contexts that a capture sees: those before a turn on its edge, or in its tick. -/
def State.beforeTurns (s : State) (x : CaptureRun) : State :=
  (List.range 16).foldl (fun (y : State) r => y.setActive r (s.contextBefore x r)) s

/-- Edge `n` of a global net can have come `ns` after the request: n − 1 periods have passed, where a register gives the period (R342). -/
def State.edgesPassed (s : State) (net n ns : Nat) : Bool :=
  let x := s.rdAt FAB_GCLK_SRC net
  match (if x < 0x40 then s.pllVco (x / 4) else none) with
  | some f => decide ((n - 1) * 1000000 * f.2 * s.pllDiv (x / 4) (x % 4) ≤ (ns + 1) * f.1)
  | none => true

/-- CAPTURE_TAKEN. -/
def execCaptureTaken (s : State) : Result :=
  .next (
    match s.ctx.capture with
    | none => s
    | some x =>
      if s.netRuns x.clock ∧ s.edgesPassed x.clock x.edge (s.now - x.issued) then
        let seen := s.beforeTurns x
        let cells := (regionsOf x.mask).foldl (fun (m : SMap (List Nat)) r => SMap.put m r (seen.captureRegion r)) s.ctx.cells
        let s1 := { s.tookN 393216 with ctx := { s.ctx with capture := none, cells := cells } }
        let s2 := ((((s1.wr CTX_STATUS_CAP_STATE 2).wr CTX_CAP_MONO s.now).wr CTX_CAP_CTX (seen.rd CTX_ACTIVE)).wr
          CTX_CAP_REGIONS x.mask).incSat CTX_CAP_CNT
        let s3 := s2.post 0x7003 0x700 0 (x.mask + flag x.halt * 2 ^ 16)
        let s4 := if x.halt && s.running then s3.enterHalted else s3
        match x.cmd with
        | some id => s4.complete id .ok
        | none => s4
      else s)

/-- The device returns to the mode it left (R346); RUN and RUN_DEGRADED follow HLT_STATUS (16 R436). -/
def State.resumeRun (s : State) : State :=
  (((s.gateAll true).setMode (s.rd GLB_MODE_RETURN_MODE)).followDegraded).post 0x7005 0x700 1 0

/-- CTX_RESUME. -/
def execCtxResume (id : Nat) (s : State) : Result :=
  .next (s.runCmd id 0x7005 fun _ s => if s.mode = modeHalted then (.ok, s.resumeRun) else (⟨0x67, 0, 0⟩, s))

/-! ### Readback (R347 to R349) -/

/-- A frame address after `n` frames. -/
def farPlus (far n : Nat) : Nat :=
  match n with
  | 0 => far
  | k + 1 => farPlus (farNext far) k

/-- The addresses of `n` frames from `far` on. -/
def farList (far n : Nat) : List Nat :=
  match n with
  | 0 => []
  | k + 1 => far :: farList (farNext far) k

/-- Column and frame of a frame address exist. -/
def farValid (far : Nat) : Bool :=
  decide (bitsOf far 18 8 < 1536) && decide (bitsOf far 7 0 < framesOf (columnType (bitsOf far 18 8)))

/-- Region of a frame address; its context. -/
def farRegion (far : Nat) : Nat := bitsOf far 18 8 / 96
def farContext (far : Nat) : Nat := bitsOf far 20 19

/-- A frame as readback gives it: zero for a pair that is not loaded. -/
def State.readFrame (s : State) (far : Nat) : List Nat :=
  let x : PlaneFrame :=
    if s.loaded (farRegion far) (farContext far) then
      shownFrame (bitsOf far 18 8) (bitsOf far 7 0) (s.planeFrame (farContext far) (bitsOf far 18 8) (bitsOf far 7 0))
    else {}
  bytesOf 216 x.bits ++ bytesOf 4 (x.check % 2 ^ 16)

/-- Rows of a tile memory as MEMLD lays them out, with the state in which undefined rows have become defined. -/
def State.readRows (s : State) (r m row n : Nat) : List Nat × State :=
  match n with
  | 0 => ([], s)
  | k + 1 =>
    let v := s.tileRow r m row
    let rest := v.2.readRows r m (row + 1) k
    (bytesOf 8 (v.1 % 2 ^ 64) ++ bytesOf 4 (v.1 / 2 ^ 64 % 2 ^ 8) ++ rest.1, rest.2)

/-- A readback refused. -/
def State.readbackRefused (s : State) (st : Nat) : Completion × State := (⟨st, 0, 0⟩, s.wr CTX_ERR_RB_REFUSED 1)

/-- Readback of KIND 0x0; the cells of a region that no capture has named hold free values. -/
def State.readCapture (s : State) (host r : Nat) (release : Bool) : Completion × State :=
  if s.capState = 0 then s.readbackRefused 0x66
  else if s.regionRetired r then s.readbackRefused 0x62
  else
    let s1 :=
      match SMap.find s.ctx.cells r with
      | some bs => s.hostWrite host bs
      | none => s.hostUndefined host 39936
    (.ok, if release then s1.wr CTX_STATUS_CAP_STATE 0 else s1)

/-- Readback of KIND 0x1. -/
def State.readFrames (s : State) (host far n : Nat) : Completion × State :=
  if !farValid far then (.badParam 20, s)
  else if n = 0 ∨ 354816 < n ∨ !farValid (farPlus far (n - 1)) then (.badParam 24, s)
  else
    let fs := farList far n
    if fs.any fun a => s.locked (farRegion a) (farContext a) then s.readbackRefused 0x61
    else if fs.any fun a => s.regionRetired (farRegion a) then s.readbackRefused 0x62
    else (.ok, s.hostWrite host (fs.flatMap s.readFrame))

/-- Readback of KIND 0x2. -/
def State.readTile (s : State) (host r m row n : Nat) : Completion × State :=
  if 239 < m then (.badParam 20, s)
  else if n = 0 ∨ 1024 - row < n then (.badParam 24, s)
  else if !s.parked r then s.readbackRefused 0x64
  else if s.regionRetired r then s.readbackRefused 0x62
  else
    let x := s.readRows r m row n
    (.ok, x.2.hostWrite host x.1)

/-- CTX_READBACK; SEALED, LOCKED and SCRAP refuse it (19 R495). -/
def execCtxReadback (id : Nat) (s : State) : Result :=
  .next (s.runCmd id 0x7006 fun r s =>
    let host := recField r 8 8
    let region := recByte r 17 % 16
    let a := recField r 20 4
    if s.rd LCS_STATE_STATE = 4 ∨ s.rd LCS_STATE_STATE = 0xF ∨ s.rd LCS_STATE_STATE = 6 then (.denied, s)
    else match recByte r 16 with
    | 0 => s.readCapture host region (bitOf (recByte r 17) 7 == 1)
    | 1 => s.readFrames host (a % 2 ^ 21) (recField r 24 4)
    | 2 => s.readTile host region (bitsOf a 27 20) (a % 2 ^ 10) (recField r 24 4)
    | _ => (.badParam 16, s))

end Sys2Proof.Machine
end

