-- ==== Sys2Proof/Machine/Flash.lean ====
section
/-! DEFINITION. Configuration flash (13): areas, sector states, erase and program, suspend and resume, the steward's move off
its bank, swap records, the golden directory. -/

namespace Sys2Proof.Machine

open Sys2Proof

/-! ### Areas and sector states (R358 to R361) -/

/-- Number of a sector in the device. -/
def sectorOf (b n : Nat) : Nat := 1536 * b + n

/-- State of a sector. -/
def State.sectorState (s : State) (b n : Nat) : Nat := s.rdAt FLC_SECTOR_STATE (sectorOf b n)

/-- A sector's state changes. -/
def State.setSector (s : State) (b n st : Nat) : State := s.wrAt FLC_SECTOR_STATE (sectorOf b n) st

/-- CLEAN or WRITTEN. -/
def State.sectorSettled (s : State) (b n : Nat) : Bool := decide (s.sectorState b n ≤ 1)

/-- The boot block that holds a sector: 1 = A, 2 = B. -/
def bootBlockOf (b n : Nat) : Option Nat := if n < 16 ∧ b < 2 then some (b + 1) else none

/-- A swap record sector. -/
def isRecordSector (b n : Nat) : Bool := b == 7 && (n == 1006 || n == 1007)

/-- The host may not program or erase the sector (R359). -/
def State.flashProtected (s : State) (b n : Nat) : Bool :=
  bootBlockOf b n == some (s.rd FLC_BOOT_ACTIVE_BLOCK) || isRecordSector b n || decide (1008 ≤ n)

/-- A code word written. -/
def State.putCode (s : State) (key : Nat) (x : CodeWord) : State :=
  { s with flash := { s.flash with words := SMap.put s.flash.words key x } }

/-- FLC_SECTOR_STATE as a word (R389). -/
def State.sectorWord (s : State) (b n : Nat) : Nat :=
  s.sectorState b n * 2 ^ 29 + s.rdAt FLC_SECTOR_ERASE_CNT (sectorOf b n) * 2 ^ 12 + s.rdAt FLC_SECTOR_CW_INDEX (sectorOf b n)

/-- DETAIL that names a code word (R388). -/
def flashDetail (b n w : Nat) : Nat := b + n * 2 ^ 3 + w * 2 ^ 14

/-- FLC_LAST_ERR. -/
def State.flashError (s : State) (b n w st : Nat) : State :=
  (((s.wr FLC_LAST_ERR_BANK b).wr FLC_LAST_ERR_SECTOR n).wr FLC_LAST_ERR_CODE_WORD w).wr FLC_LAST_ERR_STATUS (st % 64)

/-- What a read of code word `w` finds (R357): its 144 bits, none where it is delivered poisoned, and what the read does. An
undefined one can read as anything, and can pass its check (R360): a free value. -/
def State.flashSense (s : State) (b n w : Nat) (found : FlashRead) : Option Nat × State :=
  let key := codeKey b n w
  let v := s.codeWord key
  let data := v.getD (s.free 144)
  let s1 := if v.isNone then s.took else s
  if !s.codeWritten key then (some data, s1)
  else
    match found with
    | .good => (some data, s1)
    | .corrected => (some data, (s1.incSat FLC_CORR_CNT).postLimited 0x8002 0 (0x800 + b) 0 sat32)
    | .bad =>
      (none, (((s1.incSat FLC_UNCORR_CNT).wr FLC_ERR_UNCORR 1).flashError b n w 0x3F).post 0x8003 (0x800 + b) 3
        (flashDetail b n w))

/-- The reads of a command do at each code word what R357 says, as far as the command reads it. -/
def State.senseCodes (s : State) (found : Found) (reads : Nat → Bool) : State :=
  found.codes.foldl (fun (x : State) e =>
    if reads e.1 then (x.flashSense (e.1 / 6291456) (e.1 / 4096 % 1536) (e.1 % 4096) e.2).2 else x) s

/-! ### Operations of a bank (R366, R371, R389) -/

/-- The operation of a bank. -/
def State.flashOp (s : State) (b : Nat) : Option FlashOp := SMap.find s.flash.ops b

/-- FLC_BANK as the operation shows it. -/
def State.showBank (s : State) (b : Nat) : State :=
  match s.flashOp b with
  | none =>
    ((((s.wrAt FLC_BANK_BUSY b 0).wrAt FLC_BANK_OP b 0).wrAt FLC_BANK_SECTOR b 0).wrAt FLC_BANK_REMAIN b 0).wrAt
      FLC_BANK_CODE_WORD b 0
  | some x =>
    ((((s.wrAt FLC_BANK_BUSY b (flag (x.begun && !x.suspended && !x.held))).wrAt FLC_BANK_OP b
      (if x.held then 4 else if x.suspended then 3 else if !x.begun then 0 else if x.erase then 1 else 2)).wrAt FLC_BANK_SECTOR b
      x.sector).wrAt FLC_BANK_REMAIN b x.data.length).wrAt FLC_BANK_CODE_WORD b x.word

/-- The operation of a bank replaced. -/
def State.setFlashOp (s : State) (b : Nat) (x : FlashOp) : State :=
  { s with flash := { s.flash with ops := SMap.put s.flash.ops b x } }.showBank b

/-- The bank that holds the steward's running firmware. -/
def State.stewardBank (s : State) : Nat := s.rd FLC_BOOT_RUNNING_BLOCK - 1

/-- The steward runs from the bank. -/
def State.stewardOn (s : State) (b : Nat) : Bool :=
  s.mgmt.steward != .stopped && b == s.stewardBank && !s.isSet FLC_STATUS_STW_OFF_BANK

/-- A program of code word `w` would be refused before its pulse (R360, R363): the status. A sector in PROGRAM_INCOMPLETE refuses the
code word it names; an undefined one reads as written or as not erased, a free choice. -/
def State.programRefusal (s : State) (b n w : Nat) : Option Nat :=
  let key := codeKey b n w
  if s.sectorState b n = 4 ∧ s.rdAt FLC_SECTOR_CW_INDEX (sectorOf b n) = w then some 0x32
  else
    match SMap.find s.flash.words key with
    | some x => if x.undefined then some (0x30 + s.free 1) else some 0x31
    | none => if s.shippedWord key then some 0x31 else none

/-- The sector of an operation as the operation marks it (R361): ERASE_INCOMPLETE before the first pulse of an erase,
PROGRAM_INCOMPLETE with the first code word before the pulse of a program. -/
def State.markSector (s : State) (b : Nat) (x : FlashOp) : State :=
  if x.golden then s
  else if x.erase then s.setSector b x.sector 3
  else if s.sectorState b x.sector = 4 ∨ (s.programRefusal b x.sector x.word).isSome then s
  else (s.setSector b x.sector 4).wrAt FLC_SECTOR_CW_INDEX (sectorOf b x.sector) x.word

/-- The sector of an operation as it was before the operation began. -/
def State.unmarkSector (s : State) (b : Nat) (x : FlashOp) : State :=
  if x.golden then s else (s.setSector b x.sector x.was).wrAt FLC_SECTOR_CW_INDEX (sectorOf b x.sector) x.wasIndex

/-- The pulses of an operation begin. -/
def State.beginOp (s : State) (b : Nat) (x : FlashOp) : State :=
  (s.setFlashOp b { x with
    begun := true
    held := false
    suspended := false
    was := s.sectorState b x.sector
    wasIndex := s.rdAt FLC_SECTOR_CW_INDEX (sectorOf b x.sector)
    startedAt := s.now }).markSector b x

/-- An operation given to a bank: on the steward's bank it waits for the steward's move (R371). -/
def State.flashStart (s : State) (b : Nat) (x : FlashOp) : State :=
  if s.stewardOn b then
    ((s.setFlashOp b { x with begun := false }).wr FLC_STATUS_STW_MOVE_REQ 1).wrAt FLC_BANK_STW_BANK b 1
  else s.beginOp b x

/-- An operation that waited for the steward begins; a held one goes on (R371, R372). -/
def State.flashGo (s : State) (b : Nat) : State :=
  match s.flashOp b with
  | none => s
  | some x =>
    if x.suspended && !x.held then s
    else if x.begun && !x.erase then s.setFlashOp b { x with held := false }
    else s.beginOp b x

/-- The bank has no operation; the steward returns to it (R371). -/
def State.flashEnd (s : State) (b : Nat) : State :=
  let s1 := { s with flash := { s.flash with ops := SMap.erase s.flash.ops b } }.showBank b
  if s1.isSetAt FLC_BANK_STW_BANK b then
    ((s1.wrAt FLC_BANK_STW_BANK b 0).wr FLC_STATUS_STW_MOVE_REQ 0).wr FLC_STATUS_STW_OFF_BANK 0
  else s1

/-- A command of the flash completes; FLC_TIE_CNT counts a completion in the tick of its TIMEOUT (R367). -/
def State.flashComplete (s : State) (id : Nat) (c : Completion) : State :=
  match s.cmd id with
  | none => s
  | some f =>
    (if s.now = f.expiry (defaultTimeout (recOpcode f.bytes)) then s.incSat FLC_TIE_CNT else s).complete id c

/-- Every command that waits for an operation completes. -/
def State.flashAnswer (s : State) (x : FlashOp) (c : Completion) : State :=
  (x.cmd.toList ++ x.resumeCmds).foldl (fun (y : State) id => y.flashComplete id c) s

/-- BOOT and LOAD refuse flash commands (R366). -/
def State.flashMode (s : State) : Bool := s.mode != modeBoot && s.mode != modeLoad

/-- Bank, sector of a record (R386). -/
def recBank (r : List Nat) : Nat := recByte r 8
def recSector (r : List Nat) : Nat := recField r 10 2

/-- Why an erase or a program is refused before it looks at the sector: parameters, a privileged transition (19
R510), mode, area, load, another operation. -/
def State.flashRefusal (s : State) (b n : Nat) : Option Completion :=
  if 7 < b then some (.badParam 8)
  else if 1535 < n then some (.badParam 10)
  else if s.isSet LCS_STATE_PRIV_RUNNING then some .denied
  else if !s.flashMode then some .notInMode
  else if s.flashProtected b n then some ⟨0x33, 0, 0⟩
  else if s.isSetAt FLC_BANK_LOAD_LOCK b then some ⟨0x37, 0, 0⟩
  else if (s.flashOp b).isSome then some .busy
  else none

/-! ### Erase -/

/-- FLASH_ERASE. -/
def execFlashErase (id : Nat) (s : State) : Result :=
  .next (s.startCmd id 0x8001 fun r s =>
    match s.flashRefusal (recBank r) (recSector r) with
    | some c => (some c, s)
    | none => (none, s.flashStart (recBank r) { erase := true, cmd := some id, sector := recSector r }))

/-- A sector erased and verified, or left ERASE_INCOMPLETE (R361, R364): the count, its event. -/
def State.sectorErased (s : State) (b n : Nat) (verified : Bool) : State :=
  let i := sectorOf b n
  let s1 := { s with flash := { s.flash with
    words := if verified then s.flash.words.filter fun (e : Nat × CodeWord) => e.1 / 4096 != i else s.flash.words
    shipped := s.flash.shipped.filter (· != i) } }
  let s2 := ((s1.setSector b n (if verified then 0 else 3)).wrAt FLC_SECTOR_CW_INDEX i 0).addSatAt FLC_SECTOR_ERASE_CNT i 1
  if s.rdAt FLC_SECTOR_ERASE_CNT i = 9999 then s2.post 0x8009 (0x800 + b) 2 (flashDetail b n 0) else s2

/-- FLASH_ERASE_DONE. -/
def execFlashEraseDone (bank : Nat) (verified : Bool) (s : State) : Result :=
  .next (
    match s.flashOp bank with
    | none => s
    | some x =>
      if x.erase && s.flashRuns bank && !x.golden && !isRecordSector bank x.sector then
        let s1 := (s.sectorErased bank x.sector verified).flashEnd bank
        if verified then s1.flashAnswer x .ok
        else ((s1.wr FLC_ERR_VERIFY_FAIL 1).flashError bank x.sector 0 0x36).flashAnswer x ⟨0x36, 0, 0⟩
      else s)

/-! ### Program (R363) -/

/-- The bytes of `n` code words as numbers. -/
def codeData (bs : List Nat) (n : Nat) : List Nat := (List.range n).map fun k => ofBytes ((bs.drop (18 * k)).take 18)

/-- FLASH_PROGRAM. -/
def execFlashProgram (id : Nat) (s : State) : Result :=
  .next (s.startCmd id 0x8002 fun r s =>
    let b := recBank r
    let n := recSector r
    let w := recField r 12 2
    let k := recField r 14 2
    if k = 0 ∨ 256 < k then (some (.badParam 14), s)
    else if 4096 < w + k then (some (.badParam 12), s)
    else
      match s.flashRefusal b n with
      | some c => (some c, s)
      | none =>
        if s.sectorState b n = 2 ∨ s.sectorState b n = 3 then (some ⟨0x32, 0, 0⟩, s)
        else
          (none, s.flashStart b {
            erase := false
            cmd := some id
            sector := n
            word := w
            data := codeData (s.hostRead (recField r 16 8) (18 * k)) k }))

/-- One code word programmed: none where it is, else the status that ends the command. `fails`: its verify fails. -/
def State.programWord (s : State) (b n w v : Nat) (fails : Bool) : Option Nat × State :=
  let key := codeKey b n w
  match s.programRefusal b n w with
  | some st => (some st, if (SMap.find s.flash.words key).any fun x => x.undefined then s.took else s)
  | none =>
    if fails then
      (some 0x36, (((s.putCode key { bits := v, undefined := true }).setSector b n 4).wrAt FLC_SECTOR_CW_INDEX (sectorOf b n) w).wr
        FLC_ERR_VERIFY_FAIL 1)
    else
      let s1 := s.putCode key { bits := v % 2 ^ 144 }
      (none, if s.sectorState b n = 0 then s1.setSector b n 1 else s1)

/-- Code words programmed in ascending order until one is refused or fails: the count, the status that ended it. -/
def State.programWords (s : State) (b n w : Nat) (vs : List Nat) (failed : Option Nat) (count : Nat) :
    Nat × Option Nat × State :=
  match vs with
  | [] => (count, none, s)
  | v :: r =>
    let x := s.programWord b n w v (failed == some w)
    match x.1 with
    | some st => (count, some st, x.2)
    | none => State.programWords x.2 b n (w + 1) r failed (count + 1)

/-- FLASH_PROGRAM_DONE: `failedWord` is the code word of the sector whose verify fails, if one does. -/
def execFlashProgramDone (bank : Nat) (failedWord : Option Nat) (s : State) : Result :=
  .next (
    match s.flashOp bank with
    | none => s
    | some x =>
      if !x.erase && s.flashRuns bank && !x.golden then
        let p := (s.unmarkSector bank x).programWords bank x.sector x.word x.data failedWord 0
        let s1 := p.2.2.flashEnd bank
        match p.2.1 with
        | none => s1.flashAnswer x ⟨0, 0, p.1⟩
        | some st =>
          let s2 := s1.flashError bank x.sector (x.word + p.1) st
          (if st = 0x36 then s2.post 0x8005 (0x800 + bank) 3 (flashDetail bank x.sector (x.word + p.1)) else s2).flashAnswer x
            ⟨st, 0, p.1⟩
      else s)

/-! ### Suspend and resume (R369) -/

/-- The erase of bank `b` ends in this tick: its row waits in the queue (DESIGN CHOICE, log 148; R385). -/
def State.eraseEnds (s : State) (b : Nat) : Bool :=
  s.pending.any fun c =>
    match c with
    | .flashEraseDone n _ => n == b
    | .recordSectorEraseDone _ => b == 7
    | _ => false

/-- FLASH_SUSPEND. -/
def execFlashSuspend (id : Nat) (s : State) : Result :=
  .next (s.runCmd id 0x8003 fun r s =>
    let b := recBank r
    if 7 < b then (.badParam 8, s)
    else if !s.flashMode then (.notInMode, s)
    else
      match s.flashOp b with
      | none => (⟨0x34, 0, 0⟩, s)
      | some x =>
        if x.erase && s.flashRuns b && !x.golden && !s.eraseEnds b then
          (.ok, (s.setFlashOp b { x with suspended := true }).setSector b x.sector 2)
        else (⟨0x34, 0, 0⟩, s))

/-- FLASH_RESUME: it completes with the erase. -/
def execFlashResume (id : Nat) (s : State) : Result :=
  .next (s.startCmd id 0x8004 fun r s =>
    let b := recBank r
    if 7 < b then (some (.badParam 8), s)
    else if !s.flashMode then (some .notInMode, s)
    else
      match s.flashOp b with
      | none => (some ⟨0x34, 0, 0⟩, s)
      | some x =>
        if x.suspended && !x.held then
          (none, s.flashStart b { x with suspended := false, resumeCmds := x.resumeCmds ++ [id] })
        else (some ⟨0x34, 0, 0⟩, s))

/-- STEWARD_OFF_BANK: the waiting and the held operations of the steward's bank start. -/
def execStewardOffBank (s : State) : Result :=
  .next (
    if s.isSet FLC_STATUS_STW_MOVE_REQ && s.stewardReady && !s.isSet FLC_STATUS_STW_OFF_BANK then
      ((s.wr FLC_STATUS_STW_OFF_BANK 1).stewardRewrites).flashGo s.stewardBank
    else s)

/-! ### Records, calibration row -/

/-- FLASH_SECTOR_INFO. -/
def execFlashSectorInfo (id : Nat) (s : State) : Result :=
  .next (s.runCmd id 0x8005 fun r s =>
    if 7 < recBank r then (.badParam 8, s)
    else if 1535 < recSector r then (.badParam 10, s)
    else if !s.flashMode then (.notInMode, s)
    else (.ok 0 (s.sectorWord (recBank r) (recSector r)), s))

/-- Code word `n` of the calibration row (R383). -/
def State.calibrationWord (s : State) (n : Nat) : Nat :=
  if n = 0 then
    s.rd GLB_IDCODE + s.rd GLB_ID_GRADE % 2 ^ 4 * 2 ^ 32 + s.rd GLB_ID_REV % 2 ^ 8 * 2 ^ 36 + s.rd GLB_SERIAL % 2 ^ 64 * 2 ^ 44
  else if n = 1 then Config.factoryMac % 2 ^ 48
  else if 240 ≤ n then 0
  else Config.calibration n % 2 ^ 144

/-- FLASH_CAL_READ, in BOOT and SERVICE only (R384). -/
def execFlashCalRead (id : Nat) (s : State) : Result :=
  .next (s.runCmd id 0x8006 fun r s =>
    if s.mode = modeBoot ∨ s.mode = modeService then
      (.ok, s.hostWrite (recField r 16 8) ((List.range 256).flatMap fun n => bytesOf 18 (s.calibrationWord n)))
    else (.notInMode, s))

/-- RECORD_SECTOR_ERASE_DONE (R382). -/
def execRecordSectorEraseDone (sector : Nat) (s : State) : Result :=
  .next (
    match s.flashOp 7 with
    | none => s
    | some x =>
      if x.erase && s.flashRuns 7 && sector < 2 && x.sector == 1006 + sector then
        ((s.sectorErased 7 x.sector true).flashEnd 7).post 0x8008 0x808 0 sector
      else s)

/-! ### Swap records (R379) -/

/-- The swap record in a code word: SEQ and BLOCK. R362 keeps the records of an unsettled sector, but for those of one in
PROGRAM_INCOMPLETE, out. -/
def State.swapRecord (s : State) (found : Found) (n w : Nat) : Option (Nat × Nat) :=
  let key := codeKey 7 n w
  if s.wordSector key = 2 ∨ s.wordSector key = 3 ∨ (s.wordSector key = 4 ∧ s.rdAt FLC_SECTOR_CW_INDEX (key / 4096) = w) then none
  else
    match SMap.find s.flash.words key with
    | none => none
    | some x =>
      let seq := bitsOf x.bits 31 0
      let block := bitsOf x.bits 33 32
      if x.undefined || s.codePoisoned found key || seq == 0 || seq == 0xFFFFFFFF || (block != 1 && block != 2) ||
          bitsOf x.bits 143 128 != crc16of128 (x.bits % 2 ^ 128) then none
      else some (seq, block)

/-- The valid record with the highest SEQ. -/
def State.latestSwap (s : State) (found : Found) : Option (Nat × Nat) :=
  ([1006, 1007].flatMap fun n => (List.range 4096).filterMap (s.swapRecord found n)).foldl
    (fun (best : Option (Nat × Nat)) x =>
      match best with
      | none => some x
      | some y => if y.1 < x.1 then some x else best) none

/-- A swap record's code word. -/
def swapWord (seq block : Nat) : Nat :=
  let v := seq % 2 ^ 32 + block * 2 ^ 32
  v + crc16of128 v * 2 ^ 128

/-! ### The golden directory (R375) -/

/-- First code word of the directory log of context `k`, and its length. -/
def directoryKey (k n : Nat) : Nat := goldenPlace k 7 (538624 + n)
def directoryWords : Nat := 2048

/-- A directory word. -/
def directoryWord (mask seq : Nat) : Nat :=
  let v := mask % 2 ^ 16 + seq % 2 ^ 32 * 2 ^ 16
  v + crc16of128 v * 2 ^ 128

/-- Mask and sequence number of the directory word `n`, where it is valid. -/
def State.directoryEntry (s : State) (found : Found) (k n : Nat) : Option (Nat × Nat) :=
  if (SMap.find s.flash.words (directoryKey k n)).isNone then none
  else
    match s.settledWord found (directoryKey k n) with
    | none => none
    | some v =>
      if bitsOf v 143 128 = crc16of128 (v % 2 ^ 128) ∧ bitsOf v 127 48 = 0 then some (bitsOf v 15 0, bitsOf v 47 16) else none

/-- The last valid word of the log. -/
def State.directoryLast (s : State) (found : Found) (k : Nat) : Option (Nat × Nat) :=
  ((List.range directoryWords).filterMap (s.directoryEntry found k)).getLast?

/-- The next code word of the log that is not written. -/
def State.directoryNext (s : State) (k : Nat) : Option Nat :=
  (List.range directoryWords).find? fun n => (SMap.find s.flash.words (directoryKey k n)).isNone

/-- CTX_GOLDEN_VALID of context `k`. -/
def State.setGolden (s : State) (k mask : Nat) : State :=
  (List.range 16).foldl (fun (x : State) r => x.wrMask CTX_GOLDEN_VALID (4 * r + k) (bitOf mask r == 1)) s

/-- The golden bits of context `k` as a mask of regions. -/
def State.goldenMask (s : State) (k : Nat) : Nat :=
  ((List.range 16).map fun r => if s.goldenValid r k then 2 ^ r else 0).sum

/-- A word appended to the log of context `k`; in the log's last code word it is a mask of 0x0000. -/
def State.directoryAppend (s : State) (k mask : Nat) : State :=
  match s.directoryNext k with
  | none => s
  | some n =>
    let m := if n + 1 = directoryWords then 0 else mask
    let seq := match s.directoryLast {} k with
      | some x => x.2 + 1
      | none => 1
    let key := directoryKey k n
    ((s.putCode key { bits := directoryWord m seq }).wrAt FLC_SECTOR_STATE (key / 4096)
      (max 1 (s.rdAt FLC_SECTOR_STATE (key / 4096)))).setGolden k m

/-- A load wrote the pairs of `mask` of context `k` (12 R328): their golden bits are cleared, by a new directory word. -/
def State.goldenClear (s : State) (k mask : Nat) : State :=
  let old := s.goldenMask k
  let new := ((List.range 16).map fun r => if bitOf old r = 1 ∧ bitOf mask r = 0 then 2 ^ r else 0).sum
  if new = old then s else s.directoryAppend k new

end Sys2Proof.Machine
end

