-- ==== Sys2Proof/Machine/StreamOps.lean ====
section
/-! DEFINITION. Configuration streams (11): the byte format, the packets, the rules that the checks of a load apply. -/

namespace Sys2Proof.Machine

open Sys2Proof

/-! ### The source of a stream (R307, R308) -/

/-- First word of the staging partition (05 R118). -/
def stageBase : Nat := 0x0280_0000

/-- A byte of the source, and whether it is good: 8 bytes to a staging word, 18 to a flash code word. -/
def State.sourceByte (s : State) (l : LoadRun) (i : Nat) : Nat × Bool :=
  if l.fromFlash then
    match s.viewCode l.found (codeKey l.bank l.sector (i / 18)) with
    | some v => (v / 256 ^ (i % 18) % 256, true)
    | none => (0, false)
  else
    let w := s.viewWord l.found (stageBase + i / 8)
    (w.data / 256 ^ (i % 8) % 256, !w.poison)

/-- The load reads its staged words, or its code words, with what each read finds (05 R123; 13 R357). -/
def State.readStaged (s : State) (l : LoadRun) : State :=
  if l.fromFlash then
    s.senseCodes l.found fun key =>
      decide (codeKey l.bank l.sector 0 ≤ key) && decide (key < codeKey l.bank l.sector 0 + ceilDiv (s.rd CFG_STAGE_LEN) 18)
  else s.senseWords l.found ((List.range (ceilDiv (s.rd CFG_STAGE_LEN) 8)).map fun i => stageBase + i)

/-- `n` bytes of the source from byte `a` on. -/
def State.sourceBytes (s : State) (l : LoadRun) (a n : Nat) : List Nat := (List.range n).map fun k => (s.sourceByte l (a + k)).1

/-- A field of the header. -/
def State.sourceField (s : State) (l : LoadRun) (a n : Nat) : Nat := ofBytes (s.sourceBytes l a n)

/-- The first poisoned byte among `n` from byte `a` on. -/
def State.sourcePoison (s : State) (l : LoadRun) (a n : Nat) : Option Nat :=
  (List.range n).findSome? fun k => if (s.sourceByte l (a + k)).2 then none else some (a + k)

/-! ### Steps 1 to 6 of R310 -/

/-- A failed check: status, DETAIL, byte offset (R322). -/
structure StreamFailure where
  status : Nat
  detail : Nat := 0
  offset : Nat := 0xFFFFFFFF
  deriving DecidableEq, Repr

/-- CLAIM_CNT, HDR_LEN, TOTAL_LEN (R288, R289). -/
def State.claimCnt (s : State) (l : LoadRun) : Nat := s.sourceField l 6 2
def State.hdrLen (s : State) (l : LoadRun) : Nat := 48 + 4 * s.claimCnt l
def State.totalLen (s : State) (l : LoadRun) : Nat := s.sourceField l 12 4

/-- Step 1. A DECL_PEAK outside 1 to 245,000 is refused here (DEDUCED, log 31: R310 names no step for it). -/
def State.headerFailure (s : State) (l : LoadRun) : Option StreamFailure :=
  if s.sourceField l 0 4 ≠ 0x5358544F then some { status := 0x20, offset := 0 }
  else if s.sourceField l 4 2 ≠ 1 then some { status := 0x20, offset := 4 }
  else
    match ([30, 31] ++ (List.range 8).map (40 + ·)).find? fun a => (s.sourceByte l a).1 != 0 with
    | some a => some { status := 0x20, offset := a }
    | none =>
      if 32 ≤ (s.sourceByte l 28).1 then some { status := 0x20, offset := 28 }
      else if 1024 < s.claimCnt l then some { status := 0x20, offset := 6 }
      else if s.sourceField l 32 4 = 0 ∨ 245000 < s.sourceField l 32 4 then some { status := 0x20, offset := 32 }
      else none

/-- Sectors a flash stream occupies from its first: past the bank's end, or one that is neither CLEAN nor WRITTEN. -/
def State.sectorsBad (s : State) (l : LoadRun) : Bool :=
  let n := ceilDiv (s.totalLen l) 73728
  decide (1536 < l.sector + n) || (List.range n).any fun k => !s.sectorSettled l.bank (l.sector + k)

/-- Step 3. -/
def State.lengthFailure (s : State) (l : LoadRun) : Option StreamFailure :=
  let t := s.totalLen l
  if t % 4 ≠ 0 ∨ t < s.hdrLen l + 20 ∨ 268435456 < t then some { status := 0x22, detail := 1 * 2 ^ 28, offset := 12 }
  else if !l.fromFlash && decide (s.rd CFG_STAGE_LEN < t) then some { status := 0x22, detail := 2 * 2 ^ 28, offset := 12 }
  else if l.fromFlash && s.sectorsBad l then some { status := 0x22, detail := 3 * 2 ^ 28, offset := 12 }
  else none

/-- The published default key (R291). -/
def defaultKey : Nat := ofBytes (List.range 32)

/-- The slot holds a key. -/
def State.slotKeyed (s : State) (k : Nat) : Bool := s.rd LCS_KEYS / 4 ^ k % 4 == 1

/-- The key that a KEY_SLOT names in the effective life-cycle state (R291), or the status of the refusal. -/
def State.keyFor (s : State) (slot : Nat) : Nat ⊕ Nat :=
  let st := s.rd LCS_STATE_STATE
  if st = 6 then .inr 0x06
  else if slot = 0xF ∧ (st = 1 ∨ st = 2 ∨ st = 3 ∨ st = 5) then .inl defaultKey
  else if slot < 4 ∧ (st = 3 ∨ st = 4 ∨ st = 0xF) ∧ s.slotKeyed slot then .inl ((SMap.read s.life.slots {} slot).key)
  else .inr 0x24

/-- Step 6: poison first, then the tag. -/
def State.tagFailure (s : State) (l : LoadRun) (key : Nat) : Option StreamFailure :=
  let t := s.totalLen l
  let h := s.hdrLen l
  match s.sourcePoison l 0 t with
  | some a => some { status := 0x26, offset := a }
  | none =>
    let iv := s.sourceField l 16 12
    let tag :=
      if bitOf (s.sourceByte l 28).1 4 = 1 then Config.gcmTag key iv (s.sourceBytes l 0 h) (s.sourceBytes l h (t - 16 - h))
      else Config.gcmTag key iv (s.sourceBytes l 0 (t - 16)) []
    if tag.toNat = s.sourceField l (t - 16) 16 then none else some { status := 0x25, offset := t - 16 }

/-- The first failure of steps 1 to 6. -/
def State.trustFailure (s : State) (l : LoadRun) : Option StreamFailure :=
  match s.headerFailure l with
  | some x => some x
  | none =>
    if s.sourceField l 8 4 ≠ s.rd GLB_IDCODE then some { status := 0x21, offset := 8 }
    else
      match s.lengthFailure l with
      | some x => some x
      | none =>
        if (s.sourceByte l 29).1 ≠ flag l.background then some { status := 0x23, offset := 29 }
        else
          match s.keyFor ((s.sourceByte l 28).1 % 16) with
          | .inr st => some { status := st, offset := 28 }
          | .inl key => s.tagFailure l key

/-- 32-bit words of a byte sequence. -/
def wordsOf (bs : List Nat) : List Nat := (List.range (bs.length / 4)).map fun k => ofBytes ((bs.drop (4 * k)).take 4)

/-- The words of the packet area in clear. -/
def State.packetWordsOf (s : State) (l : LoadRun) : List Nat :=
  let h := s.hdrLen l
  let bs := s.sourceBytes l h (s.totalLen l - 16 - h)
  wordsOf (
    if bitOf (s.sourceByte l 28).1 4 = 1 then
      match s.keyFor ((s.sourceByte l 28).1 % 16) with
      | .inl key => Config.gcmDecrypt key (s.sourceField l 16 12) bs
      | .inr _ => bs
    else bs)

/-! ### Packets, step 7 (R293 to R306) -/

/-- What the frame address checks look at, as it stood when the checks started (R298). -/
structure ParseEnv where
  background : Bool
  active : Nat
  parked : Nat
  retired : Nat
  deriving DecidableEq, Repr

/-- An image so far, and the first failure. -/
structure Parsed where
  image : StreamImage
  failure : Option StreamFailure := none
  deriving DecidableEq, Repr

/-- The settings that FABSET may write (R302): the RO fields of 09 R260 and 10 R287. -/
def settingFields : List Field :=
  [FAB_GCLK_SRC, FAB_PLL_CTRL_EN, FAB_PLL_CTRL_MODE, FAB_PLL_CTRL_GRID, FAB_PLL_CTRL_REF, FAB_PLL_MN_M, FAB_PLL_MN_N, FAB_PLL_K,
   FAB_PLL_DIV_D3, FAB_PLL_DIV_D2, FAB_PLL_DIV_D1, FAB_PLL_DIV_D0, FAB_REGION_CLK_RCLK3, FAB_REGION_CLK_RCLK2,
   FAB_REGION_CLK_RCLK1, FAB_REGION_CLK_RCLK0, FAB_REGION_CTRL_THROTTLEABLE, FAB_REGION_CTRL_THR_DIV,
   FAB_REGION_CTRL_TURN_CLK, FAB_REGION_FMAX1, FAB_REGION_FMAX0, FAB_REGION_FMAX3, FAB_REGION_FMAX2, PF_CFG_BIND, PF_CFG_MODE,
   PF_CFG_WIDTH, PF_CFG_AF_LEVEL, PF_CFG_TARGET, DP_CFG_BIND, DP_CFG_TARGET]

/-- First byte address of the FAB block. -/
def fabBase : Nat := 0x400000

/-- The settings in the register at a FAB offset, with their instance. -/
def settingsAt (off : Nat) : List (Field × Nat) :=
  settingFields.filterMap fun f =>
    if f.addr ≤ fabBase + off ∧ f.stride * ((fabBase + off - f.addr) / f.stride) + f.addr = fabBase + off ∧
        (fabBase + off - f.addr) / f.stride < f.count then some (f, (fabBase + off - f.addr) / f.stride)
    else none

/-- The bits of a register that its settings fill. -/
def settingMask (off : Nat) : Nat := ((settingsAt off).map fun p => (2 ^ p.1.width - 1) * 2 ^ p.1.lo).sum

/-- The value of the settings of a register now. -/
def State.settingWord (s : State) (off : Nat) : Nat := ((settingsAt off).map fun p => s.rdAt p.1 p.2 * 2 ^ p.1.lo).sum

/-- A register's settings written. -/
def State.putSetting (s : State) (p : Nat × Nat) : State :=
  (settingsAt p.1).foldl (fun (x : State) q => x.wrAt q.1 q.2 (bitsOf p.2 (q.1.lo + q.1.width - 1) q.1.lo)) s

/-- Pairs of FABSET as a list; the byte offset of the first one that is refused. -/
def fabPairs (off : Nat) (ws : List Nat) : List (Nat × Nat) × Option Nat :=
  match ws with
  | o :: v :: r =>
    let k := o % 2 ^ 16
    if (settingsAt k).isEmpty || v &&& settingMask k != v then ([], some off)
    else
      let rest := fabPairs (off + 8) r
      ((k, v) :: rest.1, rest.2)
  | _ => ([], none)

/-- Bits of a frame from its 54 words. -/
def frameBitsOf (ws : List Nat) : Nat := (ws.take 54).foldr (fun w x => w % 2 ^ 32 + 2 ^ 32 * x) 0

/-- Why a frame write is refused (R298); `park` are the regions that the stream's PARK names. -/
def frameRefusal (e : ParseEnv) (park mask far : Nat) : Option Nat :=
  let r := farRegion far
  if !farValid far then some 1
  else if bitOf mask r = 0 then some 2
  else if e.background ∧ bitOf e.retired r = 1 then some 4
  else if e.background ∧ bitsOf e.active (2 * r + 1) (2 * r) = farContext far ∧ bitOf e.parked r = 0 ∧ bitOf park r = 0 then some 3
  else none

/-- Frames of an FDI packet. -/
def fdiFrames (e : ParseEnv) (park off : Nat) (ws : List Nat) (n : Nat) (m : StreamImage) : Parsed :=
  match n with
  | 0 => { image := m }
  | k + 1 =>
    match frameRefusal e park m.mask m.far with
    | some why => { image := m, failure := some { status := 0x28, detail := why * 2 ^ 28 + m.far, offset := off } }
    | none =>
      let x : PlaneFrame := { bits := frameBitsOf ws, check := ws.getD 54 0 % 2 ^ 16 }
      if !goodFrame (bitsOf m.far 18 8) (bitsOf m.far 7 0) x then
        { image := m, failure := some { status := 0x29, detail := m.far, offset := off } }
      else
        fdiFrames e park (off + 220) (ws.drop 55) k
          { m with frames := SMap.put m.frames m.far x, frameCount := m.frameCount + 1, far := farNext m.far }

/-- Rows of a MEMLD packet as 72-bit values. -/
def memldRows (ws : List Nat) (n : Nat) : List Nat :=
  (List.range n).map fun k => ws.getD (3 * k) 0 + ws.getD (3 * k + 1) 0 * 2 ^ 32 + ws.getD (3 * k + 2) 0 % 2 ^ 8 * 2 ^ 64

/-- Rows with the check bits the port computes (R305). -/
def eccRows (rows : List Nat) : List Nat := rows.map fun v => v % 2 ^ 64 + Config.tileCheck (v % 2 ^ 64) % 2 ^ 8 * 2 ^ 64

/-- CFG_BAD_PACKET. -/
def badPacket (off : Nat) : Option StreamFailure := some { status := 0x27, offset := off }

/-- WORD_CNT is one that the register accepts (R294). -/
def packetCountOk (reg n : Nat) : Bool :=
  match reg with
  | 0x01 => n == 1
  | 0x02 => n % 55 == 0 && decide (55 ≤ n)
  | 0x03 => n == 1
  | 0x04 => n == 1
  | 0x05 => n == 1
  | 0x06 => n == 1
  | 0x07 => decide (1 ≤ n) && decide (n ≤ 256)
  | 0x08 => n == 16
  | 0x09 => n % 2 == 0 && decide (2 ≤ n) && decide (n ≤ 4096)
  | 0x0A => n % 3 == 1 && decide (4 ≤ n) && decide (n ≤ 3073)
  | _ => false

/-- A CMD packet (R306). A CRC_CHECK without a CRC since the last one compares the bytes up to its own header (DEDUCED,
log 31). -/
def cmdPacket (e : ParseEnv) (off v : Nat) (m : StreamImage) : Parsed :=
  let crc := m.crcSnap.getD (m.crcRun ^^^ 0xFFFFFFFF)
  match v % 16 with
  | 1 =>
    if crc = m.crcWant then { image := { m with crcSnap := none } }
    else { image := m, failure := some { status := 0x2A, offset := off } }
  | 2 => { image := { m with done := true } }
  | 3 => { image := { m with done := true, turn := some (m.mask, bitOf v 4 == 1) } }
  | 4 => if m.park.isSome then { image := m, failure := badPacket off } else { image := { m with park := some m.mask } }
  | 5 =>
    if m.unpark.isSome || !e.background then { image := m, failure := badPacket off }
    else { image := { m with unpark := some m.mask } }
  | _ => { image := m, failure := badPacket off }

/-- A MEMLD packet (R305). -/
def memldPacket (off : Nat) (ws : List Nat) (n : Nat) (m : StreamImage) : Parsed :=
  let v := ws.getD 0 0
  let region := bitsOf v 31 28
  let tile := bitsOf v 27 20
  let row := v % 2 ^ 10
  let k := n / 3
  let rows := memldRows (ws.drop 1) k
  if 1024 < row + k ∨ 239 < tile ∨ bitOf m.mask region = 0 then { image := m, failure := badPacket off }
  else
    { image := { m with memory := m.memory ++
        [({ region := region, tile := tile, row := row, data := if bitOf v 19 = 1 then eccRows rows else rows } : MemLoad)] } }

/-- A WRITE packet to register `reg` with `n` payload words `ws`; `off` is the byte offset of its header. -/
def writePacket (e : ParseEnv) (park off reg n : Nat) (ws : List Nat) (m : StreamImage) : Parsed :=
  let v := ws.getD 0 0
  if !packetCountOk reg n then { image := m, failure := badPacket off }
  else
    match reg with
    | 0x01 => { image := { m with far := v % 2 ^ 21 } }
    | 0x02 => fdiFrames e park (off + 4) ws (n / 55) m
    | 0x03 => { image := { m with ctxSel := v % 4 } }
    | 0x04 => { image := { m with mask := v % 2 ^ 16, masks := m.masks ||| v % 2 ^ 16 } }
    | 0x05 => cmdPacket e off v m
    | 0x06 => { image := { m with crcWant := v, crcSnap := some (m.crcRun ^^^ 0xFFFFFFFF) } }
    | 0x07 => { image := { m with bufs := m.bufs ++ ws.map (· % 256) } }
    | 0x08 => { image := { m with power := ws } }
    | 0x09 =>
      let p := fabPairs (off + 4) ws
      match p.2 with
      | some a => { image := m, failure := badPacket a }
      | none => { image := { m with sets := m.sets ++ p.1 } }
    | _ => memldPacket off ws n m

/-- The running CRC after a packet; a CRC_CHECK restarts it. -/
def crcAfter (h : Nat) (payload : List Nat) (m : StreamImage) : StreamImage :=
  if bitsOf h 31 20 = 0x085 ∧ payload.getD 0 0 % 16 = 1 then { m with crcRun := 0xFFFFFFFF }
  else { m with crcRun := crc32Run m.crcRun ((h :: payload).flatMap (bytesOf 4)) }

/-- The packets in stream order. `off` is the byte offset of the next header; `fuel` bounds the packets. -/
def parsePackets (e : ParseEnv) (park fuel off : Nat) (ws : List Nat) (m : StreamImage) : Parsed :=
  match fuel, ws with
  | 0, _ => { image := m }
  | _, [] => if m.done then { image := m } else { image := m, failure := badPacket 0xFFFFFFFF }
  | k + 1, h :: r =>
    let n := h % 2 ^ 20
    let op := bitsOf h 31 27
    if m.done || decide (1 < op) || decide (r.length < n) then { image := m, failure := badPacket off }
    else
      let payload := r.take n
      let next := off + 4 + 4 * n
      if op = 0 then parsePackets e park k next (r.drop n) (crcAfter h payload m)
      else
        let p := writePacket e park off (bitsOf h 26 20) n payload m
        match p.failure with
        | some _ => p
        | none => parsePackets e park k next (r.drop n) (crcAfter h payload p.image)

/-- The regions that the stream's first PARK names. -/
def parkNamed (fuel mask : Nat) (ws : List Nat) : Nat :=
  match fuel, ws with
  | 0, _ => 0
  | _, [] => 0
  | k + 1, h :: r =>
    let n := h % 2 ^ 20
    if bitsOf h 31 20 = 0x085 ∧ r.getD 0 0 % 16 = 4 then mask
    else parkNamed k (if bitsOf h 31 20 = 0x084 then r.getD 0 0 % 2 ^ 16 else mask) (r.drop n)

/-- The packets of a list of words read into an image that starts as `m`. -/
def parseWords (e : ParseEnv) (off : Nat) (ws : List Nat) (m : StreamImage) : Parsed :=
  parsePackets e (parkNamed ws.length 0 ws) (ws.length + 1) off ws m

/-- The image of a load, from its header and its packets. -/
def State.parseLoad (s : State) (l : LoadRun) : Parsed :=
  parseWords { background := l.background, active := l.active, parked := l.parked, retired := l.retired } (s.hdrLen l)
    (s.packetWordsOf l) {
      kind := flag l.background
      declPeak := s.sourceField l 32 4
      buildId := s.sourceField l 36 4
      claims := (List.range (s.claimCnt l)).map fun k => s.sourceField l (48 + 4 * k) 4 }

/-! ### Frames of an image -/

/-- The pairs an image writes, as a mask of bits 4r + k. -/
def StreamImage.pairs (m : StreamImage) : Nat :=
  m.frames.foldl (fun x (e : Nat × PlaneFrame) => x ||| 2 ^ (4 * farRegion e.1 + farContext e.1)) 0

/-- The contexts of a mask of pairs, as a mask; the regions of it. -/
def pairContexts (p : Nat) : Nat :=
  ((List.range 4).map fun k => if (List.range 16).any fun r => bitOf p (4 * r + k) == 1 then 2 ^ k else 0).sum
def pairRegions (p : Nat) : Nat :=
  ((List.range 16).map fun r => if (List.range 4).any fun k => bitOf p (4 * r + k) == 1 then 2 ^ r else 0).sum

/-- Regions whose pair with context `k` is in a mask of pairs. -/
def regionsWith (p k : Nat) : Nat := ((List.range 16).map fun r => if bitOf p (4 * r + k) = 1 then 2 ^ r else 0).sum

/-- Bits of a frame in the final state of its context (R310 step 10). -/
def State.finalBits (s : State) (m : StreamImage) (k c f : Nat) : Nat :=
  match SMap.find m.frames (k * 2 ^ 19 + c * 2 ^ 8 + f) with
  | some x => x.bits
  | none => if m.kind = 1 then (s.planeFrame k c f).bits else 0

/-- Bits `hi` to `lo` of the frame group that starts at frame `f`. -/
def State.finalGroup (s : State) (m : StreamImage) (k c f hi lo : Nat) : Nat :=
  bitsOf (s.finalBits m k c (f + lo / 1728)) (hi % 1728) (lo % 1728)

/-! ### Step 9: frame fields (R239, R240, R299, R301) -/

/-- Port slots that the clock/service column at offset `j` of its region holds (09 R234). -/
def portSlots (j : Nat) : Nat := if j = 0 then 6 else 5

/-- Reserved bits of drive taps that start at group bit `base` (R242). -/
def tapReserved (base : Nat) : List (Nat × Nat) := (List.range 128).map fun t => (base + 16 * t + 9, base + 16 * t + 15)

/-- Reserved bits of outbound or inbound boundary cells. -/
def cellReserved : List (Nat × Nat) := ((List.range 256).map fun i => (16 * i + 14, 16 * i + 15)) ++ [(4096, 5183)]

/-- A frame's place in its group, and the reserved bit ranges of the group, for frame `f` of logical column `c`. -/
def reservedOf (c f : Nat) : Nat × List (Nat × Nat) :=
  match columnType c with
  | 0 => (f % 4, [(1542, 1599), (4720, 4863)] ++ ((List.range 16).map fun n => (96 * n + 87, 96 * n + 95)) ++ tapReserved 4864)
  | 1 => if f < 160 then (f % 8, [(13, 63), (2320, 13823)]) else (f % 2, tapReserved 0 ++ [(2048, 3455)])
  | 2 =>
    (f % 4, if f / 4 % 2 = 0 then [(16, 63), (1420, 2047)] ++ tapReserved 2048 ++ [(4096, 6911)] else [(16, 63), (1420, 6911)])
  | _ =>
    if f < 6 then (f % 3, cellReserved)
    else if f < 30 then
      ((f - 6) % 4, if (f - 6) / 4 < portSlots (c % 96) then [(6, 63), (1024, 6911)] else [(0, 6911)])
    else (0, [(0, 1727)])

/-- A range of group bits has a 1 in frame `m` of the group. -/
def rangeHit (m bits : Nat) (r : Nat × Nat) : Bool :=
  let a := max r.1 (1728 * m)
  let b := min r.2 (1728 * m + 1727)
  decide (a ≤ b) && bitsOf bits (b - 1728 * m) (a - 1728 * m) != 0

/-- A field of the frame holds a value that R301 refuses. -/
def fieldBad (c f bits : Nat) : Bool :=
  match columnType c with
  | 0 => f % 4 == 0 && (List.range 16).any fun n => bitOf bits (96 * n + 65) == 1 && bitOf bits (96 * n + 64) == 0
  | 1 => decide (f < 160) && f % 8 == 0 && (decide (6 ≤ bits % 8) || (bitOf bits 3 == 1 && bits % 8 != 0))
  | 2 =>
    f % 4 == 0 && (bitsOf bits 1 0 == 3 || bitsOf bits 3 2 == 3 || (bitsOf bits 1 0 == 1 && decide (43 < bitsOf bits 9 4)))
  | _ => decide (f < 3) && (List.range 108).any fun i => bitsOf bits (16 * i + 13) (16 * i + 12) == 3

/-- A written frame breaks R301. -/
def frameBad (far : Nat) (x : PlaneFrame) : Bool :=
  let c := bitsOf far 18 8
  let f := bitsOf far 7 0
  let g := reservedOf c f
  g.2.any (rangeHit g.1 x.bits) || fieldBad c f x.bits

/-- Step 9. -/
def fieldFailure (m : StreamImage) : Option StreamFailure :=
  (m.frames.find? fun (e : Nat × PlaneFrame) => frameBad e.1 e.2).map fun e => { status := 0x2D, detail := 8 * 2 ^ 28 + e.1 }

/-! ### Step 10: express segments (R242 to R244) -/

/-- Segments that the enabled drive taps of a column reach. -/
def State.columnDrives (s : State) (m : StreamImage) (k c : Nat) : List Nat :=
  (tapSites c).flatMap fun p => (List.range 128).filterMap fun t =>
    let b := p.2.2 + 16 * t + 8
    if s.finalGroup m k c p.2.1 b b = 1 then some (segmentOf c p.1 t) else none

/-- The contexts of a mask, ascending. -/
def contextsOf (mask : Nat) : List Nat := (List.range 4).filter fun k => bitOf mask k == 1

/-- The lowest conflicting segment of context `k` over all its regions: no segment crosses a region edge (R242). -/
def State.contextConflict (s : State) (m : StreamImage) (k : Nat) : Option Nat :=
  ((List.range 16).filterMap fun r =>
    if bitOf (regionsWith m.pairs k) r = 1 then
      let ds := (List.range 96).flatMap fun j => s.columnDrives m k (96 * r + j)
      (ds.filter fun x => decide (1 < ds.count x)).foldl (fun (best : Option Nat) x => some (min x (best.getD x))) none
    else none).foldl (fun (best : Option Nat) x => some (min x (best.getD x))) none

/-- Step 10. -/
def State.driverFailure (s : State) (m : StreamImage) : Option StreamFailure :=
  (contextsOf (pairContexts m.pairs)).findSome? fun k =>
    (s.contextConflict m k).map fun x => { status := 0x2C, detail := x + k * 2 ^ 20 }

/-! ### Step 8: claims (R290, R303, R311) -/

def claimKind (e : Nat) : Nat := bitsOf e 31 28
def claimUse (e : Nat) : Nat := bitsOf e 27 24
def claimIndex (e : Nat) : Nat := bitsOf e 7 0

/-- KIND, USE and INDEX are ones of R290. -/
def claimValid (e : Nat) : Bool :=
  match claimKind e with
  | 1 => decide (claimIndex e < 192) && (decide (claimUse e ≤ 1) || (claimUse e == 2 && decide (claimIndex e < 8)))
  | 2 => decide (claimIndex e < 128) && claimUse e == 0
  | 3 => decide (1 ≤ claimUse e) && decide (claimUse e ≤ 3)
  | 4 => decide (1 ≤ claimUse e) && decide (claimUse e ≤ 3)
  | _ => false

/-- Two entries claim one resource. -/
def sameClaim (a b : Nat) : Bool := claimKind a == claimKind b && claimIndex a == claimIndex b

/-- A table claims the resource with kind `k` and number `i`. -/
def claims (table : List Nat) (k i : Nat) : Bool := table.any fun e => claimKind e == k && claimIndex e == i

/-- The first refused entry's index, given the entries before it. -/
def State.claimBad (s : State) (before rest : List Nat) : Option Nat :=
  match rest with
  | [] => none
  | e :: r =>
    if !claimValid e || before.any (sameClaim e) || (claimKind e == 1 && s.landHostHeld (claimIndex e)) then some before.length
    else State.claimBad s (before ++ [e]) r

/-- Step 8. DETAIL is the number of the entry, or the buffer (DEDUCED, log 31). -/
def State.claimFailure (s : State) (m : StreamImage) : Option StreamFailure :=
  match s.claimBad [] m.claims with
  | some i => some { status := 0x2B, detail := i, offset := 48 + 4 * i }
  | none => (m.bufs.find? fun b => !s.bufValid b).map fun b => { status := 0x2B, detail := b }

/-! ### Step 11: clock rules (09 R246, R247, R249, R250, R252) -/

/-- The settings as a load leaves them: a full load returns those it does not carry to their reset values (DEDUCED,
log 30). -/
def State.settled (s : State) (m : StreamImage) : State :=
  let s1 := if m.kind = 0 then
      settingFields.foldl (fun (x : State) f => (List.range f.count).foldl (fun (y : State) i => y.wrAt f i (f.reset i)) x) s
    else s
  m.sets.foldl (fun (x : State) p => x.putSetting p) s1

/-- The VCO lies in 1,600 MHz to 3,200 MHz; unknown for a reference whose frequency no register gives. -/
def State.vcoOk (s : State) (p : Nat) : Bool :=
  match s.pllVco p with
  | some f => f.2 != 0 && decide (1600000 * f.2 ≤ f.1) && decide (f.1 ≤ 3200000 * f.2)
  | none => true

/-- The offset of a PLL register that breaks R249 or R250. -/
def State.pllBad (s : State) (p : Nat) : Option Nat :=
  let o := 0x200 + 0x20 * p
  let ref := s.rdAt FAB_PLL_CTRL_REF p
  let n := s.rdAt FAB_PLL_MN_N p
  let divs := (List.range 4).map (s.pllDiv p)
  if !s.isSetAt FAB_PLL_CTRL_EN p then none
  else if 2 < s.rdAt FAB_PLL_CTRL_MODE p then some o
  else if s.rdAt FAB_PLL_CTRL_MODE p = 0 then
    if 0x7F < ref ∨ (0x57 < ref ∧ ref < 0x60) then some o
    else if s.rdAt FAB_PLL_MN_M p = 0 ∨ n = 0 ∨ (ref = 0 ∧ (n < 4 ∨ 100 < n)) then some (o + 4)
    else if divs.any fun d => decide (d < 2) then some (o + 12)
    else if s.vcoOk p then none
    else some (o + 4)
  else if s.rdAt FAB_PLL_K p = 0 then some (o + 8)
  else if (divs.any fun d => decide (d < 2)) || !s.vcoOk p ||
      divs.any fun d => s.rdAt FAB_PLL_K p * s.pllDiv p 0 % d != 0 then some (o + 12)
  else none

/-- A land or lane source is claimed (R247). -/
def sourceClaimed (table : List Nat) (x : Nat) : Bool :=
  if x < 0x58 then claims table 1 (32 * ((x - 0x40) / 4) + 8 + (x - 0x40) % 4)
  else 0x60 ≤ x && x ≤ 0x7F && (List.range 4).any fun k => claims table 2 (4 * (x - 0x60) + k)

/-- Row 2 of R252: nets, then PLLs. -/
def State.sourceBad (s : State) (table : List Nat) : Option Nat :=
  match (List.range 48).find? fun n =>
      let x := s.rdAt FAB_GCLK_SRC n
      decide (0x40 ≤ x) && x != 0xFF && !sourceClaimed table x with
  | some n => some (0x100 + 4 * n)
  | none =>
    ((List.range 16).find? fun p =>
      let x := s.rdAt FAB_PLL_CTRL_REF p
      s.isSetAt FAB_PLL_CTRL_EN p && s.rdAt FAB_PLL_CTRL_MODE p == 0 && x != 0 &&
        (decide (x < 0x40) || !sourceClaimed table x)).map fun p => 0x200 + 0x20 * p

/-- Offset of the register that holds FMAX of region clock `i`. -/
def fmaxOffset (r i : Nat) : Nat := 0x408 + 0x40 * r + 4 * (i / 2)

/-- Column and first frame of the slot of port `p` (09 R234, R299). -/
def slotPlace (p : Nat) : Nat × Nat :=
  let j := p % 16
  let c := 96 * (p / 16)
  if j < 6 then (c, 6 + 4 * j) else if j < 11 then (c + 32, 6 + 4 * (j - 6)) else (c + 64, 6 + 4 * (j - 11))

/-- Region clocks that the bound ports of region `r` select, in the contexts the stream writes. -/
def State.portClocks (s : State) (t : State) (m : StreamImage) (r : Nat) : List Nat :=
  (List.range 16).flatMap fun j => (contextsOf (pairContexts m.pairs)).flatMap fun k =>
    let p := 16 * r + j
    let x := slotPlace p
    (if t.rdAt PF_CFG_BIND p = 0 then [] else [s.finalGroup m k x.1 x.2 1 0]) ++
      (if t.rdAt DP_CFG_BIND p = 0 then [] else [s.finalGroup m k x.1 x.2 4 3])

/-- Row 3 of R252: the limits of R246. -/
def State.limitBad (s : State) (t : State) (m : StreamImage) : Option Nat :=
  match (List.range 16).find? fun p => t.isSetAt FAB_PLL_CTRL_EN p && (List.range 4).any fun o => t.pllAbove p o 800 with
  | some p => some (0x20C + 0x20 * p)
  | none =>
    (List.range 16).findSome? fun r =>
      let ports := if bitOf m.masks r = 1 then s.portClocks t m r else []
      ((List.range 4).find? fun i =>
        decide (800 < t.regionFmax r i) || (decide (500 < t.regionFmax r i) && ports.contains i)).map (fmaxOffset r)

/-- Row 4 of R252: a source above the FMAX of its region clock. -/
def State.fmaxBad (t : State) : Option Nat :=
  (List.range 16).findSome? fun r =>
    ((List.range 4).find? fun i =>
      match t.regionSource r i with
      | some x => decide (x < 0x40) && t.isSetAt FAB_PLL_CTRL_EN (x / 4) && t.pllAbove (x / 4) (x % 4) (t.regionFmax r i)
      | none => false).map (fmaxOffset r)

/-- Row 5 of R252: the turn clock of a configured region selects no global net. -/
def State.turnClkBad (t : State) (m : StreamImage) : Option Nat :=
  ((regionsOf m.masks).find? fun r => decide (47 < t.regionNet r (t.rdAt FAB_REGION_CTRL_TURN_CLK r))).map fun r => 0x404 + 0x40 * r

/-- The first clock rule broken, as the offset of its register. -/
def State.clockBad (s : State) (t : State) (m : StreamImage) (table : List Nat) : Option Nat :=
  ((List.range 16).findSome? t.pllBad).orElse fun _ =>
    (t.sourceBad table).orElse fun _ =>
      (s.limitBad t m).orElse fun _ => t.fmaxBad.orElse fun _ => t.turnClkBad m

/-! ### Step 11: the other rules -/

/-- The FAR of the first slice with CASC_EN whose slice below uses another clock (10 R271). -/
def State.cascadeBad (s : State) (m : StreamImage) : Option Nat :=
  (contextsOf (pairContexts m.pairs)).findSome? fun k =>
    (regionsOf (regionsWith m.pairs k)).findSome? fun r =>
      (columnsOf r 2).findSome? fun c =>
        ((List.range 31).find? fun i =>
          s.finalGroup m k c (4 * (i + 1)) 12 12 == 1 &&
            s.finalGroup m k c (4 * (i + 1)) 15 13 != s.finalGroup m k c (4 * i) 15 13).map fun i =>
              k * 2 ^ 19 + c * 2 ^ 8 + 4 * (i + 1)

/-- BIND, TARGET, claim kind and register offset of a port: pack FIFOs first. -/
def State.portBinding (t : State) (i : Nat) : Nat × Nat × Nat × Nat :=
  if i < 256 then (t.rdAt PF_CFG_BIND i, t.rdAt PF_CFG_TARGET i, 3, 0x9000 + 16 * i)
  else (t.rdAt DP_CFG_BIND (i - 256), t.rdAt DP_CFG_TARGET (i - 256), 4, 0xA000 + 16 * (i - 256))

/-- A binding that names no port claimed for that use (R274), or a lane that is not claimed (08 R213). -/
def State.bindingBad (t : State) (table : List Nat) : Option Nat :=
  (List.range 512).findSome? fun i =>
    let b := t.portBinding i
    if b.1 = 0 then none
    else if !(table.any fun e => claimKind e == b.2.2.1 && claimIndex e == i % 256 && claimUse e == b.1) ||
        (b.1 == 2 && !claims table 2 b.2.1) then some b.2.2.2
    else none

/-- A port with BIND 0x3 whose buffer is not claimed (R303). -/
def State.bufferBad (t : State) (bufs : List Nat) : Option Nat :=
  (List.range 512).findSome? fun i =>
    let b := t.portBinding i
    if b.1 = 3 ∧ !bufs.contains b.2.1 then some b.2.2.2 else none

/-- Two lists hold the same values. -/
def sameSet (a b : List Nat) : Bool := a.all b.contains && b.all a.contains

/-- What a background stream carries that differs from what is in force (R311, R314): the register's offset, 0 for the claim
table. -/
def State.backgroundBad (s : State) (m : StreamImage) : Option Nat :=
  match m.sets.find? fun p => p.2 != s.settingWord p.1 with
  | some p => some p.1
  | none =>
    if (!m.claims.isEmpty && !sameSet m.claims s.cfg.claims) || (!m.bufs.isEmpty && !sameSet m.bufs s.cfg.bufs) then some 0
    else none

/-- CFG_RULE with a reason. -/
def ruleFailure (reason detail : Nat) : StreamFailure := { status := 0x2D, detail := reason * 2 ^ 28 + detail }

/-- Step 11. `parked` are the regions parked when the checks started. -/
def State.ruleFailureOf (s : State) (m : StreamImage) (parked : Nat) : Option StreamFailure :=
  let t := s.settled m
  let table := if m.kind = 1 ∧ m.claims = [] then s.cfg.claims else m.claims
  let bufs := if m.kind = 1 ∧ m.bufs = [] then s.cfg.bufs else m.bufs
  ((s.clockBad t m table).map (ruleFailure 1)).orElse fun _ =>
    ((s.cascadeBad m).map (ruleFailure 3)).orElse fun _ =>
      ((t.bindingBad table).map (ruleFailure 2)).orElse fun _ =>
        ((t.bufferBad bufs).map (ruleFailure 7)).orElse fun _ =>
          if m.declPeak < m.power.sum then some (ruleFailure 6 0)
          else if m.kind = 0 then none
          else
            ((m.memory.find? fun x => bitOf (parked ||| m.park.getD 0) x.region == 0).map fun x => ruleFailure 5 x.region).orElse
              fun _ => (s.backgroundBad m).map (ruleFailure 4)

/-- Steps 8 to 12. -/
def State.checkFailure (s : State) (m : StreamImage) (parked : Nat) : Option StreamFailure :=
  (s.claimFailure m).orElse fun _ =>
    (fieldFailure m).orElse fun _ =>
      (s.driverFailure m).orElse fun _ =>
        (s.ruleFailureOf m parked).orElse fun _ =>
          if s.rd THM_BUDGET_BUDGET_MW < m.declPeak then some { status := 0x2E, detail := s.rd THM_BUDGET_BUDGET_MW } else none

end Sys2Proof.Machine
end

