-- ==== Sys2Proof/Machine/Streams.lean ====
section
/-! DEFINITION. Staging, loads, commits and their failures (11 R307 to R322), and entry to LOAD. -/

namespace Sys2Proof.Machine

/-! ### Staging (R307, R322) -/

/-- The staged bytes discarded: by the device, or by STREAM_DISCARD. -/
def State.discardStaging (s : State) (byDevice : Bool) : State :=
  if s.isSet CFG_STATUS_STAGED || !byDevice then
    ((s.wr CFG_STAGE_LEN 0).wr CFG_STATUS_STAGED 0).post 0x6004 0x600 1 (flag byDevice)
  else s

/-- Up to 8 bytes written to word `i` of the staging partition: only 8 bytes are a new whole word, and fewer leave the others and the
word's poison as they are (05 R125). -/
def State.stageWord (s : State) (i : Nat) (bs : List Nat) : State :=
  let a := stageBase + i
  let n := 256 ^ bs.length
  let old := s.storeWord a
  s.storePut a {
    data := ofBytes bs % n + old.data % 2 ^ 64 / n * n
    poison := old.poison && decide (bs.length < 8) }

/-- Bytes staged from word `i` on. -/
def State.stageBytes (fuel : Nat) (s : State) (i : Nat) (bs : List Nat) : State :=
  match fuel with
  | 0 => s
  | k + 1 => if bs.isEmpty then s else State.stageBytes k (s.stageWord i (bs.take 8)) (i + 1) (bs.drop 8)

/-- STREAM_STAGE. Before FAR_INIT its words stall (05 R139), and so does the command. -/
def execStreamStage (id : Nat) (s : State) : Result :=
  .next (if !s.storeInit true then s else s.runCmd id 0x6001 fun r s =>
    let off := recField r 16 4
    let n := recField r 20 4
    if off % 8 ≠ 0 then (.badParam 16, s)
    else if n % 4 ≠ 0 ∨ n < 4 ∨ 16777216 < n then (.badParam 20, s)
    else if 268435456 < off + n then (.badParam 16, s)
    else if s.cfg.load.isSome then (.busy, s)
    else
      let s1 := State.stageBytes n s (off / 8) (s.hostRead (recField r 8 8) n)
      (.ok, (s1.wr CFG_STAGE_LEN (max (s1.rd CFG_STAGE_LEN) (off + n))).wr CFG_STATUS_STAGED 1))

/-- STREAM_DISCARD. -/
def execStreamDiscard (id : Nat) (s : State) : Result :=
  .next (s.runCmd id 0x6003 fun _ s => if s.cfg.load.isSome then (.busy, s) else (.ok, s.discardStaging false))

/-- CFG_DISCARD_WRITE (R325): ignored while a load runs (R321). -/
def execCfgDiscardWrite (value : Nat) (s : State) : Result :=
  .next (if bitOf value 0 = 1 ∧ s.cfg.load.isNone then s.discardStaging false else s)

/-! ### Claims in force (18 R476) -/

/-- One claim installed. -/
def State.installClaim (s : State) (e : Nat) : State :=
  let i := claimIndex e
  match claimKind e with
  | 1 => s.claimLand i (claimUse e) 0
  | 2 => (s.wrAt LNE_LN_STATUS_CLAIMED i 1).laneSettle i
  | 3 => s.wrBit RES_PF_CLAIMED i true
  | _ => s.wrBit RES_DP_CLAIMED i true

/-- The claim table and the claimed buffers installed (R313 step 5). -/
def State.installClaims (s : State) (table bufs : List Nat) : State :=
  let s1 := table.foldl (fun (x : State) e => x.installClaim e) s
  bufs.foldl (fun (x : State) b => x.wrBit CFG_CLAIM_BUF b true) s1

/-- The electrical fields of the land in claim `e`, where the design owns it, as the stream gives them (08 R223): free values, for the
stream's format has no place for them (DESIGN CHOICE, log 153). -/
def State.designLand (s : State) (e : Nat) : State :=
  if claimKind e = 1 ∧ claimUse e = 0 then
    (s.putFields (claimIndex e)
      [LNE_GPIO_PULL, LNE_GPIO_DRIVE, LNE_GPIO_SLEW, LNE_GPIO_SCHMITT, LNE_GPIO_IO_STD, LNE_GPIO_TERM, LNE_GPIO_OVS]
      [s.freeK 0 2, s.freeK 1 2, s.freeK 2 1, s.freeK 3 1, s.freeK 4 2, s.freeK 5 1, s.freeK 6 1]).tookN 7
  else s

/-- The claims of a loaded design installed, with the electrical fields of its lands. -/
def State.installDesign (s : State) (table bufs : List Nat) : State :=
  table.foldl (fun (x : State) e => x.designLand e) (s.installClaims table bufs)

/-- The claims of the design released (R311): lands the host does not hold, lanes, ports, buffers. -/
def State.releaseClaims (s : State) : State :=
  let s1 := (List.range 192).foldl (fun (x : State) p => if x.landHostHeld p then x else x.releaseLand p) s
  let s2 := (List.range 128).foldl (fun (x : State) n =>
    if x.laneClaimed n then (x.wrAt LNE_LN_STATUS_CLAIMED n 0).laneSettle n else x) s1
  let s3 := (List.range 8).foldl (fun (x : State) m =>
    ((x.wrAt RES_PF_CLAIMED m 0).wrAt RES_DP_CLAIMED m 0).wrAt CFG_CLAIM_BUF m 0) s2
  { s3 with
    lanes := { s3.lanes with danceLevel := [] }
    dance := { s3.dance with pulses := [] } }

/-! ### A golden save that ends without its word (12 R328, 13 R375) -/

/-- The golden save ended. -/
def State.goldenStop (s : State) : State :=
  let s1 := { s with ctx := { s.ctx with golden := none } }.wr CTX_STATUS_GOLDEN_BUSY 0
  (List.range 8).foldl (fun (x : State) b =>
    match x.flashOp b with
    | some y => if y.golden then x.flashEnd b else x
    | none => x) s1

/-- The golden save fails with a status: its sectors stay ERASE_INCOMPLETE, its log empty (DEDUCED, log 32). -/
def State.goldenFail (s : State) (status : Nat) : State :=
  match s.ctx.golden with
  | none => s
  | some (id, k, _) =>
    ((s.goldenStop.wr CTX_ERR_GOLDEN_FAIL 1).post 0x7006 0x700 3 (k + 4)).complete id ⟨status, 0, 0⟩

/-! ### Entry to LOAD (R309, R311; 06 R169, 07 R180, 09 R254) -/

/-- Global set-reset held in every region, every region clock gated. -/
def State.holdAll (s : State) : State :=
  (List.range 16).foldl (fun (x : State) r =>
    ((((x.wrAt FAB_REGION_GSR_HELD r 1).wrAt FAB_REGION_CLK_RUN r 0).wrAt FAB_REGION_WAIT_LOCK r 0).wrAt FAB_REGION_WAIT_CLK r
      0).resetHard r) s

/-- The design leaves the device: contracts and tickets, flows, ports, requests of regions, capture, bonds, claims. -/
def State.dropDesign (s : State) : State :=
  let s1 := s.enabledFlows.foldl (fun (x : State) f => x.deviceDisable 3 f) s
  let s2 := (s1.dropAdmission).emptyPorts
  let s3 := (List.range 16).foldl (fun (x : State) r => x.refuseRequests 0x04 r) s2
  let s4 := if s3.capState = 1 then s3.captureCancel else s3
  let s5 := (List.range 16).foldl (fun (x : State) b =>
    if x.rdAt LNE_BOND_STATUS_STATE b = 0 then x else x.setBond b 0 0) s4
  let s6 := s5.releaseClaims
  { s6 with cfg := { s6.cfg with
      claims := []
      bufs := []
      regions := 0
      parkMask := 0 } }

/-- The device enters LOAD. -/
def State.enterLoad (s : State) : State := ((s.goldenFail 0x04).dropDesign).holdAll.setMode modeLoad

/-! ### The start of a load (R308, R309) -/

/-- The pairs a stream writes, as far as its packets can be read: the locks of R312 (DEDUCED, log 33: at dispatch). -/
def State.loadPairs (s : State) (l : LoadRun) : Nat := (s.parseLoad l).image.pairs

/-- Why a load is refused at dispatch. -/
def State.loadRefusal (s : State) (background fromFlash : Bool) (bank sector : Nat) : Option Completion :=
  let m := s.mode
  if fromFlash && decide (7 < bank) then some (.badParam 9)
  else if fromFlash && decide (1535 < sector) then some (.badParam 10)
  else if s.isSet LCS_STATE_PRIV_RUNNING then some .denied
  else if background && !s.running then some .notInMode
  else if !background && !(s.running || m == modeConfigFault || m == modeIdle || m == modeHalted) then some .notInMode
  else if s.cfg.load.isSome || (fromFlash && s.flashRuns bank) then some .busy
  else none

/-- A background load writes the context that a golden save runs on (12 R350). -/
def State.goldenClash (s : State) (l : LoadRun) : Bool :=
  match s.ctx.golden with
  | some (_, k, _) => l.background && bitOf (pairContexts (s.loadPairs l)) k == 1
  | none => false

/-- A turn of this tick to a pair that is locked now comes after the lock (12 R350): refused. -/
def State.lockFirst (s : State) (r : Nat) : State :=
  let p := (s.requests r).partition fun q => q.kind == 0 && q.issued == s.now && s.locked r q.context
  p.1.foldl (fun (x : State) q => x.refuseRequest r q 0x61) (if p.1.isEmpty then s else s.setRequests r p.2)

/-- The load runs: its locks, and the claim table's (R312, 18 R477). -/
def State.loadBegin (s : State) (l : LoadRun) : State :=
  let s1 := (s.post 0x6001 0x600 1 (flag l.background + 2 * flag l.fromFlash))
  let s2 := if l.background then s1 else s1.enterLoad
  let s3 := { s2 with cfg := { s2.cfg with load := some l } }
  let s4 := (((s3.wr CFG_STATUS_BUSY 1).wr CFG_STATUS_PHASE 2).wr CFG_CTX_LOCKED (s.loadPairs l)).wr RES_ERR_TABLE_LOCKED 1
  let s5 := (List.range 16).foldl State.lockFirst s4
  if l.fromFlash then s5.wrAt FLC_BANK_LOAD_LOCK l.bank 1 else s5

/-- STREAM_LOAD. -/
def execStreamLoad (id : Nat) (s : State) : Result :=
  .next (s.startCmd id 0x6002 fun r s =>
    let background := bitOf (recByte r 8) 0 == 1
    let fromFlash := bitOf (recByte r 8) 1 == 1
    let l : LoadRun := {
      id := id
      background := background
      fromFlash := fromFlash
      bank := recByte r 9
      sector := recField r 10 2
      startedAt := s.now
      retired := ((List.range 16).map fun k => if s.regionRetired k then 2 ^ k else 0).sum
      parked := s.rd CTX_STATUS_PARKED
      active := s.rd CTX_ACTIVE }
    match s.loadRefusal background fromFlash (recByte r 9) (recField r 10 2) with
    | some c => (some c, s)
    | none => if s.goldenClash l then (some .busy, s) else (none, s.loadBegin l))

/-! ### The end of a load (R317 to R320) -/

/-- Locks and status of a load that ends. -/
def State.loadEnd (s : State) (l : LoadRun) : State :=
  let s1 := { s with cfg := { s.cfg with load := none } }
  let s2 := (((s1.wr CFG_STATUS_BUSY 0).wr CFG_STATUS_PHASE 0).wr CFG_CTX_LOCKED 0).wr RES_ERR_TABLE_LOCKED 0
  if l.fromFlash then s2.wrAt FLC_BANK_LOAD_LOCK l.bank 0 else s2

/-- The pairs of a background load that failed in its commit are no longer loaded (R319). -/
def State.invalidatePairs (s : State) (pairs : Nat) : State :=
  let cleared := (List.range 64).foldl (fun (x : State) i => if bitOf pairs i = 1 then x.wrMask CFG_CTX_LOADED i false else x) s
  cleared.post 0x6005 0x600 3 (pairRegions pairs + pairContexts pairs * 2 ^ 16)

/-- A load fails, during its commit or before it. A full load that Promenade ended stays in PROMENADE (DEDUCED, log 33). -/
def State.failLoad (s : State) (l : LoadRun) (x : StreamFailure) (inCommit : Bool) : State :=
  let pairs := s.rd CFG_CTX_LOCKED
  let s1 := s.loadEnd l
  let s2 := if l.background && inCommit then s1.invalidatePairs pairs else s1
  let s3 := ((((s2.wr CFG_LAST_ERR_STATUS x.status).wr CFG_LAST_ERR_IN_COMMIT (flag inCommit)).wr CFG_LAST_ERR_KIND
    (flag l.background)).wr CFG_LAST_DETAIL x.detail).wr CFG_LAST_OFFSET x.offset
  let s4 := (s3.incSat CFG_FAIL_CNT).post 0x6003 0x600 (if l.background then 2 else 4)
    (x.status % 256 + flag l.background * 2 ^ 8 + flag inCommit * 2 ^ 9)
  let s5 :=
    if l.background then s4.discardStaging true
    else if s4.mode = modePromenade then s4
    else s4.setMode modeConfigFault
  s5.complete l.id ⟨x.status, x.detail, x.offset⟩

/-- LOAD_CHECKS_DONE: steps 1 to 12 of R310; `found`: what the reads of staged words find. -/
def execLoadChecksDone (found : Found) (s0 : State) : Result :=
  .next (
    match s0.cfg.load with
    | none => s0
    | some l0 =>
      if l0.image.isSome then s0
      else
        let l := { l0 with found := found }
        let s := s0.readStaged l
        match s.trustFailure l with
        | some x => s.failLoad l x false
        | none =>
          let p := s.parseLoad l
          match p.failure with
          | some x => s.failLoad l x false
          | none =>
            match s.checkFailure p.image l.parked with
            | some x => s.failLoad l x false
            | none =>
              { s with cfg := { s.cfg with load := some { l with image := some p.image } } }.wr CFG_STATUS_PHASE 3)

/-! ### Commit (R313, R314) -/

/-- A word of the source is poisoned now, among the bytes of the stream. -/
def State.loadPoisoned (s : State) (l : LoadRun) : Option Nat := s.sourcePoison l 0 (s.totalLen l)

/-- The image of the packets before byte `a` of the source. -/
def State.imageBefore (s : State) (l : LoadRun) (a : Nat) : StreamImage :=
  (parseWords { background := l.background, active := l.active, parked := l.parked, retired := l.retired } (s.hdrLen l)
    ((s.packetWordsOf l).take ((a - s.hdrLen l) / 4)) { kind := flag l.background }).image

/-- A Promenade request waits in the queue and falls in this tick (DESIGN CHOICE, log 148): Promenade comes before the start of a commit
(R321). -/
def State.promenadeWaits (s : State) : Bool :=
  s.pending.any fun c =>
    match c with
    | .promEnter _ => true
    | .promReqInput low => low && s.modes.promReqLow.isNone
    | _ => false

/-- A configured region was retired since the load started (R319, R321). -/
def State.loadRetired (s : State) (l : LoadRun) (m : StreamImage) : Bool :=
  (regionsOf m.masks).any fun r => s.regionRetired r && bitOf l.retired r == 0

/-- Frames written into the planes and the mirror; a full load places none in a retired region (14 R409). -/
def State.placeFrames (s : State) (fs : SMap PlaneFrame) : State :=
  fs.foldl (fun (x : State) (e : Nat × PlaneFrame) =>
    if x.regionRetired (farRegion e.1) then x
    else
      let i := frameIndex (bitsOf e.1 18 8) (bitsOf e.1 7 0)
      (x.writePlane (farContext e.1) i e.2).writeMirror (farContext e.1) i e.2) s

/-- Rows of a tile memory from `row` on. -/
def State.placeRows (s : State) (r m row : Nat) (vs : List Nat) : State :=
  match vs with
  | [] => s
  | v :: rest => State.placeRows (s.setTileRow r m row v) r m (row + 1) rest

/-- MEMLD contents written. -/
def State.placeMemory (s : State) (ms : List MemLoad) : State :=
  ms.foldl (fun (x : State) m => x.placeRows m.region m.tile m.row m.data) s

/-- The planes and the context mirror cleared (R313 step 1). -/
def State.clearPlanes (s : State) : State :=
  { s with
    cfg := { s.cfg with planes := [] }
    store := { s.store with mem := s.store.mem.filter fun (e : Nat × StoreWord) => decide (stageBase ≤ e.1) } }

/-- Peak power of a region (R304): as declared, else DECL_PEAK divided over the configured regions. -/
def StreamImage.regionPeak (m : StreamImage) (r : Nat) : Nat :=
  if m.power.isEmpty then (if bitOf m.masks r = 1 then m.declPeak / (regionsOf m.masks).length else 0) else m.power.getD r 0

/-- DECL_PEAK and the per-region peaks recorded. -/
def State.recordPeaks (s : State) (m : StreamImage) : State :=
  (List.range 16).foldl (fun (x : State) r => x.wrAt CFG_REGION_PEAK_MW r (m.regionPeak r)) (s.wr CFG_DECL_PEAK_MW m.declPeak)

/-- What a commit that fails at byte `a` of its source has written (DEDUCED, log 33): the frames of the packets before, and once all
frames are written the tile memory contents before. -/
def State.placeBefore (s : State) (l : LoadRun) (m : StreamImage) (a : Nat) : State :=
  let p := s.imageBefore l a
  let s1 := s.placeFrames p.frames
  if p.frameCount = m.frameCount then s1.placeMemory p.memory else s1

/-- Golden bits of the pairs a load wrote are cleared (12 R328). -/
def State.goldenWritten (s : State) (pairs : Nat) : State :=
  (List.range 4).foldl (fun (x : State) k => x.goldenClear k (regionsWith pairs k)) s

/-- Pairs loaded by a commit: those of retired regions are not. -/
def State.loadedPairs (s : State) (m : StreamImage) : Nat :=
  ((List.range 64).map fun i => if bitOf m.pairs i = 1 ∧ !s.regionRetired (i / 4) then 2 ^ i else 0).sum

/-- A committed load: counts, BUILD_ID, event 0x6002, staging, completion. -/
def State.loadDone (s : State) (l : LoadRun) (m : StreamImage) : State :=
  let s1 := ((s.loadEnd l).incSat CFG_LOAD_CNT).wr CFG_BUILD_ID m.buildId
  let s2 := s1.post 0x6002 0x600 1 (m.masks % 2 ^ 16 + pairContexts m.pairs * 2 ^ 16 + flag l.background * 2 ^ 20)
  (s2.discardStaging true).complete l.id ⟨0, 0, m.frameCount % 2 ^ 32 + m.buildId * 2 ^ 32⟩

/-- CFG_TIE_CNT: commit starts in the tick in which the command's TIMEOUT expires (R320). -/
def State.commitTie (s : State) (l : LoadRun) : State :=
  match s.cmd l.id with
  | some c => if s.now = c.expiry 2000 then s.incSat CFG_TIE_CNT else s
  | none => s

/-- A configured region starts (R313 step 7): in context `k`, under the release of R254, which is an unpark to the steering
shown (09 R236), or parked. -/
def State.startRegion (k park : Nat) (s : State) (r : Nat) : State :=
  let s1 := s.setActive r k
  if bitOf park r = 1 then (s1.wrMask CTX_STATUS_PARKED r true).wrAt FAB_REGION_GSR_HELD r 0
  else
    let s2 := s1.wrMask CTX_STATUS_PARKED r false
    { s2 with fabric := { s2.fabric with shown := SMap.erase s2.fabric.shown r } }.releaseStart r

/-- Step 7 of R313 for the regions of a mask; the other regions stay parked. -/
def State.startDesign (s : State) (mask park k : Nat) : State :=
  (List.range 16).foldl (fun (x : State) r =>
    if bitOf mask r = 1 ∧ !x.regionRetired r then State.startRegion k park x r
    else (x.wrMask CTX_STATUS_PARKED r true).wrAt FAB_REGION_GSR_HELD r 0) s

/-- Every PLL that the settings enable starts (09 R251). -/
def State.startPlls (s : State) : State := (List.range 16).foldl (fun (x : State) p => x.pllStart p) s

/-- The design in force after a full load. -/
def State.recordDesign (s : State) (m : StreamImage) : State :=
  { s with cfg := { s.cfg with
      claims := m.claims
      bufs := m.bufs
      regions := m.masks
      parkMask := m.park.getD 0
      ctxSel := m.ctxSel } }

/-- The steps of a full load that succeeds. -/
def State.fullCommit (s : State) (l : LoadRun) (m : StreamImage) : State :=
  let s1 := (s.clearPlanes.wr CFG_STATUS_PLANES_VALID 0).settled m
  let s2 := ((s1.placeFrames m.frames).placeMemory m.memory).goldenWritten m.pairs
  let s3 := ((s2.installDesign m.claims m.bufs).recordPeaks m).recordDesign m
  let s4 := (((s3.wr CFG_CTX_LOADED (s3.loadedPairs m)).wr CFG_STATUS_PLANES_VALID 1).wr GLB_MODE_UNCONFIGURED 0).startPlls
  let s5 := (s4.startDesign m.masks (m.park.getD 0) m.ctxSel)
  ((s5.setMode s5.runMode).lanesSettle.handBack).loadDone l m

/-- FULL_LOAD_COMMIT (R313). -/
def execFullLoadCommit (found : Found) (s1 : State) : Result :=
  .next (
    match s1.cfg.load with
    | none => s1
    | some l0 =>
      match l0.image with
      | none => s1
      | some m =>
        if l0.background || s1.promenadeWaits then s1
        else
          let l := { l0 with found := found }
          let s := s1.readStaged l
          let s0 := s.commitTie l
          if s0.loadRetired l m then s0.failLoad l { status := 0x2F } true
          else
            match s0.loadPoisoned l with
            | some a =>
              (((s0.clearPlanes.wr CFG_STATUS_PLANES_VALID 0).settled m).placeBefore l m a).failLoad l
                { status := 0x26, offset := a } true
            | none => s0.fullCommit l m)

/-- The regions that the stream parks, at the start of its commit. -/
def State.loadParks (s : State) (m : StreamImage) : State :=
  (regionsOf (m.park.getD 0)).foldl (fun (x : State) r => if x.parked r then x else x.parkRegion r false) s

/-- UNPARK and TURN_ON_COMMIT issued at the end of a background commit (R314 steps 6 and 7). -/
def State.loadRequests (s : State) (m : StreamImage) : State :=
  let s1 := s.requestAll (m.unpark.getD 0) { kind := 2, issued := s.now }
  match m.turn with
  | some t => s1.requestAll t.1 { kind := 0, context := m.ctxSel, reset := t.2, issued := s.now }
  | none => s1

/-- The steps of a background load that succeeds. -/
def State.backgroundCommit (s : State) (l : LoadRun) (m : StreamImage) : State :=
  let s1 := ((s.placeFrames m.frames).placeMemory m.memory).goldenWritten m.pairs
  let s2 := s1.recordPeaks m
  let s3 := s2.wr CFG_CTX_LOADED (s2.rd CFG_CTX_LOADED ||| m.pairs)
  (((s3.wr CFG_CTX_LOCKED 0).loadRequests m)).loadDone l m

/-- BACKGROUND_LOAD_COMMIT (R314). The parks of step 1 end in this row (DEDUCED, log 33). -/
def execBackgroundLoadCommit (found : Found) (s2 : State) : Result :=
  .next (
    match s2.cfg.load with
    | none => s2
    | some l0 =>
      match l0.image with
      | none => s2
      | some m =>
        if !l0.background || s2.promenadeWaits then s2
        else
          let l := { l0 with found := found }
          let s := s2.readStaged l
          let s0 := s.commitTie l
          if s0.loadRetired l m then s0.failLoad l { status := 0x2F } true
          else
            let s1 := s0.loadParks m
            match s1.loadPoisoned l with
            | some a => (s1.placeBefore l m a).failLoad l { status := 0x26, offset := a } true
            | none => s1.backgroundCommit l m)

end Sys2Proof.Machine
end

