-- ==== Sys2Proof/Machine/Shared.lean ====
section
/-! DEFINITION. Where features meet (18): the host's claims of lands against a load of the same tick, the pulse outputs' enable. -/

namespace Sys2Proof.Machine

open Sys2Proof

/-! ### Ties with a load (R490; DESIGN CHOICE, log 148: the row waits in the queue) -/

/-- A STREAM_LOAD that will be accepted waits in the queue: its lock of the claim table comes first. -/
def State.loadWaits (s : State) : Bool :=
  s.pending.any fun c =>
    match c with
    | .streamLoad id =>
      (match s.cmd id with
       | some f =>
         let r := f.bytes
         !f.begun && (s.loadRefusal (bitOf (recByte r 8) 0 == 1) (bitOf (recByte r 8) 1 == 1) (recByte r 9) (recField r 10 2)).isNone
       | none => false)
    | _ => false

/-- The claim table is locked (R477). -/
def State.tableLocked (s : State) : Bool := s.isSet RES_ERR_TABLE_LOCKED || s.loadWaits

/-- The commit of a full load that claims land `p` waits in the queue. -/
def State.commitClaims (s : State) (p : Nat) : Bool :=
  (s.pending.any fun c =>
    match c with
    | .fullLoadCommit _ => true
    | _ => false) &&
  (match s.cfg.load.bind fun l => l.image with
   | some m => m.claims.any fun e => claimKind e == 1 && claimIndex e == p && claimUse e != 2
   | none => false)

/-! ### The host's claims (R478) -/

/-- RES_CLAIM (18 R477, R478). -/
def execResClaim (id : Nat) (s : State) : Result :=
  .next (s.runCmd id 0xE001 fun r s =>
    let p := recByte r 8
    let use := recByte r 9
    if 191 < p then (.badParam 8, s)
    else if use ≠ 2 ∧ use ≠ 3 then (.badParam 9, s)
    else if s.tableLocked then (.busy, s)
    else if use = 2 ∧ 7 < p then (⟨0x91, 0, 0⟩, s)
    else if s.landClaimed p && !s.landHostHeld p then (⟨0x90, 0, 0⟩, s)
    else if s.landOwnedBy p use then (.ok, s)
    else (.ok, (s.claimLand p use 1).postClaim p use true))

/-- RES_RELEASE (18 R477, R478). -/
def execResRelease (id : Nat) (s : State) : Result :=
  .next (s.runCmd id 0xE002 fun r s =>
    let p := recByte r 8
    if 191 < p then (.badParam 8, s)
    else if s.tableLocked then (.busy, s)
    else if s.landHostHeld p then
      (.ok, (s.releaseLand p).postClaim p (s.rdAt RES_LAND_OWNER p) false)
    else (⟨0x92, 0, 0⟩, s))

/-! ### Pulse outputs (R479) -/

/-- PULSE_ENABLE: a write of CLR_PULSEn (18 R479). -/
def execPulseEnable (output value : Nat) (s : State) : Result :=
  .next (
    if 7 < output then s
    else
      let s1 := s.pulseFields output value
      if bitOf value 31 = 0 then s1.wrAt CLR_PULSE_EN output 0
      else if s.commitClaims output then (s1.wrAt CLR_PULSE_EN output 0).resRefuse RES_ERR_PIN_REFUSED 0x90 1 0 output
      else if !s.landClaimed output then
        ((s1.claimLand output 2 1).postClaim output 2 true).wrAt CLR_PULSE_EN output 1
      else if s.landOwnedBy output 2 then s1.wrAt CLR_PULSE_EN output 1
      else (s1.wrAt CLR_PULSE_EN output 0).resRefuse RES_ERR_PIN_REFUSED 0x90 1 0 output)

end Sys2Proof.Machine
end

