-- ==== Sys2Proof/Machine/ResetOps.lean ====
section
/-! DEFINITION. What a loss of power and a reset leave (16 R438; 02 R538; 03 R77; 04 R95; 05 R140; 06 R169; 07 R180; 10 R267;
13 R368; 14 R405; 18 R476; 19 R499, R508): the fields and blocks each of them keeps. -/

namespace Sys2Proof.Machine

/-! ### Flash operations cut short (13 R361, R368) -/

/-- The operation of a bank stops where it stands. A program has written a free number of its code words; the next one is
undefined, and its sector PROGRAM_INCOMPLETE. An erase has left its sector's record as it was: ERASE_INCOMPLETE, or
ERASE_SUSPENDED. -/
def State.flashCut (s : State) (b : Nat) : State :=
  match s.flashOp b with
  | none => s
  | some x =>
    let s0 := { s with flash := { s.flash with ops := SMap.erase s.flash.ops b } }
    if x.erase || x.golden || !x.begun || x.data.isEmpty then s0
    else
      let n := s.free 16 % x.data.length
      let p := (s0.unmarkSector b x).took.programWords b x.sector x.word (x.data.take n) none 0
      match p.2.1 with
      | some _ => p.2.2
      | none => (p.2.2.programWord b x.sector (x.word + n) (x.data.getD n 0) true).2

/-- Every bank's operation stops. -/
def State.flashInterrupt (s : State) : State := (List.range 8).foldl (fun (x : State) b => x.flashCut b) s

/-! ### One-time cells cut short (19 R501, R507, R508, R510, R511) -/

/-- How long the pulses last, in ticks: 17 for a key, 2 for a transition, one for a repeat. -/
def Pulse.lasts (p : Pulse) : Nat :=
  match p.keySlot, p.auth with
  | some _, _ => 850000
  | none, some _ => 100000
  | none, none => 50000

/-- Pulses are under way: the life cycle refuses power states (16 R447). -/
def State.pulsing (s : State) : Bool :=
  match s.life.pulse with
  | some p => decide (s.now < p.startedAt + p.lasts)
  | none => false

/-- A group whose pulse was cut short (R507, R508): the authority cell is partial and no state cell touched, or every state cell
that was not programmed is partial. -/
def Pulse.cutGroup (p : Pulse) (now : Nat) : RowGroup :=
  match p.auth with
  | some a =>
    if now < p.startedAt + 50000 then
      { p.before with authPart := if bitOf p.before.auth a = 1 then p.before.authPart else p.before.authPart ||| 2 ^ a }
    else
      { p.before with
        auth := p.before.auth ||| 2 ^ a
        part := 0xFFFF - p.before.cells }
  | none => { p.before with part := 0xFFFF - p.before.cells }

/-- The cells as the pulse under way leaves them: a key slot is DAMAGED. -/
def State.pulseCut (s : State) : State :=
  match s.life.pulse with
  | none => s
  | some p =>
    let s0 := { s with life := { s.life with pulse := none } }
    if s.now < p.startedAt + p.lasts then
      match p.keySlot with
      | some k =>
        let x := SMap.read s0.life.slots {} k
        { s0 with life := { s0.life with slots := SMap.store s0.life.slots {} k { x with written := false, touched := true } } }
      | none => { s0 with life := { s0.life with groups := SMap.store s0.life.groups {} p.group (p.cutGroup s.now) } }
    else s0

/-! ### Fields that are kept -/

/-- The register key is an instance of the field. -/
def Field.owns (f : Field) (key : Nat) : Bool :=
  let lo := f.key 0
  if f.count ≤ 1 then key == lo
  else decide (lo ≤ key) && (key - lo) % (8 * f.stride) == 0 && decide ((key - lo) / (8 * f.stride) < f.count)

/-- One of the fields owns the key. -/
def ownedBy (fs : List Field) (key : Nat) : Bool := fs.any fun f => f.owns key

/-- Fields that stand for cells and not for registers, or that the always-on domain keeps (13 R360; 15 R430; 19 R498). -/
def cellFields : List Field :=
  [FLC_SECTOR_STATE, FLC_SECTOR_ERASE_CNT, FLC_SECTOR_CW_INDEX, CTX_GOLDEN_VALID, THM_TRIP_VALID, THM_TRIP_CAUSE, THM_TRIP_TEMP,
   LCS_PROGRESS_RET_BEGUN, LCS_PROGRESS_RET_MARKS, LCS_PROGRESS_SCR_BEGUN, LCS_PROGRESS_SCR_MARKS]

/-- Live state that a warm reset keeps: of the Caller (03 R77), the dance card engine (04 R95), the store (05 R139), retired
lanes and guards (08 R208; 14 R400), sensors declared faulty or suspect (15 R422, R423, R426), the count of transitions
(19 R519). -/
def liveFields : List Field :=
  [CLR_STATUS_STATE, CLR_STATUS_ACTIVE_SLOT, CLR_STATUS_TOD_VALID, CLR_STATUS_BACKUP_OSC, CLR_STATUS_UPSTREAM_STATE,
   CLR_REFCLK_PRESENT, CLR_OFFSET, CLR_FREQ_ADJ, CLR_PTP_GM_ID, CLR_PTP_GM_INFO_STEPS_REMOVED, CLR_PTP_GM_INFO_CLOCK_CLASS,
   CLR_PTP_GM_INFO_PRIORITY1, CLR_TIME_SEC, CLR_GRID_POS_LINE, CLR_GRID_POS_FIELD, CLR_GRID_POS_FRAME, CLR_GRID_STATUS_CFG_ERR, CLR_GRID_STATUS_ACTIVE, DNC_STATUS_ACTIVE_BANK, DNC_VALID_CNT,
   HLT_GUARD_FAILED, HLT_STATUS_UNGUARDED_CNT, THM_STATUS_FLOW_SUSPECT, THM_STATUS_L2_SUSPECT, THM_SENSOR_FAULTY, LCS_TRANS_CNT]

/-- Fields of access RWS. -/
def rwsFields : List Field := allFields.filter fun f => f.acc == .rws

/-- What OFF keeps of the power registers for its one wake source (16 R448). -/
def offFields : List Field := [PWR_CTRL_WAKE_EN, PWR_CTRL_WAKE_POL, PWR_CTRL_WAKE_LEVEL]

/-- Registers cut down to the fields of a list. -/
def State.keepFields (s : State) (fs : List Field) : SMap Nat := s.regs.filter fun (e : Nat × Nat) => ownedBy fs e.1

/-! ### The states -/

/-- What survives a loss of power: cells of L4, flash, the host's memory, what the environment gives. DESIGN CHOICE (log 117): the
read latches and the write holding words of the 64-bit registers are empty after every reset. -/
def State.bare (s : State) : State :=
  let m : Mgmt := {
    hostMem := s.mgmt.hostMem
    sent := s.mgmt.sent
    perstN := s.mgmt.perstN
    nextId := s.mgmt.nextId }
  let w : Modes := {
    wakeHigh := s.modes.wakeHigh
    promReqLow := s.modes.promReqLow
    vin := s.modes.vin
    boot := none }
  let l : Life := {
    groups := s.life.groups
    slots := s.life.slots
    weakMarks := s.life.weakMarks }
  { regs := s.keepFields cellFields
    reply := s.reply
    mgmt := m
    flash := { s.flash with ops := [] }
    guard := { records := s.guard.records, steered := s.guard.steered, scrubFrom := s.now }
    modes := w
    life := l
    fresh := s.fresh
    pending := s.pending }

/-- The state that a cold reset leaves, and OFF: every register field at its Reset value. -/
def State.coldState (s : State) : State := s.flashInterrupt.pulseCut.bare

/-- The level of PWR_GOOD as it was: no reset moves the land (16 R453). -/
def State.keepPowerGood (old : State) (s : State) : State := s.wr GLB_LANDS_PWR_GOOD (old.rd GLB_LANDS_PWR_GOOD)

/-- Lanes that are retired stay so through a warm reset (08 R208). -/
def State.keepRetired (old : State) (s : State) : State :=
  (List.range 128).foldl (fun (x : State) n => if old.lane n = 4 then x.wrAt LNE_LN_STATUS_STATE n 4 else x) s

/-- The host's claims survive a warm reset (18 R476). -/
def State.keepClaims (old : State) (s : State) : State :=
  (List.range 192).foldl (fun (x : State) p =>
    if old.landHostHeld p then x.claimLand p (old.rdAt RES_LAND_OWNER p) 1 else x) s

/-- EN cleared in a flow table (07 R180). -/
def tableWithoutEn (m : SMap Nat) : SMap Nat :=
  (m.map fun (e : Nat × Nat) => if e.1 % 16 = 0 then (e.1, e.2 % 2 ^ 31) else e).filter fun (e : Nat × Nat) => e.2 != 0

/-- The state that a warm reset leaves. DESIGN CHOICE (log 129): a copy of the dance card in progress, staged words, log records that
wait and GPIO pulses under way are dropped. -/
def State.warmState (s0 : State) : State :=
  let s := s0.flashInterrupt.pulseCut
  let b := s.bare
  let m : Mgmt := { b.mgmt with
    pcieUp := s.mgmt.pcieUp
    pcieWidthRate := s.mgmt.pcieWidthRate
    spad := s.mgmt.spad
    spadBase := s.mgmt.spadBase
    logNext := s.mgmt.logNext }
  let d : Dance := {
    bank0 := s.bankView 0
    bank1 := s.bankView 1
    fired := s.dance.fired }
  let ln : Lanes := {
    jtag := s.lanes.jtag
    bypassBit := s.lanes.bypassBit
    cells := s.lanes.cells
    captured := s.lanes.captured
    viobSince := s.lanes.viobSince }
  let st : Store := {
    mem := s.store.mem
    nextNear := s.store.nextNear
    nextFar := s.store.nextFar
    redirect := s.store.redirect }
  let t : State := { b with
    regs := s.keepFields (cellFields ++ rwsFields ++ liveFields)
    mgmt := m
    caller := s.caller
    dance := d
    store := st
    flows := { table := tableWithoutEn s.flows.table }
    lanes := ln
    hard := { rows := s.hard.rows } }
  State.keepPowerGood s0 (((State.keepClaims s (State.keepRetired s t)).wr STR_STATUS_NEAR_INIT 1).wr STR_STATUS_FAR_INIT 1)

/-- A near store word that DEEP_SLEEP keeps (05 R140). -/
def deepKept (a : Nat) : Bool := decide (0x4070_0000 ≤ a ∧ a ≤ 0x407F_FFFF)

/-- RWS fields that DEEP_SLEEP does not keep: the dance card engine's enable (04 R95), the pair table (07 R180). -/
def deepLost : List Field := DNC_CTRL_EN :: flwFields.filter fun f => decide (0x390000 ≤ f.addr ∧ f.addr < 0x394000)

/-- Live state that DEEP_SLEEP keeps (03 R76, R77): the time's validity, the grids; and lasting faults. -/
def deepLive : List Field :=
  [CLR_STATUS_TOD_VALID, CLR_GRID_STATUS_CFG_ERR, CLR_GRID_STATUS_ACTIVE, HLT_GUARD_FAILED, HLT_STATUS_UNGUARDED_CNT,
   THM_STATUS_FLOW_SUSPECT, THM_STATUS_L2_SUSPECT, THM_SENSOR_FAULTY, LCS_TRANS_CNT]

/-- What DEEP_SLEEP leaves of what a warm reset keeps (16 R442; 02 R538; 03 R77; 04 R95; 05 R140; 07 R180; 10 R267): of the
Caller its RWS fields, its time and its count. -/
def State.deepState (s : State) : State :=
  let w := s.warmState
  let b := w.bare
  let c : Caller := {
    sec := s.caller.sec
    ns := s.caller.ns
    mono := s.caller.mono
    dueFrom := s.caller.dueFrom }
  let t : State := { b with
    regs := w.keepFields (cellFields ++ deepLive ++ (rwsFields.filter fun f => !(deepLost.any fun g => g.key 0 == f.key 0)))
    caller := c
    store := { mem := w.store.mem.filter fun (e : Nat × StoreWord) => deepKept e.1, redirect := w.store.redirect } }
  State.keepClaims s t

/-! ### OFF (16 R437; 15 R430) -/

/-- The device goes to OFF: everything but WAKE and the trip record is off. -/
def State.enterOff (s : State) : State :=
  let old := s.mode
  let s1 := (s.setMode modeOff).lanesSettle
  let keep := s1.keepFields offFields
  let s2 := s1.coldState
  let s3 := { s2 with regs := keep.foldl (fun (m : SMap Nat) (e : Nat × Nat) => SMap.store m 0 e.1 e.2) s2.regs }
  ((s3.wr GLB_MODE_MODE modeOff).wr GLB_MODE_PREV_MODE old).setLands modeOff

/-- Hard shutdown (15 R430): the trip record, then OFF. -/
def State.hardShutdown (s : State) (cause : Nat) : State :=
  (((s.wr THM_TRIP_VALID 1).wr THM_TRIP_CAUSE cause).wr THM_TRIP_TEMP (s.rd THM_TPOL)).enterOff

end Sys2Proof.Machine
end

