-- ==== Sys2Proof/Machine/PowerOps.lean ====
section
/-! DEFINITION. What several blocks ask of power entry and Promenade: an entry aborted (16 R447, R449), a Promenade cause (17
R467, R468), the lifeline table (17 R462, R463). -/

namespace Sys2Proof.Machine

/-! ### Mode changes that end the unconfigured state (16 R443) -/

/-- A change to a mode in which UNCONFIGURED is 0. -/
def State.leaveFor (s : State) (m : Nat) : State := (s.wr GLB_MODE_UNCONFIGURED 0).setMode m

/-! ### Power entry refused or aborted (16 R447) -/

/-- A refusal or an abort recorded. -/
def State.pwrRecord (s : State) (code target mode : Nat) (aborted : Bool) : State :=
  ((((s.incSat PWR_REFUSE_CNT).wr PWR_LAST_REFUSER_CODE code).wr PWR_LAST_REFUSER_TARGET target).wr PWR_LAST_REFUSER_MODE
    mode).post 0xB003 0xB00 2 (code % 2 ^ 8 + target % 2 ^ 4 * 2 ^ 8 + 2 ^ 12 * flag aborted)

/-- An entry before its window is aborted with a refuser code; its TIMEOUT is code 0xA (R455). -/
def State.pwrAbort (s : State) (code : Nat) : State :=
  match s.modes.entry with
  | none => s
  | some e =>
    if e.window then s
    else
      let s1 := { s with modes := { s.modes with entry := none } }.wr PWR_STATUS_ENTERING 0
      (s1.pwrRecord code e.target e.mode true).complete e.id (if code = 0xA then ⟨0x07, 0xA, 0⟩ else ⟨0x71, code, 0⟩)

/-- The window or a later step of an entry runs. -/
def State.inWindow (s : State) : Bool :=
  match s.modes.entry with
  | some e => e.window
  | none => false

/-! ### The lifeline table (17 R462, R463) -/

/-- Words of a frame (R465). -/
def routeWords (w : Nat) : Nat :=
  match routeFmt w with
  | 0 => 307200
  | 1 => 691200
  | _ => 737280

/-- Slots of the Promenade reserve that a route takes. -/
def routeSlots (w : Nat) : Nat := if routeKind w = 2 then routeWords w / 8 else 0

/-- A field value outside the table, or a lane beyond 127. -/
def routeBad (w : Nat) : Bool :=
  let k := routeKind w
  k == 0 || bitsOf w 60 0 != 0 || (routeInputs w ++ routeOutputs w).any (fun n => decide (127 < n)) ||
    (if k = 3 then decide (routeCount w = 0 ∨ 16 < routeCount w) else routeCount w != 1) ||
    (k == 1 && decide (4 < routeMode w)) || (k == 2 && decide (3 < routeMode w ∨ 2 < routeFmt w))

/-- No lane twice. -/
def noTwice (l : List Nat) : Bool :=
  match l with
  | [] => true
  | x :: r => !r.contains x && noTwice r

/-- The rate of a route's outputs: frame sync by MODE and DIV1001, Hokutu its own. -/
def routeRate (w : Nat) : Nat := if routeKind w = 3 then 16 else 2 * routeMode w + routeDiv w

/-- One quad holds frame sync or Hokutu outputs of two rates. -/
def quadClash (rs : List Nat) : Bool :=
  let out := (rs.filter fun w => routeKind w != 1).flatMap fun w => (routeOutputs w).map fun n => (n / 4, routeRate w)
  out.any fun x => out.any fun y => x.1 == y.1 && x.2 != y.2

/-- Why the table is refused; 0 where it is accepted. `ws`: code words 0 to 32 from code word 0 of sector 12. -/
def tableReason (ws : List (Option Nat)) : Nat :=
  let h := (ws.getD 0 none).getD 0
  let body := (ws.drop 1).map fun w => w.getD 0
  let rs := body.filter routeValid
  if ws.any (fun w => w.isNone) || bitsOf h 31 0 != 0x4C464C4E || bitsOf h 39 32 != 1 ||
      bitsOf h 127 96 != crc32 (body.flatMap fun w => bytesOf 18 w) then 1
  else if rs.any routeBad then 2
  else if !noTwice (rs.flatMap fun w => routeInputs w ++ routeOutputs w) then 3
  else if 262144 < (rs.map routeSlots).sum then 4
  else if quadClash rs then 5
  else 0

/-- The table copy loaded from the active boot block (R461; 13 R381). -/
def State.loadLifeline (s : State) (found : Found) : State :=
  let b := s.rd FLC_BOOT_ACTIVE_BLOCK - 1
  let ws := (List.range 33).map fun w => s.settledWord found (codeKey b 12 w)
  let why := tableReason ws
  let rs : SMap Nat :=
    if why = 0 then
      (List.range 32).filterMap fun r =>
        let w := (ws.getD (r + 1) none).getD 0
        if routeValid w then some (r, w) else none
    else []
  let lanes := rs.flatMap fun (e : Nat × Nat) => routeInputs e.2 ++ routeOutputs e.2
  let s1 := { s with prom := { s.prom with routes := rs, runs := [] } }
  let s2 := (((s1.wr PRM_TABLE_VALID (flag (why == 0))).wr PRM_TABLE_REASON why).wr PRM_TABLE_ROUTES rs.length).wr PRM_SLOTS
    ((rs.map fun (e : Nat × Nat) => routeSlots e.2).sum)
  let s3 := (List.range 128).foldl (fun (x : State) n =>
    (x.wrAt LNE_LN_STATUS_LIFELINE n (flag (lanes.contains n))).wrBit RES_LANE_LIFELINE n (lanes.contains n)) s2
  s3.post 0xB013 0xB40 (if why = 0 then 1 else 3) (why + 16 * rs.length)

/-! ### Entry to Promenade (17 R467, R468) -/

/-- The lane runs as its route of the lifeline table would run it: UP, with its protocol, rate, taps and polarity (R468). -/
def State.laneFits (s : State) (n w : Nat) : Bool :=
  s.lane n == 2 && s.rdAt LNE_LN_CTRL_PROTO n == 2 && routeKind w != 3 && s.rdAt LNE_LN_STATUS_SDI_RATE n == routeMode w &&
    (s.tableSettings n).getD (s.hostSettings n) == s.hostSettings n

/-- Routes whose lanes stay UP through the handover (R468). -/
def State.routesHeld (s : State) : List Nat :=
  (s.prom.routes.filter fun (e : Nat × Nat) => s.laneFits (routeIn e.2) e.2 && s.laneFits (routeOut e.2) e.2).map
    fun (e : Nat × Nat) => e.1

/-- The lanes at the entry: lifeline lanes are handed over without an event, whatever the host wrote in the same tick (R207, R470); the
others stop. -/
def State.handOver (s : State) : State :=
  (List.range 128).foldl (fun (x : State) n =>
    if x.lane n = 4 then x
    else if x.isSetAt LNE_LN_STATUS_LIFELINE n then (x.undoWrites n).wrAt LNE_LN_STATUS_STATE n 5
    else x.laneSettle n) s

/-- A lifeline route comes up or goes down: shown, counted, event 0xB012 (R472). -/
def State.routeChange (s : State) (route : Nat) (up : Bool) : State :=
  let n := s.rd PRM_STATUS_ROUTES_UP
  ((s.wrAt PRM_ROUTE_UP route (flag up)).wr PRM_STATUS_ROUTES_UP (if up then n + 1 else n - 1)).post 0xB012
    (0xB60 + route) (if up then 1 else 3) (route + 2 ^ 5 * flag up)

/-- The bonds of the pass-through routes start training (R466): those that a route's lanes make, with its spares. -/
def State.routeBonds (s : State) : State :=
  (s.prom.routes.filter fun (e : Nat × Nat) => routeKind e.2 == 3).foldl (fun (x : State) (e : Nat × Nat) =>
    [(16 + e.1, routeIn e.2), (48 + e.1, routeOut e.2)].foldl (fun (y : State) b =>
      (y.setBondRun b.1 { spare := if routeSpare e.2 = 1 then some (b.2 + routeCount e.2) else none }).bondTrain b.1) x) s

/-- The fabric loses VL2, its PLLs stop (R460, R468 step 3). -/
def State.fabricOff (s : State) : State :=
  let s1 := { s.loseFabric with fabric := { s.loseFabric.fabric with running := [] } }
  (List.range 16).foldl (fun (x : State) p => (x.wrAt FAB_PLL_STATUS_LOCK p 0).wrAt FAB_PLL_STATUS_ALIGNED p 0) s1

/-- What the entry stops: requests of regions, an armed capture, bonds, a load in progress (R468 step 1; 11 R319). -/
def State.promStop (s : State) : State :=
  let s1 := (List.range 16).foldl (fun (x : State) r => x.refuseRequests 0x04 r) (s.dropTickets.gateAll false)
  let s2 := if s1.capState = 1 then s1.captureCancel else s1
  let s3 := (List.range 16).foldl (fun (x : State) b =>
    if x.rdAt LNE_BOND_STATUS_STATE b = 0 then x else x.setBond b 0 0) s2
  match s3.cfg.load with
  | some l => s3.failLoad l { status := 0x04 } false
  | none => s3

/-- No route carries, until ROUTE_STATE_CHANGE, but those whose lanes stayed UP. -/
def State.routesDown (s : State) : State :=
  ((List.range 32).foldl (fun (x : State) r => x.wrAt PRM_ROUTE_UP r 0)
    { s with prom := { s.prom with runs := [], exit := none } }).wr PRM_STATUS_ROUTES_UP 0

/-- Causes that PRM_PENDING can hold: 0x7 and 0x8 clear at the exit and never bar it (R469; DEDUCED, log 36). -/
def pendingCauses (causes : Nat) : Nat := causes &&& 0x13F

/-- In PROMENADE the steward runs while VL4 is good (R460); it starts again when VL4 is good again. -/
def State.stewardPower (s : State) : State :=
  if s.mode ≠ modePromenade then s
  else if s.isSetAt THM_RAIL_FAULT 4 then { s with mgmt := { s.mgmt with steward := .stopped } }
  else if s.mgmt.steward = .stopped then { s with mgmt := { s.mgmt with steward := .restarting (s.now + 200000) } }
  else s

/-- Entry, with the causes as bits. -/
def State.promEnter (s : State) (causes : Nat) : State :=
  let s1 := ((s.wr PRM_CAUSE causes).wr PRM_PENDING (pendingCauses causes)).leaveFor modePromenade
  let held := s1.routesHeld
  let s2 := held.foldl (fun (x : State) r => x.routeChange r true) s1.promStop.handOver.routesDown.routeBonds
  let s3 := ((s2.wr PRM_ENTRY_MONO s2.now).incSat PRM_ENTRY_CNT).post 0xB010 0xB40 4 causes
  ((s3.fabricOff.wr PWR_STATUS_FAR_REFRESH 1).wr PWR_STATUS_FABRIC_GATED 0).stewardPower

/-- A cause arises (R467): it enters PROMENADE, is recorded there, or waits for the end of BOOT or of a power entry's window. -/
def State.promenade (s : State) (cause : Nat) : State :=
  let bit := 2 ^ (cause - 1)
  let m := s.mode
  if m = modePromenade then
    ((s.wr PRM_CAUSE (s.rd PRM_CAUSE ||| bit)).wr PRM_PENDING (s.rd PRM_PENDING ||| pendingCauses bit)).setLands modePromenade
  else if m = modeOff ∨ m = modeDeepSleep ∨ m = modeService then s
  else if m = modeBoot ∨ s.inWindow then { s with prom := { s.prom with waiting := s.prom.waiting ||| bit } }
  else (s.pwrAbort 0x9).promEnter bit

/-- Causes that waited enter PROMENADE, where the mode lets them. -/
def State.promWaiting (s : State) : State :=
  let w := s.prom.waiting
  let s1 := { s with prom := { s.prom with waiting := 0 } }
  if w = 0 ∨ s.mode = modeOff ∨ s.mode = modeDeepSleep ∨ s.mode = modeService then s1
  else s1.promEnter w

end Sys2Proof.Machine
end

