-- ==== Sys2Proof/Machine/Golden.lean ====
section
/-! DEFINITION. Golden copies with their boot records (12 R328; 13 R374, R375; 16 R440), boot blocks and the boot swap (13 R377
to R382). -/

namespace Sys2Proof.Machine

open Sys2Proof

/-! ### The golden boot record (16 R440) -/

/-- First code word of the boot record in a bank's golden range, and its code words per bank. -/
def recordStart : Nat := 537152
def recordPerBank : Nat := 1472

/-- Key of code word `n` of the boot record of context `k`, taken bank by bank. -/
def recordKey (k n : Nat) : Nat := goldenPlace k (n / recordPerBank) (recordStart + n % recordPerBank)

/-- FAB offsets that FABSET accepts (11 R302), each register once. -/
def settingOffsets : List Nat :=
  ((List.range 48).map fun k => 0x100 + 4 * k) ++
    ((List.range 16).flatMap fun p => (List.range 4).map fun k => 0x200 + 0x20 * p + 4 * k) ++
    ((List.range 16).flatMap fun r => (List.range 4).map fun k => 0x400 + 0x40 * r + 4 * k) ++
    ((List.range 256).map fun n => 0x9000 + 16 * n) ++ ((List.range 256).map fun n => 0xA000 + 16 * n)

/-- A WRITE packet (11 R293). -/
def packet (reg : Nat) (ws : List Nat) : List Nat := (2 ^ 27 + reg * 2 ^ 20 + ws.length) :: ws

/-- The packet area of a boot record: FABSET, CLAIM and POWER_DECL of the design in force, then COMMIT. -/
def State.recordPackets (s : State) : List Nat :=
  packet 0x09 (settingOffsets.flatMap fun o => [o, s.settingWord o]) ++
    (if s.cfg.bufs.isEmpty then [] else packet 0x07 s.cfg.bufs) ++
    packet 0x08 ((List.range 16).map fun r => s.rdAt CFG_REGION_PEAK_MW r) ++ packet 0x05 [2]

/-- The key slot that a boot record names (DESIGN CHOICE, log 37): the lowest KEYED slot where the state accepts slots and one
is KEYED, else the default key. -/
def State.recordSlot (s : State) : Nat :=
  let st := s.rd LCS_STATE_STATE
  if st = 3 ∨ st = 4 ∨ st = 0xF then
    match (List.range 4).find? s.slotKeyed with
    | some k => k
    | none => 0xF
  else 0xF

/-- The header of a boot record. -/
def State.recordHeader (s : State) (total iv : Nat) : List Nat :=
  bytesOf 4 0x5358544F ++ bytesOf 2 1 ++ bytesOf 2 s.cfg.claims.length ++ bytesOf 4 (s.rd GLB_IDCODE) ++ bytesOf 4 total ++
    bytesOf 12 iv ++ bytesOf 1 s.recordSlot ++ [0, 0, 0] ++ bytesOf 4 (s.rd CFG_DECL_PEAK_MW) ++ bytesOf 4 (s.rd CFG_BUILD_ID) ++
    bytesOf 8 0 ++ s.cfg.claims.flatMap (bytesOf 4)

/-- The code words of the golden image, as the additional data of the record's tag: 18 bytes each, in ascending `j`. -/
def imageBytes (word : Nat → Nat) : List Nat := (List.range 4297216).flatMap fun j => bytesOf 18 (word j)

/-- The boot record, with the tag over header, packets and image. -/
def State.bootRecord (s : State) (iv : Nat) (word : Nat → Nat) : List Nat :=
  let body := s.recordPackets.flatMap (bytesOf 4)
  let head := s.recordHeader (48 + 4 * s.cfg.claims.length + body.length + 16) iv
  let key :=
    match s.keyFor s.recordSlot with
    | .inl k => k
    | .inr _ => defaultKey
  head ++ body ++ bytesOf 16 (Config.gcmTag key iv (head ++ body ++ imageBytes word) []).toNat

/-- Bytes as 144-bit code words. -/
def codeWords (bs : List Nat) : List Nat := codeData bs (ceilDiv bs.length 18)

/-! ### The golden image (13 R374) -/

/-- The frame that a save reads for linear index `i` of a context: zero for a pair that is not saved, and a free value where the
mirror's words are poisoned. `region` is the region of the frame. -/
def State.savedFrame (s : State) (k mask i region : Nat) : PlaneFrame :=
  if bitOf mask region = 0 then {}
  else
    match s.mirrorFrame k i {} with
    | some x => shownFrame (96 * region + (framePlace 96 0 (i % 22176)).1) (framePlace 96 0 (i % 22176)).2 x
    | none => { bits := s.freeK 0 1728, check := s.freeK 1 16 }

/-- Region of linear index `i` of a context's frames: 22,176 frames to a region. -/
def indexRegion (i : Nat) : Nat := i / 22176

/-- Code word `j` of the golden image that a save writes. -/
def State.imageWord (s : State) (k mask j : Nat) : Nat :=
  if j < 4257792 then (s.savedFrame k mask (j / 12) (indexRegion (j / 12))).bits / 2 ^ (144 * (j % 12)) % 2 ^ 144
  else
    ((List.range 9).map fun m =>
      let i := 9 * (j - 4257792) + m
      if i < 354816 then (s.savedFrame k mask i (indexRegion i)).check * 2 ^ (16 * m) else 0).sum

/-! ### The golden save (12 R328, R350; 13 R375) -/

/-- Sectors of a context's golden range, in every bank. -/
def goldenSectors (k : Nat) : List (Nat × Nat) :=
  (List.range 8).flatMap fun b => (List.range 132).map fun n => (b, 1008 + 132 * k + n)

/-- Why a golden save is refused. -/
def State.goldenRefusal (s : State) (k : Nat) : Option Completion :=
  let m := s.mode
  if m = modeBoot ∨ m = modeLoad ∨ m = modeSleep ∨ m = modePromenade then some .notInMode
  else if s.isSet LCS_STATE_PRIV_RUNNING then some .denied
  else if s.ctx.golden.isSome || (s.cfg.load.isSome && bitOf (pairContexts (s.rd CFG_CTX_LOCKED)) k == 1) then some ⟨0x68, 0, 0⟩
  else if (List.range 8).any fun b => (s.flashOp b).isSome || s.isSetAt FLC_BANK_LOAD_LOCK b then some .busy
  else none

/-- The save starts: its bits are cleared, its range is under erase in every bank. -/
def State.goldenStart (s : State) (id k : Nat) : State :=
  let mask := regionsWith (s.rd CFG_CTX_LOADED) k
  let s1 := ({ s with ctx := { s.ctx with golden := some (id, k, mask) } }.wr CTX_STATUS_GOLDEN_BUSY 1).setGolden k 0
  let s2 := (goldenSectors k).foldl (fun (x : State) p => x.setSector p.1 p.2 3) s1
  (List.range 8).foldl (fun (x : State) b =>
    x.flashStart b { erase := true, cmd := none, sector := 1008 + 132 * k, golden := true }) s2

/-- CTX_GOLDEN_SAVE, which the steward executes. -/
def execCtxGoldenSave (id : Nat) (s : State) : Result :=
  .next (
    if s.stewardReady then
      s.startCmd id 0x7007 fun r s =>
        let k := recByte r 8 % 4
        match s.goldenRefusal k with
        | some c => (some c, s)
        | none => (none, s.goldenStart id k)
    else s)

/-- A sector of the range erased, then written. -/
def State.goldenSector (s : State) (p : Nat × Nat) : State :=
  ((s.setSector p.1 p.2 1).wrAt FLC_SECTOR_CW_INDEX (sectorOf p.1 p.2) 0).addSatAt FLC_SECTOR_ERASE_CNT (sectorOf p.1 p.2) 1

/-- Code words written by key. -/
def State.putWords (s : State) (key : Nat → Nat) (ws : List Nat) : State :=
  (List.range ws.length).foldl (fun (x : State) n => x.putCode (key n) { bits := ws.getD n 0 % 2 ^ 144 }) s

/-- Image and boot record of context `k` written. -/
def State.goldenWrite (s : State) (k mask : Nat) : State :=
  let iv := s.freeK 2 96
  let sectors := (goldenSectors k).map fun p => sectorOf p.1 p.2
  let s1 := { s with flash := { s.flash with
    words := s.flash.words.filter fun (e : Nat × CodeWord) => !sectors.contains (e.1 / 4096) } }
  let s2 := (goldenSectors k).foldl (fun (x : State) p => x.goldenSector p) s1
  let s3 := s2.putWords (goldenKey k) ((List.range 4297216).map (s.imageWord k mask))
  (s3.putWords (recordKey k) (codeWords (s.bootRecord iv (s.imageWord k mask)))).tookN 3

/-- GOLDEN_SAVE_DONE. A save that fails completes with a status of its class that the spec does not name: a free value (DESIGN CHOICE,
log 137; 02 R46). -/
def execGoldenSaveDone (ok : Bool) (s : State) : Result :=
  .next (
    match s.ctx.golden with
    | none => s
    | some (id, k, mask) =>
      let waits := (List.range 8).any fun b =>
        match s.flashOp b with
        | some x => x.golden && !x.begun
        | none => false
      if waits then s
      else if !ok then s.took.goldenFail (0x60 + s.free 4)
      else
        let s1 := ((s.goldenWrite k mask).goldenStop).directoryAppend k mask
        (s1.post 0x7006 0x700 1 (k + mask * 2 ^ 16)).complete id ⟨0, 0, mask⟩)

/-! ### Boot blocks (13 R377, R378) -/

/-- Sectors 0 to 11 of the block hold the maker's firmware. -/
def State.blockShipped (s : State) (b : Nat) : Bool := (List.range 12).all fun n => s.flash.shipped.contains (sectorOf b n)

/-- Code word `w` of boot block `b` (0 = A, 1 = B), 0 where it is delivered poisoned. -/
def State.blockWord (s : State) (found : Found) (b w : Nat) : Nat := (s.viewCode found (codeKey b 0 0 + w)).getD 0

/-- IMAGE_LEN; the image. -/
def State.blockLen (s : State) (found : Found) (b : Nat) : Nat := bitsOf (s.blockWord found b 0) 63 32
def State.blockImage (s : State) (found : Found) (b : Nat) : List Nat :=
  ((List.range (ceilDiv (s.blockLen found b) 18)).flatMap fun w => bytesOf 18 (s.blockWord found b (3 + w))).take (s.blockLen found b)

/-- A code word of the block's firmware is delivered poisoned. -/
def State.blockPoisoned (s : State) (found : Found) (b : Nat) : Bool :=
  (List.range (3 + ceilDiv (s.blockLen found b) 18)).any fun w => (s.viewCode found (codeKey b 0 0 + w)).isNone

/-- Why a block is not valid (R378, R381): 1 = header, 2 = CRC, 3 = sector state. -/
def State.blockFault (s : State) (found : Found) (b : Nat) : Option Nat :=
  let settled := (List.range 14).all fun n => s.sectorSettled b n
  if s.blockShipped b then (if settled then none else some 3)
  else if bitsOf (s.blockWord found b 0) 31 0 ≠ 0x53545744 ∨ s.blockLen found b = 0 ∨ 884682 < s.blockLen found b then some 1
  else if s.blockPoisoned found b || crc32 (s.blockImage found b) != bitsOf (s.blockWord found b 0) 127 96 then some 2
  else if settled then none
  else some 3

/-- The block's tag verifies with a key that the life-cycle state accepts (11 R291); the maker's does (PRESUMED, log 34). -/
def State.blockTag (s : State) (found : Found) (b : Nat) : Bool :=
  s.blockShipped b ||
    (match s.keyFor (bitsOf (s.blockWord found b 1) 99 96) with
     | .inl key =>
       (Config.gcmTag key (bitsOf (s.blockWord found b 1) 95 0) (s.blockImage found b) []).toNat == bitsOf (s.blockWord found b 2) 127 0
     | .inr _ => false)

/-- Version of the firmware in a block. -/
def State.blockVersion (s : State) (found : Found) (b : Nat) : Nat :=
  if s.blockShipped b then Config.firmwareVersion (b + 1) % 2 ^ 32 else bitsOf (s.blockWord found b 0) 95 64

/-! ### Swap record sectors (13 R379, R381, R382) -/

/-- A record sector whose records count, and can take another. -/
def State.recordUsable (s : State) (n : Nat) : Bool := s.sectorState 7 n != 2 && s.sectorState 7 n != 3

/-- The code word after the last written one of a record sector. -/
def State.recordAfter (s : State) (n : Nat) : Nat :=
  s.flash.words.foldl (fun (x : Nat) (e : Nat × CodeWord) =>
    if e.1 / 4096 = sectorOf 7 n then max x (e.1 % 4096 + 1) else x) 0

/-- The current record sector: that of the highest valid record, else the first. -/
def State.recordSector (s : State) (found : Found) : Nat :=
  match s.latestSwap found with
  | none => 1006
  | some x => if (List.range 4096).any fun w => s.swapRecord found 1007 w == some x then 1007 else 1006

/-- Where the next record goes: the current sector, or the other one when it is full. -/
def State.recordPlace (s : State) (found : Found) : Option (Nat × Nat) :=
  let n := s.recordSector found
  let o := 2013 - n
  if s.recordUsable n && decide (s.recordAfter n < 4096) then some (n, s.recordAfter n)
  else if s.recordUsable o && s.recordAfter o == 0 then some (o, 0)
  else none

/-- FLC_BOOT and FLC_REC as the records give them. -/
def State.showRecords (s : State) (found : Found) : State :=
  let x := (s.latestSwap found).getD (0, 1)
  (((s.wr FLC_BOOT_ACTIVE_BLOCK x.2).wr FLC_BOOT_SEQ x.1).wr FLC_REC_REC_SECTOR (s.recordSector found - 1006)).wr FLC_REC_REC_NEXT
    (s.recordAfter (s.recordSector found))

/-- Erase of a record sector started. -/
def State.eraseRecords (s : State) (n : Nat) : State := s.flashStart 7 { erase := true, cmd := none, sector := n }

/-- A swap record written, and the other sector's erase started when the record fills its sector. -/
def State.writeSwap (s : State) (n w seq block : Nat) : State :=
  let s1 := s.putCode (codeKey 7 n w) { bits := swapWord seq block }
  let s2 := if s1.sectorState 7 n = 0 then s1.setSector 7 n 1 else s1
  if w = 4095 then s2.eraseRecords (2013 - n) else s2

/-- The reads of the swap: the block's code words, its lifeline table, the swap records. -/
def State.senseSwap (s : State) (found : Found) (b : Nat) : State :=
  s.senseCodes found fun key => key / 65536 == 96 * b || key / 8192 == codeKey 7 1006 0 / 8192

/-- FLASH_BOOT_SWAP, which the steward executes (R381); `found`: what its reads find. -/
def execFlashBootSwap (id : Nat) (found : Found) (s0 : State) : Result :=
  .next (
    if s0.stewardReady then
      s0.runCmd id 0x8007 fun r s1 =>
        let k := recByte r 8
        let b := k - 1
        if k ≠ 1 ∧ k ≠ 2 then (.badParam 8, s1)
        else if !s1.flashMode then (.notInMode, s1)
        else if s1.rd FLC_BOOT_ACTIVE_BLOCK = k then (.ok, s1)
        else
          let s := s1.senseSwap found b
          match s.blockFault found b with
          | some why => (⟨0x35, why, 0⟩, s)
          | none =>
            if !s.blockTag found b then (⟨0x35, 4, 0⟩, s)
            else if s.isSetAt FLC_BANK_LOAD_LOCK 7 then (⟨0x37, 0, 0⟩, s)
            else if (s.flashOp 7).isSome then (.busy, s)
            else
              match s.recordPlace found with
              | none => (.busy, s)
              | some p =>
                let seq := s.rd FLC_BOOT_SEQ + 1
                let s2 := ((s.writeSwap p.1 p.2 seq k).showRecords found).loadLifeline found
                (⟨0, 0, seq⟩, s2.post 0x8006 0x808 1 (k + seq % 2 ^ 30 * 4))
    else s0)

end Sys2Proof.Machine
end

