-- ==== Sys2Proof/Machine/GuardActs.lean ====
section
/-! DEFINITION. What the guards do about a fault (14), the operations: classification, repair records, retirement of columns,
regions, riser groups and units of the store, relocation, upsets. -/

namespace Sys2Proof.Machine

/-- The guards run (R393). -/
def State.guardsRun (s : State) : Bool :=
  s.running || s.mode == modeHalted || s.mode == modeIdle || s.mode == modeService

/-- SOURCE of the HLT block's events, and of a region's (R411). -/
def sourceHlt : Nat := 0x900
def sourceRegion (r : Nat) : Nat := 0x910 + r

/-- KIND and INDEX as events and HLT_LAST_RETIRE write them (R406). -/
def resourceWord (kind index : Nat) : Nat := kind % 16 * 2 ^ 28 + index % 2 ^ 28

/-! ### Records and marks (R405) -/

/-- A repair record. -/
def repairRecord (kind index cause signal spare : Nat) : Nat :=
  kind * 2 ^ 60 + index % 2 ^ 28 * 2 ^ 32 + signal % 64 * 2 ^ 26 + spare % 4 * 2 ^ 24 + cause % 16 * 2 ^ 20

/-- Records in use shown. -/
def State.showRecordCount (s : State) : State :=
  (s.wr HLT_RECORD_CNT s.guard.records.length).wr HLT_STATUS_RECORDS_FULL (flag (decide (4096 ≤ s.guard.records.length)))

/-- A record written; the retirement stands without one when all are used. -/
def State.addRecord (s : State) (x : Nat) : State :=
  if s.guard.records.length < 4096 then
    let s1 := { s with guard := { s.guard with records := s.guard.records ++ [x] } }.showRecordCount
    if 4096 ≤ s1.guard.records.length then (s1.wr HLT_ERR_RECORDS_FULL 1).post 0x900B sourceHlt 3 0 else s1
  else s

/-- A retirement told: its record, HLT_LAST_RETIRE, event 0x9007. -/
def State.retireNote (s : State) (kind index cause : Nat) : State :=
  let s1 := ((s.addRecord (repairRecord kind index cause 0 0)).wr HLT_LAST_RETIRE_KIND kind).wr HLT_LAST_RETIRE_INDEX index
  (s1.wr HLT_ERR_RETIRED 1).post 0x9007 sourceHlt 3 (resourceWord kind index)

/-- The device is degraded (R413; 16 R436). -/
def State.degrade (s : State) : State := (s.wr HLT_STATUS_DEGRADED 1).followDegraded

/-! ### Tests that end (R403) -/

/-- What a test found: a transient fault, a marginal resource, a failed one. -/
inductive Verdict where
  | transient
  | marginal
  | failed
  deriving DecidableEq, Repr

/-- Transients of a resource in the last second, the present one left out. -/
def State.recentTransients (s : State) (key : Nat) : Nat :=
  (s.guard.transients.filter fun t => t.key == key && decide (s.now ≤ t.tick + 1000000000)).length

/-- Class of a fault whose test has ended. -/
def State.verdict (s : State) (key : Nat) (pass : Bool) : Verdict :=
  if !pass then .failed else if 2 ≤ s.recentTransients key then .marginal else .transient

/-- A transient enters the history; the oldest entry gives way. -/
def State.noteTransient (s : State) (key : Nat) : State :=
  let l := s.guard.transients
  let x : Transient := { key := key, tick := s.now }
  { s with guard := { s.guard with transients := (if l.length < 1024 then l else l.drop 1) ++ [x] } }

/-- The test of a resource ends: counted, event 0x9005, the HLT_TEST that asked for it completes. -/
def State.endTest (s : State) (kind index : Nat) (pass : Bool) : Verdict × State :=
  let key := resourceKey kind index
  let v := s.verdict key pass
  let s1 := { s with guard := { s.guard with tests := SMap.erase s.guard.tests key } }
  let s2 :=
    match v with
    | .transient => (s1.noteTransient key).incSat HLT_TRANSIENT_CNT
    | _ => s1.incSat HLT_PERMANENT_CNT
  let s3 := s2.post 0x9005 sourceHlt (if pass then 1 else 3) (resourceWord kind index)
  match (SMap.find s.guard.tests key).bind fun t => t.cmd with
  | some id => (v, s3.complete id (.ok 0 (flag pass)))
  | none => (v, s3)

/-- CAUSE of a retirement that a test leads to; a host test's own. -/
def State.testCause (s : State) (kind index : Nat) (v : Verdict) : Nat :=
  match SMap.find s.guard.tests (resourceKey kind index) with
  | some t => if t.cause = causeHost then causeHost else if v = .marginal then causeMarginal else causeFailed
  | none => if v = .marginal then causeMarginal else causeFailed

/-! ### Regions (R409) -/

/-- Enabled flows with an endpoint in region `r`. -/
def State.regionFlows (s : State) (r : Nat) : List Nat :=
  s.enabledFlows.filter fun f => s.flowPeerKind f == 1 && portRegion (s.flowPeer f) == r

/-- The region is marked retired, its clocks stopped and its set-reset held (09 R257). -/
def State.markRegion (s : State) (r : Nat) : State :=
  let s1 := ((s.wrAt HLT_REGION_RETIRED r 1).wrAt FAB_REGION_RETIRED r 1).wrMask HLT_STATUS_RETIRED_REGIONS r true
  ((((s1.wrMask FAB_STATUS_RETIRED r true).wrMask CTX_STATUS_PARKED r true).wrAt FAB_REGION_GSR_HELD r 1).wrAt
    FAB_REGION_CLK_RUN r 0).wrAt HLT_REGION_RELOCATE_PENDING r 0

/-- A region is retired. -/
def State.retireRegion (s : State) (r cause : Nat) : State :=
  if s.regionRetired r then s
  else
    let hit := s.regionFlows r
    let s1 := (((s.retireNote kindRegion r cause).markRegion r).resetHard r).refuseRequests 0x62 r
    let s2 := { s1 with guard := { s1.guard with relocations := SMap.erase s1.guard.relocations r } }.retirePorts r
    let s3 := (hit.foldl (fun (x : State) f => x.deviceDisable 2 f) s2).degrade
    let prom := s3.rdAt HLT_REGION_UPSET_ACTION r == 2
    let s4 := s3.post 0x9008 (sourceRegion r) 4 (r + 16 * flag prom + satN 16 hit.length * 2 ^ 16)
    if prom then s4.promenade 7 else s4

/-! ### Columns (R408) -/

/-- Retired logic physical columns of a region. -/
def State.retiredLogic (s : State) (r : Nat) : List Nat :=
  ((logicOffsets 98).map fun q => 98 * r + q).filter fun p => s.rdBit HLT_COL_RETIRED p

/-- A relocation of the columns of region `r` is due: `pairs` get their loaded bit back afterwards. A region already parked is
relocated at once. -/
def State.relocate (s : State) (r p : Nat) (pairs : List Nat) (unpark : Bool) : State :=
  let old := SMap.read s.guard.relocations { columns := [] } r
  let x : Relocation := {
    columns := old.columns ++ [p]
    startedAt := if s.parked r then some s.now else none
    pairs := old.pairs ++ pairs
    unpark := old.unpark || (unpark && !s.parked r) }
  { s with guard := { s.guard with relocations := SMap.put s.guard.relocations r x } }

/-- A logic column with a spare left: relocated now, in a mode in which no clock runs with a park at once (09 R236: a steering changes only
while its region is parked), or at the region's next park when the fault lies only in the inactive
context `k`. -/
def State.moveColumn (s : State) (p : Nat) (inactive : Option Nat) : State :=
  let r := p / 98
  let s1 := s.post 0x9006 sourceHlt 2 (resourceWord kindColumn p)
  match inactive with
  | some k =>
    let s2 := (s1.wrMask CFG_CTX_LOADED (4 * r + k) false).relocate r p [k] false
    (s2.wrAt HLT_REGION_RELOCATE_PENDING r 1).post 0x900A sourceHlt 2 (p + r * 2 ^ 11)
  | none =>
    let s2 := s1.relocate r p [] true
    if s2.running || s2.mode == modeHalted then s2.requestArrives { kind := 1, issued := s2.now } r
    else if s2.parked r then s2.moveColumns r
    else s2.parkRegion r true

/-- A physical column is retired; `inactive` names the context when the fault lies only in an inactive one. Nothing moves off a spare that
carries no logical column. -/
def State.retireColumn (s : State) (p cause : Nat) (inactive : Option Nat := none) : State :=
  if s.rdBit HLT_COL_RETIRED p then s
  else
    let r := p / 98
    let s1 := (s.retireNote kindColumn p cause).wrBit HLT_COL_RETIRED p true
    if s1.regionRetired r then s1
    else if offsetType (p % 98) ≠ 0 then s1.retireRegion r causeDependent
    else if 2 < (s1.retiredLogic r).length then s1.retireRegion r causeSpares
    else if (s.logicalOf p).isNone then s1
    else s1.moveColumn p inactive

/-! ### Frames (R395 to R398) -/

/-- INDEX of a frame (R406). -/
def frameWord (p f k : Nat) : Nat := p % 2 ^ 11 * 2 ^ 10 + f % 2 ^ 8 * 2 ^ 2 + k % 4

/-- DETAIL of events 0x9001 and 0x9002. -/
def upsetDetail (index action : Nat) (active : Bool) : Nat := index + flag active * 2 ^ 21 + action * 2 ^ 22

/-- The upset action that applies to an upset in context `k` of region `r`: that of an active context, or of one that a turn left in
the 16 µs before. -/
def State.upsetAction (s : State) (r k : Nat) : Nat :=
  let recent :=
    match SMap.find s.ctx.left (4 * r + k) with
    | some t => decide (s.now ≤ t + 16000)
    | none => false
  if s.active r == k || recent then s.rdAt HLT_REGION_UPSET_ACTION r else 0

/-- A frame that neither source yields: the pair is no longer loaded; the active one's region parks. -/
def State.unrepairable (s : State) (r k index action : Nat) : State :=
  let active := s.active r == k
  let s1 := ((s.wrMask CFG_CTX_LOADED (4 * r + k) false).wr HLT_ERR_UNREPAIRABLE 1).post 0x9002 (sourceRegion r) 4
    (upsetDetail index action active)
  if active then
    let s2 := (s1.wr PRM_STATUS_CTX_INTACT 0).requestArrives { kind := 1, issued := s1.now } r
    if action = 2 then s2.promenade 7 else s2
  else s1

/-- A frame rewritten: counts, event 0x9001, the upset action. A parked region needs no restart. -/
def State.upsetRepaired (s : State) (r k index action : Nat) : State :=
  let active := s.active r == k
  let s1 := ((s.incSat HLT_UPSET_CNT).addSatAt HLT_REGION_UPSET_CNT r 1).wr HLT_ERR_UPSET 1
  let s2 := (s1.wr HLT_LAST_UPSET index).post 0x9001 (sourceRegion r) (if active then 3 else 2)
    (upsetDetail index action active)
  match action with
  | 1 => if s2.parked r then s2 else (s2.resetCycle r).addSatAt HLT_REGION_RESTART_CNT r 1
  | 2 => s2.promenade 7
  | _ => s2

/-- What the reads of a repair do: of the mirror, and of the golden copy where the mirror does not serve. -/
def State.senseSource (s : State) (k c f : Nat) (found : Found) : State :=
  let s1 := s.senseWords found (mirrorAddrs k (frameIndex c f))
  if (s.mirrorSource k c f found).isNone && s.goldenServes (c / 96) k then
    s1.senseCodes found fun key => (goldenKeys k (frameIndex c f)).contains key
  else s1

/-- A mismatch in frame `f` of the pair of context `k` and logical column `c`, which lies on physical column `p`; `found`: what the reads
of the mirror find. -/
def State.upset (s0 : State) (k p c f : Nat) (found : Found) : State :=
  let r := c / 96
  let index := frameWord p f k
  let s := s0.senseSource k c f found
  let action := s.upsetAction r k
  match s0.repairSource k c f found with
  | some x =>
    ((s.writePlane k (frameIndex c f) x).upsetRepaired r k index action).startTest kindFrame index causeFailed
  | none => s.unrepairable r k index action

/-- The pair of region `r` and context `k` is skipped by the guards: it is locked, since an earlier tick (R410). -/
def State.lockSkips (s : State) (r k : Nat) : Bool := s.locked r k && !(s.cfg.load.any fun l => l.startedAt == s.now)

/-- A frame is read by its guard, or by the steward: its column carries a logical column, its pair is loaded and not locked, and no
test of it runs. -/
def State.guarded (s : State) (k p f : Nat) : Option Nat :=
  if 3 < k ∨ 1567 < p ∨ framesOf (offsetType (p % 98)) ≤ f then none
  else
    match s.logicalOf p with
    | none => none
    | some c =>
      if s.loaded (c / 96) k && !s.lockSkips (c / 96) k && !s.underTest kindFrame (frameWord p f k) &&
          !s.regionRetired (c / 96) && s.guardsRun then some c
      else none

/-! ### Relocation (R408 steps 2 and 3) -/

/-- A moved column's frame of a loaded pair written into its new place. -/
def State.moveFrame (found : Found) (s0 : State) (r k c f : Nat) : State :=
  if !s0.loaded r k then s0
  else
    let s := s0.senseSource k c f found
    match s0.repairSource k c f found with
    | some x => s.writePlane k (frameIndex c f) x
    | none => s.unrepairable r k (frameWord (s.physicalOf c) f k) (if s.active r = k then s.upsetAction r k else 0)

/-- Every frame of the moved columns, in every context. -/
def State.moveFrames (s : State) (r : Nat) (cs : List Nat) (found : Found) : State :=
  (List.range 4).foldl (fun (x : State) k =>
    cs.foldl (fun (y : State) c =>
      (List.range (framesOf (columnType c))).foldl (fun (z : State) f => State.moveFrame found z r k c f) y) x) s

/-- The steering of a region that passes over its retired columns; FAB_COLMAP shows the old one until the unpark. -/
def State.steer (s : State) (r : Nat) : State :=
  let old := s.steeredOver r
  let shown := if s.parked r && (SMap.find s.fabric.shown r).isNone then SMap.put s.fabric.shown r old else s.fabric.shown
  { s with fabric := { s.fabric with steered := SMap.store s.fabric.steered [] r (s.retiredLogic r), shown := shown } }

/-- Logical columns of region `r` that two steerings place differently. -/
def movedColumns (r : Nat) (old new : List Nat) : List Nat :=
  ((List.range 96).map fun j => 96 * r + j).filter fun c => physicalUnder old c != physicalUnder new c

/-- The region unparks after a relocation that parked it, in the context now active; in a mode in which no clock runs its clocks stay
gated. -/
def State.unparkMoved (s : State) (r : Nat) : State :=
  if !s.parked r then s
  else if s.running then (if (s.unparkRefusal r).isNone then s.unparkRegion r else s)
  else if s.mode = modeHalted ∨ !s.loaded r (s.active r) then s
  else (s.unparkRegion r).gateRegion false r

/-- A relocation ends. -/
def State.relocated (s : State) (r : Nat) (x : Relocation) (since : Nat) (found : Found) : State :=
  let cs := movedColumns r (s.steeredOver r) (s.retiredLogic r)
  let s1 := { s with guard := { s.guard with relocations := SMap.erase s.guard.relocations r } }.steer r
  let s2 := x.pairs.foldl (fun (y : State) k => y.wrMask CFG_CTX_LOADED (4 * r + k) true) s1
  let s3 := (s2.moveFrames r cs found).wrAt HLT_REGION_RELOCATE_PENDING r 0
  let s4 := x.columns.foldl (fun (y : State) p =>
    y.post 0x9009 sourceHlt 2 (p + r * 2 ^ 11 + satN 16 ((s.now - since) / 1000) * 2 ^ 16)) s3
  if x.unpark then s4.unparkMoved r else s4

/-! ### Units of the store (05 R132) -/

/-- A near store bank or far store channel is retired: the pool stops allocating from it; RELOCATION_DONE goes on. -/
def State.retireUnit (s : State) (far : Bool) (u cause : Nat) : State :=
  if s.unitLive far u then
    let s1 := s.retireNote (unitKind far) u cause
    { s1 with store := { s1.store with relocating := s1.store.relocating ++ [(far, u)] } }.degrade
  else s

/-! ### Lanes (R407; 08 R220, R222) -/

/-- The other path of an ST 2022-7 pair still serves the flow. -/
def State.masked (s : State) (n f : Nat) : Bool := s.flowPair f && (s.flowLanes f).any fun m => m != n && !s.laneRetired m

/-- Lane 4q that leads the 100GBASE-R4 group of a lane, or the lane itself (08 R210). -/
def State.groupLane (s : State) (n : Nat) : Nat := if s.laneFollows n then n / 4 * 4 else n

/-- A lane is retired: flows that nothing masks are disabled, those of its group with it; those of a bond were when it went DOWN. A lane
that carries no position of its bond leaves it. -/
def State.retireLane (s : State) (n cause : Nat) : State :=
  if s.laneRetired n then s
  else
    let s1 := ((s.retireNote kindLane n cause).laneTo n 4 3).bondFault n
    let lost := if (s1.laneBond n).isSome then [] else (s1.flowsOn [s1.groupLane n]).filter fun f => !s1.masked n f
    let s2 :=
      match s1.laneBond n with
      | some b => if (s1.bondPosition b n).isNone then s1.leaveBond n else s1
      | none => s1
    (lost.foldl (fun (x : State) f => x.deviceDisable 1 f) s2).degrade

/-- A lane whose test passed becomes the spare of its bond, when that one has lost its spare (08 R220). -/
def State.becomeSpare (s : State) (n : Nat) : State :=
  match s.laneBond n with
  | none => s
  | some b =>
    let r := s.bondRun b
    if s.bondUp b && r.spare.isNone && (s.bondPosition b n).isNone then
      let s1 := (s.setBondRun b { r with spare := some n }).wrAt LNE_LN_STATUS_POSITION n 16
      if s.rdAt LNE_BOND_STATUS_STATE b = 3 then s1.setBond b 2 0 else s1
    else s

/-! ### Riser groups (R407) -/

/-- Groups of riser interface `i` (01 R13, R14): on interface 23, the column in bits 23 to 13. -/
def riserGroup (i g : Nat) : Bool :=
  match i with
  | 1 => decide (g < 96)
  | 2 => decide (g < 288)
  | 3 =>
    let n :=
      match offsetType (g / 2 ^ 13 % 98) with
      | 0 => 7168
      | 1 => 5248
      | 2 => 3520
      | _ => 2592
    decide (g / 2 ^ 13 < 1568) && decide (g % 2 ^ 13 < n)
  | 4 => decide (g < 392)
  | 5 => decide (g < 16)
  | 6 => decide (g < 16)
  | 7 => decide (g < 128)
  | _ => false

/-- What a group of interface 23 carries (01 R14): bits 64`part` to 64`part` + 63 of a configuration frame, or tap group `part` of
the four of a cluster. -/
inductive GroupUse where
  | config (frame part : Nat)
  | taps (cluster part : Nat)
  deriving DecidableEq, Repr

/-- The configuration groups of a physical column: 27 for each frame. -/
def configGroups (p : Nat) : Nat := 27 * framesOf (offsetType (p % 98))

/-- The group of interface 23 that carries bits 64k to 64k + 63 of frame `f` of physical column `p`. -/
def configGroup (p f k : Nat) : Nat := p * 2 ^ 13 + 27 * f + k

/-- What group `g` of interface 23 carries. -/
def groupUse (g : Nat) : Option GroupUse :=
  let n := g % 2 ^ 13
  let c := configGroups (g / 2 ^ 13)
  if !riserGroup 3 g then none
  else if n < c then some (.config (n / 27) (n % 27))
  else some (.taps ((n - c) / 4) ((n - c) % 4))

/-- An express tap group of interface 23. -/
def tapGroup (g : Nat) : Bool := riserGroup 3 g && decide (configGroups (g / 2 ^ 13) ≤ g % 2 ^ 13)

/-- Interfaces whose groups work in pairs. -/
def pairedRiser (i : Nat) : Bool := i == 1 || i == 2 || i == 4 || i == 7

/-- The rechecks that a loss of capacity of a riser pair asks for (06 R149, R164). -/
def State.riserRecheck (s : State) (i g : Nat) : State :=
  match i with
  | 1 => s.startRecheck 4 (if g < 48 then 0 else 1)
  | 2 =>
    if g < 256 then
      [g / 2 * 2, g / 2 * 2 + 1].foldl (fun (x : State) n => (x.startRecheck 5 n).startRecheck 6 n) s
    else s
  | 7 => s.startRecheck 2 0
  | _ => s

/-- What depends on a pair of groups both of which are retired. -/
def State.riserPairLost (s : State) (i g : Nat) : State :=
  match i with
  | 1 => s.riserRecheck 1 g
  | 2 => if g < 256 then s.retireRegion (g / 16) causeDependent else s
  | 4 => (List.range 8).foldl (fun (x : State) k => x.retireColumn (8 * (g / 2) + k) causeDependent) s
  | 7 => s.retireUnit true (g / 4) causeDependent
  | _ => s

/-- Riser counts shown. -/
def State.showRiser (s : State) (i : Nat) : State :=
  let on := fun (x : Nat) => x / 2 ^ 24 == i
  (s.wrAt HLT_RISER_HALF_CNT (i - 1) (s.guard.half.filter on).length).wrAt HLT_RISER_RETIRED_CNT (i - 1)
    (satN 16 (s.guard.groupsRetired.filter on).length)

/-- A group joins the retired ones; its pair runs at half bandwidth, or no longer. -/
def State.loseGroup (s : State) (i g : Nat) : State :=
  let me := riserIndex i g
  let other := riserIndex i (if g % 2 = 0 then g + 1 else g - 1)
  let gone := s.guard.groupsRetired.contains other
  let half :=
    if !pairedRiser i then s.guard.half
    else if gone then s.guard.half.filter fun x => x != me && x != other
    else s.guard.half ++ [me, other]
  { s with guard := { s.guard with half := half, groupsRetired := s.guard.groupsRetired ++ [me] } }.showRiser i

/-- A region, bank, channel or lane is retired, or a group runs at half bandwidth (R413). -/
def State.degradedNow (s : State) : Bool :=
  s.rd HLT_STATUS_RETIRED_REGIONS != 0 || s.rd STR_STATUS_NEAR_LIVE_CNT != 512 || s.rd STR_STATUS_FAR_LIVE_CNT != 32 ||
    !s.store.relocating.isEmpty || !s.guard.half.isEmpty || (List.range 128).any s.laneRetired

/-- DEGRADED is reviewed, and the mode follows it: a retirement sets or clears it (R413, R436, R437). -/
def State.reviewDegraded (s : State) : State := (s.wr HLT_STATUS_DEGRADED (flag s.degradedNow)).followDegraded

/-- A riser group is retired. -/
def State.retireGroup (s : State) (i g cause : Nat) : State :=
  if s.guard.groupsRetired.contains (riserIndex i g) then s
  else
    let gone := s.guard.groupsRetired.contains (riserIndex i (if g % 2 = 0 then g + 1 else g - 1))
    let s1 := (s.retireNote kindRiser (riserIndex i g) cause).loseGroup i g
    if i = 3 then s1.retireColumn (g / 2 ^ 13) causeDependent
    else if !pairedRiser i then s1
    else if gone then (s1.riserPairLost i g).reviewDegraded
    else s1.degrade.riserRecheck i g

/-- Signals of a group steered to its spares: at the factory, then in service (01 R16). -/
def State.groupSpares (s : State) (index : Nat) : List Nat :=
  ((Config.factorySteering.filter fun e => e.1 == index).map fun e => e.2) ++ SMap.read s.guard.steered [] index

/-- A signal noted as steered to the group's next spare (01 R15, R16). -/
def State.steerSignal (s : State) (index signal : Nat) : State :=
  { s with guard := { s.guard with
      steered := SMap.put s.guard.steered index (SMap.read s.guard.steered [] index ++ [signal]) } }

/-- A failed signal moves to a spare of its own group; a fifth retires the group (R407; 01 R15). DESIGN CHOICE (log 122): the spare is
the lowest-numbered one that is not in use. -/
def State.signalFailed (s : State) (i g signal cause : Nat) : State :=
  let index := riserIndex i g
  let n := (s.groupSpares index).length
  if 4 ≤ n then s.retireGroup i g causeSpares
  else
    ((s.addRecord (repairRecord kindSignal index cause signal n)).steerSignal index signal).post 0x9006 sourceHlt 2
      (resourceWord kindSignal index)

/-! ### Records applied at a start (R405) -/

/-- One repair record applied; lane and guard records are history, and the steering of signals never went (01 R16). -/
def State.applyRecord (s : State) (x : Nat) : State :=
  let index := bitsOf x 59 32
  match x / 2 ^ 60 with
  | 3 => s.loseGroup (index / 2 ^ 24) (index % 2 ^ 24)
  | 4 => s.wrBit HLT_COL_RETIRED index true
  | 5 => s.markRegion index
  | 6 =>
    ((s.wrBit STR_NEAR_LIVE index false).wr STR_STATUS_NEAR_LIVE_CNT (s.rd STR_STATUS_NEAR_LIVE_CNT - 1)).wrAt
      STR_PART_WORDS 5 (s.rdAt STR_PART_WORDS 5 - 16384)
  | 7 =>
    ((s.wrBit STR_FAR_LIVE index false).wr STR_STATUS_FAR_LIVE_CNT (s.rd STR_STATUS_FAR_LIVE_CNT - 1)).wrAt
      STR_PART_WORDS 3 (s.rdAt STR_PART_WORDS 3 - 16777216)
  | _ => s

/-- The unit of the store that a repair record retires. -/
def recordUnit (x : Nat) : Option (Bool × Nat) :=
  match x / 2 ^ 60 with
  | 6 => some (false, bitsOf x 59 32)
  | 7 => some (true, bitsOf x 59 32)
  | _ => none

/-- The slots of fixed partitions and buffers that retired units lost have places on live units, also after a reset that forgot them
(05 R132 step 2). -/
def State.rebindSlots (s : State) : State :=
  (s.guard.records.filterMap recordUnit).foldl (fun (x : State) (u : Bool × Nat) =>
    x.relocateSlots u.1 (x.boundSlots u.1 u.2) {}) s

/-- All records applied after a reset, and the steering of every region. -/
def State.applyRecords (s : State) : State :=
  let s1 := (s.guard.records.foldl (fun (x : State) r => x.applyRecord r) s).rebindSlots.showRecordCount
  let s2 := (List.range 16).foldl (fun (x : State) r =>
    { x with fabric := { x.fabric with steered := SMap.store x.fabric.steered [] r (x.retiredLogic r) } }) s1
  s2.wr HLT_STATUS_DEGRADED (flag s2.degradedNow)

end Sys2Proof.Machine
end

