-- ==== Sys2Proof/Machine/Guards.lean ====
section
/-! DEFINITION. Guarding and retirement (14): upsets, tests that end, relocation, guards that fail, the commands of the HLT
block. -/

namespace Sys2Proof.Machine

/-! ### Frames -/

/-- FRAME_UPSET_DETECT (R393, R395 to R398): the guard of a guarded column. -/
def execFrameUpsetDetect (context physical frame : Nat) (found : Found) (s : State) : Result :=
  .next (
    match s.guarded context physical frame with
    | some c => if s.rdBit HLT_GUARD_FAILED physical then s else s.upset context physical c frame found
    | none => s)

/-- STEWARD_SCRUB_MISMATCH (R401): the steward reads the frames of unguarded columns. -/
def execStewardScrubMismatch (context physical frame : Nat) (found : Found) (s : State) : Result :=
  .next (
    match s.guarded context physical frame with
    | some c => if s.rdBit HLT_GUARD_FAILED physical && s.stewardReady then s.upset context physical c frame found else s
    | none => s)

/-- A frame's resource is permanent (R396): a failed signal of a configuration group is steered to a spare of its group; any other
fault is one of the physical column. -/
def State.framePermanent (s : State) (context physical frame cause : Nat) (found : FrameTest) : State :=
  match found with
  | .signal k n => s.signalFailed 3 (configGroup physical frame (k % 27)) (n % 64) cause
  | _ => s.retireColumn physical cause (if s.active (physical / 98) = context then none else some context)

/-- FRAME_SELF_TEST_DONE (R396, R402, R403). -/
def execFrameSelfTestDone (context physical frame : Nat) (found : FrameTest) (s : State) : Result :=
  .next (
    let index := frameWord physical frame context
    if context < 4 ∧ physical < 1568 ∧ frame < 256 ∧ s.underTest kindFrame index then
      let t := s.endTest kindFrame index (found == .pass)
      if t.1 = .transient then t.2 else t.2.framePermanent context physical frame (s.testCause kindFrame index t.1) found
    else s)

/-- COLUMN_RELOCATION_DONE (R408 steps 2 and 3). -/
def execColumnRelocationDone (region : Nat) (found : Found) (s : State) : Result :=
  .next (
    match SMap.find s.guard.relocations region with
    | none => s
    | some x =>
      match x.startedAt with
      | none => s
      | some t => s.relocated region x t found)

/-! ### The guards themselves -/

/-- GUARD_TMR_CORRECT (R399). -/
def execGuardTmrCorrect (physical : Nat) (s : State) : Result :=
  .next (
    if physical < 1568 ∧ s.guardsRun ∧ !s.rdBit HLT_GUARD_FAILED physical then
      (s.incSat HLT_TMR_CNT).postLimited 0x9004 0 sourceHlt 0 fun n => physical + satN 16 n * 2 ^ 16
    else s)

/-- The steward's scrub passes count from now on (R401). -/
def State.scrubStarts (s : State) : State := { s with guard := { s.guard with scrubFrom := s.now } }

/-- GUARD_FAILED (R400). -/
def execGuardFailed (physical : Nat) (inactiveLimit : Bool) (s : State) : Result :=
  .next (
    if physical < 1568 ∧ s.guardsRun ∧ !s.rdBit HLT_GUARD_FAILED physical then
      let s0 := if s.rd HLT_STATUS_UNGUARDED_CNT = 0 then s.scrubStarts else s
      let s1 := ((s0.wrBit HLT_GUARD_FAILED physical true).addSatAt HLT_STATUS_UNGUARDED_CNT 0 1).wr HLT_ERR_GUARD_FAILED 1
      (s1.addRecord (repairRecord kindGuard physical causeFailed 0 0)).post 0x9003 sourceHlt 3
        (physical + flag inactiveLimit * 2 ^ 11)
    else s)

/-! ### Risers -/

/-- RISER_TRANSFER_ERROR (R391): the transfer is discarded and requested again; the test of its group starts. -/
def execRiserTransferError (interface group : Nat) (s : State) : Result :=
  .next (
    if interface ≠ 3 ∧ riserGroup interface group ∧ !s.guard.groupsRetired.contains (riserIndex interface group) then
      (s.addSatAt HLT_RISER_TRANSFER_ERR_CNT (interface - 1) 1).startTest kindRiser (riserIndex interface group) causeFailed
    else s)

/-- EXPRESS_TAP_MISMATCH (R391). -/
def execExpressTapMismatch (group : Nat) (s : State) : Result :=
  .next (
    if tapGroup group ∧ !s.guard.groupsRetired.contains (riserIndex 3 group) then
      (s.addSatAt HLT_RISER_TRANSFER_ERR_CNT 2 1).startTest kindRiser (riserIndex 3 group) causeFailed
    else s)

/-- RISER_TEST_DONE (R402, R403, R407): a signal that failed is steered; a marginal group names none and is retired. -/
def execRiserTestDone (interface group : Nat) (failedSignal : Option Nat) (s : State) : Result :=
  .next (
    let index := riserIndex interface group
    if riserGroup interface group ∧ s.underTest kindRiser index then
      let t := s.endTest kindRiser index failedSignal.isNone
      let cause := s.testCause kindRiser index t.1
      match t.1, failedSignal with
      | .failed, some n => t.2.signalFailed interface group (n % 64) cause
      | .marginal, _ => t.2.retireGroup interface group cause
      | _, _ => t.2
    else s)

/-! ### Store and lanes -/

/-- The march of a unit of the store ends. -/
def State.unitTestDone (s : State) (far : Bool) (u : Nat) (pass : Bool) : State :=
  if u < storeUnits far ∧ s.underTest (unitKind far) u then
    let t := s.endTest (unitKind far) u pass
    if t.1 = .transient then t.2 else t.2.retireUnit far u (s.testCause (unitKind far) u t.1)
  else s

/-- STORE_BANK_TEST_DONE. -/
def execStoreBankTestDone (bank : Nat) (pass : Bool) (s : State) : Result := .next (s.unitTestDone false bank pass)

/-- FAR_CHANNEL_TEST_DONE. -/
def execFarChannelTestDone (channel : Nat) (pass : Bool) (s : State) : Result := .next (s.unitTestDone true channel pass)

/-- LANE_TEST_DONE (R402; 08 R208, R220): a lane that passes goes to ACQUIRE, or where its settings ask for. -/
def execLaneTestDone (lane : Nat) (pass : Bool) (s : State) : Result :=
  .next (
    if lane < 128 ∧ s.underTest kindLane lane then
      let t := s.endTest kindLane lane pass
      if t.1 = .transient then (t.2.laneSettle lane).becomeSpare lane
      else t.2.retireLane lane (s.testCause kindLane lane t.1)
    else s)

/-! ### Commands (R412) -/

/-- HLT_AFFECTED_FLOWS; the steward executes it. -/
def execHltAffectedFlows (id : Nat) (s : State) : Result :=
  .next (
    if s.stewardReady then
      s.runCmd id 0x9001 fun r s =>
        let out := s.guard.affected.take (recField r 16 2)
        let left := s.guard.affected.drop (recField r 16 2)
        (.ok 0 (out.length + satN 16 left.length * 2 ^ 16),
          { s with guard := { s.guard with affected := left } }.hostWrite (recField r 8 8) (out.flatMap fun f => bytesOf 2 f))
    else s)

/-- HLT_RECORDS; the steward executes it. -/
def execHltRecords (id : Nat) (s : State) : Result :=
  .next (
    if s.stewardReady then
      s.runCmd id 0x9002 fun r s =>
        let out := s.guard.records.drop (recField r 16 2)
        (.ok 0 (out.length % 2 ^ 13), s.hostWrite (recField r 8 8) (out.flatMap fun x => bytesOf 8 x))
    else s)

/-- The resource that HLT_TEST names exists. -/
def testTarget (kind index : Nat) : Bool :=
  match kind with
  | 3 => riserGroup (index / 2 ^ 24) (index % 2 ^ 24)
  | 6 => decide (index < 512)
  | 7 => decide (index < 32)
  | _ => decide (index < 128)

/-- A lane that the host tests goes to TEST. -/
def State.testLane (s : State) (n : Nat) : State :=
  if s.lane n = 4 ∨ s.lane n = 5 then s else (s.laneTo n 3 5).bondFault n

/-- HLT_TEST. -/
def execHltTest (id : Nat) (s : State) : Result :=
  .next (s.startCmd id 0x9003 fun r s =>
    let kind := recByte r 8 % 16
    let index := recField r 12 4
    if kind ≠ 3 ∧ kind ≠ 6 ∧ kind ≠ 7 ∧ kind ≠ 8 then (some (.badParam 8), s)
    else if !testTarget kind index then (some (.badParam 12), s)
    else if !s.running ∧ s.mode ≠ modeService then (some .notInMode, s)
    else if s.underTest kind index then (some .busy, s)
    else (none, (if kind = kindLane then s.testLane index else s).startTest kind index causeHost (some id)))

end Sys2Proof.Machine
end

