-- ==== Sys2Proof/Machine/PolicyOps.lean ====
section
/-! DEFINITION. Power entry and thermal policy (15), the operations: conditions held for a time, the budget's terms, temperatures,
the ladder. Temperatures are signed, in units of 0.125 °C; powers are in mW. -/

namespace Sys2Proof.Machine

/-! ### Conditions held without a break -/

/-- Since when a condition has held. -/
def holdSince (c : Bool) (old : Option Nat) (now : Nat) : Option Nat :=
  if c then (match old with | some t => some t | none => some now) else none

/-- The condition has held for `d` ticks. -/
def heldFor (since : Option Nat) (d now : Nat) : Bool :=
  match since with
  | some t => decide (t + d ≤ now)
  | none => false

/-- Since when, in a map of conditions. -/
def holdAt (m : SMap Nat) (k : Nat) (c : Bool) (now : Nat) : SMap Nat :=
  match holdSince c (SMap.find m k) now with
  | some t => SMap.put m k t
  | none => SMap.erase m k

/-- The rails are on and the policy runs (R429): every mode but OFF and DEEP_SLEEP. -/
def State.policyRuns (s : State) : Bool := s.mode != modeOff && s.mode != modeDeepSleep

/-- SOURCE of the power and thermal events (R433). -/
def sourceThm : Nat := 0xA00

/-! ### Input power (R414, R415) -/

/-- Event 0xA003. -/
def State.vinEvent (s : State) (k : Nat) : State := s.post 0xA003 sourceThm 2 (k + satN 16 (s.modes.vin / 2) * 2 ^ 16)

/-- A measurement of VIN: registers, range, the times of R414 and R427; event 0xA003 when the range changes. -/
def State.vinRange (s : State) (mv ma mw : Nat) : State :=
  let low := decide (mv < 9000)
  let high := decide (60000 < mv)
  let wasLow := s.isSet THM_STATUS_VIN_LOW
  let wasHigh := s.isSet THM_STATUS_OVERVOLT
  let s1 := ((((s.wr THM_VIN_MV (satN 17 mv)).wr THM_IIN_MA (satN 14 ma)).wr THM_PIN_MW (satN 19 mw)).wr THM_STATUS_VIN_LOW
    (flag low)).wr THM_STATUS_OVERVOLT (flag high)
  let p : Power := { s1.power with
    lowSince := holdSince low s.power.lowSince s.now
    overSince := holdSince high s.power.overSince s.now }
  let s2 := { s1 with power := p, modes := { s1.modes with vin := mv } }
  if low == wasLow && high == wasHigh then s2
  else s2.vinEvent (if low then 1 else if high then 2 else 4)

/-! ### The budget (R416) -/

/-- The flow that the budget and the flow state take: the reading, or the estimate once the sensor is suspect (R422). -/
def State.flowTaken (s : State) : Nat := if s.isSet THM_STATUS_FLOW_SUSPECT then s.rd THM_FLOW_FLOW_EST_ML else s.rd THM_FLOW_FLOW_ML

/-- FLOW_EST in mL/min as a fraction (R422): 8 × 100 × P over 6508 × ΔT, P in mW and ΔT in units of 0.125 K; none where the
outlet is not above the inlet. -/
def State.flowRatio (s : State) : Option (Nat × Nat) :=
  let d := toSigned 16 (s.rd THM_COOLANT_OUTLET) - toSigned 16 (s.rd THM_COOLANT_INLET)
  if 0 < d then some (800 * s.rd THM_PSTACK_MW, 6508 * d.toNat) else none

/-- The flow that B_FLOW takes, as a fraction of mL/min: FLOW_EST unrounded once the sensor is suspect. -/
def State.flowFraction (s : State) : Nat × Nat :=
  if s.isSet THM_STATUS_FLOW_SUSPECT then s.flowRatio.getD (s.rd THM_FLOW_FLOW_EST_ML, 1) else (s.rd THM_FLOW_FLOW_ML, 1)

/-- B_VIN, B_INLET, B_FLOW and the cap, in eighteenths of a milliwatt. Below 300 mL/min B_FLOW stays at its floor. -/
def State.budgetVin (s : State) : Nat :=
  if 18000 ≤ s.modes.vin then 245000 * 18 else 120000 * 18 + 250 * s.modes.vin - 250 * 9000
def State.budgetInlet (s : State) : Nat :=
  let t := toSigned 16 (s.rd THM_COOLANT_INLET)
  if Config.grade % 16 = 1 then max (35000 * 18) (245000 * 18 - 14625 * (t - 280).toNat) else 245000 * 18
def State.budgetFlow (s : State) : Nat :=
  let f := s.flowFraction
  if s.rd THM_STATUS_FLOW_STATE = 2 ∨ f.1 ≤ 300 * f.2 then 35000 * 18
  else if 600 * f.2 ≤ f.1 then 245000 * 18
  else 35000 * 18 + (f.1 - 300 * f.2) * 12600 / f.2
def State.budgetCap (s : State) : Nat := s.rd THM_BUDGET_CAP_MW * 18

/-- The term that sets B in THM_BUDGET.LIMIT's encoding; of equal terms the cap, then VIN, inlet, flow. -/
def State.budgetLimit (s : State) : Nat :=
  let m := min (min s.budgetVin s.budgetInlet) (min s.budgetFlow s.budgetCap)
  if s.budgetCap = m then 4 else if s.budgetVin = m then 1 else if s.budgetInlet = m then 2 else 3

/-- B recomputed; event 0xA002 when the term changes, or B by 5 W from the figure last told. -/
def State.budgetNow (s : State) : State :=
  let b := min (min s.budgetVin s.budgetInlet) (min s.budgetFlow s.budgetCap) / 18
  let k := s.budgetLimit
  let old := s.power.budgetTold
  let s1 := (((s.wr THM_B_VIN_MW (s.budgetVin / 18)).wr THM_B_INLET_MW (s.budgetInlet / 18)).wr THM_B_FLOW_MW
    (s.budgetFlow / 18)).wr THM_BUDGET_BUDGET_MW b
  let s2 := s1.wr THM_BUDGET_LIMIT k
  if k ≠ s.rd THM_BUDGET_LIMIT ∨ old + 5000 ≤ b ∨ b + 5000 ≤ old then
    { s2 with power := { s2.power with budgetTold := b } }.post 0xA002 sourceThm 1 (b / 4 + k * 2 ^ 28)
  else s2

/-! ### Stack power (R419) -/

/-- Mean of column `i` of the samples. -/
def meanOf (l : List (List Nat)) (i : Nat) : Nat := if l.isEmpty then 0 else (l.map fun x => x.getD i 0).sum / l.length

/-- The region draws more than 110 % of its declared peak. -/
def State.overPeak (s : State) (r : Nat) : Bool :=
  s.rd CFG_DECL_PEAK_MW != 0 && decide (11 * s.rdAt CFG_REGION_PEAK_MW r < 10 * s.rdAt THM_REGION_P_MW r)

/-- A region's power shown; OVER_DECL follows the condition. -/
def State.regionPower (s : State) (r : Nat) : State :=
  let s1 := s.wrAt THM_REGION_P_MW r (satN 18 (meanOf s.power.samples (6 + r)))
  let since := holdAt s1.power.overDecl r (s1.overPeak r) s.now
  let s2 := { s1 with power := { s1.power with overDecl := since } }
  let on := heldFor (SMap.find since r) 10000000 s.now
  let s3 := s2.wrAt THM_REGION_OVER_DECL r (flag on)
  if on && !s.isSetAt THM_REGION_OVER_DECL r then
    s3.post 0xA008 sourceThm 2 (r + satN 16 (s3.rdAt THM_REGION_P_MW r / 4) * 2 ^ 16)
  else s3

/-! ### Coolant flow (R421, R422) -/

/-- The flow estimate in whole mL/min. -/
def State.flowEstimate (s : State) : Option Nat := s.flowRatio.map fun r => r.1 / r.2

/-- FLOW_EST_ML; a free value where the spec gives no estimate. -/
def State.showEstimate (s : State) : State :=
  match s.flowEstimate with
  | some e => s.wr THM_FLOW_FLOW_EST_ML (satN 12 e)
  | none => (s.wr THM_FLOW_FLOW_EST_ML (s.free 12)).took

/-- The flow sensor becomes suspect. -/
def State.flowSuspect (s : State) (ml : Nat) : State :=
  if s.isSet THM_STATUS_FLOW_SUSPECT then s
  else
    let bad := decide (600 ≤ ml) && decide (35000 < s.rd THM_PSTACK_MW) &&
      (match s.flowRatio with
       | some e => decide (2 * e.1 < ml * e.2)
       | none => false)
    let since := holdSince bad s.power.estimateLow s.now
    let s1 := { s with power := { s.power with estimateLow := since } }
    if heldFor since 10000000 s.now then (s1.wr THM_STATUS_FLOW_SUSPECT 1).post 0xA005 sourceThm 2 0x65 else s1

/-- The flow state that the times ask for: 0 = NORMAL, 1 = LOW, 2 = LOST. -/
def State.flowNext (s : State) : Nat :=
  let k := s.rd THM_STATUS_FLOW_STATE
  if k ≠ 2 ∧ heldFor s.power.below300 50000000 s.now then 2
  else if k = 0 ∧ heldFor s.power.below600 10000000 s.now then 1
  else if k ≠ 0 ∧ heldFor s.power.above600 1000000000 s.now then 0
  else k

/-- The flow state changes: event 0xA004. -/
def State.setFlowState (s : State) (k : Nat) : State :=
  if k = s.rd THM_STATUS_FLOW_STATE then s
  else (s.wr THM_STATUS_FLOW_STATE k).post 0xA004 sourceThm (if k = 2 then 4 else 2) (k + s.flowTaken % 2 ^ 12 * 2 ^ 16)

/-! ### Temperatures (R423 to R426) -/

/-- Sensors of a layer: the first, and how many. -/
def layerSensors (l : Nat) : List Nat :=
  match l with
  | 0 => List.range' 0 16
  | 1 => List.range' 16 16
  | 2 => List.range' 32 32
  | 3 => List.range' 64 16
  | 4 => List.range' 80 8
  | _ => List.range' 88 8

/-- Layer of a junction sensor. -/
def layerOf (i : Nat) : Nat :=
  if i < 16 then 0 else if i < 32 then 1 else if i < 64 then 2 else if i < 80 then 3 else if i < 88 then 4 else 5

/-- Reading of sensor `i`; whether it is left out. -/
def State.sensor (s : State) (i : Nat) : Int := toSigned 16 (s.rdAt THM_SENSOR_TEMP i)
def State.sensorGood (s : State) (i : Nat) : Bool := !s.isSetAt THM_SENSOR_FAULTY i

/-- Distance of two indices. -/
def indexGap (i j : Nat) : Nat := (i - j) + (j - i)

/-- The two nearest sensors in the layer that are not left out: nearest by index, the lower index first (DESIGN CHOICE, log 38). -/
def State.nearest (s : State) (i : Nat) : List Nat :=
  (sortBy (fun a b => decide (indexGap a i < indexGap b i))
    ((layerSensors (layerOf i)).filter fun j => j != i && s.sensorGood j)).take 2

/-- A junction sensor meets a fault condition: outside −40 °C to 150 °C, or 15 °C from both of its two nearest. -/
def State.sensorOdd (s : State) (i : Nat) : Bool :=
  let t := s.sensor i
  let near := s.nearest i
  decide (t < -320) || decide (1200 < t) ||
    (near.length == 2 && near.all fun j => decide (120 < (t - s.sensor j).natAbs))

/-- The outlet reads more than 1 K below the inlet. -/
def State.outletLow (s : State) : Bool :=
  s.sensorGood 96 && s.sensorGood 97 && decide (s.sensor 97 + 8 < s.sensor 96)

/-- The stratum outlets, weighted 35, 40 and 25 %, differ from the outlet by more than 2 K. -/
def State.outletsDiffer (s : State) : Bool :=
  ((List.range' 97 4).all s.sensorGood) &&
    decide (1600 < (35 * s.sensor 98 + 40 * s.sensor 99 + 25 * s.sensor 100 - 100 * s.sensor 97).natAbs)

/-- Of the outlet and the three stratum outlets, how far sensor `i` lies from the other three. -/
def State.outletGap (s : State) (i : Nat) : Nat :=
  (4 * s.sensor i - ((List.range' 97 4).map s.sensor).foldl (· + ·) 0).natAbs

/-- The coolant sensor that disagrees with the others: the farthest of the four outlets, the lowest index first (DESIGN CHOICE,
log 38). -/
def State.oddOutlet (s : State) : Nat :=
  ((sortBy (fun a b => decide (s.outletGap b < s.outletGap a)) (List.range' 97 4)).head?).getD 97

/-- A sensor declared faulty. -/
def State.sensorFault (s : State) (i : Nat) : State :=
  if s.isSetAt THM_SENSOR_FAULTY i then s
  else ((s.wrAt THM_SENSOR_FAULTY i 1).incSat THM_SENSOR_FAULT_CNT).post 0xA005 sourceThm 2 i

/-- Condition `k` of a sensor fault watched: after 10 ms sensor `i` is declared faulty. -/
def State.watchSensor (s : State) (k : Nat) (c : Bool) (i : Nat) : State :=
  let m := holdAt s.power.sensorSince k c s.now
  let s1 := { s with power := { s.power with sensorSince := m } }
  if heldFor (SMap.find m k) 10000000 s.now then s1.sensorFault i else s1

/-- Every cross-check. Of an outlet below the inlet, the outlet is the sensor declared faulty where the stratum outlets differ from
it, else the inlet (DEDUCED, log 38). -/
def State.crossCheck (s : State) : State :=
  let s1 := (List.range 96).foldl (fun (x : State) i => x.watchSensor i (x.sensorGood i && s.sensorOdd i) i) s
  let s2 := s1.watchSensor 96 s.outletLow (if s.outletsDiffer then 97 else 96)
  s2.watchSensor 97 s.outletsDiffer s.oddOutlet

/-- Highest good reading of a layer. -/
def State.layerRead (s : State) (l : Nat) : Option Int :=
  (((layerSensors l).filter s.sensorGood).map s.sensor).foldl (fun (m : Option Int) t =>
    match m with
    | some x => some (max x t)
    | none => some t) none

/-- The higher of two temperatures that may be unknown, plus 10 °C. -/
def hotter (a b : Option Int) : Option Int :=
  match a, b with
  | some x, some y => some (max x y + 80)
  | some x, none => some (x + 80)
  | none, y => y.map (· + 80)

/-- Layer temperatures: a layer whose sensors are all faulty takes its neighbours' (R424), as far as `n` layers away. -/
def State.layers (s : State) (n : Nat) : List (Option Int) :=
  match n with
  | 0 => (List.range 6).map s.layerRead
  | k + 1 =>
    let l := s.layers k
    (List.range 6).map fun i =>
      match l.getD i none with
      | some t => some t
      | none => hotter (if i = 0 then none else l.getD (i - 1) none) (l.getD (i + 1) none)

/-- Temperature of layer `l`; a free value where every sensor of the stack is faulty. -/
def State.layerTemp (s : State) (l : Nat) : Int :=
  match (s.layers 5).getD l none with
  | some t => t
  | none => toSigned 16 (s.free 16)

/-- The L2 inference in sixteenths of a microkelvin (R425). -/
def State.inferred (s : State) : Int :=
  let p : Int := s.power.powerL2
  let m := (s.layerTemp 1 + s.layerTemp 3) * 62500 + (s.rd THM_MODEL_A_MK : Int) * p
  let b := toSigned 16 (s.rd THM_STRATA_B_OUT) * 125000 + (s.rd THM_MODEL_B_MK : Int) * p
  let c : Int := s.rd THM_MODEL_C_MK
  let of := fun (r : Nat) => 16 * max m b + c * (16 * (s.rdAt THM_REGION_P_MW r : Int) - p)
  (List.range 15).foldl (fun x r => max x (of (r + 1))) (of 0)

/-- Sixteenths of a microkelvin in one unit of 0.125 °C; a temperature rounded to the nearest unit. -/
def unitOfTemp : Int := 2000000
def roundTemp (x : Int) : Int := (x + 1000000) / unitOfTemp

/-- How far L2's own temperature lies below the inferred one, in sixteenths of a microkelvin. -/
def State.gapL2 (s : State) : Int := s.inferred - s.layerTemp 2 * unitOfTemp

/-- L2 becomes suspect (R426). -/
def State.watchL2 (s : State) : State :=
  let gap := s.gapL2
  let since := holdSince (decide (64 * unitOfTemp < gap)) s.power.l2Since s.now
  let s1 := { s with power := { s.power with l2Since := since } }
  if !s.isSet THM_STATUS_L2_SUSPECT && heldFor since 10000000 s.now then
    (s1.wr THM_STATUS_L2_SUSPECT 1).post 0xA006 sourceThm 3 (ofInt 16 (roundTemp gap) + 2 ^ 16)
  else s1

/-- T_POL (R424). -/
def State.policyTemp (s : State) : Int :=
  let l2 := if s.isSet THM_STATUS_L2_SUSPECT then max (s.layerTemp 2) (roundTemp s.inferred) else s.layerTemp 2
  max (max (max (s.layerTemp 0) (s.layerTemp 1)) (max l2 (s.layerTemp 3))) (max (s.layerTemp 4) (s.layerTemp 5))

/-- Temperatures shown. -/
def State.showTemps (s : State) : State :=
  ((s.wr THM_L2_L2_INF (ofInt 16 (roundTemp s.inferred))).wr THM_L2_L2_OWN (ofInt 16 (s.layerTemp 2))).wr THM_TPOL
    (ofInt 16 s.policyTemp)

/-- Readings shown. -/
def State.readSensors (s : State) (ts : List Int) : State :=
  let s1 := (List.range 101).foldl (fun (x : State) i => x.wrAt THM_SENSOR_TEMP i (ofInt 16 (ts.getD i 0))) s
  ((((s1.wr THM_COOLANT_INLET (s1.rdAt THM_SENSOR_TEMP 96)).wr THM_COOLANT_OUTLET (s1.rdAt THM_SENSOR_TEMP 97)).wr
    THM_STRATA_A_OUT (s1.rdAt THM_SENSOR_TEMP 98)).wr THM_STRATA_B_OUT (s1.rdAt THM_SENSOR_TEMP 99)).wr THM_STRATA2_C_OUT
    (s1.rdAt THM_SENSOR_TEMP 100)

/-! ### The ladder (R427, R428, R431, R432) -/

/-- T_POL as the ladder reads it. -/
def State.tpol (s : State) : Int := toSigned 16 (s.rd THM_TPOL)

/-- The power condition of step 1. -/
def State.powerTight (s : State) : Bool :=
  decide (s.rd THM_BUDGET_BUDGET_MW < s.rd CFG_DECL_PEAK_MW) ||
    decide (9 * s.rd THM_BUDGET_BUDGET_MW < 10 * s.rd THM_PSTACK_MW)

/-- P stays below 0.85 × B while DECL_PEAK is at most B. -/
def State.powerEasy (s : State) : Bool :=
  decide (100 * s.rd THM_PSTACK_MW < 85 * s.rd THM_BUDGET_BUDGET_MW) &&
    decide (s.rd CFG_DECL_PEAK_MW ≤ s.rd THM_BUDGET_BUDGET_MW)

/-- A rail of VL2 to VL5 has a fault. -/
def State.railFault (s : State) : Bool := (List.range' 2 4).any fun l => s.isSetAt THM_RAIL_FAULT l

/-- The Promenade causes 0x1 to 0x6 of 17 R467 that hold now. -/
def State.promCauses (s : State) : List Nat :=
  (if 816 ≤ s.tpol then [1] else []) ++
  (if s.rd THM_STATUS_FLOW_STATE = 2 ∧ 35000 < s.rd THM_PSTACK_MW then [2] else []) ++
  (if heldFor s.power.overBudget 2000000 s.now then [3] else []) ++
  (if heldFor s.power.lowSince 1000000 s.now then [4] else []) ++
  (if heldFor s.power.limitSince 1000000 s.now then [5] else []) ++
  (if s.railFault then [6] else [])

/-- The cause of R433 that a Promenade cause belongs to. -/
def ladderCause (c : Nat) : Nat :=
  match c with
  | 1 => 1
  | 2 => 3
  | 3 => 2
  | k => k

/-- Causes of step `k` that hold now, lowest first. -/
def State.stepCauses (s : State) (k : Nat) : List Nat :=
  let shed : Int := 8 * (s.rd THM_LIMITS_SHED_C : Int)
  let warn : Int := 8 * (s.rd THM_LIMITS_WARN_C : Int)
  match k with
  | 1 => (if shed ≤ s.tpol then [1] else []) ++ (if s.powerTight then [2] else [])
  | 2 =>
    (if warn ≤ s.tpol then [1] else []) ++ (if heldFor s.power.shedPower 1000000 s.now then [2] else []) ++
      (if s.rd THM_STATUS_FLOW_STATE = 1 then [3] else [])
  | 3 => if 760 ≤ s.tpol then [1] else []
  | _ => sortBy (fun a b => decide (a < b)) (s.promCauses.map ladderCause)

/-- None of the conditions that keep step `k` holds. -/
def State.stepClear (s : State) (k : Nat) : Bool :=
  let shed : Int := 8 * (s.rd THM_LIMITS_SHED_C : Int)
  let warn : Int := 8 * (s.rd THM_LIMITS_WARN_C : Int)
  match k with
  | 1 => decide (s.tpol ≤ shed - 24) && s.powerEasy
  | 2 => decide (s.tpol ≤ warn - 24) && s.powerEasy && s.rd THM_STATUS_FLOW_STATE != 1
  | 3 => decide (s.tpol ≤ 736)
  | _ => false

/-- Severity of event 0xA001 on entry. -/
def stepSeverity (k : Nat) : Nat := match k with | 1 => 2 | 2 => 3 | 3 => 3 | _ => 4

/-- The highest step with a condition that holds; 0 = none. -/
def State.stepWanted (s : State) : Nat :=
  if !(s.stepCauses 4).isEmpty then 4
  else if !(s.stepCauses 3).isEmpty then 3
  else if !(s.stepCauses 2).isEmpty then 2
  else if !(s.stepCauses 1).isEmpty then 1
  else 0

/-- From step `k` down, past every step left for 100 ms. -/
def State.stepLeft (s : State) (k : Nat) : Nat :=
  match k with
  | 0 => 0
  | n + 1 => if n < 3 ∧ heldFor (SMap.find s.power.clearOf (n + 1)) 100000000 s.now then s.stepLeft n else n + 1

/-- Steps entered are counted: a step passed over on the way up counts too. -/
def State.countSteps (s : State) (old new : Nat) : State :=
  let f := fun (x : State) (k : Nat) (c : Field) => if old < k ∧ k ≤ new then x.incSat c else x
  f (f (f s 1 THM_SHED_CNT) 3 THM_THROTTLE_CNT) 4 THM_PROM_CNT

/-- The ladder goes to another step: STEP, CAUSE, event 0xA001. -/
def State.setStep (s : State) (new cause severity : Nat) : State :=
  let old := s.rd THM_STATUS_STEP
  ((s.wr THM_STATUS_STEP new).wr THM_STATUS_CAUSE cause).post 0xA001 sourceThm severity
    (new + old * 2 ^ 4 + cause * 2 ^ 8)

/-- Steps entered, or left from the top down. CAUSE stays that of the entry until the ladder is left. -/
def State.climb (s : State) : State :=
  let old := s.rd THM_STATUS_STEP
  let want := s.stepWanted
  if old < want then (s.setStep want ((s.stepCauses want).headD 0) (stepSeverity want)).countSteps old want
  else
    let new := s.stepLeft old
    if new = old then s else s.setStep new (if new = 0 then 0 else s.rd THM_STATUS_CAUSE) 1

/-- Shedding starts or ends (06 R157). -/
def State.setShed (s : State) (on : Bool) : State :=
  if s.isSet ADM_STATUS_SHED == on then s else (s.wr ADM_STATUS_SHED (flag on)).post 0x3017 0x310 2 (flag on)

/-- Effects of the step in force: shedding, throttling. -/
def State.stepEffects (s : State) : State :=
  let k := s.rd THM_STATUS_STEP
  (List.range 16).foldl (fun (x : State) r => x.throttleRegion (decide (3 ≤ k)) r) (s.setShed (decide (1 ≤ k)))

/-- The alert conditions of R431 that hold. -/
def State.alertsNow (s : State) : Nat :=
  let k := s.rd THM_STATUS_STEP
  let sensors := s.isSet THM_STATUS_L2_SUSPECT || s.isSet THM_STATUS_FLOW_SUSPECT || (List.range 101).any fun i => s.isSetAt THM_SENSOR_FAULTY i
  let rails := (List.range 6).any fun l => s.isSetAt THM_RAIL_FAULT l || decide (30 ≤ s.rdAt THM_RAIL_DROOP_NOW l)
  flag (decide (1 ≤ k)) + 2 * flag (decide (2 ≤ k)) + 4 * flag (k == 3) + 8 * flag (k == 4) +
    16 * flag (s.isSet THM_STATUS_VIN_LOW || s.isSet THM_STATUS_OVERVOLT || s.isSet THM_STATUS_ILIMIT) +
    32 * flag (s.rd THM_STATUS_FLOW_STATE != 0) + 64 * flag sensors + 128 * flag rails

/-- Alerts raised: SMB_ALERT_N goes low when a condition newly holds; TEMP_ALERT_N. -/
def State.raiseAlerts (s : State) : State :=
  let a := s.alertsNow
  let new := (List.range 8).any fun i => bitOf a i == 1 && bitOf s.power.alerts i == 0
  let s1 := { s with power := { s.power with alerts := a } }.wr THM_ALERT (s.rd THM_ALERT ||| a)
  let s2 := if new then { s1 with mgmt := { s1.mgmt with smbAlertN := false } } else s1
  s2.wr GLB_LANDS_TEMP_ALERT_N (flag !(decide (2 ≤ s.rd THM_STATUS_STEP) || s.rd THM_STATUS_FLOW_STATE == 2))

/-- The Promenade cause meets its clearing condition now (R428). -/
def State.causeClears (s : State) (c : Nat) : Bool :=
  match c with
  | 1 => decide (s.tpol < 8 * (s.rd THM_LIMITS_SHED_C : Int))
  | 2 => s.rd THM_STATUS_FLOW_STATE == 0
  | 3 => decide (s.rd CFG_DECL_PEAK_MW ≤ s.rd THM_BUDGET_BUDGET_MW)
  | 4 => !s.isSet THM_STATUS_VIN_LOW
  | 5 => decide (s.rd CFG_DECL_PEAK_MW ≤ s.rd THM_BUDGET_BUDGET_MW)
  | _ => !s.railFault

/-- How long a clearing condition must hold: the flow state and FAULT hold their own second. -/
def clearTime (c : Nat) : Nat := if c = 2 ∨ c = 6 then 0 else 1000000000

/-- A pending Promenade cause clears when its condition has held. -/
def State.clearCause (s : State) (c : Nat) : State :=
  if heldFor (SMap.find s.power.causeClear c) (clearTime c) s.now && !s.promCauses.contains c then s.wrMask PRM_PENDING (c - 1) false else s

/-- The times of the power conditions, of the steps' leaving and of the causes' clearing. -/
def State.policyTimes (s : State) : State :=
  let now := s.now
  let p : Power := { s.power with
    overBudget := holdSince (decide (s.rd THM_BUDGET_BUDGET_MW < s.rd THM_PSTACK_MW)) s.power.overBudget now
    shedPower := holdSince s.powerTight s.power.shedPower now
    clearOf := [1, 2, 3].foldl (fun (m : SMap Nat) k => holdAt m k (s.stepClear k) now) s.power.clearOf
    causeClear := [1, 2, 3, 4, 5, 6].foldl (fun (m : SMap Nat) c => holdAt m c (s.causeClears c) now) s.power.causeClear }
  { s with power := p }

/-- The ladder evaluated: shutdown conditions come first (R432), then the steps and their effects, then Promenade. -/
def State.policy (s : State) : State :=
  let s1 := s.policyTimes
  let s2 := s1.climb.stepEffects.raiseAlerts
  let s3 := s1.promCauses.foldl (fun (x : State) c => x.promenade c) s2
  [1, 2, 3, 4, 5, 6].foldl (fun (x : State) c => x.clearCause c) s3

end Sys2Proof.Machine
end

