-- ==== Sys2Proof/Machine/Policy.lean ====
section
/-! DEFINITION. Power entry, cooling and thermal policy (15): measurements, the budget, samples, the ladder. -/

namespace Sys2Proof.Machine

/-- The start-up timeline counts from VIN crossing 9 V (16 R441). -/
def State.vinCrosses (s : State) (mv : Nat) : State :=
  match s.modes.boot with
  | some b =>
    if !b.rails && decide (s.modes.vin < 9000 ∧ 9000 ≤ mv) then
      { s with modes := { s.modes with boot := some { b with startedAt := s.now } } }
    else s
  | none => s

/-- VIN_MEASUREMENT (R414); above 60 V for 100 ms is a hard shutdown. -/
def execVinMeasurement (millivolts milliamps milliwatts : Nat) (s : State) : Result :=
  .next (
    if s.mode = modeOff then { s with modes := { s.modes with vin := millivolts } }
    else
      let s1 := (s.vinCrosses millivolts).vinRange millivolts milliamps milliwatts
      if heldFor s1.power.overSince 100000000 s.now then s1.hardShutdown 2 else s1)

/-- VIN_LOCKOUT (R414, R430): VIN is below 8.2 V. -/
def execVinLockout (s : State) : Result :=
  .next (
    let s1 := { s with modes := { s.modes with vin := min s.modes.vin 8199 } }
    if s.mode = modeOff then s1 else s1.hardShutdown 3)

/-- CURRENT_LIMIT (R415). -/
def execCurrentLimit (holding : Bool) (s : State) : Result :=
  .next (
    if s.mode = modeOff then s
    else
      let s1 := { s with power := { s.power with limitSince := holdSince holding s.power.limitSince s.now } }.wr
        THM_STATUS_ILIMIT (flag holding)
      if holding && !s.isSet THM_STATUS_ILIMIT then (s1.incSat THM_ILIMIT_CNT).vinEvent 3 else s1)

/-- BUDGET_UPDATE (R416). -/
def execBudgetUpdate (s : State) : Result := .next (if s.policyRuns then s.budgetNow else s)

/-- POWER_SAMPLE (R419): the powers of the six rails and the sixteen regions. -/
def execPowerSample (rails regions : List Nat) (s : State) : Result :=
  .next (
    if s.policyRuns then
      let row := ((List.range 6).map fun i => rails.getD i 0) ++ (List.range 16).map fun i => regions.getD i 0
      let l := (row :: s.power.samples).take 100
      let s1 := { s with power := { s.power with samples := l, powerL2 := meanOf l 2 } }.wr THM_PSTACK_MW
        (satN 18 ((l.map fun (x : List Nat) => (x.take 6).sum).sum / l.length))
      (List.range 16).foldl (fun (x : State) r => x.regionPower r) s1
    else s)

/-- DROOP_SAMPLE (R420): droops of the layer's sensors in 0.1 %. -/
def execDroopSample (rail : Nat) (droops : List Nat) (s : State) : Result :=
  .next (
    if rail < 6 ∧ s.policyRuns then
      let worst := droops.foldl max 0
      let warn := decide (30 ≤ worst)
      let since := holdAt s.power.droopSince rail (decide (2 ≤ (droops.filter fun d => 60 ≤ d).length)) s.now
      let good := holdAt s.power.railGoodSince rail (!warn) s.now
      let s1 := { s with power := { s.power with droopSince := since, railGoodSince := good } }.wrAt THM_RAIL_DROOP_NOW rail
        (satN 8 worst)
      let s2 := s1.wrAt THM_RAIL_DROOP_MAX rail (max (s1.rdAt THM_RAIL_DROOP_MAX rail) (satN 8 worst))
      let s3 :=
        if warn then
          (if 30 ≤ s.rdAt THM_RAIL_DROOP_NOW rail then s2 else s2.addSatAt THM_RAIL_WARN_CNT rail 1).postLimited 0xA007 rail
            sourceThm 2 fun _ => rail + satN 8 worst * 2 ^ 8
        else s2
      if heldFor (SMap.find since rail) 2000 s.now && !s.isSetAt THM_RAIL_FAULT rail then
        let s4 := (s3.wrAt THM_RAIL_FAULT rail 1).post 0xA007 sourceThm 4 (rail + 8 + satN 8 worst * 2 ^ 8)
        let s5 := (if rail = 3 then s4.wr PRM_STATUS_CTX_INTACT 0 else s4).stewardPower
        if rail < 2 then s5.hardShutdown 4 else s5
      else if heldFor (SMap.find good rail) 1000000000 s.now then (s3.wrAt THM_RAIL_FAULT rail 0).stewardPower
      else s3
    else s)

/-- FLOW_SAMPLE (R421, R422). A flow that returns in the sample in which LOST would be declared is a tie (R432; 18 R487). -/
def execFlowSample (millilitres : Nat) (s : State) : Result :=
  .next (
    if s.policyRuns then
      let s1 := ((s.wr THM_FLOW_FLOW_ML (satN 12 millilitres)).showEstimate).flowSuspect millilitres
      let f := s1.flowTaken
      let tie := decide (300 ≤ f) && heldFor s.power.below300 50000000 s.now && s.rd THM_STATUS_FLOW_STATE != 2
      let p : Power := { s1.power with
        below300 := holdSince (decide (f < 300)) s.power.below300 s.now
        below600 := holdSince (decide (f < 600)) s.power.below600 s.now
        above600 := holdSince (decide (600 ≤ f)) s.power.above600 s.now }
      let s2 := { s1 with power := p }
      (if tie then s2.resTie 3 else s2).setFlowState s2.flowNext
    else s)

/-- TEMP_SAMPLE (R423 to R426, R430): readings of sensors 0 to 0x64, in units of 0.125 °C. -/
def execTempSample (readings : List Int) (s : State) : Result :=
  .next (
    if s.policyRuns then
      let s1 := ((s.readSensors readings).crossCheck.watchL2).showTemps.took
      let n := if 880 ≤ s1.tpol then s1.power.hot + 1 else 0
      let s2 := { s1 with power := { s1.power with hot := n } }
      if 2 ≤ n then s2.hardShutdown 1 else s2
    else s)

/-- The sample of this tick, which waits in the queue, renews the 8 °C condition (R432; DESIGN CHOICE, log 148). -/
def State.suspectRenewed (s : State) : Bool :=
  s.pending.any fun c =>
    match c with
    | .tempSample readings => decide (64 * unitOfTemp < ((s.readSensors readings).crossCheck).gapL2)
    | _ => false

/-- CLEAR_SUSPECT (R426): ignored while the difference is 4 °C or more. -/
def execClearSuspect (s : State) : Result :=
  .next (
    let d := toSigned 16 (s.rd THM_L2_L2_INF) - toSigned 16 (s.rd THM_L2_L2_OWN)
    if s.isSet THM_STATUS_L2_SUSPECT ∧ d < 32 ∧ !s.suspectRenewed then
      ({ s with power := { s.power with l2Since := none } }.wr THM_STATUS_L2_SUSPECT 0).post 0xA006 sourceThm 3 (ofInt 16 d)
    else s)

/-- POLICY_EVALUATE (R427 to R431). -/
def execPolicyEvaluate (s : State) : Result := .next (if s.policyRuns then s.policy else s)

/-- ALWAYS_ON_POWER_LOSS (R430; 16 R453): below 3.0 V in OFF the always-on domain holds nothing. -/
def execAlwaysOnPowerLoss (millivolts : Nat) (s : State) : Result :=
  .next (
    if s.mode = modeOff ∧ millivolts < 3000 then
      let s1 := (((s.wr THM_TRIP_VALID 0).wr THM_TRIP_CAUSE 0).wr THM_TRIP_TEMP 0).wr GLB_LANDS_FAULT_N 1
      let s2 := offFields.foldl (fun (x : State) f => x.wr f (f.reset 0)) s1
      { s2 with modes := { s2.modes with vin := millivolts } }
    else s)

end Sys2Proof.Machine
end

