-- ==== Sys2Proof/Machine/LifeOps.lean ====
section
/-! DEFINITION. The life cycle (19), the operations: the row and its decoding, key slots, authentication, pulses, the steps of a
privileged transition, what a reset makes of them. -/

namespace Sys2Proof.Machine

open Sys2Proof

/-- States of R495. -/
def lcsFactory : Nat := 1
def lcsBlank : Nat := 2
def lcsOwned : Nat := 3
def lcsSealed : Nat := 4
def lcsReturn : Nat := 5
def lcsScrap : Nat := 6
def lcsLocked : Nat := 0xF

/-- The effective state. -/
def State.lifeState (s : State) : Nat := s.rd LCS_STATE_STATE

/-! ### The row (R498, R499) -/

/-- A group of the row. -/
def State.rowGroup (s : State) (g : Nat) : RowGroup := SMap.read s.life.groups {} g

/-- A group replaced. -/
def State.setGroup (s : State) (g : Nat) (x : RowGroup) : State :=
  { s with life := { s.life with groups := SMap.store s.life.groups {} g x } }

/-- A group is full; is empty. -/
def RowGroup.full (x : RowGroup) : Bool := x.cells == 0xFFFF
def RowGroup.empty (x : RowGroup) : Bool := x.cells == 0 && x.part == 0

/-- Full groups, and groups neither full nor empty, as masks. -/
def State.groupsFull (s : State) : Nat := ((List.range 6).map fun g => if (s.rowGroup g).full then 2 ^ g else 0).sum
def State.groupsPartial (s : State) : Nat :=
  ((List.range 6).map fun g => if !(s.rowGroup g).full && !(s.rowGroup g).empty then 2 ^ g else 0).sum

/-- The state the row decodes to; 0xF = invalid. -/
def State.rowState (s : State) : Nat :=
  match (List.range 6).find? fun n => s.groupsFull == 2 ^ (n + 1) - 1 && s.groupsPartial == 0 with
  | some n => n + 1
  | none => lcsLocked

/-- The fields that show the row. -/
def State.showRow (s : State) : State :=
  (((s.wr LCS_STATE_ROW_STATE s.rowState).wr LCS_STATE_GROUPS_FULL s.groupsFull).wr LCS_STATE_GROUPS_PARTIAL
    s.groupsPartial).wr LCS_STATE_PENDING (flag (s.rowState != s.lifeState))

/-! ### Key slots (R500 to R502) -/

/-- A key slot. -/
def State.keySlot (s : State) (k : Nat) : KeySlot := SMap.read s.life.slots {} k

/-- State of a slot in LCS_KEYS' encoding: 0 = EMPTY, 1 = KEYED, 2 = DAMAGED, 3 = KILLED. -/
def KeySlot.code (x : KeySlot) : Nat := if x.killed then 3 else if x.written then 1 else if x.touched then 2 else 0

/-- LCS_KEYS and the check values of KEYED slots. -/
def State.showKeys (s : State) : State :=
  let s1 := s.wr LCS_KEYS (((List.range 4).map fun k => (s.keySlot k).code * 4 ^ k).sum)
  (List.range 4).foldl (fun (x : State) k =>
    x.wrAt LCS_KCVs k (if (s.keySlot k).code = 1 then Config.keyCheckValue (s.keySlot k).key % 2 ^ 24 else 0)) s1

/-- A slot replaced. -/
def State.setKeySlot (s : State) (k : Nat) (x : KeySlot) : State :=
  { s with life := { s.life with slots := SMap.store s.life.slots {} k x } }.showKeys

/-- A slot is killed. -/
def State.killSlot (s : State) (k : Nat) : State :=
  let x := s.keySlot k
  if x.killed then s else s.setKeySlot k { x with killed := true, touched := true, written := true, key := 0 }

/-- Some slot is KEYED. -/
def State.anyKeyed (s : State) : Bool := (List.range 4).any s.slotKeyed

/-! ### Authentication (R503 to R505) -/

/-- The additional authenticated data of R504. -/
def authData (opcode target slot : Nat) : List Nat :=
  bytesOf 8 Config.serial ++ bytesOf 2 opcode ++ [target % 256, slot % 256, 0, 0, 0, 0]

/-- A slot that a command may name. -/
def slotNamed (slot : Nat) : Bool := decide (slot < 4) || slot == 0xF

/-- The key of a named slot: none where a slot is not KEYED. -/
def State.authKey (s : State) (slot : Nat) : Option Nat :=
  if slot = 0xF then some defaultKey else if s.slotKeyed slot then some (s.keySlot slot).key else none

/-- Bit of a key's authority cell. -/
def authBit (slot : Nat) : Nat := if slot = 0xF then 4 else slot

/-- A tag failed to verify: FAIL_CNT, lockout at the eighth, event 0xC005. -/
def State.authFailed (s : State) (jtag : Bool) : State :=
  let s1 := s.addSatAt LCS_AUTH_FAIL_CNT 0 1
  let s2 := if 8 ≤ s1.rd LCS_AUTH_FAIL_CNT then s1.wr LCS_AUTH_LOCKOUT 1 else s1
  s2.post 0xC005 0xC00 2 (s2.rd LCS_AUTH_FAIL_CNT + flag jtag * 2 ^ 8)

/-- The waiting challenge is consumed. -/
def State.useChallenge (s : State) (jtag : Bool) : State :=
  if jtag then { s with life := { s.life with jtagChallenge := none } }.wr LCS_AUTH_JTAG_CHALLENGE 0
  else { s with life := { s.life with hostChallenge := none } }.wr LCS_AUTH_HOST_CHALLENGE 0

/-- A command is authenticated: the status of its refusal (0 = it passes), and the state. -/
def State.authenticate (s : State) (jtag : Bool) (opcode target slot tag : Nat) : Nat × State :=
  match (if jtag then s.life.jtagChallenge else s.life.hostChallenge) with
  | none => (if s.isSet LCS_AUTH_LOCKOUT then 0x83 else 0x82, s)
  | some c =>
    if s.isSet LCS_AUTH_LOCKOUT then (0x83, s)
    else
      let s1 := s.useChallenge jtag
      match s.authKey slot with
      | none => (0x85, s1)
      | some key => if (Config.gcmTag key c (authData opcode target slot) []).toNat = tag then (0, s1) else (0x81, s1.authFailed jtag)

/-! ### Pulses (R507 to R509) -/

/-- A cell did not read programmed after 8 pulses. -/
def State.cellFailed (s : State) (kind index : Nat) : State := s.post 0xC008 0xC00 4 (kind + index * 2 ^ 3)

/-- The state cells of a group pulsed: those that do not program stay as they are. -/
def RowGroup.pulsed (x : RowGroup) : RowGroup :=
  let w := x.weak % 2 ^ 16
  { x with
    cells := 0xFFFF - w + (x.cells &&& w)
    part := x.part &&& w }

/-- The authority cell of a key pulsed. -/
def RowGroup.authorised (x : RowGroup) (a : Nat) : RowGroup :=
  if bitOf x.weak (16 + a) = 1 then x
  else { x with auth := x.auth ||| 2 ^ a, authPart := x.authPart &&& (31 - 2 ^ a) }

/-- A pulse under way, noted. -/
def State.notePulse (s : State) (p : Pulse) : State := { s with life := { s.life with pulse := some p } }

/-- The state cells of group `g` pulsed (R509): whether all read programmed, and the state. -/
def State.pulseGroup (s : State) (g : Nat) : Bool × State :=
  let x := (s.rowGroup g).pulsed
  let s1 := (s.setGroup g x).showRow
  (x.full, if x.full then s1 else s1.cellFailed 1 g)

/-! ### Privileged transitions (R510 to R512) -/

/-- The transition that is pending: SCRAP or RETURN, from its BEGUN cell until its step 5 mark. -/
def State.privTarget (s : State) : Option Nat :=
  if s.isSet LCS_PROGRESS_SCR_BEGUN && bitOf (s.rd LCS_PROGRESS_SCR_MARKS) 4 == 0 then some lcsScrap
  else if s.isSet LCS_PROGRESS_RET_BEGUN && bitOf (s.rd LCS_PROGRESS_RET_MARKS) 4 == 0 then some lcsReturn
  else none

/-- Marks of a transition. -/
def marksOf (target : Nat) : Field := if target = lcsScrap then LCS_PROGRESS_SCR_MARKS else LCS_PROGRESS_RET_MARKS
def begunOf (target : Nat) : Field := if target = lcsScrap then LCS_PROGRESS_SCR_BEGUN else LCS_PROGRESS_RET_BEGUN

/-- A mark or BEGUN cell that does not program (bit 0 = BEGUN, bit k = the mark of step k). -/
def State.markWeak (s : State) (target k : Nat) : Bool := bitOf s.life.weakMarks (k + if target = lcsScrap then 6 else 0) == 1

/-- The first step whose mark does not read programmed; 0 = none. -/
def State.firstStep (s : State) (target : Nat) : Nat :=
  match (List.range 5).find? fun k => bitOf (s.rd (marksOf target)) k == 0 with
  | some k => k + 1
  | none => 0

/-- The clearing before step 1: planes, context mirror, every store word, staging, design and host regions of the
scratchpad. -/
def State.privClear (s : State) : State :=
  let s1 := { s with
    cfg := { s.cfg with planes := [] }
    store := { s.store with mem := [], writebacks := [] }
    mgmt := { s.mgmt with spad := s.mgmt.spad.filter fun (e : Nat × SpadWord) => !spadOpen e.1 } }
  ((s1.wr CFG_CTX_LOADED 0).wr CFG_STATUS_PLANES_VALID 0).discardStaging true

/-- Sectors of the owner area (13 R358). -/
def ownerSectors : List (Nat × Nat) :=
  ((List.range 8).flatMap fun b => (List.range 1008).map fun n => (b, n)).filter fun p =>
    !(p.1 < 2 && p.2 < 16) && !(p.1 == 7 && 1006 ≤ p.2)

/-- Sectors that steps 2, 3 and 4 erase. -/
def stepSectors (k : Nat) : List (Nat × Nat) :=
  match k with
  | 2 => ownerSectors
  | 3 => (List.range 8).flatMap fun b => (List.range 528).map fun n => (b, 1008 + n)
  | 4 => [(0, 14), (0, 15), (1, 14), (1, 15)]
  | _ => []

/-- Sectors erased, their contents gone. -/
def State.eraseSectors (s : State) (l : List (Nat × Nat)) : State :=
  let ns := l.map fun p => sectorOf p.1 p.2
  let s1 := { s with flash := { s.flash with
    words := s.flash.words.filter fun (e : Nat × CodeWord) => !ns.contains (e.1 / 4096) } }
  l.foldl (fun (x : State) p =>
    ((x.setSector p.1 p.2 0).wrAt FLC_SECTOR_CW_INDEX (sectorOf p.1 p.2) 0).addSatAt FLC_SECTOR_ERASE_CNT (sectorOf p.1 p.2) 1) s1

/-- Groups that step 5 programs for a target: all up to its own. -/
def stepGroups (target : Nat) : List Nat := List.range target

/-- The work of step `k`. -/
def State.privWork (s : State) (target k : Nat) : State :=
  match k with
  | 1 => (List.range 4).foldl (fun (x : State) i => x.killSlot i) s
  | 5 => (stepGroups target).foldl (fun (x : State) g => if (x.rowGroup g).full then x else (x.pulseGroup g).2) s
  | _ =>
    let s1 := s.eraseSectors (stepSectors k)
    if k = 3 then s1.wr CTX_GOLDEN_VALID 0 else s1

/-- The work of a step verifies: a slot or a group that does not program keeps it from doing so. -/
def State.privVerified (s : State) (target k : Nat) : Bool :=
  match k with
  | 1 => (List.range 4).all fun i => (s.keySlot i).killed
  | 5 => (stepGroups target).all fun g => (s.rowGroup g).full
  | _ => true

/-- A reset cuts the step under way (R511): every slot or sector it had not reached stays, others are killed or left
ERASE_INCOMPLETE; which ones, and the cells of a group, are free values. -/
def State.privCut (s : State) : State :=
  match s.rd LCS_PROGRESS_CUR_STEP, s.privTarget with
  | 0, _ => s
  | _, none => s
  | 1, some _ => ((List.range 4).foldl (fun (x : State) i => if s.freeK i 1 = 1 then x.killSlot i else x) s).tookN 4
  | 5, some t =>
    ((stepGroups t).foldl (fun (x : State) g =>
      if (x.rowGroup g).full then x
      else x.setGroup g { x.rowGroup g with part := s.freeK g 16 &&& (0xFFFF - (x.rowGroup g).cells) }) s).tookN 6
  | k, some _ =>
    let l := stepSectors k
    ((List.range l.length).foldl (fun (x : State) i =>
      let p := l.getD i (0, 0)
      if s.freeK i 1 = 1 then x.setSector p.1 p.2 3 else x) s).tookN l.length

/-! ### Reset (R499, R503, R511) -/

/-- Debug level of a state (R513, R514). -/
def debugLevel (st : Nat) : Nat :=
  if st = lcsFactory ∨ st = lcsBlank ∨ st = lcsReturn then 3 else if st = lcsOwned then 2 else if st = lcsScrap then 1 else 0

/-- The row decoded at a reset: it becomes the effective state. -/
def State.lifeReset (s : State) : State :=
  let st := s.rowState
  let s1 := (((s.wr LCS_STATE_STATE st).wr LCS_DEBUG_LEVEL (debugLevel st)).showRow).showKeys
  (s1.wr LCS_STATE_PRIV_RUNNING (flag s.privTarget.isSome)).wr LCS_PROGRESS_CUR_STEP 0

/-- What the steward does about the life cycle when it runs after a reset: events, and the resumption of a pending
transition (R499, R511). -/
def State.lifeStart (s : State) : State :=
  let st := s.lifeState
  let s1 := s.post 0xC002 0xC00 1 st
  let s2 := if s.rowState = lcsLocked then s1.post 0xC003 0xC00 4 (s.groupsFull + s.groupsPartial * 2 ^ 6) else s1
  match s2.privTarget with
  | some t =>
    let s3 := s2.privClear.wr LCS_PROGRESS_CUR_STEP (s2.firstStep t)
    { s3 with life := { s3.life with resumed := true } }
  | none => s2

/-- A transition or a pulse bars power states (16 R447; R515): until the end of programming, or the reset after step 5. -/
def State.lifeBusy (s : State) : Bool :=
  s.pulsing || s.isSet LCS_STATE_PRIV_RUNNING ||
    (s.isSet LCS_STATE_PENDING && (s.rd LCS_STATE_ROW_STATE == lcsReturn || s.rd LCS_STATE_ROW_STATE == lcsScrap))

end Sys2Proof.Machine
end

