-- ==== Sys2Proof/Machine/BootOps.lean ====
section
/-! DEFINITION. Resets and start-up (16 R438 to R442; 13 R376, R380): what each row of the start-up timeline does. -/

namespace Sys2Proof.Machine

open Sys2Proof

/-! ### Resets (R438) -/

/-- The start-up that is under way replaced. -/
def State.setBoot (s : State) (b : Option BootRun) : State := { s with modes := { s.modes with boot := b } }

/-- The rails are good: a warm reset keeps them up. -/
def State.railsUp (s : State) : Bool :=
  match s.modes.boot with
  | some b => b.rails || b.fromProm
  | none => true

/-- BOOT entered at a reset: the change of mode is told after the fields took their values. -/
def State.enterBoot (s : State) (old : Nat) (b : BootRun) : State :=
  let s1 := ((s.wr GLB_MODE_MODE old).leaveFor modeBoot).setBoot (some b)
  s1.lifeReset

/-- The mode BOOT has stopped the lanes that were UP before the reset (08 R208): told after the fields took their values (DESIGN CHOICE,
log 152). -/
def State.lanesStopped (old : State) (s : State) : State :=
  ((List.range 128).filter fun n => old.lane n == 2).foldl (fun (x : State) n => x.post 0x5002 (0x500 + n) 2 6) s

/-- A cold reset; a cause 0x1 or 0x2 after a hard shutdown is recorded as 0x6. -/
def State.resetCold (s : State) (cause : Nat) : State :=
  let s1 := State.keepPowerGood s s.privCut.coldState
  let c := if cause < 3 ∧ s.isSet THM_TRIP_VALID then 6 else cause
  State.lanesStopped s ((s1.enterBoot s.mode { startedAt := s1.now }).wr GLB_RESET_CAUSE c)

/-- A warm reset. -/
def State.resetWarm (s : State) (cause : Nat) : State :=
  let s1 := s.privCut.warmState.rejoinBonds
  State.lanesStopped s ((s1.enterBoot s.mode { startedAt := s1.now, rails := s.railsUp }).wr GLB_RESET_CAUSE cause)

/-- The Caller's time after DEEP_SLEEP: off by a free amount of at most 50 ppm of the time spent there (03 R77). -/
def State.deepTime (s : State) : State :=
  let bound := (s.now - s.modes.deepAt) / 20000
  let t := s.tai + s.free 64 % (2 * bound + 1) - bound
  (({ s with caller := { s.caller with dueFrom := t } }).setTai t).took

/-- A wake from DEEP_SLEEP (R442): rails and stores start again. -/
def State.wakeDeep (s : State) (cause : Nat) : State :=
  let s0 := s.deepTime
  let s1 := s0.privCut.deepState.rejoinBonds
  let s2 := (s1.enterBoot s.mode { startedAt := s1.now }).wr GLB_RESET_CAUSE 5
  { s2 with modes := { s2.modes with waking := some cause } }

/-! ### Step 3: the steward boots (13 R362, R380, R382) -/

/-- The block to boot from: 0 = A, 1 = B; none where neither is valid. -/
def State.bootChoice (s : State) (found : Found) : Option Nat :=
  let a := s.rd FLC_BOOT_ACTIVE_BLOCK - 1
  if (s.blockFault found a).isNone then some a else if (s.blockFault found (1 - a)).isNone then some (1 - a) else none

/-- Sectors in the states of R362. -/
def State.unsettledSectors (s : State) : Nat := ((List.range 12288).filter fun n => decide (1 < s.rdAt FLC_SECTOR_STATE n)).length

/-- Events that the steward posts once it runs: the scan of sectors, and a fallback. -/
def State.bootEvents (s : State) (b : Nat) : State :=
  let n := s.unsettledSectors
  let s1 := s.post 0x8001 0x808 (if n = 0 then 0 else 2) n
  if b + 1 = s.rd FLC_BOOT_ACTIVE_BLOCK then s1.wr FLC_BOOT_FALLBACK 0
  else (s1.wr FLC_BOOT_FALLBACK 1).post 0x8007 0x808 4 (b + 1)

/-- The erase of a record sector that a reset cut short is repeated (R382). -/
def State.repeatErases (s : State) : State :=
  [1006, 1007].foldl (fun (x : State) n => if x.sectorState 7 n = 2 ∨ x.sectorState 7 n = 3 then x.eraseRecords n else x) s

/-- The golden bits as the directories give them (R375). -/
def State.showGolden (s : State) (found : Found) : State :=
  (List.range 4).foldl (fun (x : State) k =>
    x.setGolden k (match x.directoryLast found k with
      | some e => e.1
      | none => 0)) s

/-- The boot loader's reads of step 3: both boot blocks, the swap records, the golden directories. -/
def State.senseBoot (s : State) (found : Found) : State :=
  s.senseCodes found fun key =>
    key / 65536 == 0 || key / 65536 == 96 || key / 8192 == codeKey 7 1006 0 / 8192 ||
      (List.range 4).any fun k => decide (directoryKey k 0 ≤ key) && decide (key < directoryKey k directoryWords)

/-- A code word of the golden image of C0, or of its boot record. -/
def imageCode (key : Nat) : Bool :=
  decide (1008 ≤ key / 4096 % 1536) && decide (key / 4096 % 1536 < 1140) && decide (key % 6291456 < codeKey 0 1008 0 + recordStart)
def recordCode (key : Nat) : Bool :=
  decide (codeKey 0 1008 0 + recordStart ≤ key % 6291456) && decide (key % 6291456 < codeKey 0 1008 0 + recordStart + recordPerBank)

/-- Step 3 with the steward running from block `b`: steering, repair records, lifeline table, the life cycle. -/
def State.stewardBoots (s : State) (found : Found) (b : Nat) : State :=
  let s1 := { s with mgmt := { s.mgmt with steward := .running } }.wr FLC_BOOT_RUNNING_BLOCK (b + 1)
  (((((s1.stewardRewrites).bootEvents b).repeatErases).applyRecords.loadLifeline found).showGolden found).lifeStart

/-- Why BOOT ends in SERVICE once the steward runs: SERVICE_CAUSE. -/
def State.serviceCause (s : State) : Nat := if s.privTarget.isSome then 2 else if s.lifeState = lcsScrap then 4 else 0

/-! ### Steps 4 and 5: C0 and its boot record (13 R376; R440) -/

/-- The frames of region `r` of C0 as the golden copy holds them, by linear index; an absent one is bad. -/
def State.goldenRegion (s : State) (found : Found) (r : Nat) : List (Nat × Option PlaneFrame) :=
  (List.range 96).flatMap fun j =>
    let c := 96 * r + j
    (List.range (framesOf (columnType c))).map fun f =>
      let i := frameIndex c f
      (i, match s.goldenFrame found 0 i with
        | some x => if x.check = frameCheck c f x.bits then some x else none
        | none => none)

/-- A region restored from the golden copy into plane and mirror: bad frames are not written, and leave the pair invalid. -/
def State.restoreRegion (s : State) (found : Found) (r : Nat) : State :=
  if s.regionRetired r then s
  else
    let fs := s.goldenRegion found r
    let s1 := fs.foldl (fun (x : State) (e : Nat × Option PlaneFrame) =>
      match e.2 with
      | some p => (x.writePlane 0 e.1 p).writeMirror 0 e.1 p
      | none => x) s
    if fs.all fun e => e.2.isSome then s1.wrMask CFG_CTX_LOADED (4 * r) true else s1

/-- Some frame of the regions of a mask is bad. -/
def State.goldenBad (s : State) (found : Found) (mask : Nat) : Bool := (regionsOf mask).any fun r => (s.goldenRegion found r).any fun e => e.2.isNone

/-- The bytes of the boot record of C0; none where a code word is poisoned. -/
def State.recordBytes (s : State) (found : Found) : Option (List Nat) :=
  let ws := (List.range 11776).map fun n => s.settledWord found (recordKey 0 n)
  let head := ((ws.take 3).flatMap fun w => bytesOf 18 (w.getD 0))
  let total := ofBytes ((head.drop 12).take 4)
  let used := ws.take (ceilDiv total 18)
  if 211968 < total || used.any (fun w => w.isNone) then none
  else some ((used.flatMap fun w => bytesOf 18 (w.getD 0)).take total)

/-- A field of a record. -/
def byteField (bs : List Nat) (k n : Nat) : Nat := ofBytes ((bs.drop k).take n)

/-- The boot record, where its key is accepted and its tag verifies. -/
def State.bootRecordImage (s : State) (found : Found) (mask : Nat) : Option StreamImage :=
  match s.recordBytes found with
  | none => none
  | some bs =>
    let n := byteField bs 6 2
    let h := 48 + 4 * n
    let body := bs.take (bs.length - 16)
    if byteField bs 0 4 ≠ 0x5358544F ∨ bs.length < h + 16 then none
    else
      match s.keyFor (byteField bs 28 1 % 16) with
      | .inr _ => none
      | .inl key =>
        let data := body ++ imageBytes fun j => (s.settledWord found (goldenKey 0 j)).getD 0
        if (Config.gcmTag key (byteField bs 16 12) data []).toNat ≠ byteField bs (bs.length - 16) 16 then none
        else
          let m : StreamImage := {
            declPeak := byteField bs 32 4
            buildId := byteField bs 36 4
            claims := (List.range n).map fun k => byteField bs (48 + 4 * k) 4 }
          let p := parseWords { background := false, active := 0, parked := 0, retired := 0 } h (wordsOf (body.drop h)) m
          if p.failure.isSome then none else some { p.image with masks := mask }

/-! ### Steps 6 and 7 (R442) -/

/-- The boot record applied, as steps 2 and 5 of R313, and the regions of a mask started in C0. -/
def State.applyBoot (s : State) (m : StreamImage) (mask : Nat) : State :=
  let s1 := ((s.settled m).installDesign m.claims m.bufs).recordPeaks m
  let s2 := (((s1.recordDesign m).wr CFG_BUILD_ID m.buildId).wr CFG_STATUS_PLANES_VALID 1).startPlls
  s2.startDesign mask 0 0

/-- The row of R442 that applies. -/
def State.bootOutcome (s : State) (b : BootRun) : Nat :=
  match b.outcome with
  | some n => n
  | none => flag (s.isSet HLT_STATUS_DEGRADED)

/-- The mode of an outcome, entered. -/
def State.bootMode (s : State) (b : BootRun) (n : Nat) : State :=
  match n with
  | 5 => (s.leaveFor modeService).wr GLB_MODE_SERVICE_CAUSE b.service
  | 2 => ((s.startDesign 0 0 0).wr GLB_MODE_UNCONFIGURED 1).setMode modeIdle
  | 3 => (s.wr CFG_CTX_LOADED 0).leaveFor modeConfigFault
  | 4 => s.leaveFor modeConfigFault
  | _ => ((s.leaveFor s.runMode).lanesSettle).wr PRM_STATUS_CTX_INTACT 1

/-- What a PROM_EXIT that ran through BOOT leaves: the routes end, its lanes are handed back, the command completes (17 R469). -/
def State.promExited (s : State) (path : Nat) : State :=
  let x := s.prom.exit
  let s1 := ((s.handBack.routesDown).post 0xB011 0xB40 1 path).wr THM_STATUS_STEP 0
  match x with
  | some e => s1.complete e.1 .ok
  | none => s1

/-- The event of a wake that passed through BOOT (R450). -/
def State.wokeBoot (s : State) (waking : Option Nat) : State :=
  match waking with
  | some c => (s.wr PWR_WAKE_CAUSE c).post 0xB002 0xB00 1 (c * 16)
  | none => s

/-- The trip that the device restarted from is told (15 R430). -/
def State.tellTrip (s : State) : State :=
  if s.rd GLB_RESET_CAUSE = 6 then s.post 0xA009 0xA00 4 (s.rd THM_TRIP_TEMP + s.rd THM_TRIP_CAUSE * 2 ^ 16) else s

/-- PROM_REQ_N low since before BOOT ended asks for Promenade (17 R467). -/
def State.promHeld (s : State) : State :=
  if s.modes.promReqLow.isSome then { s with prom := { s.prom with waiting := s.prom.waiting ||| 2 ^ 8 } } else s

/-- The end of BOOT. -/
def State.endBoot (s : State) (b : BootRun) : State :=
  let n := s.bootOutcome b
  let us := satN 16 ((s.now - b.startedAt) / 1000)
  let s1 := (s.setBoot none).bootMode b n
  let s2 := { s1 with modes := { s1.modes with waking := none } }
  let s3 := ((s2.wr GLB_BOOT_US us).wr GLB_BOOT_OUTCOME n).post 0xB004 0xB00 (if 3 ≤ n then 4 else 1)
    (us + n * 2 ^ 16 + s.rd GLB_RESET_CAUSE * 2 ^ 20)
  if b.fromProm then (s3.promExited 1).promHeld.promWaiting
  else ((s3.wokeBoot s.modes.waking).tellTrip).promHeld.promWaiting

/-- The step of the start-up that may end BOOT has been reached: step 2, and what the outcome needs of steps 3 to 6. -/
def State.bootReady (s : State) (b : BootRun) : Bool :=
  s.isSet STR_STATUS_NEAR_INIT && s.isSet STR_STATUS_FAR_INIT &&
    (b.verified || b.outcome == some 5 || b.outcome == some 2)

end Sys2Proof.Machine
end

