-- ==== Sys2Proof/Machine/Modes.lean ====
section
/-! DEFINITION. Modes, resets, start-up and power states (16), with the inputs that wake the device or ask for Promenade. -/

namespace Sys2Proof.Machine

open Sys2Proof

/-! ### Resets (R438, R439) -/

/-- GLB_RESET_WRITE: the key in the same write as KIND; the reset begins 1 µs later. -/
def execGlbResetWrite (value : Nat) (s : State) : Result :=
  .next (
    if bitsOf value 31 16 = 0x5254 ∧ s.mode ≠ modeOff ∧ s.mode ≠ modeDeepSleep then
      let cold := bitOf value 0 == 1
      { s with modes := { s.modes with resetDue := some { dueAt := s.now + 1000, cold := cold, cause := if cold then 3 else 4 } } }
    else s)

/-- The reset of a kind that is due. -/
def State.dueReset (s : State) (cold : Bool) : Option ResetDue :=
  match s.modes.resetDue with
  | some d => if d.cold = cold ∧ d.dueAt ≤ s.now then some d else none
  | none => none

/-- COLD_RESET, asked for by GLB_RESET. -/
def execColdReset (s : State) : Result :=
  .next (match s.dueReset true with
    | some d => s.resetCold d.cause
    | none => s)

/-- WARM_RESET, asked for by GLB_RESET. -/
def execWarmReset (s : State) : Result :=
  .next (match s.dueReset false with
    | some d => s.resetWarm d.cause
    | none => s)

/-- VIN_POWER_UP (15 R414): VIN rises through the lockout threshold in OFF. -/
def execVinPowerUp (millivolts : Nat) (s : State) : Result :=
  .next (
    if s.mode = modeOff ∧ s.modes.vin < 8800 ∧ 8800 ≤ millivolts then
      { s with modes := { s.modes with vin := millivolts } }.resetCold 1
    else s)

/-! ### Start-up (R441, R442) -/

/-- The start-up under way. -/
def State.booting (s : State) : Option BootRun := if s.mode = modeBoot then s.modes.boot else none

/-- RAILS_GOOD, the end of step 1. -/
def execRailsGood (s : State) : Result :=
  .next (match s.booting with
    | some b => if b.rails || b.fromProm then s else (s.setBoot (some { b with rails := true })).wr GLB_LANDS_PWR_GOOD 1
    | none => s)

/-- STEWARD_BOOT_DONE, the end of step 3; `found`: what its reads of the flash find. -/
def execStewardBootDone (found : Found) (s0 : State) : Result :=
  .next (match s0.booting with
    | none => s0
    | some b =>
      if !b.rails || b.steward || decide (s0.now < s0.mgmt.stewardDoneAt) then s0
      else
        let s := (s0.senseBoot found).showRecords found
        match s.bootChoice found with
        | none =>
          { s with mgmt := { s.mgmt with steward := .stopped } }.setBoot
            (some { b with steward := true, outcome := some 5, service := 1 })
        | some k =>
          let s1 := s.stewardBoots found k
          let c := s1.serviceCause
          s1.setBoot (some { b with steward := true, outcome := if c = 0 then none else some 5, service := c }))

/-- CONTEXT_RESTORE_DONE, the end of step 4; `found`: what its reads of the golden copy find. -/
def execContextRestoreDone (found : Found) (s0 : State) : Result :=
  .next (match s0.booting with
    | none => s0
    | some b =>
      if !b.steward || b.restored || b.outcome.isSome then s0
      else
        let mask := s0.goldenMask 0
        let s := if mask = 0 then s0 else s0.senseCodes found imageCode
        let s1 := { s with cfg := { s.cfg with planes := [] } }.wr CFG_CTX_LOADED 0
        if mask = 0 then s1.setBoot (some { b with restored := true, outcome := some 2 })
        else
          let bad := s.goldenBad found mask
          let s2 := (regionsOf mask).foldl (fun (x : State) r => x.restoreRegion found r) s1
          s2.setBoot (some { b with restored := true, outcome := if bad then some 4 else none }))

/-- BOOT_TAG_VERIFIED, the end of step 5: outcome 0x3 comes before 0x4. Step 6 starts: the boot record is applied, PLLs start (09
R254). -/
def execBootTagVerified (found : Found) (s0 : State) : Result :=
  .next (match s0.booting with
    | none => s0
    | some b =>
      if !b.restored || b.verified || b.outcome == some 2 || b.outcome == some 5 then s0
      else
        let s := s0.senseCodes found recordCode
        match s.bootRecordImage found (s.goldenMask 0) with
        | none => s.setBoot (some { b with verified := true, outcome := some 3 })
        | some m =>
          (if b.outcome.isSome then s else s.applyBoot m (s.goldenMask 0)).setBoot (some { b with verified := true }))

/-- BOOT_DONE: step 7, and the mode of the outcome. -/
def execBootDone (s : State) : Result :=
  .next (match s.booting with
    | some b => if s.bootReady b then s.endBoot b else s
    | none => s)

/-! ### Wake sources (R448 to R450) -/

/-- WAKE is at its active level. -/
def State.wakeActive (s : State) : Bool := s.modes.wakeHigh == !s.isSet PWR_CTRL_WAKE_POL

/-- The level source that acts now in the state of code `target`, as its wake cause (R448). -/
def State.levelWake (s : State) (target : Nat) : Option Nat :=
  if s.isSet PWR_CTRL_WAKE_EN && s.isSet PWR_CTRL_WAKE_LEVEL && s.wakeActive then some 1
  else if target = 4 then none
  else if s.isSet PWR_CTRL_ALARM_WAKE_EN && s.isSetAt ALM_STAT_FIRED 24 then some 2
  else if s.modes.promReqLow.isSome then some 3
  else none

/-- A wake in progress, noted once. -/
def State.noteWake (s : State) (cause : Nat) : State :=
  if s.modes.waking.isSome then s else { s with modes := { s.modes with waking := some cause } }

/-- A wake acts in the state the device is in. -/
def State.wake (s : State) (cause : Nat) : State :=
  let m := s.mode
  if m = modeDeepSleep then s.wakeDeep cause
  else if m = modeOff then
    if cause = 1 ∧ 9000 ≤ s.modes.vin then
      let s1 := s.resetCold 2
      { s1 with modes := { s1.modes with waking := some cause } }
    else s
  else if m = modeSleep ∨ (m = modeIdle ∧ !s.isSet GLB_MODE_UNCONFIGURED) then s.noteWake cause
  else s

/-- A wake source arrives (R449): it aborts an entry before its window. In the window an edge is lost, and a level is seen after
commit. -/
def State.wakeArrives (s : State) (cause : Nat) : State := if s.inWindow then s else (s.pwrAbort 8).wake cause

/-- WAKE_INPUT: the land's level. -/
def execWakeInput (level : Bool) (s : State) : Result :=
  .next (
    let s1 := { s with modes := { s.modes with wakeHigh := level } }
    if !s.isSet PWR_CTRL_WAKE_EN || !s1.wakeActive then s1
    else if !s.isSet PWR_CTRL_WAKE_LEVEL && s.modes.wakeHigh == level then s1
    else s1.wakeArrives 1)

/-- ALARM_FIRE (03 R86, R87): comparator 24 is a wake source. -/
def execAlarmFire (comparator : Nat) (s : State) : Result :=
  .next (
    if comparator < 32 ∧ s.alarmDue comparator then
      let s1 := s.alarmFire comparator
      if comparator ≠ 24 then s1
      else
        let s2 := { s1 with modes := { s1.modes with alarmAt := some s.now } }
        if s2.isSet PWR_CTRL_ALARM_WAKE_EN then s2.wakeArrives 2 else s2
    else s)

/-- PERST_N rises (02 R28): a wake source in DEEP_SLEEP. -/
def execPerstRelease (s : State) : Result :=
  .next (
    let s1 := s.perstRelease
    if s.mode = modeDeepSleep ∧ s.isSet PWR_CTRL_PERST_WAKE_EN ∧ s.mgmt.perstN = false then s1.wake 4 else s1)

/-- What R444 names restored: PLLs lock again, region clocks run, lanes train. -/
def State.restorePower (s : State) : State :=
  let deep := s.mode == modeSleep
  let s1 := (s.wr PWR_STATUS_FAR_REFRESH 0).wr PWR_STATUS_FABRIC_GATED 0
  let s2 := if deep then s1.startPlls else s1
  if s2.isSet GLB_MODE_UNCONFIGURED then s2.setMode modeIdle
  else
    let s3 := (s2.setMode s2.runMode).gateAll true
    if deep then s3.lanesSettle else s3

/-- IDLE or SLEEP left: event 0xB002, and the PWR_EXIT commands that waited. -/
def State.leaveState (s : State) (cause : Nat) : State :=
  let cmds := s.modes.exitCmds
  let s1 := { s.restorePower with modes := { s.restorePower.modes with waking := none, exitCmds := [] } }
  let s2 := (s1.wr PWR_WAKE_CAUSE cause).post 0xB002 0xB00 1 (cause * 16)
  cmds.foldl (fun (x : State) id => x.complete id .ok) s2

/-- WAKE_DONE. -/
def execWakeDone (s : State) : Result :=
  .next (match s.modes.waking with
    | some c => if s.modes.entry.isNone ∧ (s.mode = modeIdle ∨ s.mode = modeSleep) then s.leaveState c else s
    | none => s)

/-! ### Entry into a power state (R445 to R447) -/

/-- The state's depth: 0 = no power state. -/
def State.depth (s : State) : Option Nat :=
  if s.running then some 0 else if s.mode = modeIdle then some 1 else if s.mode = modeSleep then some 2 else none

/-- The first refuser (R447), asked in the order of its code. -/
def State.refuser (s : State) (target : Nat) : Option Nat :=
  if s.contractCount ≠ 0 then some 1
  else if (List.range 8).any fun b => (s.flashOp b).isSome || s.isSetAt FLC_BANK_LOAD_LOCK b then some 2
  else if s.lifeBusy then some 3
  else if s.capState = 1 then some 4
  else if 2 ≤ s.rd THM_STATUS_STEP then some 5
  else if s.isSet PWR_CTRL_LOCK then some 6
  else if s.cfg.load.isSome then some 7
  else if s.modes.waking.isSome || (s.levelWake target).isSome then some 8
  else none

/-- PWR_ENTER: the check, and the start of the quiesce. -/
def execPwrEnter (id : Nat) (s : State) : Result :=
  .next (s.startCmd id 0xB001 fun r s =>
    let t := recByte r 8
    if t = 0 ∨ 4 < t then (some (.badParam 8), s)
    else
      match s.depth with
      | none => (some .notInMode, s)
      | some d =>
        if t ≤ d then (some .notInMode, s)
        else if s.modes.entry.isSome then (some .busy, s)
        else
          match s.refuser t with
          | some code => (some ⟨0x70, code, 0⟩, s.pwrRecord code t s.mode false)
          | none =>
            let e : PowerEntry := {
              id := id
              target := t
              mode := s.mode
              since := s.now }
            (none, { s with modes := { s.modes with entry := some e } }.wr PWR_STATUS_ENTERING 1))

/-- Dispatched commands other than the entry's have not all finished. -/
def State.commandsRun (s : State) (id : Nat) : Bool :=
  s.mgmt.inFlight.any fun x => x.id != id && (x.begun || decide (x.id < id))

/-- PWR_QUIESCE_DONE: the refusers' last word, the completion of an entry into DEEP_SLEEP or OFF, the window. -/
def execPwrQuiesceDone (s : State) : Result :=
  .next (match s.modes.entry with
    | none => s
    | some e =>
      if e.window || s.commandsRun e.id then s
      else
        match s.refuser e.target with
        | some code => s.pwrAbort code
        | none =>
          let s1 := s.gateAll false
          let s2 := if 3 ≤ e.target then (s1.complete e.id ⟨0, 0, e.target⟩).drainCompletions else s1
          { s2 with modes := { s2.modes with entry := some { e with window := true, since := s.now } } })

/-- The fabric's PLLs and the lanes stop (R444, R452). -/
def State.enterSleep (s : State) : State :=
  let s1 := { s with fabric := { s.fabric with running := [] } }
  let s2 := (List.range 16).foldl (fun (x : State) p => (x.wrAt FAB_PLL_STATUS_LOCK p 0).wrAt FAB_PLL_STATUS_ALIGNED p 0) s1
  ((s2.setMode modeSleep).lanesSettle).wr PWR_STATUS_FAR_REFRESH 1

/-- DEEP_SLEEP: what is not retained is lost. -/
def State.enterDeep (s : State) : State :=
  let old := s.mode
  let at0 := s.now
  let s1 := (s.leaveFor modeDeepSleep).lanesSettle.privCut.deepState.rejoinBonds
  let s2 := (s1.wr GLB_MODE_MODE modeDeepSleep).wr GLB_MODE_PREV_MODE old
  let s3 := (s2.setLands modeDeepSleep).showMode modeDeepSleep
  { s3 with modes := { s3.modes with deepAt := at0 } }

/-- The state of code `target` entered. -/
def State.enterState (s : State) (target : Nat) : State :=
  match target with
  | 1 => (s.setMode modeIdle).wr PWR_STATUS_FABRIC_GATED 1
  | 2 => s.enterSleep.wr PWR_STATUS_FABRIC_GATED 1
  | 3 => s.enterDeep
  | _ => s.enterOff

/-- The completion of an entry into IDLE or SLEEP: TIMEOUT where it expired from the window on (R455). -/
def State.entryCompletion (s : State) (e : PowerEntry) : Completion :=
  match s.cmd e.id with
  | some c => if c.expiry 10 < s.now then ⟨0x07, 0, e.target⟩ else ⟨0, 0, e.target⟩
  | none => ⟨0, 0, e.target⟩

/-- IDLE or SLEEP left for Promenade with wake cause 0x3. -/
def State.promWake (s : State) : State := ((s.wr PWR_WAKE_CAUSE 3).post 0xB002 0xB00 1 0x30)

/-- After the commit: causes that arose meanwhile enter Promenade, else a level source wakes the device. -/
def State.afterCommit (s : State) (lv : Option Nat) : State :=
  let rests := s.mode == modeIdle || s.mode == modeSleep
  let s1 := if rests && lv == some 3 then s.promWake.promHeld else s
  if rests && s1.prom.waiting != 0 then s1.promWaiting
  else
    match lv with
    | some c => s1.wake c
    | none => s1

/-- A reset that is due waits in the queue: it comes before the entry into a power state (R454; 18 R488; DESIGN CHOICE, log 148). -/
def State.resetWaits (s : State) : Bool :=
  s.pending.any fun c =>
    match c with
    | .coldReset => (s.dueReset true).isSome
    | .warmReset => (s.dueReset false).isSome
    | _ => false

/-- The wake alarm fires in this tick: it has, or its row waits in the queue (18 R487; DESIGN CHOICE, log 148). -/
def State.alarmTies (s : State) : Bool :=
  s.modes.alarmAt == some s.now ||
    s.pending.any fun c =>
      match c with
      | .alarmFire n => n == 24 && s.alarmDue 24
      | _ => false

/-- PWR_COMMIT: four always-on cycles after the start of the window. -/
def execPwrCommit (s : State) : Result :=
  .next (match s.modes.entry with
    | none => s
    | some e =>
      if !e.window || decide (s.now < e.since + 160) || s.resetWaits then s
      else
        let lv := s.levelWake e.target
        let s0 := if s.alarmTies then s.resTie 1 else s
        let s1 := { s0 with modes := { s0.modes with entry := none } }.wr PWR_STATUS_ENTERING 0
        let s2 := (s1.incSat PWR_ENTRY_CNT).post 0xB002 0xB00 1 (e.target + s.rd PWR_WAKE_CAUSE * 16)
        let s3 := s2.enterState e.target
        (s3.complete e.id (s3.entryCompletion e)).afterCommit lv)

/-! ### Commands (R455) -/

/-- PWR_EXIT: it completes when the device has left IDLE or SLEEP. -/
def execPwrExit (id : Nat) (s : State) : Result :=
  .next (s.startCmd id 0xB002 fun _ s =>
    if s.mode = modeSleep ∨ (s.mode = modeIdle ∧ !s.isSet GLB_MODE_UNCONFIGURED) then
      let s1 := if s.inWindow then s else s.pwrAbort 8
      (none, { s1.noteWake 5 with modes := { (s1.noteWake 5).modes with exitCmds := s1.modes.exitCmds ++ [id] } })
    else (some .notInMode, s))

/-- SERVICE_ENTER. -/
def execServiceEnter (id : Nat) (s : State) : Result :=
  .next (s.runCmd id 0xB003 fun _ s =>
    if s.mode ≠ modeIdle ∧ s.mode ≠ modeConfigFault then (.notInMode, s)
    else if s.modes.entry.isSome || s.modes.waking.isSome then (.busy, s)
    else
      let s1 := ((s.gateAll false).leaveFor modeService).lanesSettle
      (.ok, (s1.wr GLB_MODE_SERVICE_CAUSE 3).wr PWR_STATUS_FABRIC_GATED 0))

/-! ### Wake on first access (R451) -/

/-- A first access served: its count, its stall, its event. -/
def State.firstAccess (s : State) (far : Bool) (stallNs : Nat) : State :=
  let s1 := (s.incSat PWR_FIRST_ACCESS_CNT).wr PWR_STALL_MAX_NS (max (s.rd PWR_STALL_MAX_NS) (satN 16 stallNs))
  s1.post 0xB005 0xB00 0 (flag far + satN 16 (stallNs / 1000) * 2 ^ 16)

/-- FIRST_ACCESS_WAKE: fabric clocks in IDLE, the far store in SLEEP. Before the window of an entry it aborts it (R449, R454). -/
def execFirstAccessWake (far : Bool) (stallNs : Nat) (s : State) : Result :=
  .next (
    if s.inWindow then s
    else
      let s1 := s.pwrAbort 8
      if far then
        if s1.mode = modeSleep ∧ s1.isSet PWR_STATUS_FAR_REFRESH then
          { (s1.firstAccess far stallNs).wr PWR_STATUS_FAR_REFRESH 0 with
            modes := { s1.modes with farAccess := s1.now } }
        else s1
      else if s1.mode = modeIdle ∧ !s1.isSet GLB_MODE_UNCONFIGURED then (s1.firstAccess far stallNs).leaveState 6
      else s1)

/-- FAR_STORE_IDLE_TIMEOUT: 1 ms without access in SLEEP. -/
def execFarStoreIdleTimeout (s : State) : Result :=
  .next (
    if s.mode = modeSleep ∧ s.rd PWR_STATUS_FAR_REFRESH = 0 ∧ s.modes.farAccess + 1000000 ≤ s.now then
      s.wr PWR_STATUS_FAR_REFRESH 1
    else s)

/-! ### PROM_REQ_N (17 R467) -/

/-- PROM_REQ_N has asked for Promenade: IDLE and SLEEP are left with cause 0x3, DEEP_SLEEP wakes first. -/
def State.promRequest (s : State) : State :=
  if s.mode = modeDeepSleep then s.wake 3
  else if (s.mode = modeIdle ∨ s.mode = modeSleep) ∧ !s.inWindow then
    (s.pwrAbort 9).promWake.promenade 9
  else s.promenade 9

/-- A level source that is active wakes the device at any time (R449). -/
def State.wakeLevels (s : State) : State :=
  if s.modes.entry.isNone && s.modes.waking.isNone &&
      (s.mode == modeDeepSleep || s.mode == modeSleep || (s.mode == modeIdle && !s.isSet GLB_MODE_UNCONFIGURED)) then
    match s.levelWake 3 with
    | some c => if c = 3 then s.promRequest else s.wake c
    | none => s
  else s

/-- PROM_REQ_INPUT: the land has been low for 80 ns, or is high. -/
def execPromReqInput (low : Bool) (s : State) : Result :=
  .next (
    if low then
      if s.modes.promReqLow.isSome then s
      else { s with modes := { s.modes with promReqLow := some s.now } }.promRequest
    else { s with modes := { s.modes with promReqLow := none } }.wrMask PRM_PENDING 8 false)

end Sys2Proof.Machine
end

