-- ==== Sys2Proof/Machine/Promenade.lean ====
section
/-! DEFINITION. Promenade (17): entry and exit by command, lifeline routes, frame sync. -/

namespace Sys2Proof.Machine

open Sys2Proof

/-! ### Entry and exit (R467, R469, R471) -/

/-- PROM_ENTER: cause 0x8. -/
def execPromEnter (id : Nat) (s : State) : Result :=
  .next (s.runCmd id 0xB010 fun _ s =>
    let m := s.mode
    if m = modeOff ∨ m = modeDeepSleep ∨ m = modeBoot ∨ m = modeService then (.notInMode, s)
    else (.ok, s.promenade 8))

/-- PATH 0x0 with the contexts intact: LOAD, steps 2, 5, 6 and 7 of R313 from the settings and claims in force, RUN. -/
def State.promToLoad (s : State) : State :=
  let c := s.cfg
  let s1 := s.enterLoad.installClaims c.claims c.bufs
  let s2 := { s1 with cfg := { s1.cfg with claims := c.claims, bufs := c.bufs, regions := c.regions, parkMask := c.parkMask } }
  let s3 := s2.startPlls.startDesign c.regions c.parkMask c.ctxSel
  ((s3.wr PWR_STATUS_FAR_REFRESH 0).setMode s3.runMode).lanesSettle

/-- PATH 0x1, or contexts lost: steps 4 to 7 of R441. -/
def State.promToBoot (s : State) : State :=
  let s1 := (((s.goldenFail 0x04).dropDesign).holdAll.leaveFor modeBoot).wr PWR_STATUS_FAR_REFRESH 0
  s1.setBoot (some { startedAt := s1.now, rails := true, steward := true, fromProm := true })

/-- Causes of Promenade that recur in this tick: the ladder's evaluation, or a fall of PROM_REQ_N, waits in the queue (R470; DESIGN
CHOICE, log 148). -/
def State.causesRecur (s : State) : Nat :=
  s.pending.foldl (fun (m : Nat) c =>
    match c with
    | .policyEvaluate => s.policyTimes.promCauses.foldl (fun (x : Nat) k => x ||| 2 ^ (k - 1)) m
    | .promReqInput low => if low then m ||| 2 ^ 8 else m
    | _ => m) 0

/-- Causes that bar the exit. -/
def State.exitCauses (s : State) : Nat := s.rd PRM_PENDING ||| s.causesRecur

/-- PROM_EXIT. -/
def execPromExit (id : Nat) (s : State) : Result :=
  .next (s.startCmd id 0xB011 fun r s =>
    let path := recByte r 8
    if s.mode ≠ modePromenade then (some .notInMode, s)
    else if 1 < path then (some (.badParam 8), s)
    else if s.exitCauses ≠ 0 then (some ⟨0x05, s.exitCauses, 0⟩, s)
    else if path = 0 ∧ s.isSet PRM_STATUS_CTX_INTACT then
      (none, { s with prom := { s.prom with exit := some (id, 0) } }.promToLoad.promExited 0)
    else (none, { s with prom := { s.prom with exit := some (id, path) } }.promToBoot))

/-! ### Lifeline routes (R464 to R466) -/

/-- The routes carry: in PROMENADE, and until step 7 of an exit through BOOT hands the lanes back (R469). -/
def State.routesRun (s : State) : Bool :=
  s.mode == modePromenade ||
    (match s.modes.boot with
     | some b => b.fromProm && s.mode == modeBoot
     | none => false)

/-- A route of the table copy, while it may carry. -/
def State.route (s : State) (r : Nat) : Option Nat := if s.routesRun then SMap.find s.prom.routes r else none

/-- The route can be up: a pass-through route only while its output bond is (R466). -/
def State.routeMayUp (s : State) (r w : Nat) : Bool := routeKind w != 3 || s.bondUp (48 + r)

/-- ROUTE_STATE_CHANGE. -/
def execRouteStateChange (route : Nat) (up : Bool) (s : State) : Result :=
  .next (
    match s.route route with
    | none => s
    | some w =>
      if s.rdAt PRM_ROUTE_UP route == flag up || (up && !s.routeMayUp route w) then s
      else s.routeChange route up)

/-- First word of the buffer of frame sync route `r`: the routes' buffers follow one another in the Promenade reserve, in the
order of their numbers. -/
def State.routeBase (s : State) (r : Nat) : Nat :=
  0x4000_0000 + 8 * ((s.prom.routes.filter fun (e : Nat × Nat) => decide (e.1 < r)).map fun (e : Nat × Nat) => routeSlots e.2).sum

/-- A blank word of 4:2:2 video (07 R188). -/
def blankVideo : Nat := 0x10_0800_1008_0010_0800

/-- Event 0xB014. -/
def State.frameSlip (s : State) (r : Nat) (again : Bool) : State :=
  (s.addSatAt (if again then PRM_ROUTE_REPEAT_CNT else PRM_ROUTE_DROP_CNT) r 1).post 0xB014 (0xB60 + r) 2 (r + 2 ^ 5 * flag again)

/-- Words written into a buffer from `a` on. -/
def State.routeWrite (s : State) (a : Nat) (ws : List (Nat × Bool)) : State :=
  match ws with
  | [] => s
  | w :: rest => State.routeWrite (s.storePut a { data := w.1 % 2 ^ 72, poison := w.2 }) (a + 1) rest

/-- Words of a route's buffer. -/
def State.routeAddrs (s : State) (r w : Nat) : List Nat := (List.range (routeWords w)).map fun i => s.routeBase r + i

/-- An output frame of the route starts in this tick: its row waits in the queue (R470; DESIGN CHOICE, log 148). -/
def State.outputStarts (s : State) (r : Nat) : Bool :=
  s.pending.any fun c =>
    match c with
    | .frameSyncOutputFrame n _ _ => n == r
    | _ => false

/-- A whole input frame in the buffer; what it replaces is kept for an output of the same tick. -/
def State.routeInput (s : State) (r w : Nat) (words : List (Nat × Bool)) : State :=
  let run : RouteRun := {
    buffered := true
    inputAt := s.now
    before := (s.routeAddrs r w).map s.storeWord
    wasBuffered := (SMap.read s.prom.runs {} r).buffered }
  { s.routeWrite (s.routeBase r) words with prom := { s.prom with runs := SMap.put s.prom.runs r run } }

/-- FRAME_SYNC_INPUT_FRAME: an input frame arrives, of which all words may be there; `crosses`: its start would cross the output's. A
frame that is not whole is not buffered. -/
def execFrameSyncInputFrame (route : Nat) (whole crosses : Bool) (words : List (Nat × Bool)) (s : State) : Result :=
  .next (
    match s.route route with
    | none => s
    | some w =>
      if routeKind w ≠ 2 then s
      else if crosses && !s.outputStarts route then s.frameSlip route false
      else if !whole || words.length != routeWords w then s
      else s.routeInput route w words)

/-- An input frame of the route started in this tick: the output sends the previous one, and nothing is counted (R470). -/
def State.routeTie (s : State) (r : Nat) : Bool :=
  (SMap.read s.prom.runs {} r).buffered && (SMap.read s.prom.runs {} r).inputAt == s.now

/-- A frame of the buffer is sent: not until a whole one is buffered, and not for a missing input with MISS 1. -/
def State.routeHolds (s : State) (r w : Nat) : Bool :=
  let run := SMap.read s.prom.runs {} r
  (if s.routeTie r then run.wasBuffered else run.buffered) && !(routeBlank w && s.rdAt PRM_ROUTE_UP r == 0)

/-- Words of the buffer as the output reads them. -/
def State.routeView (s : State) (r w : Nat) (found : Found) : List StoreWord :=
  if s.routeTie r then
    List.zipWith (fun (x : StoreWord) a => { data := x.data, poison := x.poison || foundBad (foundAt found a) })
      (SMap.read s.prom.runs {} r).before (s.routeAddrs r w)
  else (s.routeAddrs r w).map (s.viewWord found)

/-- The words of an output frame: blank, or the buffer's, poisoned ones blank; and the count of poisoned words. -/
def State.routeFrame (s : State) (r w : Nat) (found : Found) : List Nat × Nat :=
  if s.routeHolds r w then
    let ws := s.routeView r w found
    (ws.map fun x => if x.poison then blankVideo else x.data, (ws.filter fun x => x.poison).length)
  else (List.replicate (routeWords w) blankVideo, 0)

/-- FRAME_SYNC_OUTPUT_FRAME: a frame is sent; `crosses`: it is the previous one again; `found`: what the reads of the buffer find. -/
def execFrameSyncOutputFrame (route : Nat) (crosses : Bool) (found : Found) (s : State) : Result :=
  .next (
    match s.route route with
    | none => s
    | some w =>
      if routeKind w ≠ 2 then s
      else
        let f := s.routeFrame route w found
        let s0 := if s.routeHolds route w then s.senseWords found (s.routeAddrs route w) else s
        let s1 := { s0 with prom := { s0.prom with lastFrame := some (route, f.1) } }.addSatAt PRM_ROUTE_POISON_CNT route f.2
        if crosses && !s.routeTie route then s1.frameSlip route true else s1)

end Sys2Proof.Machine
end

