-- ==== Sys2Proof/Machine/LifeCycle.lean ====
section
/-! DEFINITION. The life cycle (19): its commands, the steps of a privileged transition, debug instructions. -/

namespace Sys2Proof.Machine

open Sys2Proof

/-! ### LCS_INFO and LCS_CHALLENGE (R503, R516) -/

/-- LCS_STATE and LCS_PROGRESS as words. -/
def State.lcsStateWord (s : State) : Nat :=
  s.rd LCS_STATE_STATE * 2 ^ 28 + s.rd LCS_STATE_ROW_STATE * 2 ^ 24 + s.rd LCS_STATE_GROUPS_FULL * 2 ^ 18 +
    s.rd LCS_STATE_GROUPS_PARTIAL * 2 ^ 12 + s.rd LCS_STATE_PRIV_RUNNING * 4 + s.rd LCS_STATE_PENDING * 2
def State.lcsProgressWord (s : State) : Nat :=
  s.rd LCS_PROGRESS_CUR_STEP * 2 ^ 29 + s.rd LCS_PROGRESS_RET_BEGUN * 2 ^ 13 + s.rd LCS_PROGRESS_RET_MARKS * 2 ^ 8 +
    s.rd LCS_PROGRESS_SCR_BEGUN * 2 ^ 5 + s.rd LCS_PROGRESS_SCR_MARKS

/-- LCS_INFO. -/
def execLcsInfo (id : Nat) (s : State) : Result :=
  .next (s.runCmd id 0xC001 fun _ s => (⟨0, s.lcsStateWord, s.rd LCS_KEYS + s.lcsProgressWord * 2 ^ 8⟩, s))

/-- A fresh challenge: a free value of 96 bits. -/
def State.freshChallenge (s : State) (jtag : Bool) : State :=
  let c := s.free 96
  if jtag then ({ s with life := { s.life with jtagChallenge := some c } }.wr LCS_AUTH_JTAG_CHALLENGE 1).took
  else ({ s with life := { s.life with hostChallenge := some c } }.wr LCS_AUTH_HOST_CHALLENGE 1).took

/-- LCS_CHALLENGE. -/
def execLcsChallenge (id : Nat) (s : State) : Result :=
  .next (s.runCmd id 0xC002 fun _ s =>
    (⟨0, s.free 96 / 2 ^ 64, s.free 96 % 2 ^ 64⟩, s.freshChallenge false))

/-! ### Keys (R501) -/

/-- A key written to slot `k`. -/
def State.keyWrite (s : State) (k key : Nat) : Completion × State :=
  let x := s.keySlot k
  let s1 := s.notePulse { startedAt := s.now, keySlot := some k }
  if x.weak then (⟨0x8A, 0, 0⟩, (s1.setKeySlot k { x with touched := true }).cellFailed 4 k)
  else
    let kcv := Config.keyCheckValue key % 2 ^ 24
    (⟨0, 0, kcv⟩, (s1.setKeySlot k { x with key := key, touched := true, written := true }).post 0xC006 0xC00 1 (k + kcv * 2 ^ 8))

/-- LCS_KEY_WRITE. It waits for pulses under way. -/
def execLcsKeyWrite (id : Nat) (s : State) : Result :=
  .next (
    if s.pulsing then s
    else s.runCmd id 0xC003 fun r s =>
      let k := recByte r 8
      if 3 < k then (.badParam 8, s)
      else if s.lifeState = lcsLocked then (⟨0x86, 0, 0⟩, s)
      else if s.lifeState ≠ lcsBlank ∧ s.lifeState ≠ lcsOwned then (.denied, s)
      else if (s.keySlot k).code ≠ 0 then (⟨0x84, 0, 0⟩, s)
      else s.keyWrite k (recField r 16 32))

/-! ### Transitions (R506 to R510) -/

/-- The target is permitted from a state. -/
def transitionPermitted (st target : Nat) : Bool :=
  match target with
  | 2 => st == lcsFactory
  | 3 => st == lcsBlank
  | 4 => st == lcsOwned
  | 5 => st == lcsOwned || st == lcsSealed
  | 6 => st == lcsFactory || st == lcsBlank || st == lcsOwned || st == lcsSealed || st == lcsReturn
  | _ => false

/-- The target needs a privileged transition. -/
def privilegedTarget (target : Nat) : Bool := target == lcsReturn || target == lcsScrap

/-- The key of a slot may authorise the target. -/
def State.mayAuthorise (s : State) (target slot : Nat) : Bool :=
  match target with
  | 2 => slot == 0xF
  | 6 => if s.anyKeyed then decide (slot < 4) else slot == 0xF
  | _ => decide (slot < 4)

/-- The authority marks of a group bar another key. -/
def RowGroup.bars (x : RowGroup) (slot : Nat) : Bool :=
  let marks := x.auth ||| x.authPart
  marks != 0 && bitOf marks (authBit slot) == 0

/-- A group programmed for target `t`: event 0xC001 and LCS_TRANS_CNT, or LCS_CELL_FAIL. -/
def State.programGroup (s : State) (g t slot : Nat) : Completion × State :=
  let p := s.pulseGroup g
  if p.1 then (.ok, (p.2.incSat LCS_TRANS_CNT).post 0xC001 0xC00 1 (t + slot * 2 ^ 4)) else (⟨0x8A, 0, 0⟩, p.2)

/-- A plain transition to `t`, authorised by the key of `slot`. -/
def State.plainTransition (s : State) (t slot : Nat) : Completion × State :=
  let g := t - 1
  let x := s.rowGroup g
  if x.bars slot then (⟨0x81, 0, 0⟩, s)
  else
    let y := x.authorised (authBit slot)
    let s1 := s.setGroup g y
    if bitOf y.auth (authBit slot) = 0 then (⟨0x8A, 0, 0⟩, s1.cellFailed 2 g)
    else (s1.notePulse { startedAt := s.now, group := g, auth := some (authBit slot), before := x }).programGroup g t slot

/-- A privileged transition begins: its BEGUN cell, the clearing before step 1, step 1. -/
def State.privBegin (s : State) (t : Nat) : Completion × State :=
  if s.markWeak t 0 then (⟨0x8A, 0, 0⟩, s.cellFailed 3 0)
  else
    let s1 := ((s.wr (begunOf t) 1).wr LCS_STATE_PRIV_RUNNING 1).privClear
    (.ok, { s1.wr LCS_PROGRESS_CUR_STEP (s1.firstStep t) with life := { s1.life with resumed := false } })

/-- Why a transition is refused before its authentication. -/
def State.transitionRefusal (s : State) (t slot : Nat) : Option Completion :=
  if !slotNamed slot then some (.badParam 9)
  else if s.lifeState = lcsLocked then some ⟨0x86, 0, 0⟩
  else if s.isSet LCS_STATE_PENDING || s.privTarget.isSome then some ⟨0x87, 0, 0⟩
  else if !transitionPermitted s.lifeState t then some ⟨0x80, 0, 0⟩
  else if privilegedTarget t && (s.mode != modeService || s.mgmt.steward == .stopped) then some .notInMode
  else if t = lcsOwned ∧ !s.anyKeyed then some ⟨0x89, 0, 0⟩
  else none

/-- LCS_TRANSITION as authenticated. -/
def State.transition (s : State) (t slot tag : Nat) : Completion × State :=
  match s.transitionRefusal t slot with
  | some c => (c, s)
  | none =>
    let a := s.authenticate false 0xC004 t slot tag
    if a.1 ≠ 0 then (⟨a.1, 0, 0⟩, a.2)
    else if !a.2.mayAuthorise t slot then (⟨0x81, 0, 0⟩, a.2)
    else if privilegedTarget t then a.2.privBegin t
    else a.2.plainTransition t slot

/-- LCS_TRANSITION. It waits for pulses under way, and for the steward where the target is privileged (R516). -/
def execLcsTransition (id : Nat) (s : State) : Result :=
  .next (
    let waits := s.mode == modeService && !s.stewardReady && s.mgmt.steward != .stopped
    if s.pulsing || (privilegedTarget (recByte (s.record id) 8) && waits) then s
    else s.runCmd id 0xC004 fun r s => s.transition (recByte r 8) (recByte r 9) (recField r 16 16))

/-- The group that an interrupted transition left partial. -/
def State.partialGroup (s : State) : Option Nat := (List.range 6).find? fun g => !(s.rowGroup g).full && !(s.rowGroup g).empty

/-- REPEAT_TRANSITION (R508). It waits for pulses under way. -/
def execRepeatTransition (id : Nat) (s : State) : Result :=
  .next (
    if s.pulsing then s
    else s.runCmd id 0xC005 fun r s =>
      let slot := recByte r 9
      if !slotNamed slot then (.badParam 9, s)
      else
        match s.partialGroup with
        | none => (⟨0x88, 0, 0⟩, s)
        | some g =>
          let a := s.authenticate false 0xC005 0 slot (recField r 16 16)
          let x := a.2.rowGroup g
          if a.1 ≠ 0 then (⟨a.1, 0, 0⟩, a.2)
          else if bitOf (x.auth ||| x.authPart) (authBit slot) = 0 then (⟨0x81, 0, 0⟩, a.2)
          else (a.2.notePulse { startedAt := s.now, group := g, before := x }).programGroup g (g + 1) slot)

/-! ### The steps of a privileged transition (R510 to R512) -/

/-- The mark of step `k` programmed: event 0xC004, and the next step. -/
def State.markStep (s : State) (t k : Nat) : State :=
  let s1 := s.wr (marksOf t) (s.rd (marksOf t) ||| 2 ^ (k - 1))
  let s2 := s1.post 0xC004 0xC00 1 (k + flag (t == lcsScrap) * 2 ^ 3 + flag s.life.resumed * 2 ^ 4)
  let s3 := s2.wr LCS_PROGRESS_CUR_STEP (s2.firstStep t)
  if k = 5 then ((s3.wr LCS_STATE_PRIV_RUNNING 0).incSat LCS_TRANS_CNT).showRow else s3

/-- PRIVILEGED_STEP_DONE: the step running ends. One that does not verify, or whose mark does not program, stays the step
running. -/
def execPrivilegedStepDone (s : State) : Result :=
  .next (
    match s.privTarget with
    | none => s
    | some t =>
      let k := s.rd LCS_PROGRESS_CUR_STEP
      if k = 0 ∨ !s.stewardReady then s
      else
        let s1 := s.privWork t k
        if !s1.privVerified t k then s1
        else if s1.markWeak t k then s1.cellFailed 3 k
        else s1.markStep t k)

/-! ### Debug instructions (R513, R514) -/

/-- The state permits a debug instruction; `owner`: one that OWNED permits before the challenge. -/
def State.debugPermitted (s : State) (owner : Bool) : Bool :=
  s.isSet LCS_DEBUG_JTAG_EN &&
    (s.rd LCS_DEBUG_LEVEL == 3 || (s.lifeState == lcsOwned && (owner || s.isSet LCS_DEBUG_UNLOCKED)))

/-- A debug instruction: BYPASS where the state does not permit it. The management plane is off in OFF and DEEP_SLEEP. -/
def State.debug (s : State) (owner : Bool) (act : State → State) : State :=
  if s.mode = modeOff ∨ s.mode = modeDeepSleep then s
  else if s.debugPermitted owner then act (s.setJtag .debug)
  else (s.setJtag .bypass).incSat LCS_DBG_REFUSE_CNT

/-- DBG_CHALLENGE: the challenge is captured. -/
def execDbgChallenge (s : State) : Result := .next (s.debug true fun x => (x.freshChallenge true).answer (x.free 96))

/-- DBG_RESPONSE. -/
def execDbgResponse (slot tag : Nat) (s : State) : Result :=
  .next (s.debug true fun x =>
    let a := x.authenticate true 0xD0B6 0 (slot % 16) (tag % 2 ^ 128)
    if a.1 = 0 then
      ((a.2.wr LCS_DEBUG_UNLOCKED 1).wr LCS_DEBUG_UNLOCK_SLOT (slot % 16)).post 0xC007 0xC00 2 (slot % 16 + 2 ^ 4)
    else a.2)

/-- A capture that halts the device is taken in this tick: its row waits in the queue (R515; DESIGN CHOICE, log 148). -/
def State.captureHalts (s : State) : Bool :=
  (s.ctx.capture.any fun x => x.halt) &&
    s.pending.any fun c =>
      match c with
      | .captureTaken => true
      | _ => false

/-- DBG_HALT: from RUN and RUN_DEGRADED (16 R437). -/
def execDbgHalt (s : State) : Result := .next (s.debug false fun x => if x.running && !x.captureHalts then x.enterHalted else x)

/-- DBG_RESUME. -/
def execDbgResume (s : State) : Result := .next (s.debug false fun x => if x.mode = modeHalted then x.resumeRun else x)

/-- DBG_RESET. -/
def execDbgReset (s : State) : Result := .next (s.debug false fun x => x.resetWarm 7)

/-- DBG_LOCK. -/
def execDbgLock (s : State) : Result :=
  .next (s.debug false fun x =>
    if x.isSet LCS_DEBUG_UNLOCKED then (x.wr LCS_DEBUG_UNLOCKED 0).post 0xC007 0xC00 2 (x.rd LCS_DEBUG_UNLOCK_SLOT) else x)

end Sys2Proof.Machine
end

