-- ==== Sys2Proof/Machine/Steward.lean ====
section
/-! DEFINITION. The steward's restarts (02 R58; 13 R372), commands whose TIMEOUT expires (02 R40), commands whose own data meets a
DMA error (02 R539). -/

namespace Sys2Proof.Machine

open Sys2Proof

/-! ### Restarts (02 R58) -/

/-- The commands the steward was executing, all of its own that were dispatched, complete with ABORTED. -/
def State.abortSteward (s : State) : State :=
  (s.mgmt.inFlight.filter fun c => stewardCommand c.bytes).foldl (fun (x : State) c => x.complete c.id ⟨0x08, 0, 0⟩)
    (s.goldenFail 0x08)

/-- The operation on the steward's boot bank is held: an erase suspended, a program after the code word in progress (13 R372). -/
def State.holdBootBank (s : State) : State :=
  let b := s.stewardBank
  match s.flashOp b with
  | none => s
  | some x =>
    let s1 := s.wr FLC_STATUS_STW_OFF_BANK 0
    if x.begun && !x.suspended then
      let s2 := s1.setFlashOp b { x with held := true }
      if x.erase then s2.setSector b x.sector 2 else s2
    else s1

/-- A restart with a cause: 0 = watchdog, 1 = lockstep mismatch, 2 = poisoned fetch. During a restart the watchdog is stopped and the
others start it again; a steward that boots starts its boot again, which lasts 200 µs from then (DEDUCED, log 100). -/
def State.stewardRestart (s : State) (cause : Nat) : State :=
  let told := (s.incSat MBX_STW_RESTART_CNT).post 0xD004 0xD00 3 cause
  match s.mgmt.steward with
  | .stopped => s
  | .booting => if cause = 0 then s else { told with mgmt := { told.mgmt with stewardDoneAt := s.now + 200000 } }
  | .restarting _ =>
    if cause = 0 then s else { told with mgmt := { told.mgmt with steward := .restarting (s.now + 200000) } }
  | .running =>
    let s1 := told.abortSteward.holdBootBank
    { s1 with mgmt := { s1.mgmt with steward := .restarting (s.now + 200000) } }

/-- STEWARD_WATCHDOG_EXPIRY. -/
def execStewardWatchdogExpiry (s : State) : Result := .next (s.stewardRestart 0)

/-- STEWARD_LOCKSTEP_MISMATCH. -/
def execStewardLockstepMismatch (s : State) : Result := .next (s.stewardRestart 1)

/-- STEWARD_POISONED_FETCH. -/
def execStewardPoisonedFetch (s : State) : Result := .next (s.stewardRestart 2)

/-- The steward has left bank `b` for the active boot block: an operation that waited for it goes on (13 R371). -/
def State.leftBank (s : State) (b : Nat) : State :=
  if s.stewardBank = b then s
  else
    let s1 := if s.isSetAt FLC_BANK_STW_BANK b then
        ((s.wrAt FLC_BANK_STW_BANK b 0).wr FLC_STATUS_STW_MOVE_REQ 0).wr FLC_STATUS_STW_OFF_BANK 0
      else s
    match s1.flashOp b with
    | some x => if x.held || !x.begun then s1.flashGo b else s1
    | none => s1

/-- STEWARD_RESTART_DONE: 200 µs after the latest start. -/
def execStewardRestartDone (s : State) : Result :=
  .next (
    match s.mgmt.steward with
    | .restarting t =>
      if t ≤ s.now then
        let b := s.stewardBank
        let s1 := { s with mgmt := { s.mgmt with steward := .running } }
        ((s1.wr FLC_BOOT_RUNNING_BLOCK (s.rd FLC_BOOT_ACTIVE_BLOCK)).leftBank b).stewardRewrites
      else s
    | _ => s)

/-! ### TIMEOUT (02 R40) -/

/-- The request of an ADMIT whose check has not started is dropped (06 R172). -/
def State.admitTimeout (s : State) (id : Nat) : State :=
  let keep := s.adm.requests.head?.any fun q => q.id == id && s.adm.rechecks.isEmpty
  if keep then s else { s with adm := { s.adm with requests := s.adm.requests.filter fun q => q.id != id } }

/-- What a TIMEOUT does beside completing its command. -/
def State.timeoutEffect (s : State) (id op : Nat) : State :=
  match op with
  | 0x3001 => s.admitTimeout id
  | 0x7001 => { s with ctx := { s.ctx with cmds := SMap.erase s.ctx.cmds id } }
  | 0x7002 => { s with ctx := { s.ctx with cmds := SMap.erase s.ctx.cmds id } }
  | 0x7003 => { s with ctx := { s.ctx with cmds := SMap.erase s.ctx.cmds id } }
  | 0x7004 =>
    match s.ctx.capture with
    | some x => if x.cmd = some id then s.captureCancel else s
    | none => s
  | 0xB002 => { s with modes := { s.modes with exitCmds := s.modes.exitCmds.filter (· != id) } }
  | _ => s

/-- The TIMEOUT of a command in flight has expired. A load fails (11 R320); a power entry before its window is aborted, a later
one goes on and tells it in its own completion (16 R455). -/
def State.timeOut (s : State) (c : InFlight) : State :=
  let plain := (s.timeoutEffect c.id (recOpcode c.bytes)).complete c.id ⟨0x07, 0, 0⟩
  match s.cfg.load, s.modes.entry with
  | some l, _ => if l.id = c.id then s.failLoad l { status := 0x07 } false else plain
  | none, some e => if e.id = c.id then s.pwrAbort 0xA else plain
  | none, none => plain

/-- COMMAND_TIMEOUT: once the tick of the expiry has passed, in which the command's own completion would have won (R40). -/
def execCommandTimeout (id : Nat) (s : State) : Result :=
  .next (
    match s.cmd id with
    | some c => if c.expiresAt < s.now then s.timeOut c else s
    | none => s)

/-! ### DMA errors of a command's own data (02 R539) -/

/-- The state after a command's own row, for the commands that move data of their own. -/
def State.ownRow (s : State) (id op : Nat) : State :=
  let r : Result :=
    match op with
    | 0xD002 => execLogRead id {} s
    | 0x4003 => execFlowStats id s
    | 0x4004 => execInject id s
    | 0x6001 => execStreamStage id s
    | 0x7006 => execCtxReadback id s
    | 0x8002 => execFlashProgram id s
    | 0x8006 => execFlashCalRead id s
    | 0x9001 => execHltAffectedFlows id s
    | 0x9002 => execHltRecords id s
    | _ => .next s
  match r with
  | .next t => t
  | _ => s

/-- STATUS of the completion that a command's row has just put. -/
def State.lastStatus (t : State) (ring : Bool) : Nat :=
  if ring then ((t.mgmt.cplWait.getLast?.getD []).getD 2 0) else t.rdAt MBX_MB_CPL 0 / 2 ^ 16 % 256

/-- The command's completion is not discarded: what its row answers can be read. -/
def State.undiscard (s : State) (id : Nat) : State :=
  { s with mgmt := { s.mgmt with
      inFlight := s.mgmt.inFlight.map fun c => if c.id = id then { c with discard := false } else c } }

/-- Where a command writes host memory, and how many bytes. -/
def State.dmaWrites (s : State) (r : List Nat) : Option (Nat × Nat) :=
  match recOpcode r with
  | 0xD002 => some (recField r 8 8, 16 * recField r 20 4)
  | 0x4003 => some (recField r 16 8, 64)
  | 0x7006 =>
    some (recField r 8 8, match recByte r 16 with
      | 0 => 39936
      | 1 => 220 * recField r 24 4
      | _ => 12 * recField r 24 4)
  | 0x8006 => some (recField r 16 8, 4608)
  | 0x9001 => some (recField r 8 8, 2 * min (recField r 16 2) s.guard.affected.length)
  | 0x9002 => some (recField r 8 8, 8 * (s.guard.records.length - recField r 16 2))
  | _ => none

/-- RESULT for the data moved before byte `off`. -/
def State.dmaResult (s : State) (r : List Nat) (off : Nat) : Nat :=
  match recOpcode r with
  | 0xD002 => (recField r 16 4 + off / 16) % 1048576
  | 0x9001 => off / 2 + satN 16 (s.guard.affected.length - off / 2) * 2 ^ 16
  | 0x9002 => off / 8
  | _ => 0

/-- The code words of a FLASH_PROGRAM whose bytes were received. -/
def State.partProgram (s : State) (r : List Nat) (off : Nat) : Nat × Option Nat × State :=
  let k := min (off / 18) (recField r 14 2)
  s.programWords (recBank r) (recSector r) (recField r 12 2) (codeData (s.hostRead (recField r 16 8) (18 * k)) k) none 0

/-- Bytes staged from byte `a` on, and behind them `n` that STREAM_STAGE did not write: undefined. -/
def State.stagePart (s : State) (a : Nat) (bs : List Nat) (n : Nat) : State :=
  (State.stageBytes (bs.length + n) s (a / 8) (bs ++ (List.range n).map fun k => s.freeK k 8)).tookN n

/-- The effect and completion of a command whose transfer fails at byte `off`; `t` is the state after a transfer without an error. -/
def State.dmaPartial (s t : State) (r : List Nat) (off : Nat) : Completion × State :=
  match s.dmaWrites r with
  | some (a, n) =>
    let s1 := (s.hostWrite a ((List.range off).map fun k => t.hostByte (a + k))).hostUndefined (a + off) (n - off)
    (⟨0x09, off, s.dmaResult r off⟩, s1)
  | none =>
    match recOpcode r with
    | 0x6001 => (⟨0x09, off, 0⟩, s.stagePart (recField r 16 4) (s.hostRead (recField r 8 8) off) (recField r 20 4 - off))
    | 0x8002 =>
      let p := s.partProgram r off
      match p.2.1 with
      | none => (⟨0x09, off, p.1⟩, p.2.2)
      | some st => (⟨st, 0, p.1⟩, p.2.2)
    | _ => (⟨0x09, off, 0⟩, s)

/-- Bytes a command moves. -/
def State.dmaLength (s : State) (r : List Nat) : Nat :=
  match s.dmaWrites r with
  | some x => x.2
  | none =>
    match recOpcode r with
    | 0x6001 => recField r 20 4
    | 0x8002 => 18 * recField r 14 2
    | 0x4004 => recField r 10 2
    | _ => 0

/-- COMMAND_DATA_DMA_ERROR: the transfer of a command that its own row would carry out fails at byte `offset`. A command that is
refused moves no data, and its own row answers. -/
def execCommandDataDmaError (id offset : Nat) (s : State) : Result :=
  .next (
    match s.cmd id with
    | none => s
    | some c =>
      let op := recOpcode c.bytes
      let t := (s.undiscard id).ownRow id op
      let accepted := if op = 0x8002 then (t.cmd id).any fun x => x.begun else (t.cmd id).isNone && t.lastStatus c.ring == 0
      if c.begun || !accepted || decide (s.dmaLength c.bytes ≤ offset) then s
      else
        let p := s.dmaPartial t c.bytes offset
        (p.2.complete id p.1).dmaFault 4)

end Sys2Proof.Machine
end

