-- ==== Sys2Proof/Machine/Bus.lean ====
section
/-! DEFINITION. The registers as the host reaches them (00 R6 to R8; 02 R29 to R31): which fields a word holds, what each shows,
what a read of a word does besides, what a write of each register does. -/

namespace Sys2Proof.Machine

open Sys2Proof

/-! ### The map -/

/-- The instance of a field whose register (its low word, where it is 64 bits wide) lies at `a`. -/
def Field.instanceAt (f : Field) (a : Nat) : Option Nat :=
  if a < f.addr then none
  else if f.stride = 0 then (if a = f.addr then some 0 else none)
  else if (a - f.addr) % f.stride = 0 ∧ (a - f.addr) / f.stride < f.count then some ((a - f.addr) / f.stride)
  else none

/-- The fields of the register at `a`, each with its instance. -/
def fieldsAt (a : Nat) : List (Field × Nat) := allFields.filterMap fun f => (f.instanceAt a).map fun i => (f, i)

/-- A row of a word table covers `a`. -/
def rowCovers (a : Nat) (e : Nat × Nat × Nat) : Bool :=
  decide (e.1 ≤ a) &&
    (if e.2.1 = 0 then a == e.1 else (a - e.1) % e.2.1 == 0 && decide ((a - e.1) / e.2.1 < e.2.2))

/-- Some block decodes the word at `a` (02 R30). -/
def isDecoded (a : Nat) : Bool := decodedWords.any (rowCovers a)

/-- A 64-bit register has its low word at `a` (00 R8). -/
def isWide (a : Nat) : Bool := wideRegs.any (rowCovers a)

/-- Tables that are no registers: MSI-X table, pending bits, dance card banks, flow table, scratchpad (02 R31, R54). -/
inductive Window where
  | msix
  | pba
  | dance
  | flowTable
  | spad
  deriving DecidableEq, Repr

/-- The table that a BAR0 address lies in. -/
def windowAt (a : Nat) : Option Window :=
  if 0x11000 ≤ a ∧ a < 0x11400 then some .msix
  else if 0x11800 ≤ a ∧ a < 0x11808 then some .pba
  else if 0x800000 ≤ a ∧ a < 0xA00000 then some .dance
  else if 0xC00000 ≤ a ∧ a < 0xD00000 then some .flowTable
  else if 0x1000000 ≤ a ∧ a < 0x1080000 then some .spad
  else none

/-- The state of a result; a stop leaves the state as it was. -/
def stateOf (r : Result) (s : State) : State :=
  match r with
  | .next t => t
  | .fault _ => s
  | .refused _ => s

/-! ### What fields show whose home is no register -/

/-- Sum of fractions. -/
def sumFractions (xs : List (Nat × Nat)) : Nat × Nat :=
  xs.foldl (fun (x : Nat × Nat) y => (x.1 * y.2 + y.1 * x.2, x.2 * y.2)) (0, 1)

/-- Use of a resource in parts per million of its capacity: the left side of condition (a) (06 R152, R175). -/
def State.usePpm (s : State) (kind inst : Nat) : Nat :=
  let cap := s.capacity kind inst
  let x := sumFractions ((s.adm.contracts.flatMap fun (e : Nat × Contract) => demandOn e.2 kind inst).map fun j =>
    (j.amount * j.tDen, 64 * j.tNum))
  satN 20 (1000000 * x.1 * cap.2 / (x.2 * cap.1))

/-- The steering that FAB_COLMAP and SPARES_USED show of a region (09 R236). -/
def State.steeringShown (s : State) (r : Nat) : List Nat := (SMap.find s.fabric.shown r).getD (s.steeredOver r)

/-- The physical column FAB_COLMAP shows for a logical column. -/
def State.physicalShown (s : State) (c : Nat) : Nat := physicalUnder (s.steeringShown (c / 96)) c

/-- A continuous read stream is open on a bank (13 R373): the steward executes from it, or a load reads it. -/
def State.creadOpen (s : State) (b : Nat) : Bool :=
  !s.flashRuns b && (s.stewardOn b || (match s.cfg.load with
    | some l => l.fromFlash && l.bank == b
    | none => false))

/-- Claim bits of lanes `32i` to `32i + 31`. -/
def State.laneClaimBits (s : State) (i : Nat) : Nat :=
  ((List.range 32).map fun k => flag (s.laneClaimed (32 * i + k)) * 2 ^ k).sum

/-- Word `k` of the oldest record of the mailbox event queue (02 R49). -/
def State.mbEventWord (s : State) (k : Nat) : Nat :=
  match s.mgmt.mbEvents with
  | [] => 0
  | r :: _ => r / 2 ^ (32 * k) % 2 ^ 32

/-- The owner of a comparator pair register (18 R485). -/
def almOwners (first : Nat) : Nat := ((List.range 16).map fun k => almOwner (first + k) * 4 ^ k).sum

/-- Riser signals of interface `i` steered to spares, at the factory and in service (01 R16). -/
def State.sparesUsed (s : State) (i : Nat) : Nat :=
  (Config.factorySteering.filter fun e => e.1 / 2 ^ 24 == i).length +
    (s.guard.steered.flatMap fun (e : Nat × List Nat) => if e.1 / 2 ^ 24 = i then e.2.eraseDups else []).length

/-- The steward's scrub passes (14 R401): none while every column is guarded; then any number that passes of 16.4 µs allow. -/
def State.scrubPasses (s : State) : Nat :=
  if s.rd HLT_STATUS_UNGUARDED_CNT = 0 then 0
  else s.free 32 % (satN 32 ((s.now - s.guard.scrubFrom) / 16400) + 1)

/-- Read-only fields that show what the block holds elsewhere. -/
def shownA : List (Field × (State → Nat → Nat)) :=
  [(MBX_STATUS_INFLIGHT, fun s _ => s.mgmt.inFlight.length),
   (MBX_STATUS_STEWARD_RESTARTING, fun s _ => match s.mgmt.steward with
     | .restarting _ => 1
     | _ => 0),
   (MBX_STATUS_STEWARD_READY, fun s _ => flag s.stewardReady),
   (MBX_STATUS_EVT_FULL, fun s _ => flag s.evtFull),
   (MBX_STATUS_CPL_FULL, fun s _ => flag s.cplFull),
   (MBX_STATUS_CMD_RUN, fun s _ => flag s.cmdRun),
   (MBX_STW_VER, fun s _ => s.stewardVersion),
   (MBX_MB_EVT, fun s k => s.mbEventWord k),
   (MBX_MB_EVT_CNT_COUNT, fun s _ => s.mgmt.mbEvents.length),
   (RES_LANE_CLAIMED, fun s i => s.laneClaimBits i),
   (RES_ALM_OWNER_LO, fun _ _ => almOwners 0),
   (RES_ALM_OWNER_HI, fun _ _ => almOwners 16),
   (CLR_TIME_NS, fun s _ => s.caller.ns),
   (CLR_MONO, fun s _ => s.now % 2 ^ 64),
   (CLR_GRID_LINE_NS, fun s g => s.lineNs g % 2 ^ 20),
   (CLR_GRID_POS_TICK, fun s g => if s.gridRuns g then (s.pos g).tick else 0),
   (CLR_GRID_STATUS_ACTIVE, fun s g => flag (s.gridRuns g)),
   (DNC_STATUS_RUNNING, fun s _ => flag s.danceRunning)]

/-- More of them: store, admission, flows. -/
def shownB : List (Field × (State → Nat → Nat)) :=
  [(STR_NEAR_FREE, fun s _ => s.poolFree false),
   (STR_FAR_FREE, fun s _ => s.poolFree true),
   (STR_NEAR_BE_FREE, fun s _ => s.beFree false),
   (STR_FAR_BE_FREE, fun s _ => s.beFree true),
   (ADM_STATUS_CHECK, fun s _ => flag (!s.adm.requests.isEmpty && s.adm.rechecks.isEmpty)),
   (ADM_NEAR_USE, fun s _ => s.usePpm 1 0),
   (ADM_FAR_USE, fun s _ => s.usePpm 2 0),
   (ADM_CONTRACT_CNT, fun s _ => s.contractCount),
   (ADM_CT_RESERVED, fun s _ => quotaSum s.adm.contracts),
   (ADM_CT_HELD, fun s _ => (s.adm.tickets.filter fun (e : Nat × Ticket) => e.2.contracted).length),
   (ADM_BE_HELD, fun s _ => s.sharedTickets),
   (ADM_DEMOTED_CNT, fun s _ =>
     (s.adm.contracts.filter fun (e : Nat × Contract) => decide (e.2.state = .demoted)).length),
   (ADM_LANE_USE, fun s n => s.usePpm 3 n),
   (ADM_PF_USE, fun s n => s.usePpm 5 n),
   (ADM_DP_USE, fun s n => s.usePpm 6 n),
   (ADM_IF01_UP_USE, fun s _ => s.usePpm 4 0),
   (ADM_IF01_DN_USE, fun s _ => s.usePpm 4 1),
   (FLW_STATUS_ENABLED_CNT, fun s _ => s.enabledFlows.length),
   (FLW_STATUS_PAIR_CNT, fun s _ => ((List.range 256).filter fun p => s.isSetAt FLW_PAIR_VALID p).length)]

/-- The region set-reset is held: the region is parked or retired, or a cycle of it runs (09 R255). Until BOOT ends the field
keeps its reset value (DEDUCED, log 111). -/
def State.regionResetHeld (s : State) (r : Nat) : Bool :=
  (s.mode != modeOff && s.mode != modeBoot && s.parked r) || decide (s.now < SMap.read s.ctx.resetUntil 0 r)

/-- More of them: lanes, lands, fabric, flash, guards. -/
def shownC : List (Field × (State → Nat → Nat)) :=
  [(LNE_STATUS_LANES_UP, fun s _ => s.lanesIn 2),
   (LNE_STATUS_LANES_RETIRED, fun s _ => s.lanesIn 4),
   (LNE_STATUS_BONDS_UP, fun s _ => s.bondsUp),
   (LNE_GPIO_OWNER, fun s p => s.rdAt RES_LAND_OWNER p),
   (LNE_GPIO_CLAIMED, fun s p => flag (s.landClaimed p)),
   (FAB_GCLK_ACTIVE, fun s n => flag (s.netRuns n)),
   (FAB_REGION_CLK_RUN, fun s r =>
     ((List.range 4).map fun i => if bitOf (s.rdAt FAB_REGION_CLK_RUN r) i == 1 && s.netRuns (s.regionNet r i) then 2 ^ i else 0).sum),
   (FAB_REGION_RSR_HELD, fun s r => flag (s.regionResetHeld r)),
   (HLT_RISER_SPARES_USED, fun s k => satN 32 (s.sparesUsed (k + 1))),
   (FAB_REGION_SPARES_USED, fun s r => min 2 (s.steeringShown r).length),
   (FAB_COLMAP_STEERED, fun s c => flag (s.physicalShown c != columnUnsteered c)),
   (FAB_COLMAP_PHYS, fun s c => s.physicalShown c),
   (CTX_STATUS_RB_BUSY, fun s _ => flag (s.mgmt.inFlight.any fun f => recOpcode f.bytes == 0x7006)),
   (FLC_BANK_CREAD, fun s b => flag (s.creadOpen b)),
   (HLT_AFFECTED_CNT, fun s _ => min s.guard.affected.length 0x7FFF)]

/-- The lane is an Ethernet lane that is UP with RS-FEC (08 R210). -/
def State.laneFec (s : State) (n : Nat) : Bool :=
  s.lane n == 2 && s.rdAt LNE_LN_CTRL_PROTO n == 1 && decide (2 ≤ s.rdAt LNE_LN_CTRL_MODE n)

/-- The lane is UP with blocks that the far end sends and no row of the command table carries: Ethernet, raw PCS. -/
def State.laneBlocks (s : State) (n : Nat) : Bool :=
  s.lane n == 2 && (s.rdAt LNE_LN_CTRL_PROTO n == 1 || s.rdAt LNE_LN_CTRL_PROTO n == 4)

/-- A saturating count of what the far end sends (08 R211, R231): what it held, and, while it counts, a free number since. -/
def State.laneCount (s : State) (f : Field) (n : Nat) (counts : Bool) : Nat :=
  if counts then satN 32 (s.rdAt f n + s.free 32) else s.rdAt f n

/-- Fields that show what the world outside gives, a free value (log 39): a land the device does not drive, what a
receiver adapts to, lock and errors of the test pattern checker, codewords of a lane that runs RS-FEC, the count of the
steward's scrub passes. -/
def shownFree : List (Field × (State → Nat → Nat)) :=
  [(LNE_GPIO_IN, fun s p => s.landLevel p),
   (LNE_LN_EYE_EYE_MV, fun s n => if s.lane n = 2 then s.freeK 0 8 else 0),
   (LNE_LN_EYE_EYE_UI, fun s n => if s.lane n = 2 then s.freeK 1 8 else 0),
   (LNE_LN_PRBS_CHK_LOCK, fun s n => if s.isSetAt LNE_LN_PRBS_CHK_EN n then s.free 1 else 0),
   (LNE_LN_PRBS_ERR, fun s n => s.laneCount LNE_LN_PRBS_ERR n (s.isSetAt LNE_LN_PRBS_CHK_EN n)),
   (LNE_LN_SYNC_ERR, fun s n => s.laneCount LNE_LN_SYNC_ERR n (s.laneBlocks n)),
   (LNE_LN_FEC_CORR, fun s n => s.laneCount LNE_LN_FEC_CORR n (s.laneFec n)),
   (LNE_LN_FEC_UNCORR, fun s n => s.laneCount LNE_LN_FEC_UNCORR n (s.laneFec n)),
   (LNE_LN_RX_CTLE, fun s n =>
     if !s.isSetAt LNE_LN_RX_ADAPT n then s.rdAt LNE_LN_RX_CTLE n
     else if s.lane n == 2 then s.free 5
     else SMap.read s.lanes.adapted (s.rdAt LNE_LN_RX_CTLE n) n),
   (HLT_SCRUB_PASS_CNT, fun s _ => s.scrubPasses)]

/-- What a field shows elsewhere held, by the field's place. -/
def shownBy (rows : List (Field × (State → Nat → Nat))) (f : Field) : Option (State → Nat → Nat) :=
  match rows with
  | [] => none
  | e :: r => if e.1.addr = f.addr ∧ e.1.lo = f.lo then some e.2 else shownBy r f

/-- What a read shows of instance `i` of a field (00 R6). -/
def State.show (s : State) (f : Field) (i : Nat) : Nat :=
  match f.acc with
  | .wo => 0
  | _ =>
    match shownBy (shownA ++ shownB ++ shownC ++ shownFree) f with
    | some g => f.cut (g s i)
    | none => f.cut (s.rdAt f i)

/-- The whole register at `a`, 32 or 64 bits (reserved bits read 0, 00 R7). -/
def State.regValue (s : State) (a : Nat) : Nat := ((fieldsAt a).map fun x => s.show x.1 x.2 * 2 ^ x.1.lo).sum

/-- The register at `a` shows a free value, which a read takes. -/
def showsFree (a : Nat) : Bool := (fieldsAt a).any fun x => (shownBy shownFree x.1).isSome

/-! ### Reads -/

/-- Counts of what the far end sends, which keep the value that a read shows. -/
def grownFields : List Field := [LNE_LN_PRBS_ERR, LNE_LN_SYNC_ERR, LNE_LN_FEC_CORR, LNE_LN_FEC_UNCORR]

/-- The counts of the register at `a` keep what its read shows. -/
def State.keepShown (s : State) (a : Nat) : State :=
  ((fieldsAt a).filter fun x => grownFields.any fun f => f.addr == x.1.addr).foldl (fun (y : State) x =>
    y.wrAt x.1 x.2 (s.show x.1 x.2)) s

/-- What a read of a register does besides answering: CLR_TIME_NS and POS_TICK latch what goes with them (03 R67, R80), the
last word of MBX_MB_EVT removes the record (02 R49). -/
def State.readEffect (s : State) (a : Nat) : State :=
  if a = 0x100020 then stateOf (execTimeNsRead s) s
  else if 0x100110 ≤ a ∧ a < 0x100300 ∧ (a - 0x100110) % 64 = 0 then stateOf (execPosTickRead ((a - 0x100110) / 64) s) s
  else if a = 0x1016C then stateOf (execMbEvtRead s) s
  else if showsFree a then (s.keepShown a).tookN 2
  else s

/-- A word of a table. -/
def State.readWindow (s : State) (w : Window) (a : Nat) : State :=
  match w with
  | .msix => s.answer (s.msixWord ((a - 0x11000) / 4))
  | .pba => s.answer (s.mgmt.pba / 2 ^ (8 * (a - 0x11800)) % 2 ^ 32)
  | .dance => s.answer (s.danceEntry (danceBankOf a) (danceEntryOf a) / 2 ^ (8 * (a % 16)) % 2 ^ 32)
  | .flowTable => s.answer (SMap.read s.flows.table 0 ((a - 0xC00000) / 4))
  | .spad => stateOf (execSpadHostRead (a - 0x1000000) 4 .good s) s

/-- An aligned 32-bit read (00 R8; 02 R30). -/
def State.read32 (s : State) (a : Nat) : State :=
  match windowAt a with
  | some w => s.readWindow w a
  | none =>
    if !isDecoded a then (s.mbxErr MBX_ERR_UNMAPPED).answer 0
    else if isWide a then
      let v := s.regValue a
      ({ s.readEffect a with latches := SMap.put s.latches a (v / 2 ^ 32) }).answer (v % 2 ^ 32)
    else if isWide (a - 4) then
      match SMap.find s.latches (a - 4) with
      | some h => ({ s with latches := SMap.erase s.latches (a - 4) }).answer h
      | none => s.answer (s.regValue (a - 4) / 2 ^ 32)
    else (s.readEffect a).answer (s.regValue a)

/-- An aligned 64-bit read: a 64-bit register at one instant, else the two words (02 R29). -/
def State.read64 (s : State) (a : Nat) : State :=
  if windowAt a = some .spad then stateOf (execSpadHostRead (a - 0x1000000) 8 .good s) s
  else if isWide a then (s.readEffect a).answer (s.regValue a)
  else
    let lo := s.read32 a
    let hi := lo.read32 (a + 4)
    hi.answer (lo.reply.data + hi.reply.data * 2 ^ 32)

/-- The management plane answers: not in OFF and DEEP_SLEEP (16 R444). -/
def State.busUp (s : State) : Bool := s.mode != modeOff && s.mode != modeDeepSleep

/-- A host read of BAR0 (02 R29). -/
def State.hostReadBus (s : State) (a size : Nat) : State :=
  if !s.busUp then s
  else if size = 4 ∧ a % 4 = 0 then s.read32 a
  else if size = 8 ∧ a % 8 = 0 then s.read64 a
  else (s.mbxErr MBX_ERR_BAD_SIZE).answer 0

/-! ### Writes -/

/-- JTAG_EN may be written (19 R514). -/
def State.jtagEnWritable (s : State) : Bool := [lcsFactory, lcsBlank, lcsOwned, lcsReturn].contains s.lifeState

/-- The value `v` written to one field by its access code (00 R6). -/
def State.fieldWrite (s : State) (f : Field) (i v : Nat) : State :=
  match f.acc with
  | .rw => s.wrAt f i (clampNat f.vmin f.vmax v)
  | .rws => s.wrAt f i (clampNat f.vmin f.vmax v)
  | .w1c => s.wrAt f i (s.rdAt f i - (s.rdAt f i &&& v))
  | .w1s => s.wrAt f i (s.rdAt f i ||| v)
  | .rwl => if s.jtagEnWritable then s.wrAt f i v else s
  | .ro => s
  | .wo => s

/-- The register at `a` written field by field. -/
def State.plainWrite (s : State) (a v : Nat) : State :=
  (fieldsAt a).foldl (fun (x : State) e => x.fieldWrite e.1 e.2 (v / 2 ^ e.1.lo % 2 ^ e.1.width)) s

/-- CLR_CTRL written (03 R70, R73, R90). -/
def State.clrCtrlWrite (s : State) (v : Nat) : State :=
  let s1 := s.wr CLR_CTRL_STEP_EN (bitOf v 1)
  (if bitOf v 0 = 1 then stateOf (execReselect s1) s1 else s1).forceFreerun (bitOf v 2)

/-- MBX_CTRL written (02 R34, R41). -/
def State.mbxCtrlWrite (s : State) (v : Nat) : State :=
  let s1 := stateOf (execRingEnable v s) s
  if bitOf v 8 = 1 then s1.ringReset else s1

/-- MBX_ATOM_CTRL written (02 R62). -/
def State.atomCtrlWrite (s : State) (v : Nat) : State :=
  if v % 4 = 1 then s.hostAtomic true .good else if v % 4 = 2 then s.hostAtomic false .good else s

/-- MBX_MB_CTRL written (02 R48). -/
def State.mbCtrlWrite (s : State) (v : Nat) : State :=
  let s1 := if bitOf v 2 = 1 then s.wr MBX_MB_CTRL_CPL_VALID 0 else s
  if bitOf v 0 = 1 then stateOf (execMailboxGo s1) s1 else s1

/-- DNC_CTRL written (04 R94, R106). -/
def State.dncCtrlWrite (s : State) (v : Nat) : State :=
  let s1 := stateOf (execDncEnable v s) s
  if bitOf v 1 = 1 then stateOf (execDncCopy s1) s1 else s1

/-- A word of a comparator written (03 R85; 18 R485): the host writes those it owns. -/
def State.almWrite (s : State) (a v : Nat) : State :=
  let n := (a - 0x100400) / 32
  if (a - 0x100400) % 32 = 0 then stateOf (execAlarmArm n v s) s
  else if hostAlarm n then s.plainWrite a v
  else s.alarmRefuse n

/-- THM_LIMITS written (15 R428). -/
def State.limitsWrite (s : State) (v : Nat) : State :=
  let shed := clampNat 70 94 (bitsOf v 7 0)
  (s.wr THM_LIMITS_SHED_C shed).wr THM_LIMITS_WARN_C (clampNat shed 94 (bitsOf v 15 8))

/-- PWR_CTRL written: a level wake source that is enabled while it is active acts at once (16 R449). -/
def State.pwrCtrlWrite (s : State) (a v : Nat) : State :=
  let s1 := s.plainWrite a v
  match s1.levelWake s1.mode with
  | some c => s1.wakeArrives c
  | none => s1

/-- A register of a lane other than LNE_LN_CTRL and LNE_LN_PRBS (08 R206, R207, R209): TX_PRE above its range is stored as 15 (DESIGN
CHOICE, log 53), then TX_MAIN is reduced until the taps' sum is 63. -/
def State.laneRegWrite (s : State) (a v : Nat) : State :=
  let n := (a - 0x3C1000) / 64
  if !s.laneClaimed n || s.lane n == 5 then s.wr LNE_ERR_UNCLAIMED 1
  else
    let s0 := s.plainWrite a v
    let s1 := if 15 < s0.rdAt LNE_LN_TXEQ_TX_PRE n then s0.wrAt LNE_LN_TXEQ_TX_PRE n 15 else s0
    let taps := s1.rdAt LNE_LN_TXEQ_TX_PRE n + s1.rdAt LNE_LN_TXEQ_TX_POST n
    if 63 < taps + s1.rdAt LNE_LN_TXEQ_TX_MAIN n then s1.wrAt LNE_LN_TXEQ_TX_MAIN n (63 - taps) else s1

/-- A word of a lane written. -/
def State.laneWordWrite (s0 : State) (a v : Nat) : State :=
  let n := (a - 0x3C1000) / 64
  let s := s0.noteLane n
  if (a - 0x3C1000) % 64 = 0 then s.laneCtrlWrite n v
  else if (a - 0x3C1000) % 64 = 0x18 then s.lanePrbsWrite n v
  else s.laneRegWrite a v

/-- A word of a grid written: NUM, DEN and ALIGN are ignored while EN is 1 (03 R78). -/
def State.gridWordWrite (s : State) (a v : Nat) : State :=
  let g := (a - 0x100100) / 64
  let k := (a - 0x100100) % 64
  if k = 0 then s.gridCtrlWrite g v
  else if k ≤ 0xC && s.isSetAt CLR_GRID_CTRL_EN g then s
  else s.plainWrite a v

/-- A bond's word written (08 R216). -/
def State.bondWordWrite (s : State) (a v : Nat) : State :=
  if (a - 0x3C0800) % 32 = 0 then s.bondCtrlWrite ((a - 0x3C0800) / 32) v else s.plainWrite a v

/-- HLT_REGION written: UPSET_ACTION 0x3 is stored as 0x0 (14 R397). -/
def State.regionActionWrite (s : State) (a v : Nat) : State :=
  if bitsOf v 31 30 = 3 then s.plainWrite a (v % 2 ^ 30) else s.plainWrite a v

/-- Registers of GLB, MBX, CLR and DNC whose write does more than set fields; none = no such register. -/
def State.writeA (s : State) (a v : Nat) : Option State :=
  if a = 0x18 then some (stateOf (execGlbResetWrite v s) s)
  else if a = 0x10000 then some (s.mbxCtrlWrite v)
  else if a = 0x1001C then some (stateOf (execCmdDoorbell v s) s)
  else if a = 0x10030 then some (stateOf (execCplHeadWrite v s) s)
  else if a = 0x10040 then some (stateOf (execEvtHeadWrite v s) s)
  else if a = 0x10084 then some (s.atomCtrlWrite v)
  else if a = 0x10140 then some (s.mbCtrlWrite v)
  else if a = 0x100000 then some (s.clrCtrlWrite v)
  else if a = 0x100008 then some (s.refPrioWrite v)
  else if a = 0x100030 then some (s.wr CLR_SET_SEC v)
  else if a = 0x100038 then some (stateOf (execSetTime (v % 2 ^ 30) 0 s) s)
  else if a = 0x100074 then some (s.refaWrite v)
  else if 0x100100 ≤ a ∧ a < 0x100300 then some (s.gridWordWrite a v)
  else if 0x100300 ≤ a ∧ a < 0x100320 then some (stateOf (execPulseEnable ((a - 0x100300) / 4) v s) s)
  else if 0x100400 ≤ a ∧ a < 0x100800 then some (s.almWrite a v)
  else if a = 0x200000 then some (s.dncCtrlWrite v)
  else if a = 0x200010 then some (stateOf (execDncSwapArm v s) s)
  else none

/-- The other blocks' registers whose write does more than set fields. -/
def State.writeB (s : State) (a v : Nat) : Option State :=
  if 0x301000 ≤ a ∧ a < 0x301800 then
    some (if a % 8 = 0 then s.bufBaseWrite ((a - 0x301000) / 8) v else s.bufLenWrite ((a - 0x301000) / 8) v)
  else if 0x390000 ≤ a ∧ a < 0x394000 then some (stateOf (execPairRecordWrite a v s) s)
  else if 0x3C0800 ≤ a ∧ a < 0x3C0A00 then some (s.bondWordWrite a v)
  else if 0x3C1000 ≤ a ∧ a < 0x3C3000 then some (s.laneWordWrite a v)
  else if 0x3C3000 ≤ a ∧ a < 0x3C3300 then some (s.gpioWrite ((a - 0x3C3000) / 4) v)
  else if a = 0x440000 then some (stateOf (execCfgDiscardWrite v s) s)
  else if 0x500100 ≤ a ∧ a < 0x500200 then some (s.regionActionWrite a v)
  else if a = 0x540000 then some (if bitOf v 0 = 1 then stateOf (execClearSuspect s) s else s)
  else if a = 0x54000C then some (s.limitsWrite v)
  else if a = 0x580000 then some (s.pwrCtrlWrite a v)
  else none

/-- The register at `a`, 32 or 64 bits wide, given the value `v` in one store tick. -/
def State.regWrite (s : State) (a v : Nat) : State :=
  match s.writeA a v with
  | some t => t
  | none =>
    match s.writeB a v with
    | some t => t
    | none => s.plainWrite a v

/-- A word of the MSI-X table written (02 R54): a pending vector that is unmasked sends its message. -/
def State.msixWrite (s : State) (k v : Nat) : State :=
  let w := if k % 4 = 3 then v % 2 else if k % 4 = 0 then v / 4 * 4 else v
  let s1 := { s with mgmt := { s.mgmt with msixTable := SMap.store s.mgmt.msixTable 0 k (w ^^^ flag (k % 4 == 3)) } }
  if k % 4 = 3 ∧ w = 0 ∧ bitOf s.mgmt.pba (k / 4) = 1 then
    State.raise { s1 with mgmt := { s1.mgmt with pba := s1.mgmt.pba - 2 ^ (k / 4) } } (k / 4)
  else s1

/-- A word of a table written; the pending bits are read-only. -/
def State.writeWindow (s : State) (w : Window) (a v : Nat) : State :=
  match w with
  | .msix => s.msixWrite ((a - 0x11000) / 4) v
  | .pba => s
  | .dance =>
    if a % 16 = 12 then stateOf (execDncEntryCommit a 4 v s) s else stateOf (execDncEntryWordStage a v s) s
  | .flowTable => stateOf (execFlowTableWrite a v s) s
  | .spad => stateOf (execSpadHostWrite (a - 0x1000000) 4 v .good s) s

/-- The value that, written to the register at `a`, changes no field of it. -/
def State.keepValue (s : State) (a : Nat) : Nat :=
  ((fieldsAt a).map fun x =>
    match x.1.acc with
    | .rw => s.rdAt x.1 x.2 * 2 ^ x.1.lo
    | .rws => s.rdAt x.1 x.2 * 2 ^ x.1.lo
    | .rwl => s.rdAt x.1 x.2 * 2 ^ x.1.lo
    | .wo => s.rdAt x.1 x.2 * 2 ^ x.1.lo
    | .w1c => 0
    | .w1s => 0
    | .ro => 0).sum

/-- An aligned 32-bit write (00 R8; 02 R30). -/
def State.write32 (s : State) (a v : Nat) : State :=
  match windowAt a with
  | some w => s.writeWindow w a v
  | none =>
    if !isDecoded a then s.mbxErr MBX_ERR_UNMAPPED
    else if isWide a then { s with holds := SMap.put s.holds a v }
    else if isWide (a - 4) then
      let low := (SMap.find s.holds (a - 4)).getD (s.keepValue (a - 4) % 2 ^ 32)
      State.regWrite { s with holds := SMap.erase s.holds (a - 4) } (a - 4) (low + v * 2 ^ 32)
    else s.regWrite a v

/-- An aligned 64-bit write: a 64-bit register at one instant, a word of the scratchpad, the commit of a dance card entry (04
R92), else the two words (02 R29). -/
def State.write64 (s : State) (a v : Nat) : State :=
  match windowAt a with
  | some .spad => stateOf (execSpadHostWrite (a - 0x1000000) 8 v .good s) s
  | some .dance =>
    if a % 16 = 8 then stateOf (execDncEntryCommit a 8 v s) s
    else (s.write32 a (v % 2 ^ 32)).write32 (a + 4) (v / 2 ^ 32)
  | _ =>
    if isWide a then s.regWrite a v else (s.write32 a (v % 2 ^ 32)).write32 (a + 4) (v / 2 ^ 32)

/-- A host write to BAR0 (02 R29). -/
def State.hostWriteBus (s : State) (a size v : Nat) : State :=
  if !s.busUp then s
  else if size = 4 ∧ a % 4 = 0 then s.write32 a (v % 2 ^ 32)
  else if size = 8 ∧ a % 8 = 0 then s.write64 a (v % 2 ^ 64)
  else s.mbxErr MBX_ERR_BAD_SIZE

end Sys2Proof.Machine
end

