-- ==== Sys2Proof/Machine/HostBus.lean ====
section
/-! DEFINITION. The host's accesses: registers, 64-bit registers by halves, the flash window, SPI frames, SMBus reads, the
debug access of JTAG (00 R8; 02 R29 to R32, R50 to R53; 19 R513). -/

namespace Sys2Proof.Machine

open Sys2Proof

/-! ### Registers -/

/-- REGISTER_WRITE (00 R6; 02 R29, R30). -/
def execRegisterWrite (addr size data : Nat) (s : State) : Result := .next (s.hostWriteBus addr size data)

/-- REG64_LOW_READ: a 32-bit read of the low word, or a 64-bit read of the whole register at one instant, by the size of the request
(00 R8; 02 R29). -/
def execReg64LowRead (addr size : Nat) (s : State) : Result := .next (s.hostReadBus addr size)

/-- REG64_HIGH_READ: a 32-bit read of the high word, which lies at `addr` (00 R8). -/
def execReg64HighRead (addr : Nat) (s : State) : Result := .next (s.hostReadBus addr 4)

/-- REG64_LOW_WRITE: a 32-bit write of the low word (00 R8). -/
def execReg64LowWrite (addr data : Nat) (s : State) : Result := .next (s.hostWriteBus addr 4 data)

/-- REG64_HIGH_WRITE: a 32-bit write of the high word, which lies at `addr` (00 R8). -/
def execReg64HighWrite (addr data : Nat) (s : State) : Result := .next (s.hostWriteBus addr 4 data)

/-! ### BAR2 (02 R32; 13 R356 to R359, R370) -/

/-- The 18 bytes of a code word in BAR2 order, or none where it is delivered poisoned; golden ranges read as zero in SEALED and
LOCKED. -/
def State.bar2Word (s : State) (b n w : Nat) (found : FlashRead) : Option (List Nat) × State :=
  if 1008 ≤ n ∧ (s.lifeState = lcsSealed ∨ s.lifeState = lcsLocked) then (some (bytesOf 18 0), s)
  else
    let r := s.flashSense b n w found
    (r.1.map (bytesOf 18), r.2)

/-- `k` code words from number `w` on, as far as none is poisoned. -/
def State.bar2Words (s : State) (w k : Nat) (found : List FlashRead) : Option (List Nat) × State :=
  match k with
  | 0 => (some [], s)
  | j + 1 =>
    let r := s.bar2Word (w / 6291456) (w / 4096 % 1536) (w % 4096) (found.headD .good)
    match r.1 with
    | none => (none, r.2)
    | some bs =>
      let q := State.bar2Words r.2 (w + 1) j (found.drop 1)
      (q.1.map (bs ++ ·), q.2)

/-- A read of a bank that programs or erases (13 R370). -/
def State.busyRead (s : State) (b : Nat) : State :=
  { ((s.wr FLC_ERR_BUSY_READ 1).incSat FLC_BUSY_READ_CNT).postLimited 0x8004 0 (0x800 + b) 2 fun _ => b with
    reply := { abort := true } }

/-- The bytes of a read of a bank that serves it. -/
def State.bar2Answer (s : State) (offset length : Nat) (found : List FlashRead) : State :=
  let w := offset / 18
  let r := s.bar2Words w ((offset + length + 17) / 18 - w) found
  match r.1 with
  | some bs => r.2.answerBytes ((bs.drop (offset % 18)).take length)
  | none => { r.2 with reply := { abort := true } }

/-- The operation of a bank that started in this tick: a read of the tick is served first (13 R370, R385). -/
def State.startingOp (s : State) (b : Nat) : Option FlashOp :=
  if s.flashRuns b then (s.flashOp b).filter fun x => x.startedAt == s.now else none

/-- BAR2_READ; `found` is what the read of each code word finds, the first one first. PCIe alone reaches BAR2, and an endpoint in
reset answers nothing (02 R28). -/
def execBar2Read (offset length : Nat) (found : List FlashRead) (s : State) : Result :=
  .next (
    if !s.busUp || !s.mgmt.perstN then s
    else if 905969664 ≤ offset then (s.mbxErr MBX_ERR_UNMAPPED).answerBytes (List.replicate length 0)
    else
      let b := offset / 113246208
      match s.startingOp b with
      | some x =>
        let t := (s.unmarkSector b x).bar2Answer offset length found
        t.markSector b x
      | none => if s.flashRuns b then s.busyRead b else s.bar2Answer offset length found)

/-! ### SPI (02 R50, R51) -/

/-- `n` whole words from `a` on: what the host clocks in, after each word's token; an access that ends in error ends the frame. -/
def State.spiWords (s : State) (a n : Nat) : List Nat × State :=
  match n with
  | 0 => ([], s)
  | k + 1 =>
    let t := s.hostReadBus a 4
    if t.reply.abort then ([0xE1], t)
    else
      let q := State.spiWords t (a + 4) k
      (0xA5 :: bytesOf 4 t.reply.data ++ q.1, q.2)

/-- SPI_READ: frame 0x0B. A last word that is not shifted out whole has no effect (R51). -/
def execSpiRead (addr words : Nat) (lastWhole : Bool) (s : State) : Result :=
  .next (
    if !s.busUp then s
    else
      let r := s.spiWords addr (if lastWhole then words else words - 1)
      r.2.answerBytes r.1)

/-- Groups of four bytes written at consecutive addresses. -/
def State.spiGroups (s : State) (a : Nat) (gs : List Nat) : State :=
  match gs with
  | [] => s
  | g :: r => State.spiGroups (s.hostWriteBus a 4 g) (a + 4) r

/-- SPI_WRITE: frame 0x02; `groups` are the whole groups. -/
def execSpiWrite (addr : Nat) (groups : List Nat) (s : State) : Result := .next (s.spiGroups addr groups)

/-- SPI_STATUS: frame 0x05. Writes take effect at once, so WRITE_PENDING is 0; FRAME_ERR shows MBX_ERR.SPI_FRAME_ERR (DEDUCED,
log 40). -/
def execSpiStatus (s : State) : Result :=
  .next (if s.busUp then s.answerBytes [2 * s.rd MBX_ERR_SPI_FRAME_ERR + 4 * flag s.stewardReady] else s)

/-- SPI_FRAME_ERROR. -/
def execSpiFrameError (command : Nat) (s : State) : Result :=
  .next (if s.busUp then (s.mbxErr MBX_ERR_SPI_FRAME_ERR).post 0xD008 0xD00 2 (command % 256) else s)

/-! ### SMBus (02 R52, R53) -/

/-- A word as SMBus sends it; larger figures show the largest word. -/
def smbusWord (v : Nat) : List Nat := bytesOf 2 (min v 0xFFFF)

/-- Content of a code, and whether DEEP_SLEEP gives it fresh; none = no such code. Code 0x20 is the higher of T_POL and the
L2 inference (15 R424). The layout of the identity block is the
model's (DESIGN CHOICE, log 41): the ID code in its first four bytes, grade, revision, and two bytes that stay open. -/
def State.smbusCode (s : State) (code : Nat) : Option (Bool × List Nat) :=
  match code with
  | 0x01 => some (true, bytesOf 4 (s.rd GLB_IDCODE) ++ [s.rd GLB_ID_GRADE, s.rd GLB_ID_REV, s.freeK 0 8, s.freeK 1 8])
  | 0x10 => some (true, smbusWord (s.rd THM_VIN_MV))
  | 0x11 => some (true, smbusWord (s.rd THM_IIN_MA))
  | 0x12 => some (true, smbusWord (s.rd THM_PIN_MW / 100))
  | 0x20 => some (false, smbusWord (ofInt 16 (max (toSigned 16 (s.rd THM_TPOL)) (toSigned 16 (s.rd THM_L2_L2_INF)))))
  | 0x21 => some (false, smbusWord (s.rd THM_COOLANT_INLET))
  | 0x22 => some (false, smbusWord (s.rd THM_COOLANT_OUTLET))
  | 0x23 => some (false, smbusWord (s.rd THM_FLOW_FLOW_ML))
  | 0x30 => some (true, [s.mode])
  | 0x40 => some (false, [s.rd THM_ALERT])
  | _ => none

/-- The content as the mode gives it: 0x8000 for one that is not available in DEEP_SLEEP. -/
def State.smbusShown (s : State) (x : Bool × List Nat) : List Nat :=
  if s.mode = modeDeepSleep ∧ !x.1 then [0x00, 0x80] else x.2

/-- SMB_ALERT_N released by a read of code 0x40 (R53). -/
def State.smbusRelease (s : State) : State := { s with mgmt := { s.mgmt with smbAlertN := true } }

/-- The alert response address of SMBus (PRESUMED, log 118). -/
def alertResponseAddress : Nat := 0x0C

/-- SMBUS_READ at a 7-bit address; another address than the target's, and a code the target does not have, are not acknowledged.
While SMB_ALERT_N is low the target answers the alert response address with its own (R52). -/
def execSmbusRead (target code : Nat) (s : State) : Result :=
  .next (
    if s.mode = modeOff then s
    else if target = alertResponseAddress ∧ s.mgmt.smbAlertN = false then s.answerBytes [2 * s.rd MBX_SMB_ADDR]
    else if target ≠ s.rd MBX_SMB_ADDR then { s with reply := { abort := true } }
    else
      match s.smbusCode code with
      | none => { s with reply := { abort := true } }
      | some x =>
        let t := if code = 0x40 ∧ s.mode ≠ modeDeepSleep then s.smbusRelease else if code = 0x01 then s.tookN 2 else s
        t.answerBytes (s.smbusShown x))

/-- SMBUS_ALERT_READ: code 0x40. In DEEP_SLEEP it answers 0x8000 (R52) and leaves SMB_ALERT_N as it is (DESIGN CHOICE, log 119). -/
def execSmbusAlertRead (s : State) : Result :=
  .next (
    if s.mode = modeOff then s
    else if s.mode = modeDeepSleep then s.answerBytes [0x00, 0x80]
    else s.smbusRelease.answerBytes [s.rd THM_ALERT])

/-! ### JTAG (19 R513) -/

/-- DBG_ACCESS: a 32-bit access as the host makes it. -/
def execDbgAccess (write : Bool) (offset data : Nat) (s : State) : Result :=
  .next (s.debug false fun x =>
    let a := offset % 2 ^ 26
    if write then
      let t := x.hostWriteBus a 4 data
      { t with life := { t.life with dbgDone := true } }
    else
      let t := x.hostReadBus a 4
      { t with life := { t.life with dbgDone := true, dbgData := t.reply.data } })

end Sys2Proof.Machine
end

