-- ==== Sys2Proof/Machine/Clock.lean ====
section
/-! DEFINITION. The store tick: what happens when no command waits (log 42). -/

namespace Sys2Proof.Machine

open Sys2Proof

/-- CLR_MONO and TAI time count one store tick of 1 ns, and a phase change that waits is taken (03 R65, R66, R68). -/
def State.count (s : State) : State :=
  State.setTai { s with caller := { s.caller with
      mono := s.caller.mono + 1, shift := 0, dueFrom := max s.caller.dueFrom (s.tai + 1) } }
    ((s.tai : Int) + 1 + s.caller.shift).toNat

/-- One store tick (00 R10): time counts, every bank and channel serves one access that waits (05 R120), keepers hold what they see (08
R231), an active level source wakes the device (16 R449). In OFF nothing happens. -/
def State.tick (s : State) : State := if s.mode = modeOff then s else ((s.count.serveUnits).keepLevels).wakeLevels

end Sys2Proof.Machine
end

