-- ==== Sys2Proof/Machine/Dispatch.lean ====
section
/-! DEFINITION. The dispatch of commands: one arm per constructor, each one call of its meaning. -/

namespace Sys2Proof.Machine

open Sys2Proof

/-- What a command does to everything but the queue. -/
def exec (i : Instr) (s : State) : Host.Outcome State Fault Refusal :=
  match i with
  | .registerWrite addr size data => Sys2Proof.Machine.execRegisterWrite addr size data s
  | .reg64LowRead addr size => Sys2Proof.Machine.execReg64LowRead addr size s
  | .reg64HighRead addr => Sys2Proof.Machine.execReg64HighRead addr s
  | .reg64LowWrite addr data => Sys2Proof.Machine.execReg64LowWrite addr data s
  | .reg64HighWrite addr data => Sys2Proof.Machine.execReg64HighWrite addr data s
  | .bar2Read offset length found => Sys2Proof.Machine.execBar2Read offset length found s
  | .cmdDoorbell tail => Sys2Proof.Machine.execCmdDoorbell tail s
  | .cplHeadWrite head => Sys2Proof.Machine.execCplHeadWrite head s
  | .evtHeadWrite head => Sys2Proof.Machine.execEvtHeadWrite head s
  | .ringEnable value => Sys2Proof.Machine.execRingEnable value s
  | .ringReset value => Sys2Proof.Machine.execRingReset value s
  | .commandFetch => Sys2Proof.Machine.execCommandFetch s
  | .commandDispatch => Sys2Proof.Machine.execCommandDispatch s
  | .commandTimeout id => Sys2Proof.Machine.execCommandTimeout id s
  | .completionWrite => Sys2Proof.Machine.execCompletionWrite s
  | .hostDmaFault kind => Sys2Proof.Machine.execHostDmaFault kind s
  | .commandDataDmaError id offset => Sys2Proof.Machine.execCommandDataDmaError id offset s
  | .eventRingWrite => Sys2Proof.Machine.execEventRingWrite s
  | .irqHoldoffExpiry vector => Sys2Proof.Machine.execIrqHoldoffExpiry vector s
  | .designIrqSet n => Sys2Proof.Machine.execDesignIrqSet n s
  | .pcieLinkChange up widthRate => Sys2Proof.Machine.execPcieLinkChange up widthRate s
  | .perstAssert => Sys2Proof.Machine.execPerstAssert s
  | .nop id => Sys2Proof.Machine.execNop id s
  | .logRead id found => Sys2Proof.Machine.execLogRead id found s
  | .stewardInfo id => Sys2Proof.Machine.execStewardInfo id s
  | .mailboxGo => Sys2Proof.Machine.execMailboxGo s
  | .mbEvtRead => Sys2Proof.Machine.execMbEvtRead s
  | .spiRead addr words lastWhole => Sys2Proof.Machine.execSpiRead addr words lastWhole s
  | .spiWrite addr groups => Sys2Proof.Machine.execSpiWrite addr groups s
  | .spiStatus => Sys2Proof.Machine.execSpiStatus s
  | .spiFrameError command => Sys2Proof.Machine.execSpiFrameError command s
  | .smbusRead target code => Sys2Proof.Machine.execSmbusRead target code s
  | .smbusAlertRead => Sys2Proof.Machine.execSmbusAlertRead s
  | .stewardWatchdogExpiry => Sys2Proof.Machine.execStewardWatchdogExpiry s
  | .stewardLockstepMismatch => Sys2Proof.Machine.execStewardLockstepMismatch s
  | .stewardPoisonedFetch => Sys2Proof.Machine.execStewardPoisonedFetch s
  | .stewardRestartDone => Sys2Proof.Machine.execStewardRestartDone s
  | .spadHostRead offset size found => Sys2Proof.Machine.execSpadHostRead offset size found s
  | .spadReadAbandon word => Sys2Proof.Machine.execSpadReadAbandon word s
  | .spadHostWrite offset size data found => Sys2Proof.Machine.execSpadHostWrite offset size data found s
  | .spadFabricAccess word access found => Sys2Proof.Machine.execSpadFabricAccess word access found s
  | .atomicAdd found => Sys2Proof.Machine.execAtomicAdd found s
  | .atomicSwap found => Sys2Proof.Machine.execAtomicSwap found s
  | .refclkLoss => Sys2Proof.Machine.execRefclkLoss s
  | .refclkReturn => Sys2Proof.Machine.execRefclkReturn s
  | .ptpMessage port message => Sys2Proof.Machine.execPtpMessage port message s
  | .announceTimeout port => Sys2Proof.Machine.execAnnounceTimeout port s
  | .refaEdge falling => Sys2Proof.Machine.execRefaEdge falling s
  | .refbEdge falling => Sys2Proof.Machine.execRefbEdge falling s
  | .hokutuTimeMessage bond lane frame alignErr => Sys2Proof.Machine.execHokutuTimeMessage bond lane frame alignErr s
  | .referenceLost slot => Sys2Proof.Machine.execReferenceLost slot s
  | .referenceValid slot => Sys2Proof.Machine.execReferenceValid slot s
  | .servoUpdate => Sys2Proof.Machine.execServoUpdate s
  | .holdoverExpiry => Sys2Proof.Machine.execHoldoverExpiry s
  | .reselect => Sys2Proof.Machine.execReselect s
  | .forceFreerun value => Sys2Proof.Machine.execForceFreerun value s
  | .setTime ns delay => Sys2Proof.Machine.execSetTime ns delay s
  | .timeNsRead => Sys2Proof.Machine.execTimeNsRead s
  | .posTickRead grid => Sys2Proof.Machine.execPosTickRead grid s
  | .gridEnable grid value => Sys2Proof.Machine.execGridEnable grid value s
  | .gridDisable grid value => Sys2Proof.Machine.execGridDisable grid value s
  | .pulseEnable output value => Sys2Proof.Machine.execPulseEnable output value s
  | .pulseOutputPulse output => Sys2Proof.Machine.execPulseOutputPulse output s
  | .alarmArm comparator value => Sys2Proof.Machine.execAlarmArm comparator value s
  | .alarmFire comparator => Sys2Proof.Machine.execAlarmFire comparator s
  | .timeMessageSend => Sys2Proof.Machine.execTimeMessageSend s
  | .dncEntryWordStage addr data => Sys2Proof.Machine.execDncEntryWordStage addr data s
  | .dncEntryCommit addr size data => Sys2Proof.Machine.execDncEntryCommit addr size data s
  | .dncCopy => Sys2Proof.Machine.execDncCopy s
  | .dncCopyDone => Sys2Proof.Machine.execDncCopyDone s
  | .dncEnable value => Sys2Proof.Machine.execDncEnable value s
  | .dncSwapArm value => Sys2Proof.Machine.execDncSwapArm value s
  | .dncSwapCheckDone => Sys2Proof.Machine.execDncSwapCheckDone s
  | .dncSwapCancel => Sys2Proof.Machine.execDncSwapCancel s
  | .dncBankSwap => Sys2Proof.Machine.execDncBankSwap s
  | .dncEntryDue => Sys2Proof.Machine.execDncEntryDue s
  | .dncTurn => Sys2Proof.Machine.execDncTurn s
  | .dncPark => Sys2Proof.Machine.execDncPark s
  | .dncUnpark => Sys2Proof.Machine.execDncUnpark s
  | .dncCapture => Sys2Proof.Machine.execDncCapture s
  | .dncWindow => Sys2Proof.Machine.execDncWindow s
  | .dncDeadline => Sys2Proof.Machine.execDncDeadline s
  | .dncRelease => Sys2Proof.Machine.execDncRelease s
  | .dncGpioSet => Sys2Proof.Machine.execDncGpioSet s
  | .dncGpioClear => Sys2Proof.Machine.execDncGpioClear s
  | .dncGpioPulse => Sys2Proof.Machine.execDncGpioPulse s
  | .gpioPulseEnd land => Sys2Proof.Machine.execGpioPulseEnd land s
  | .dncEvent => Sys2Proof.Machine.execDncEvent s
  | .dncAlarm => Sys2Proof.Machine.execDncAlarm s
  | .dncFence => Sys2Proof.Machine.execDncFence s
  | .dncLogWrite => Sys2Proof.Machine.execDncLogWrite s
  | .storeWrite requester number addr data poison => Sys2Proof.Machine.execStoreWrite requester number addr data poison s
  | .storeRead requester number addr found => Sys2Proof.Machine.execStoreRead requester number addr found s
  | .storeCorrectedWriteback => Sys2Proof.Machine.execStoreCorrectedWriteback s
  | .patrolRead far found => Sys2Proof.Machine.execPatrolRead far found s
  | .bufferDefine buffer value => Sys2Proof.Machine.execBufferDefine buffer value s
  | .bufferEffective buffer found => Sys2Proof.Machine.execBufferEffective buffer found s
  | .bufferRemove buffer value => Sys2Proof.Machine.execBufferRemove buffer value s
  | .storeInitDone far => Sys2Proof.Machine.execStoreInitDone far s
  | .relocationDone far unit found => Sys2Proof.Machine.execRelocationDone far unit found s
  | .admitFlow id => Sys2Proof.Machine.execAdmitFlow id s
  | .admissionCheckDone => Sys2Proof.Machine.execAdmissionCheckDone s
  | .withdraw id => Sys2Proof.Machine.execWithdraw id s
  | .withdrawDone flow => Sys2Proof.Machine.execWithdrawDone flow s
  | .contractQuery id => Sys2Proof.Machine.execContractQuery id s
  | .ticketCreate flow words => Sys2Proof.Machine.execTicketCreate flow words s
  | .ticketDelivered ticket => Sys2Proof.Machine.execTicketDelivered ticket s
  | .ticketDeadline ticket => Sys2Proof.Machine.execTicketDeadline ticket s
  | .recheckDone => Sys2Proof.Machine.execRecheckDone s
  | .flowTableWrite addr data => Sys2Proof.Machine.execFlowTableWrite addr data s
  | .pairRecordWrite addr data => Sys2Proof.Machine.execPairRecordWrite addr data s
  | .flowEnable id => Sys2Proof.Machine.execFlowEnable id s
  | .flowDisable id => Sys2Proof.Machine.execFlowDisable id s
  | .flowDisableDone flow => Sys2Proof.Machine.execFlowDisableDone flow s
  | .flowStats id => Sys2Proof.Machine.execFlowStats id s
  | .inject id => Sys2Proof.Machine.execInject id s
  | .injectFrameSend lane => Sys2Proof.Machine.execInjectFrameSend lane s
  | .injectTokenRefill => Sys2Proof.Machine.execInjectTokenRefill s
  | .ingressFrame lane frame => Sys2Proof.Machine.execIngressFrame lane frame s
  | .mergeSkewExpiry record => Sys2Proof.Machine.execMergeSkewExpiry record s
  | .pathLossTimeout record pathB => Sys2Proof.Machine.execPathLossTimeout record pathB s
  | .sdiLine flow line => Sys2Proof.Machine.execSdiLine flow line s
  | .substituteTicketCreate flow => Sys2Proof.Machine.execSubstituteTicketCreate flow s
  | .egressPacketSend flow found => Sys2Proof.Machine.execEgressPacketSend flow found s
  | .egressSdiLine flow found => Sys2Proof.Machine.execEgressSdiLine flow found s
  | .laneCtrlWrite lane value => Sys2Proof.Machine.execLaneCtrlWrite lane value s
  | .lanePrbsWrite lane value => Sys2Proof.Machine.execLanePrbsWrite lane value s
  | .quadPllLockChange quad pll lock => Sys2Proof.Machine.execQuadPllLockChange quad pll lock s
  | .laneUp lane sdiRate sdiFrac => Sys2Proof.Machine.execLaneUp lane sdiRate sdiFrac s
  | .laneLinkDown lane remote => Sys2Proof.Machine.execLaneLinkDown lane remote s
  | .laneFault lane trigger => Sys2Proof.Machine.execLaneFault lane trigger s
  | .laneTestDone lane pass => Sys2Proof.Machine.execLaneTestDone lane pass s
  | .bondEnable bond value => Sys2Proof.Machine.execBondEnable bond value s
  | .hokutuTrainReq bond position blocks turnaround => Sys2Proof.Machine.execHokutuTrainReq bond position blocks turnaround s
  | .hokutuTrainAck bond position blocks fixedDelay => Sys2Proof.Machine.execHokutuTrainAck bond position blocks fixedDelay s
  | .bondTrainingDone bond farMatches => Sys2Proof.Machine.execBondTrainingDone bond farMatches s
  | .bondRetrain bond => Sys2Proof.Machine.execBondRetrain bond s
  | .hokutuTicketReceive bond arrived => Sys2Proof.Machine.execHokutuTicketReceive bond arrived s
  | .bondSpareSwitch bond => Sys2Proof.Machine.execBondSpareSwitch bond s
  | .rawPcsReceive lane word => Sys2Proof.Machine.execRawPcsReceive lane word s
  | .gpioWrite land value => Sys2Proof.Machine.execGpioWrite land value s
  | .viobFault bank millivolts => Sys2Proof.Machine.execViobFault bank millivolts s
  | .viobRestore bank millivolts => Sys2Proof.Machine.execViobRestore bank millivolts s
  | .bypass => Sys2Proof.Machine.execBypass s
  | .idcode => Sys2Proof.Machine.execIdcode s
  | .samplePreload cells => Sys2Proof.Machine.execSamplePreload cells s
  | .extest => Sys2Proof.Machine.execExtest s
  | .extestPulse => Sys2Proof.Machine.execExtestPulse s
  | .extestTrain => Sys2Proof.Machine.execExtestTrain s
  | .clamp => Sys2Proof.Machine.execClamp s
  | .highz => Sys2Proof.Machine.execHighz s
  | .jtagTrst => Sys2Proof.Machine.execJtagTrst s
  | .fpllLock pll => Sys2Proof.Machine.execFpllLock pll s
  | .fpllRefLost pll => Sys2Proof.Machine.execFpllRefLost pll s
  | .fpllRealignDone pll => Sys2Proof.Machine.execFpllRealignDone pll s
  | .expressConflict column row tap => Sys2Proof.Machine.execExpressConflict column row tap s
  | .gsrRelease region => Sys2Proof.Machine.execGsrRelease region s
  | .tileMemoryAccess region tile a b sameCycle bLater foundA foundB => Sys2Proof.Machine.execTileMemoryAccess region tile a b sameCycle bLater foundA foundB s
  | .tileEccWriteback region tile portB => Sys2Proof.Machine.execTileEccWriteback region tile portB s
  | .mixSliceEdge column slice input => Sys2Proof.Machine.execMixSliceEdge column slice input s
  | .packFifoWrite port data wend wbytes => Sys2Proof.Machine.execPackFifoWrite port data wend wbytes s
  | .packFifoReaderTake port => Sys2Proof.Machine.execPackFifoReaderTake port s
  | .packFifoNotice port => Sys2Proof.Machine.execPackFifoNotice port s
  | .deliveryPortPlace port ticket found => Sys2Proof.Machine.execDeliveryPortPlace port ticket found s
  | .deliveryPortRead port => Sys2Proof.Machine.execDeliveryPortRead port s
  | .bufferReadRequest port offset words => Sys2Proof.Machine.execBufferReadRequest port offset words s
  | .streamStage id => Sys2Proof.Machine.execStreamStage id s
  | .streamLoad id => Sys2Proof.Machine.execStreamLoad id s
  | .streamDiscard id => Sys2Proof.Machine.execStreamDiscard id s
  | .cfgDiscardWrite value => Sys2Proof.Machine.execCfgDiscardWrite value s
  | .loadChecksDone found => Sys2Proof.Machine.execLoadChecksDone found s
  | .fullLoadCommit found => Sys2Proof.Machine.execFullLoadCommit found s
  | .backgroundLoadCommit found => Sys2Proof.Machine.execBackgroundLoadCommit found s
  | .ctxTurn id => Sys2Proof.Machine.execCtxTurn id s
  | .ctxPark id => Sys2Proof.Machine.execCtxPark id s
  | .ctxUnpark id => Sys2Proof.Machine.execCtxUnpark id s
  | .ctxCapture id => Sys2Proof.Machine.execCtxCapture id s
  | .ctxResume id => Sys2Proof.Machine.execCtxResume id s
  | .ctxReadback id => Sys2Proof.Machine.execCtxReadback id s
  | .ctxGoldenSave id => Sys2Proof.Machine.execCtxGoldenSave id s
  | .goldenSaveDone ok => Sys2Proof.Machine.execGoldenSaveDone ok s
  | .turnEffect region => Sys2Proof.Machine.execTurnEffect region s
  | .turnNoClock region => Sys2Proof.Machine.execTurnNoClock region s
  | .parkEffect region => Sys2Proof.Machine.execParkEffect region s
  | .parkForced region => Sys2Proof.Machine.execParkForced region s
  | .unparkRelease region => Sys2Proof.Machine.execUnparkRelease region s
  | .captureTaken => Sys2Proof.Machine.execCaptureTaken s
  | .flashErase id => Sys2Proof.Machine.execFlashErase id s
  | .flashEraseDone bank verified => Sys2Proof.Machine.execFlashEraseDone bank verified s
  | .flashProgram id => Sys2Proof.Machine.execFlashProgram id s
  | .flashProgramDone bank failedWord => Sys2Proof.Machine.execFlashProgramDone bank failedWord s
  | .flashSuspend id => Sys2Proof.Machine.execFlashSuspend id s
  | .flashResume id => Sys2Proof.Machine.execFlashResume id s
  | .flashSectorInfo id => Sys2Proof.Machine.execFlashSectorInfo id s
  | .flashCalRead id => Sys2Proof.Machine.execFlashCalRead id s
  | .flashBootSwap id found => Sys2Proof.Machine.execFlashBootSwap id found s
  | .stewardOffBank => Sys2Proof.Machine.execStewardOffBank s
  | .recordSectorEraseDone sector => Sys2Proof.Machine.execRecordSectorEraseDone sector s
  | .frameUpsetDetect context physical frame found => Sys2Proof.Machine.execFrameUpsetDetect context physical frame found s
  | .frameSelfTestDone context physical frame found => Sys2Proof.Machine.execFrameSelfTestDone context physical frame found s
  | .columnRelocationDone region found => Sys2Proof.Machine.execColumnRelocationDone region found s
  | .guardTmrCorrect physical => Sys2Proof.Machine.execGuardTmrCorrect physical s
  | .guardFailed physical inactiveLimit => Sys2Proof.Machine.execGuardFailed physical inactiveLimit s
  | .stewardScrubMismatch context physical frame found => Sys2Proof.Machine.execStewardScrubMismatch context physical frame found s
  | .riserTransferError interface group => Sys2Proof.Machine.execRiserTransferError interface group s
  | .expressTapMismatch group => Sys2Proof.Machine.execExpressTapMismatch group s
  | .riserTestDone interface group failedSignal => Sys2Proof.Machine.execRiserTestDone interface group failedSignal s
  | .storeBankTestDone bank pass => Sys2Proof.Machine.execStoreBankTestDone bank pass s
  | .farChannelTestDone channel pass => Sys2Proof.Machine.execFarChannelTestDone channel pass s
  | .hltAffectedFlows id => Sys2Proof.Machine.execHltAffectedFlows id s
  | .hltRecords id => Sys2Proof.Machine.execHltRecords id s
  | .hltTest id => Sys2Proof.Machine.execHltTest id s
  | .vinMeasurement millivolts milliamps milliwatts => Sys2Proof.Machine.execVinMeasurement millivolts milliamps milliwatts s
  | .vinLockout => Sys2Proof.Machine.execVinLockout s
  | .vinPowerUp millivolts => Sys2Proof.Machine.execVinPowerUp millivolts s
  | .currentLimit holding => Sys2Proof.Machine.execCurrentLimit holding s
  | .budgetUpdate => Sys2Proof.Machine.execBudgetUpdate s
  | .powerSample rails regions => Sys2Proof.Machine.execPowerSample rails regions s
  | .droopSample rail droops => Sys2Proof.Machine.execDroopSample rail droops s
  | .flowSample millilitres => Sys2Proof.Machine.execFlowSample millilitres s
  | .tempSample readings => Sys2Proof.Machine.execTempSample readings s
  | .clearSuspect => Sys2Proof.Machine.execClearSuspect s
  | .policyEvaluate => Sys2Proof.Machine.execPolicyEvaluate s
  | .glbResetWrite value => Sys2Proof.Machine.execGlbResetWrite value s
  | .coldReset => Sys2Proof.Machine.execColdReset s
  | .warmReset => Sys2Proof.Machine.execWarmReset s
  | .railsGood => Sys2Proof.Machine.execRailsGood s
  | .stewardBootDone found => Sys2Proof.Machine.execStewardBootDone found s
  | .contextRestoreDone found => Sys2Proof.Machine.execContextRestoreDone found s
  | .bootTagVerified found => Sys2Proof.Machine.execBootTagVerified found s
  | .bootDone => Sys2Proof.Machine.execBootDone s
  | .pwrEnter id => Sys2Proof.Machine.execPwrEnter id s
  | .pwrQuiesceDone => Sys2Proof.Machine.execPwrQuiesceDone s
  | .pwrCommit => Sys2Proof.Machine.execPwrCommit s
  | .pwrExit id => Sys2Proof.Machine.execPwrExit id s
  | .serviceEnter id => Sys2Proof.Machine.execServiceEnter id s
  | .wakeInput level => Sys2Proof.Machine.execWakeInput level s
  | .wakeDone => Sys2Proof.Machine.execWakeDone s
  | .firstAccessWake far stallNs => Sys2Proof.Machine.execFirstAccessWake far stallNs s
  | .farStoreIdleTimeout => Sys2Proof.Machine.execFarStoreIdleTimeout s
  | .promReqInput low => Sys2Proof.Machine.execPromReqInput low s
  | .promEnter id => Sys2Proof.Machine.execPromEnter id s
  | .promExit id => Sys2Proof.Machine.execPromExit id s
  | .frameSyncInputFrame route whole crosses words => Sys2Proof.Machine.execFrameSyncInputFrame route whole crosses words s
  | .frameSyncOutputFrame route crosses found => Sys2Proof.Machine.execFrameSyncOutputFrame route crosses found s
  | .resClaim id => Sys2Proof.Machine.execResClaim id s
  | .resRelease id => Sys2Proof.Machine.execResRelease id s
  | .lcsInfo id => Sys2Proof.Machine.execLcsInfo id s
  | .lcsChallenge id => Sys2Proof.Machine.execLcsChallenge id s
  | .lcsKeyWrite id => Sys2Proof.Machine.execLcsKeyWrite id s
  | .lcsTransition id => Sys2Proof.Machine.execLcsTransition id s
  | .repeatTransition id => Sys2Proof.Machine.execRepeatTransition id s
  | .privilegedStepDone => Sys2Proof.Machine.execPrivilegedStepDone s
  | .dbgChallenge => Sys2Proof.Machine.execDbgChallenge s
  | .dbgResponse slot tag => Sys2Proof.Machine.execDbgResponse slot tag s
  | .dbgAccess write offset data => Sys2Proof.Machine.execDbgAccess write offset data s
  | .dbgHalt => Sys2Proof.Machine.execDbgHalt s
  | .dbgResume => Sys2Proof.Machine.execDbgResume s
  | .dbgReset => Sys2Proof.Machine.execDbgReset s
  | .dbgLock => Sys2Proof.Machine.execDbgLock s
  | .perstRelease => Sys2Proof.Machine.execPerstRelease s
  | .alwaysOnPowerLoss millivolts => Sys2Proof.Machine.execAlwaysOnPowerLoss millivolts s
  | .routeStateChange route up => Sys2Proof.Machine.execRouteStateChange route up s
  | .qrefclkPresenceChange quad kilohertz => Sys2Proof.Machine.execQrefclkPresenceChange quad kilohertz s
  | .patrolPeriodElapsed far => Sys2Proof.Machine.execPatrolPeriodElapsed far s

end Sys2Proof.Machine
end

