-- ==== Sys2Proof/Machine/Step.lean ====
section
/-! DEFINITION. One step: the command that waits longest, or a store tick where none waits. -/

namespace Sys2Proof.Machine

open Sys2Proof

/-- The front command runs on the state with the queue's rest; with an empty queue one store tick passes (log 42). -/
def step (s : State) : Host.Outcome State Fault Refusal :=
  match s.pending with
  | [] => .next s.tick
  | c :: rest => exec c { s with pending := rest }

/-- The state with the command that `w` spells at the front of its queue; unchanged where it spells none. -/
def State.withFetchWord (s : State) (nbits w : Nat) : State :=
  match Sys2Proof.decodeTableWord nbits w with
  | some c => { s with pending := c :: s.pending }
  | none => s

end Sys2Proof.Machine
end

