-- ==== Sys2Proof/Safety.lean ====
section
/-! DEFINITION. What claims call sound: the maps of the state in their one canonical form, and what a step keeps. -/

namespace Sys2Proof.Machine

open Sys2Proof

/-- The canonical form of the maps that memory and registers are kept in: register fields, the words of the central store, host
memory. Keys rise strictly, and nothing is listed that an unlisted key reads as. -/
def State.canon (s : State) : Prop :=
  SMap.wf s.regs 0 = true ∧ SMap.wf s.store.mem {} = true ∧ SMap.wf s.mgmt.hostMem 0 = true

/-- What every command keeps: the queue, the number of free values taken never falls, and the canonical form. -/
structure Kept (s t : State) : Prop where
  queue : t.pending = s.pending
  fresh : s.fresh ≤ t.fresh
  canon : s.canon → t.canon

/-- The row of opcode `op` takes command `id`, whose record is `r`: it is in flight and has not begun, no earlier command of its
class waits, and no power entry bars it (02 R38; 16 R446). -/
structure State.Takes (s : State) (id op : Nat) (r : List Nat) : Prop where
  ready : s.ready id op = true
  unbarred : s.barred r = false
  record : s.record id = r

/-- The state in which an action of the dance card acts (04 R107, R113): it has left the queue, is counted among the four of its
tick, its slip and its log record are taken. -/
def State.actionTaken (s : State) (q : QueuedAction) : State :=
  let s1 := { s with dance := { s.dance with
    queue := s.dance.queue.tail, execTick := s.now, execCount := s.executedNow + 1 } }
  ((s1.incSat DNC_EXEC_CNT).danceSlip q).danceLog q

end Sys2Proof.Machine
end

