-- ==== Sys2Proof/Certificates/Slice0/Obligations.lean ====
section
/-! DEFINITION. The statements for the provers, one definition each, in the order of OBLIGATIONS.json. Every rule named is one of the
spec; a clause that rests on a choice of the model names its log entry. -/

open Sys2Proof Sys2Proof.Machine

/-- A step with `c` at the front of the queue runs `c` on the state with the queue's rest. -/
def Obligations.StepRunsFrontCommand : Prop :=
  ∀ (c : Instr) (rest : List Instr) (s : State), step { s with pending := c :: rest } = exec c { s with pending := rest }

/-- What a step does on an empty queue: the model's choice (log 42), after 00 R10, 03 R65 and R66, 05 R120, 08 R231, 16 R449. -/
def Obligations.EmptyQueueTicks : Prop :=
  (∀ s : State, s.pending = [] → s.mode ≠ modeOff → step s = .next ((s.count.serveUnits).keepLevels).wakeLevels) ∧
  (∀ s : State, s.count = State.setTai { s with caller := { s.caller with
    mono := s.caller.mono + 1, shift := 0, dueFrom := max s.caller.dueFrom (s.tai + 1) } }
    ((s.tai : Int) + 1 + s.caller.shift).toNat) ∧
  (∀ s : State, s.store.waiting = [] → s.serveUnits = s) ∧
  (∀ s : State, (∀ p < 192, s.rdAt LNE_GPIO_PULL p ≠ 3) → s.keepLevels = s) ∧
  (∀ s : State, s.mode ≠ modeDeepSleep → s.mode ≠ modeSleep → s.mode ≠ modeIdle → s.wakeLevels = s) ∧
  (∀ s : State, s.pending = [] → s.mode = modeOff → step s = .next s)

/-- The canonical form of registers, store and host memory is kept by every command and by the tick. -/
def Obligations.StepKeepsCanonicalForm : Prop :=
  ∀ s t : State, s.canon → step s = .next t → t.canon

/-- First in, first out: no command touches the queue, and the count of free values taken never falls. -/
def Obligations.StepTakesOneCommand : Prop :=
  ∀ s t : State, step s = .next t → t.pending = s.pending.tail ∧ s.fresh ≤ t.fresh

/-- Every command of the table has an effect in every state. -/
def Obligations.EveryCommandAnswers : Prop := ∀ (c : Instr) (s : State), ∃ t, exec c s = .next t

/-- The invariant holds at reset. -/
def Obligations.ResetIsCanonical : Prop := State.reset.canon ∧ State.reset.pending = []

/-- Every field reads its Reset value after reset; the mode is BOOT. -/
def Obligations.ResetReadsResetValues : Prop :=
  (∀ f ∈ allFields, ∀ i < f.count, State.reset.rdAt f i = f.reset i) ∧ State.reset.mode = modeBoot ∧ State.reset.tai = 0

/-- The bits of the register map's field instances do not overlap. -/
def Obligations.RegisterFieldsDoNotOverlap : Prop :=
  ∀ f ∈ allFields, ∀ g ∈ allFields, ∀ i < f.count, ∀ j < g.count,
    f.key i ≤ g.key j → g.key j < f.key i + f.width → f.addr = g.addr ∧ f.lo = g.lo ∧ f.width = g.width ∧ i = j

/-- Reading after writing one register field, and the frame of the write. -/
def Obligations.FieldWriteReads : Prop :=
  ∀ (s : State) (f g : Field) (i j v : Nat),
    (s.wrAt f i v).rdAt f i = v % 2 ^ f.width ∧
    (g.key j ≠ f.key i → (s.wrAt f i v).rdAt g j = s.rdAt g j) ∧
    (s.wrAt f i v) = { s with regs := (s.wrAt f i v).regs }

/-- 02 R34: CMD_DOORBELL, CPL_HEAD_WRITE, EVT_HEAD_WRITE, RING_ENABLE. -/
def Obligations.RingIndexAndEnable : Prop :=
  (∀ (v : Nat) (s : State), v < 65536 → v < s.cmdEntries → exec (.cmdDoorbell v) s = .next (s.wr MBX_CMD_TAIL v)) ∧
  (∀ (v : Nat) (s : State), v < 65536 → s.cmdEntries ≤ v →
    exec (.cmdDoorbell v) s = .next (s.wr MBX_CTRL_CMD_EN 0).ringError) ∧
  (∀ (v : Nat) (s : State), v < 65536 → v < s.cplEntries → exec (.cplHeadWrite v) s = .next (s.wr MBX_CPL_HEAD v)) ∧
  (∀ (v : Nat) (s : State), v < 65536 → s.cplEntries ≤ v →
    exec (.cplHeadWrite v) s = .next (s.wr MBX_CTRL_CPL_EN 0).ringError) ∧
  (∀ (v : Nat) (s : State), v < 65536 → v < s.evtEntries → exec (.evtHeadWrite v) s = .next (s.wr MBX_EVT_HEAD v)) ∧
  (∀ (v : Nat) (s : State), v < 65536 → s.evtEntries ≤ v →
    exec (.evtHeadWrite v) s = .next (s.wr MBX_CTRL_EVT_EN 0).ringError) ∧
  (∀ (s : State) (e z : Field) (b : Nat), (b ≠ 1 ∨ (4 ≤ s.rd z ∧ s.rd z ≤ 16)) → s.enableRing e z b = s.wr e b) ∧
  (∀ (s : State) (e z : Field), s.rd z < 4 ∨ 16 < s.rd z → s.enableRing e z 1 = (s.wr e 0).ringError) ∧
  (∀ (v : Nat) (s : State), exec (.ringEnable v) s = .next ((((s.enableRing MBX_CTRL_CMD_EN MBX_RING_SIZE_CMD_LOG2
    (bitOf v 0)).enableRing MBX_CTRL_CPL_EN MBX_RING_SIZE_CPL_LOG2 (bitOf v 1)).enableRing MBX_CTRL_EVT_EN
    MBX_RING_SIZE_EVT_LOG2 (bitOf v 2)).wr MBX_CTRL_MB_EVT_EN (bitOf v 3))) ∧
  (∀ s : State, (s.ringError).rd MBX_ERR_CMD_RING_ERR = 1)

/-- 02 R41, R47: RING_RESET. -/
def Obligations.RingResetDiscards : Prop :=
  (∀ (v : Nat) (s : State), bitOf v 8 = 1 → exec (.ringReset v) s = .next (((((((State.wr { s with mgmt := { s.mgmt with
      fetched := [], mailboxBehind := 0, cplWait := []
      inFlight := s.mgmt.inFlight.map fun c => if c.ring then { c with discard := true } else c } } MBX_CMD_HEAD 0).wr
    MBX_CMD_TAIL 0).wr MBX_CPL_HEAD 0).wr MBX_CPL_TAIL 0).wr MBX_EVT_HEAD 0).wr MBX_EVT_TAIL 0).post 0xD003 0xD00 1
      s.mgmt.fetched.length)) ∧
  (∀ (v : Nat) (s : State), bitOf v 8 = 1 → ∃ t, exec (.ringReset v) s = .next t ∧
    t.mgmt.fetched = [] ∧ t.mgmt.cplWait = [] ∧ t.mgmt.mailbox = s.mgmt.mailbox ∧
    t.mgmt.inFlight = (s.mgmt.inFlight.map fun c => if c.ring then { c with discard := true } else c) ∧
    t.rd MBX_CMD_HEAD = 0 ∧ t.rd MBX_CMD_TAIL = 0 ∧ t.rd MBX_CPL_HEAD = 0 ∧ t.rd MBX_CPL_TAIL = 0 ∧
    t.rd MBX_EVT_HEAD = 0 ∧ t.rd MBX_EVT_TAIL = 0) ∧
  (∀ (s : State) (id : Nat) (f : InFlight) (c : Completion), s.cmd id = some f → f.discard = true → s.now ≠ f.expiresAt →
    s.complete id c = State.putCompletion { s with mgmt := { s.mgmt with
      inFlight := s.mgmt.inFlight.filter fun x => x.id != id } } f.ring true
      (completionRecord (recTag f.bytes) (f.answerAt s.now c).status (f.answerAt s.now c).detail (f.answerAt s.now c).result)) ∧
  (∀ (s : State) (b : List Nat), s.putCompletion true true b = s) ∧
  (∀ (v : Nat) (s : State), bitOf v 8 ≠ 1 → exec (.ringReset v) s = .next s)

/-- 02 R33, R35, R37, R39: COMMAND_FETCH, COMPLETION_WRITE. -/
def Obligations.RingFetchAndCompletion : Prop :=
  (∀ s : State, s.mgmt.perstN = true → s.rd MBX_CTRL_CMD_EN = 1 → s.rd MBX_CMD_HEAD ≠ s.rd MBX_CMD_TAIL → s.cplFull = false →
    exec .commandFetch s = .next (State.wr { s with mgmt := { s.mgmt with
      fetched := s.mgmt.fetched ++ [s.hostRead (4096 * s.rd MBX_CMD_BASE + 64 * s.rd MBX_CMD_HEAD) 64] } }
      MBX_CMD_HEAD ((s.rd MBX_CMD_HEAD + 1) % s.cmdEntries))) ∧
  (∀ s : State, s.mgmt.perstN = false ∨ s.rd MBX_CTRL_CMD_EN ≠ 1 ∨ s.rd MBX_CMD_HEAD = s.rd MBX_CMD_TAIL ∨
    s.cplFull = true → exec .commandFetch s = .next s) ∧
  (∀ (s : State) (r : List Nat) (rest : List (List Nat)), s.mgmt.perstN = true → s.mgmt.cplWait = r :: rest →
    s.rd MBX_CTRL_CPL_EN = 1 → s.cplFull = false → exec .completionWrite s = .next ((((State.hostWrite
      { s with mgmt := { s.mgmt with cplWait := rest } } (4096 * s.rd MBX_CPL_BASE + 16 * s.rd MBX_CPL_TAIL) r).wr
      MBX_CPL_TAIL ((s.rd MBX_CPL_TAIL + 1) % s.cplEntries)).writeback).raiseHeld 0)) ∧
  (∀ s : State, s.mgmt.perstN = false ∨ s.mgmt.cplWait = [] ∨ s.rd MBX_CTRL_CPL_EN ≠ 1 ∨ s.cplFull = true →
    exec .completionWrite s = .next s) ∧
  (∀ s : State, s.rd MBX_WB_ADDR ≠ 0 → s.writeback = s.hostWrite (16 * s.rd MBX_WB_ADDR)
    (bytesOf 4 (s.rd MBX_CMD_HEAD) ++ bytesOf 4 (s.rd MBX_CPL_TAIL) ++ bytesOf 4 (s.rd MBX_EVT_TAIL) ++
      bytesOf 4 (s.rd MBX_EVT_LOST_CNT))) ∧
  (∀ s : State, s.rd MBX_WB_ADDR = 0 → s.writeback = s)

/-- 02 R38, R46, R48, R58, R540: COMMAND_DISPATCH and MAILBOX_GO. -/
def Obligations.DispatchInOrder : Prop :=
  (∀ (s : State) (r : List Nat), s.mgmt.mailbox = some r → s.mayDispatch r = true → s.fenceBefore = false →
    (recFence r = false ∨ s.mgmt.mailboxBehind = 0) → exec .commandDispatch s = .next
    (((State.wr { s with mgmt := { s.mgmt with mailbox := none } } MBX_MB_CTRL_GO 0).wr MBX_MB_CTRL_BUSY 1).dispatch false r)) ∧
  (∀ (s : State) (r : List Nat) (rest : List (List Nat)), s.mgmt.mailbox = none → s.mgmt.fetched = r :: rest →
    s.mayDispatch r = true → exec .commandDispatch s = .next
      (State.dispatch { s with mgmt := { s.mgmt with fetched := rest, mailboxBehind := s.mgmt.mailboxBehind - 1 } } true r)) ∧
  (∀ (s : State) (r : List Nat) (rest : List (List Nat)), s.mgmt.mailbox = none → s.mgmt.fetched = r :: rest →
    s.mayDispatch r = false → exec .commandDispatch s = .next s) ∧
  (∀ (s : State) (r : List Nat), s.mgmt.mailbox = some r → s.mayDispatch r = false → recFence r = true →
    s.mgmt.mailboxBehind = 0 → exec .commandDispatch s = .next s) ∧
  (∀ (s : State) (r q : List Nat) (rest : List (List Nat)), s.mgmt.mailbox = some r →
    (s.mayDispatch r = false ∧ recFence r = false ∨ s.fenceBefore = true ∧ s.mgmt.mailboxBehind ≠ 0) →
    s.mgmt.fetched = q :: rest → s.mayDispatch q = true → exec .commandDispatch s = .next
      (State.dispatch { s with mgmt := { s.mgmt with fetched := rest, mailboxBehind := s.mgmt.mailboxBehind - 1 } } true q)) ∧
  (∀ (s : State) (r : List Nat), s.mayDispatch r = true ↔ s.mgmt.inFlight.length < 32 ∧
    (recFence r = true → s.mgmt.inFlight = []) ∧
    (stewardCommand r = true → s.mgmt.steward = .running ∨ s.mgmt.steward = .stopped)) ∧
  (∀ (s : State) (ring : Bool) (r : List Nat),
    let s1 := { s with mgmt := { s.mgmt with
      nextId := s.mgmt.nextId + 1
      inFlight := s.mgmt.inFlight ++ [({ id := s.mgmt.nextId, ring := ring, bytes := r, tick := s.now } : InFlight)] } }
    (s1.dispatchCheck r = none → s.dispatch ring r = s1) ∧
    (∀ c, s1.dispatchCheck r = some c → s.dispatch ring r = s1.complete s.mgmt.nextId c)) ∧
  (∀ (s : State) (r : List Nat), opcodeInfo (recOpcode r) = none → s.dispatchCheck r = some ⟨0x01, 0, 0⟩) ∧
  (∀ (s : State) (r : List Nat) (i : Nat × Nat × Bool), opcodeInfo (recOpcode r) = some i → recPlen r ≠ i.1 →
    s.dispatchCheck r = some ⟨0x02, 0, 0⟩) ∧
  (∀ s : State, s.rd MBX_MB_CTRL_BUSY = 0 → s.mgmt.mailbox = none → exec .mailboxGo s = .next (State.wr { s with mgmt := { s.mgmt with
    mailbox := some ((List.range 16).flatMap fun k => bytesOf 4 (s.rdAt MBX_MB_CMD k))
    mailboxBehind := s.mgmt.fetched.length } } MBX_MB_CTRL_GO 1)) ∧
  (∀ s : State, s.rd MBX_MB_CTRL_BUSY = 1 ∨ s.mgmt.mailbox ≠ none → exec .mailboxGo s = .next s)

/-- 02 R35, R45, R49: EVENT_RING_WRITE, MB_EVT_READ. -/
def Obligations.EventsLeaveOldestFirst : Prop :=
  (∀ (s : State) (r : Nat) (rest : List Nat), s.mgmt.perstN = true → s.rd MBX_CTRL_EVT_EN = 1 → s.evtFull = false →
    s.mgmt.evtLost = 0 → s.mgmt.evtQueue = r :: rest →
    exec .eventRingWrite s = .next (State.eventRingPut { s with mgmt := { s.mgmt with evtQueue := rest } } r)) ∧
  (∀ s : State, s.mgmt.perstN = true → s.rd MBX_CTRL_EVT_EN = 1 → s.evtFull = false → s.mgmt.evtLost ≠ 0 →
    let r := eventRecord s.caller.sec s.caller.ns 0xD001 0xD00 2 (min s.mgmt.evtLost 0xFFFFFFFF)
    exec .eventRingWrite s = .next
      (((State.logEvent { s with mgmt := { s.mgmt with evtLost := 0 } } r).toMailbox r).eventRingPut r)) ∧
  (∀ s : State, s.mgmt.perstN = false ∨ s.rd MBX_CTRL_EVT_EN = 0 ∨ s.evtFull = true →
    exec .eventRingWrite s = .next s) ∧
  (∀ s : State, s.mgmt.evtLost = 0 → s.mgmt.evtQueue = [] → exec .eventRingWrite s = .next s) ∧
  (∀ (s : State) (r : Nat), s.eventRingPut r = (((s.hostWrite (4096 * s.rd MBX_EVT_BASE + 16 * s.rd MBX_EVT_TAIL)
    (bytesOf 16 r)).wr MBX_EVT_TAIL ((s.rd MBX_EVT_TAIL + 1) % s.evtEntries)).writeback).raiseHeld 1) ∧
  (∀ (s : State) (r : Nat) (rest : List Nat), s.mgmt.mbEvents = r :: rest → exec .mbEvtRead s = .next
    { s with mgmt := { s.mgmt with mbEvents := rest }, reply := { data := bitsOf r 127 96 } }) ∧
  (∀ s : State, s.mgmt.mbEvents = [] → exec .mbEvtRead s = .next { s with reply := { data := 0 } })

/-- 02 R36, R54, R55: HOST_DMA_FAULT, IRQ_HOLDOFF_EXPIRY, DESIGN_IRQ_SET. -/
def Obligations.DmaFaultAndInterrupts : Prop :=
  (∀ (k : DmaKind) (s : State),
    let r := eventRecord s.caller.sec s.caller.ns 0xD009 0xD00 3 (dmaCode k)
    exec (.hostDmaFault k) s = .next ((((((((s.wr MBX_ERR_DMA_FAULT 1).wr MBX_CTRL_CMD_EN 0).wr MBX_CTRL_CPL_EN 0).wr
      MBX_CTRL_EVT_EN 0).raise 3).logEvent r).mailboxPut r))) ∧
  (∀ (k : DmaKind) (s : State), ∃ t, exec (.hostDmaFault k) s = .next t ∧ t.rd MBX_ERR_DMA_FAULT = 1 ∧
    t.rd MBX_CTRL_CMD_EN = 0 ∧ t.rd MBX_CTRL_CPL_EN = 0 ∧ t.rd MBX_CTRL_EVT_EN = 0 ∧
    t.mgmt.inFlight = s.mgmt.inFlight ∧ t.mgmt.cplWait = s.mgmt.cplWait) ∧
  (∀ (s : State) (r : Nat), s.mgmt.mbEvents.length < 64 →
    s.mailboxPut r = { s with mgmt := { s.mgmt with mbEvents := s.mgmt.mbEvents ++ [r] } }) ∧
  (∀ (s : State) (n : Nat), s.mgmt.perstN = true → bitOf (s.msixWord (4 * n + 3)) 0 = 0 → s.raise n = { s with mgmt := { s.mgmt with
    sent := SMap.put s.mgmt.sent n (SMap.read s.mgmt.sent 0 n + 1) } }) ∧
  (∀ (s : State) (n : Nat), s.mgmt.perstN = true → bitOf (s.msixWord (4 * n + 3)) 0 = 1 →
    s.raise n = { s with mgmt := { s.mgmt with pba := s.mgmt.pba ||| 2 ^ n } }) ∧
  (∀ (v e : Nat) (s : State), (s.holdoff v).endsAt = some e → e ≤ s.now → (s.holdoff v).arrived = true →
    exec (.irqHoldoffExpiry v) s = .next ((s.raise v).setHoldoff v
      { endsAt := some (s.now + 1000 * s.rd MBX_IRQ_HOLDOFF), arrived := false })) ∧
  (∀ (v e : Nat) (s : State), (s.holdoff v).endsAt = some e → e ≤ s.now → (s.holdoff v).arrived = false →
    exec (.irqHoldoffExpiry v) s = .next (s.setHoldoff v {})) ∧
  (∀ (v e : Nat) (s : State), (s.holdoff v).endsAt = some e → s.now < e → exec (.irqHoldoffExpiry v) s = .next s) ∧
  (∀ (v : Nat) (s : State), (s.holdoff v).endsAt = none → exec (.irqHoldoffExpiry v) s = .next s) ∧
  (∀ (n : Nat) (s : State), 4 ≤ n → n ≤ 63 →
    exec (.designIrqSet n) s = .next ((s.wrMask MBX_DSGN_PEND (n - 4) true).raise n)) ∧
  (∀ (n : Nat) (s : State), n < 4 ∨ 63 < n → exec (.designIrqSet n) s = .next s)

/-- 02 R28, R47: PCIE_LINK_CHANGE, PERST_ASSERT. -/
def Obligations.PcieLink : Prop :=
  (∀ (w : Nat) (s : State), s.mgmt.perstN = true → exec (.pcieLinkChange true w) s = .next
    (State.post { s with mgmt := { s.mgmt with pcieUp := true, pcieWidthRate := w % 256 } } 0xD007 0xD00 1 (1 + 256 * (w % 256)))) ∧
  (∀ (w : Nat) (s : State), s.mgmt.perstN = false → exec (.pcieLinkChange true w) s = .next s) ∧
  (∀ (w : Nat) (s : State), exec (.pcieLinkChange false w) s = .next
    (State.post { s with mgmt := { s.mgmt with pcieUp := false, pcieWidthRate := w % 256 } } 0xD007 0xD00 2 0)) ∧
  (∀ s : State, exec .perstAssert s = .next { s with mgmt := { s.mgmt with
    perstN := false, pcieUp := false, msixTable := [], pba := 0 } })

/-- 02 R47: NOP, LOG_READ, STEWARD_INFO. -/
def Obligations.ManagementCommands : Prop :=
  (∀ (id : Nat) (r : List Nat) (s : State), s.Takes id 0xD001 r →
    exec (.nop id) s = .next (s.complete id ⟨0, 0, recField r 8 8⟩)) ∧
  (∀ (id : Nat) (r : List Nat) (found : Found) (s : State), s.Takes id 0xD002 r → s.rd STR_STATUS_FAR_INIT = 1 →
    recField r 16 4 ≤ 1048575 → 1 ≤ recField r 20 4 → recField r 20 4 ≤ 65536 → exec (.logRead id found) s = .next
      ((((s.hostWrite (recField r 8 8) (s.logData found (recField r 16 4) (recField r 20 4))).senseWords found
        (logWords (recField r 16 4) (recField r 20 4))).tookN (2 ^ 32)).complete id
      ⟨0, 0, (recField r 16 4 + recField r 20 4) % 1048576⟩)) ∧
  (∀ (id : Nat) (r : List Nat) (found : Found) (s : State), s.Takes id 0xD002 r → s.rd STR_STATUS_FAR_INIT = 1 →
    1048575 < recField r 16 4 → exec (.logRead id found) s = .next (s.complete id ⟨0x03, 16, 0⟩)) ∧
  (∀ (id : Nat) (r : List Nat) (found : Found) (s : State), s.Takes id 0xD002 r → s.rd STR_STATUS_FAR_INIT = 1 →
    recField r 16 4 ≤ 1048575 → recField r 20 4 = 0 ∨ 65536 < recField r 20 4 →
    exec (.logRead id found) s = .next (s.complete id ⟨0x03, 20, 0⟩)) ∧
  (∀ (id : Nat) (found : Found) (s : State), s.rd STR_STATUS_FAR_INIT = 0 → exec (.logRead id found) s = .next s) ∧
  (∀ (s : State) (a : Nat), (s.storeWord a).poison = false → s.logHalf {} a = (s.storeWord a).data % 2 ^ 64) ∧
  (∀ (id : Nat) (r : List Nat) (s : State), s.Takes id 0xD003 r →
    exec (.stewardInfo id) s = .next (s.complete id ⟨0, s.stewardVersion, s.rd FLC_BOOT_ACTIVE_BLOCK - 1⟩))

/-- 02 R38, R40, R42; 06 R154; 16 R446: when a command's row takes it, and what a completion is. -/
def Obligations.CommandsWaitAndComplete : Prop :=
  (∀ (s : State) (id op : Nat) (body : List Nat → State → Completion × State), s.ready id op = false →
    s.runCmd id op body = s) ∧
  (∀ (s : State) (id op : Nat) (body : List Nat → State → Option Completion × State), s.ready id op = false →
    s.startCmd id op body = s) ∧
  (∀ (s : State) (id op : Nat) (body : List Nat → State → Completion × State), s.ready id op = true →
    s.barred (s.record id) = true → s.runCmd id op body = s.complete id ⟨0x05, 0, 0⟩) ∧
  (∀ (s : State) (id op : Nat) (body : List Nat → State → Option Completion × State), s.ready id op = true →
    s.barred (s.record id) = true → s.startCmd id op body = s.complete id ⟨0x05, 0, 0⟩) ∧
  (∀ (s : State) (id op : Nat), s.cmd id = none → s.ready id op = false) ∧
  (∀ (s : State) (id op : Nat) (c : InFlight), s.cmd id = some c → (s.ready id op = true ↔
    recOpcode c.bytes = op ∧ c.begun = false ∧ s.now ≤ c.expiresAt ∧ ∀ d ∈ s.mgmt.inFlight,
      c.ring = true ∧ d.ring = true ∨ op / 0x1000 = 3 → d.begun = false → d.id < id →
        recOpcode d.bytes / 0x1000 ≠ op / 0x1000)) ∧
  (∀ (s : State) (id : Nat) (f : InFlight) (c : Completion), s.cmd id = some f → f.ring = true → f.discard = false →
    s.now < f.expiresAt →
    s.complete id c = { s with mgmt := { s.mgmt with
      inFlight := s.mgmt.inFlight.filter fun x => x.id != id
      cplWait := s.mgmt.cplWait ++ [bytesOf 2 (recTag f.bytes) ++ bytesOf 1 c.status ++ [0] ++ bytesOf 4 c.detail ++
        bytesOf 8 c.result] } }) ∧
  (∀ (s : State) (id : Nat) (f : InFlight) (c : Completion), s.cmd id = some f → f.ring = true → f.discard = false →
    f.expiresAt < s.now → c.status ≠ 0x07 →
    s.complete id c = { s with mgmt := { s.mgmt with
      inFlight := s.mgmt.inFlight.filter fun x => x.id != id
      cplWait := s.mgmt.cplWait ++ [bytesOf 2 (recTag f.bytes) ++ bytesOf 1 0x07 ++ [0] ++ bytesOf 4 0 ++
        bytesOf 8 0] } }) ∧
  (∀ (s : State) (id : Nat) (f : InFlight) (c : Completion), s.cmd id = some f → s.now = f.expiresAt → f.ring = true →
    (s.complete id c).rd MBX_TIE_CNT = min (s.rd MBX_TIE_CNT + 1) (2 ^ MBX_TIE_CNT.width - 1)) ∧
  (∀ (s : State) (id : Nat) (c : Completion), s.cmd id = none → s.complete id c = s)

/-- 02 R29, R59 to R61, R63: SPAD_HOST_READ, SPAD_READ_ABANDON, SPAD_HOST_WRITE, SPAD_FABRIC_ACCESS. -/
def Obligations.ScratchpadAccess : Prop :=
  (∀ (o n : Nat) (f : SpadRead) (s : State), goodSize o n = false →
    exec (.spadHostRead o n f) s = .next { s.mbxErr MBX_ERR_BAD_SIZE with reply := { data := 0 } }) ∧
  (∀ (o n d : Nat) (f : SpadRead) (s : State), goodSize o n = false →
    exec (.spadHostWrite o n d f) s = .next (s.mbxErr MBX_ERR_BAD_SIZE)) ∧
  (∀ (o : Nat) (s : State), o % 8 = 0 → (s.spadWord (o / 8 % 65536)).poison = false →
    exec (.spadHostRead o 8 .good) s = .next { s with reply := { data := (s.spadWord (o / 8 % 65536)).data } }) ∧
  (∀ (o : Nat) (s : State), o % 4 = 0 → (s.spadWord (o / 8 % 65536)).poison = false →
    exec (.spadHostRead o 4 .good) s = .next
    { s with reply := { data := (s.spadWord (o / 8 % 65536)).data / 2 ^ (32 * (o / 4 % 2)) % 2 ^ 32 } }) ∧
  (∀ (o n : Nat) (f : SpadRead) (s : State), goodSize o n = true →
    (s.spadWord (o / 8 % 65536)).poison = true ∨ f = .uncorrectable →
    exec (.spadHostRead o n f) s = .next { s.spadSense (o / 8 % 65536) f with reply := { abort := true, poison := true } }) ∧
  (∀ (w : Nat) (f : SpadRead) (s : State), (s.spadWord w).poison = true ∨ f = .uncorrectable → s.spadSense w f =
    ((s.spadPut w { s.spadWord w with poison := true }).incSat MBX_SPAD_ECC_UNCORR_CNT).post 0xD006 0xD00 3 w) ∧
  (∀ (w : Nat) (s : State), (s.spadWord w).poison = false →
    s.spadSense w .single = (s.incSat MBX_SPAD_ECC_CORR_CNT).post 0xD005 0xD00 0 w) ∧
  (∀ (w : Nat) (s : State), exec (.spadReadAbandon w) s = .next
    { ((s.mbxErr MBX_ERR_SCRATCH_STARVED).post 0xD00A 0xD00 2 w) with reply := { abort := true } }) ∧
  (∀ (o n d : Nat) (f : SpadRead) (s : State), goodSize o n = true → spadOpen (o / 8 % 65536) = false →
    exec (.spadHostWrite o n d f) s = .next (s.mbxErr MBX_ERR_SPAD_PROT)) ∧
  (∀ (o d : Nat) (f : SpadRead) (s : State), o % 8 = 0 → spadOpen (o / 8 % 65536) = true →
    exec (.spadHostWrite o 8 d f) s = .next (s.spadPut (o / 8 % 65536) { data := d % 2 ^ 64, poison := false })) ∧
  (∀ (o d : Nat) (s : State), o % 4 = 0 → spadOpen (o / 8 % 65536) = true → (s.spadWord (o / 8 % 65536)).poison = false →
    exec (.spadHostWrite o 4 d .good) s = .next (s.spadPut (o / 8 % 65536) { poison := false, data :=
      if o % 8 = 0 then (s.spadWord (o / 8 % 65536)).data / 2 ^ 32 * 2 ^ 32 + d % 2 ^ 32
      else d % 2 ^ 32 * 2 ^ 32 + (s.spadWord (o / 8 % 65536)).data % 2 ^ 32 })) ∧
  (∀ (o d : Nat) (f : SpadRead) (s : State), o % 4 = 0 → spadOpen (o / 8 % 65536) = true →
    (s.spadWord (o / 8 % 65536)).poison = true ∨ f = .uncorrectable →
    exec (.spadHostWrite o 4 d f) s = .next ((s.spadSense (o / 8 % 65536) f).mbxErr MBX_ERR_SPAD_PROT)) ∧
  (∀ (w : Nat) (s : State), w < 65536 → (s.spadWord w).poison = false →
    exec (.spadFabricAccess w .read .good) s = .next { s with reply := { data := (s.spadWord w).data } }) ∧
  (∀ (w : Nat) (f : SpadRead) (s : State), w < 65536 → (s.spadWord w).poison = true ∨ f = .uncorrectable →
    exec (.spadFabricAccess w .read f) s = .next
      { s.spadSense w f with reply := { data := (s.spadWord w).data, poison := true } }) ∧
  (∀ (w d : Nat) (f : SpadRead) (s : State), w < 65536 → spadOpen w = true →
    exec (.spadFabricAccess w (.write d) f) s = .next (s.spadPut w { data := d % 2 ^ 64, poison := false })) ∧
  (∀ (w d : Nat) (f : SpadRead) (s : State), w < 65536 → spadOpen w = false →
    exec (.spadFabricAccess w (.write d) f) s = .next s) ∧
  (∀ (s : State) (w v : Nat) (x : SpadWord), (s.spadPut w x).spadWord w = x ∧
    (v ≠ w → (s.spadPut w x).spadWord v = s.spadWord v))

/-- 02 R62: ATOMIC_ADD, ATOMIC_SWAP, and atomics of the fabric's port. -/
def Obligations.ScratchpadAtomics : Prop :=
  (∀ s : State, spadOpen (s.rd MBX_ATOM_ADDR) = true → (s.spadWord (s.rd MBX_ATOM_ADDR)).poison = false →
    exec (.atomicAdd .good) s = .next ((s.spadPut (s.rd MBX_ATOM_ADDR)
      { data := ((s.spadWord (s.rd MBX_ATOM_ADDR)).data + s.rd MBX_ATOM_OPND) % 2 ^ 64, poison := false }).wr MBX_ATOM_OLD
      (s.spadWord (s.rd MBX_ATOM_ADDR)).data)) ∧
  (∀ s : State, spadOpen (s.rd MBX_ATOM_ADDR) = true → (s.spadWord (s.rd MBX_ATOM_ADDR)).poison = false →
    exec (.atomicSwap .good) s = .next ((s.spadPut (s.rd MBX_ATOM_ADDR)
      { data := s.rd MBX_ATOM_OPND % 2 ^ 64, poison := false }).wr MBX_ATOM_OLD (s.spadWord (s.rd MBX_ATOM_ADDR)).data)) ∧
  (∀ (f : SpadRead) (s : State), spadOpen (s.rd MBX_ATOM_ADDR) = false →
    exec (.atomicAdd f) s = .next (s.mbxErr MBX_ERR_SPAD_PROT) ∧
    exec (.atomicSwap f) s = .next (s.mbxErr MBX_ERR_SPAD_PROT)) ∧
  (∀ (w x : Nat) (s : State), w < 65536 → spadOpen w = true → (s.spadWord w).poison = false →
    exec (.spadFabricAccess w (.add x) .good) s = .next { s.spadPut w { data := ((s.spadWord w).data + x) % 2 ^ 64, poison := false }
      with reply := { data := (s.spadWord w).data } }) ∧
  (∀ (w x : Nat) (s : State), w < 65536 → spadOpen w = true → (s.spadWord w).poison = false →
    exec (.spadFabricAccess w (.swap x) .good) s = .next { s.spadPut w { data := x % 2 ^ 64, poison := false }
      with reply := { data := (s.spadWord w).data } })

/-- 03 R79, R80, and the worked example after R83. -/
def Obligations.GridPositions : Prop :=
  (∀ (s : State) (g : Nat) (t : Int), 0 < s.gridD g → 0 < s.gridQ g →
    s.lineStart g (s.lineAt g t) ≤ t ∧ t < s.lineStart g (s.lineAt g t + 1)) ∧
  (∀ (s : State) (g : Nat) (m : Int), 0 < s.gridD g → 0 < s.gridQ g →
    2 * (s.lineStart g m - s.gridA g) * s.gridQ g ≤ 2 * m * s.gridD g + s.gridQ g ∧
    2 * m * s.gridD g < 2 * (s.lineStart g m - s.gridA g) * s.gridQ g + s.gridQ g) ∧
  (∀ s : State, s.rdAt CLR_GRID_NUM 0 = 60000 → s.rdAt CLR_GRID_DEN 0 = 1001 → s.rdAt CLR_GRID_CTRL_LINES 0 = 1125 →
    s.rdAt CLR_GRID_ALIGN 0 = 0 → s.posAt 0 1750000000000000000 = { frame := 104895104895, line := 118, tick := 104 })

/-- 03 R68, R73: REFCLK_LOSS, REFCLK_RETURN, FORCE_FREERUN, HOLDOVER_EXPIRY. The size of the phase change is a free value. -/
def Obligations.FreerunAndBackup : Prop :=
  (∀ s : State, s.isSet CLR_STATUS_BACKUP_OSC = false → exec .refclkLoss s = .next
    (((((s.wr CLR_STATUS_BACKUP_OSC 1).wr CLR_REFCLK_PRESENT 0).phaseShift).post 0x1007 0x100 4 0).toFreerun true)) ∧
  (∀ s : State, s.isSet CLR_STATUS_BACKUP_OSC = true → exec .refclkLoss s = .next s) ∧
  (∀ s : State, s.isSet CLR_STATUS_BACKUP_OSC = true → exec .refclkReturn s = .next
    (((((s.wr CLR_REFCLK_PRESENT 1).wr CLR_STATUS_BACKUP_OSC 0).phaseShift).post 0x1007 0x100 1 1).tryAcquire)) ∧
  (∀ s : State, s.isSet CLR_STATUS_BACKUP_OSC = false → exec .refclkReturn s = .next (s.wr CLR_REFCLK_PRESENT 1)) ∧
  (∀ s : State, s.phaseShift.caller.shift ≤ s.caller.shift + 10 ∧ s.caller.shift ≤ s.phaseShift.caller.shift + 10 ∧
    s.phaseShift.now = s.now ∧ s.phaseShift.tai = s.tai ∧ s.phaseShift.regs = s.regs) ∧
  (∀ (s : State) (b : Bool), (s.toFreerun b).lock = 0 ∧ (s.toFreerun b).rd CLR_STATUS_ACTIVE_SLOT = 7) ∧
  (∀ s : State, (s.toFreerun true).rd CLR_STATUS_TOD_VALID = s.rd CLR_STATUS_TOD_VALID ∧
    (s.toFreerun false).rd CLR_STATUS_TOD_VALID = 0) ∧
  (∀ s : State, (s.wr CLR_CTRL_FORCE_FREERUN 1).lock ≠ 0 → exec (.forceFreerun 1) s = .next
    ((s.wr CLR_CTRL_FORCE_FREERUN 1).toFreerun ((s.wr CLR_CTRL_FORCE_FREERUN 1).lock == 3))) ∧
  (∀ s : State, exec (.forceFreerun 0) s = .next (s.wr CLR_CTRL_FORCE_FREERUN 0).tryAcquire) ∧
  (∀ s : State, s.lock = 3 → s.caller.holdoverAt + s.rd CLR_HOLDOVER_LIMIT_MIN * 60000000000 ≤ s.now →
    exec .holdoverExpiry s = .next (((s.wr CLR_STATUS_HOLDOVER_EXPIRED 1).post 0x1006 0x100 3
      (satN 32 ((s.now - s.caller.holdoverAt) / 60000000000))).toFreerun true)) ∧
  (∀ s : State, s.lock ≠ 3 ∨ s.now < s.caller.holdoverAt + s.rd CLR_HOLDOVER_LIMIT_MIN * 60000000000 →
    exec .holdoverExpiry s = .next s)

/-- 03 R69 to R75: REFERENCE_VALID, REFERENCE_LOST, RESELECT, ANNOUNCE_TIMEOUT, REFA_EDGE, REFB_EDGE, SERVO_UPDATE. The servo's
correction and its filter are free (03 R74 gives bounds alone; logs 36, 131). -/
def Obligations.ReferencesAndServo : Prop :=
  (∀ (k : Nat) (s : State), k < 4 → s.refUsable k = true → s.refGone k = false →
    exec (.referenceValid k) s = .next (s.setRef k { valid := true }).tryAcquire) ∧
  (∀ (k : Nat) (s : State), k < 4 → s.refValid k = true → s.refGone k = true →
    s.lostSlots.contains (s.rd CLR_STATUS_ACTIVE_SLOT) = false →
    exec (.referenceLost k) s = .next (s.lostSlots.foldl State.markLost s)) ∧
  (∀ (k : Nat) (s : State), k < 4 → s.refValid k = true → s.refGone k = true →
    s.lostSlots.contains (s.rd CLR_STATUS_ACTIVE_SLOT) = true →
    exec (.referenceLost k) s = .next (s.lostSlots.foldl State.markLost s).leaveRef) ∧
  (∀ (k : Nat) (s : State), s.refValid k = false ∨ s.refGone k = false → exec (.referenceLost k) s = .next s) ∧
  (∀ (k : Nat) (s : State), s.markLost k = ((s.setRef k { s.refState k with valid := false }).post 0x1002 0x100 2
    (s.refEntry k + 256 * k)).incSat CLR_REF_LOSS_CNT) ∧
  (∀ s : State, s.lock = 1 → s.bestSlot ≠ 7 → s.bestSlot ≠ s.rd CLR_STATUS_ACTIVE_SLOT →
    exec .reselect s = .next (s.selectRef s.bestSlot)) ∧
  (∀ s : State, s.lock = 2 → s.bestSlot ≠ 7 → s.bestSlot ≠ s.rd CLR_STATUS_ACTIVE_SLOT →
    exec .reselect s = .next ((s.setLock 1).selectRef s.bestSlot)) ∧
  (∀ (p : Nat) (x : PtpPort) (s : State), SMap.find s.caller.ptp p = some x → x.heardAt + s.announceTimeout x ≤ s.now →
    exec (.announceTimeout p) s = .next
      (State.runBmca { s with caller := { s.caller with ptp := SMap.erase s.caller.ptp p } }).loseGone) ∧
  (∀ (p : Nat) (x : PtpPort) (s : State), SMap.find s.caller.ptp p = some x → s.now < x.heardAt + s.announceTimeout x →
    exec (.announceTimeout p) s = .next s) ∧
  (∀ (p : Nat) (s : State), SMap.find s.caller.ptp p = none → exec (.announceTimeout p) s = .next s) ∧
  (∀ (b : Bool) (s : State), s.isSet CLR_REFA_EDGE = b → s.caller.refaEdges + 1 < s.refaPerUpdate →
    exec (.refaEdge b) s = .next { s with caller := { s.caller with
      refaEdges := s.caller.refaEdges + 1
      refaLast := some s.now
      refaPeriod := s.caller.refaLast.map fun t => s.now - t } }) ∧
  (∀ (b : Bool) (s : State), s.isSet CLR_REFA_EDGE = b → s.refaPerUpdate ≤ s.caller.refaEdges + 1 →
    exec (.refaEdge b) s = .next (State.measure { s with caller := { s.caller with
      refaEdges := 0
      refaLast := some s.now
      refaPeriod := s.caller.refaLast.map fun t => s.now - t } } 2 s.refaOffset)) ∧
  (∀ (b : Bool) (s : State), s.isSet CLR_REFA_EDGE = !b → exec (.refaEdge b) s = .next s) ∧
  (∀ (b : Bool) (s : State), s.isSet CLR_REFB_EDGE = b → exec (.refbEdge b) s = .next
    (State.measure { s with caller := { s.caller with refbLast := some s.now } } 3 s.refbOffset)) ∧
  (∀ (b : Bool) (s : State), s.isSet CLR_REFB_EDGE = !b → exec (.refbEdge b) s = .next s) ∧
  (∀ (s : State) (k : Nat) (x : Int), s.rd CLR_STATUS_ACTIVE_SLOT ≠ 7 → s.refKind (s.rd CLR_STATUS_ACTIVE_SLOT) = k →
    s.measure k x = { s with caller := { s.caller with measured := some x } }) ∧
  (∀ (s : State) (k : Nat) (x : Int), s.rd CLR_STATUS_ACTIVE_SLOT = 7 ∨ s.refKind (s.rd CLR_STATUS_ACTIVE_SLOT) ≠ k →
    s.measure k x = s) ∧
  (∀ (m : Int) (s : State), s.caller.measured = some m → s.lock = 1 ∨ s.lock = 2 →
    s.caller.stepPending = false ∨ s.isSet CLR_CTRL_STEP_EN = false ∨
      (s.reduceBy (s.rd CLR_STATUS_ACTIVE_SLOT) m).natAbs ≤ s.rd CLR_STEP_THRESH →
    exec .servoUpdate s = .next ((s.filterOffset (s.reduceBy (s.rd CLR_STATUS_ACTIVE_SLOT) m)).steerFreq.lockRules
      (s.filterOffset (s.reduceBy (s.rd CLR_STATUS_ACTIVE_SLOT) m)).caller.filtered)) ∧
  (∀ (m : Int) (s : State), s.caller.measured = some m → s.lock = 1 ∨ s.lock = 2 →
    s.caller.stepPending = true → s.isSet CLR_CTRL_STEP_EN = true →
    s.rd CLR_STEP_THRESH < (s.reduceBy (s.rd CLR_STATUS_ACTIVE_SLOT) m).natAbs →
    exec .servoUpdate s = .next ((s.filterOffset (s.reduceBy (s.rd CLR_STATUS_ACTIVE_SLOT) m)).stepTime
      ((s.tai : Int) - s.reduceBy (s.rd CLR_STATUS_ACTIVE_SLOT) m).toNat)) ∧
  (∀ s : State, s.caller.measured = none → exec .servoUpdate s = .next s) ∧
  (∀ (m : Int) (s : State), s.caller.measured = some m → s.lock = 0 ∨ s.lock = 3 →
    exec .servoUpdate s = .next { s with caller := { s.caller with measured := none } })

/-- 03 R71, R76, R83, R88; 08 R217: SET_TIME, TIME_NS_READ, POS_TICK_READ, PTP_MESSAGE, TIME_MESSAGE_SEND, HOKUTU_TIME_MESSAGE. -/
def Obligations.TimeSetAndRead : Prop :=
  (∀ (n d : Nat) (s : State), s.lock = 0 → n ≤ 999999999 → exec (.setTime n d) s = .next
    (((s.wr CLR_SET_NS n).stepTime (s.rd CLR_SET_SEC * 1000000000 + n + d)).wr CLR_STATUS_TOD_VALID 1)) ∧
  (∀ (n d : Nat) (s : State), s.lock ≠ 0 ∨ 999999999 < n → exec (.setTime n d) s = .next
    ((s.wr CLR_SET_NS n).wr CLR_STATUS_SET_REFUSED 1)) ∧
  (∀ s : State, exec .timeNsRead s = .next { s.wr CLR_TIME_SEC s.caller.sec with reply := { data := s.caller.ns } }) ∧
  (∀ (g : Nat) (s : State), s.gridRuns g = true → exec (.posTickRead g) s = .next
    ((((s.wrAt CLR_GRID_POS_LINE g (s.pos g).line).wrAt CLR_GRID_POS_FIELD g (s.fieldOf g (s.pos g))).wrAt
      CLR_GRID_POS_FRAME g (s.pos g).frame48).answer (s.pos g).tick)) ∧
  (∀ (g : Nat) (s : State), s.gridRuns g = false → exec (.posTickRead g) s = .next (s.answer 0)) ∧
  (∀ (p : Nat) (m : PtpMessage) (s : State), 3 < p ∨ s.isSetAt CLR_PTP_PORT_EN p = false →
    exec (.ptpMessage p m) s = .next s) ∧
  (∀ (p : Nat) (h : PtpHeader) (m : PtpMaster) (s : State), p < 4 → s.isSetAt CLR_PTP_PORT_EN p = true →
    s.ptpTakes p h = true → exec (.ptpMessage p (.announce h m)) s = .next (s.ptpAnnounce p h m)) ∧
  (∀ (p : Nat) (h : PtpHeader) (m : PtpMaster) (s : State), h.logInterval < -3 ∨ 1 < h.logInterval →
    s.ptpAnnounce p h m = s) ∧
  (∀ (p : Nat) (h : PtpHeader) (o c : Int) (x : PtpPort) (s : State), p < 4 → s.isSetAt CLR_PTP_PORT_EN p = true →
    s.ptpTakes p h = true → -7 ≤ h.logInterval → h.logInterval ≤ -1 → SMap.find s.caller.ptp p = some x →
    exec (.ptpMessage p (.sync h false o c)) s = .next (s.ptpOffset p x (o + c) s.tai) ∧
    exec (.ptpMessage p (.sync h true o c)) s = .next (s.setPtp p { x with waiting := some (h.seq, (s.tai : Int) - c) })) ∧
  (∀ (p : Nat) (h : PtpHeader) (o c t : Int) (x : PtpPort) (s : State), p < 4 → s.isSetAt CLR_PTP_PORT_EN p = true →
    s.ptpTakes p h = true → SMap.find s.caller.ptp p = some x → x.waiting = some (h.seq, t) →
    exec (.ptpMessage p (.followUp h o c)) s = .next (s.ptpOffset p x (o + c) t)) ∧
  (∀ (p : Nat) (h : PtpHeader) (m : PtpMessage) (o c : Int) (b : Bool) (s : State),
    s.ptpTakes p h = false → m = .sync h b o c ∨ m = .followUp h o c ∨ (∃ a, m = .announce h a) →
    exec (.ptpMessage p m) s = .next s) ∧
  (∀ s : State, exec .timeMessageSend s = .next ((List.range 80).foldl (fun (x : State) b => x.sendTime b) s)) ∧
  (∀ (s : State) (b : Nat), s.bondUp b = false → s.sendTime b = s) ∧
  (∀ (b l w : Nat) (a : Int) (s : State), b < 16 → s.bondUp b = true → (sideFields w).crcOk = false →
    exec (.hokutuTimeMessage b l w a) s = .next (s.frameMissing b l)) ∧
  (∀ (b l w : Nat) (a : Int) (s : State), b < 16 → s.bondUp b = true → (sideFields w).crcOk = true → l = s.timeLane b →
    16 ≤ (sideFields w).spareCmd → a.natAbs ≤ 4 →
    exec (.hokutuTimeMessage b l w a) s = .next (s.frameGood b (sideFields w))) ∧
  (∀ (b l w : Nat) (a : Int) (s : State), b < 16 → s.bondUp b = true → (sideFields w).crcOk = true → l ≠ s.timeLane b →
    16 ≤ (sideFields w).spareCmd → a.natAbs ≤ 4 → exec (.hokutuTimeMessage b l w a) s = .next s) ∧
  (∀ (b l w : Nat) (a : Int) (s : State), s.bondUp b = false → exec (.hokutuTimeMessage b l w a) s = .next s)

/-- 03 R78, R81, R84 to R87; 08 R205; 18 R479, R485: PULSE_ENABLE, PULSE_OUTPUT_PULSE, ALARM_ARM, ALARM_FIRE, GRID_ENABLE,
GRID_DISABLE, QREFCLK_PRESENCE_CHANGE. -/
def Obligations.PulsesAlarmsGrids : Prop :=
  (∀ (n v : Nat) (s : State), n ≤ 7 → bitOf v 31 = 1 → s.commitClaims n = false →
    (s.pulseFields n v).landClaimed n = false → s.landClaimed n = false →
    exec (.pulseEnable n v) s = .next ((((s.pulseFields n v).claimLand n 2 1).postClaim n 2 true).wrAt CLR_PULSE_EN n 1)) ∧
  (∀ (n v : Nat) (s : State), n ≤ 7 → bitOf v 31 = 1 → s.commitClaims n = false → s.landClaimed n = true →
    s.landOwnedBy n 2 = true → exec (.pulseEnable n v) s = .next ((s.pulseFields n v).wrAt CLR_PULSE_EN n 1)) ∧
  (∀ (n v : Nat) (s : State), n ≤ 7 → bitOf v 31 = 1 →
    s.commitClaims n = true ∨ (s.landClaimed n = true ∧ s.landOwnedBy n 2 = false) →
    exec (.pulseEnable n v) s = .next (((s.pulseFields n v).wrAt CLR_PULSE_EN n 0).resRefuse RES_ERR_PIN_REFUSED 0x90 1 0 n)) ∧
  (∀ (n v : Nat) (s : State), n ≤ 7 → bitOf v 31 = 0 → exec (.pulseEnable n v) s = .next ((s.pulseFields n v).wrAt CLR_PULSE_EN n 0)) ∧
  (∀ (n : Nat) (s : State), n < 8 → s.isSetAt CLR_PULSE_EN n = true → s.landOwnedBy n 2 = true → s.pulseDue n = true →
    exec (.pulseOutputPulse n) s = .next (s.setPulse n { s.pulse n with
      endsAt := s.now + s.pulseLength n, count := (s.pulse n).count + 1, startedAt := some s.now })) ∧
  (∀ (n : Nat) (s : State), s.isSetAt CLR_PULSE_EN n = false ∨ s.landOwnedBy n 2 = false ∨ s.pulseDue n = false →
    exec (.pulseOutputPulse n) s = .next s) ∧
  (∀ (n : Nat) (s : State), s.pulseLength n ≤ 8 * s.rdAt CLR_PULSE_WIDTH n) ∧
  (∀ (a v : Nat) (s : State), a < 24 ∨ a = 25 ∨ a = 26 →
    exec (.alarmArm a v) s = .next (s.resRefuse RES_ERR_ALM_REFUSED 0x93 6 0 a)) ∧
  (∀ (a v : Nat) (s : State), a = 24 ∨ (27 ≤ a ∧ a ≤ 31) → bitOf v 31 = 1 → exec (.alarmArm a v) s = .next
    ((s.alarmFields a v).alarmArm a ((s.alarmFields a v).alarmPast a))) ∧
  (∀ (a v : Nat) (s : State), a = 24 ∨ (27 ≤ a ∧ a ≤ 31) → bitOf v 31 = 0 → exec (.alarmArm a v) s = .next
    ((s.alarmFields a v).wrAt ALM_CTRL_ARM a 0)) ∧
  (∀ (a : Nat) (b : Bool) (s : State), s.alarmBad a = true →
    s.alarmArm a b = (s.wrAt ALM_CTRL_ARM a 0).wrAt ALM_STAT_BAD_TARGET a 1) ∧
  (∀ (a : Nat) (s : State), a < 32 → a ≠ 24 → s.alarmDue a = true → exec (.alarmFire a) s = .next (s.alarmFire a)) ∧
  (∀ s : State, s.alarmDue 24 = true → s.isSet PWR_CTRL_ALARM_WAKE_EN = false → exec (.alarmFire 24) s = .next
    { s.alarmFire 24 with modes := { (s.alarmFire 24).modes with alarmAt := some s.now } }) ∧
  (∀ (a : Nat) (s : State), s.alarmDue a = false → exec (.alarmFire a) s = .next s) ∧
  (∀ (g v : Nat) (s : State), g < 8 → bitOf v 31 = 1 → s.isSetAt CLR_GRID_CTRL_EN g = true →
    exec (.gridEnable g v) s = .next s) ∧
  (∀ (g v k : Nat) (s : State), g < 8 → bitOf v 31 = 1 → s.isSetAt CLR_GRID_CTRL_EN g = false →
    ((s.wrAt CLR_GRID_CTRL_FIELDS g (bitOf v 16)).wrAt CLR_GRID_CTRL_LINES g (bitsOf v 13 0)).gridLimit g = some k →
    exec (.gridEnable g v) s = .next ((((s.wrAt CLR_GRID_CTRL_FIELDS g (bitOf v 16)).wrAt CLR_GRID_CTRL_LINES g
      (bitsOf v 13 0)).wrAt CLR_GRID_STATUS_CFG_ERR g 1).post 0x1008 0x100 2 (g + k * 2 ^ 8))) ∧
  (∀ (g v : Nat) (s : State), g < 8 → bitOf v 31 = 1 → s.isSetAt CLR_GRID_CTRL_EN g = false →
    ((s.wrAt CLR_GRID_CTRL_FIELDS g (bitOf v 16)).wrAt CLR_GRID_CTRL_LINES g (bitsOf v 13 0)).gridLimit g = none →
    exec (.gridEnable g v) s = .next ((s.pllsOn g).foldl (fun (x : State) p => x.pllGridBack p)
      ((((((s.wrAt CLR_GRID_CTRL_FIELDS g (bitOf v 16)).wrAt CLR_GRID_CTRL_LINES g (bitsOf v 13 0)).startGrid g).wrAt
        CLR_GRID_CTRL_EN g 1).wrAt CLR_GRID_STATUS_ACTIVE g 1).wrAt CLR_GRID_STATUS_CFG_ERR g 0))) ∧
  (∀ (g v : Nat) (s : State), g < 8 → bitOf v 31 = 0 → s.isSetAt CLR_GRID_CTRL_EN g = true →
    exec (.gridDisable g v) s = .next ((s.pllsOn g).foldl (fun (x : State) p => x.pllGridLost g p)
      ((List.range 8).foldl (State.endPulse g) ((s.wrAt CLR_GRID_CTRL_EN g 0).wrAt CLR_GRID_STATUS_ACTIVE g 0)))) ∧
  (∀ (g v : Nat) (s : State), g < 8 → bitOf v 31 = 0 → s.isSetAt CLR_GRID_CTRL_EN g = false →
    exec (.gridDisable g v) s = .next
      ((s.wrAt CLR_GRID_CTRL_FIELDS g (bitOf v 16)).wrAt CLR_GRID_CTRL_LINES g (bitsOf v 13 0))) ∧
  (∀ (q k : Nat) (s : State), q < 32 → (k - s.rdAt LNE_Q_REF_KHZ q + (s.rdAt LNE_Q_REF_KHZ q - k)) * 1000000 ≤
      100 * s.rdAt LNE_Q_REF_KHZ q → exec (.qrefclkPresenceChange q k) s = .next (s.wrAt LNE_Q_PRESENT q 1)) ∧
  (∀ (q k : Nat) (s : State), q < 32 → 100 * s.rdAt LNE_Q_REF_KHZ q <
      (k - s.rdAt LNE_Q_REF_KHZ q + (s.rdAt LNE_Q_REF_KHZ q - k)) * 1000000 →
    exec (.qrefclkPresenceChange q k) s = .next (s.wrAt LNE_Q_PRESENT q 0))

/-- 04 R92 to R94, R106: DNC_ENTRY_WORD_STAGE, DNC_ENTRY_COMMIT, DNC_COPY, DNC_COPY_DONE, DNC_ENABLE. -/
def Obligations.DanceBankWrites : Prop :=
  (∀ (a d : Nat) (f : Field) (s : State), s.danceRefuse (danceBankOf a) = some f →
    exec (.dncEntryWordStage a d) s = .next (s.wr f 1) ∧ exec (.dncEntryCommit a 4 d) s = .next (s.wr f 1)) ∧
  (∀ (s : State) (b : Nat), b = s.activeBank → s.danceRefuse b = some DNC_ERR_ACTIVE_WRITE) ∧
  (∀ (s : State) (b : Nat), b ≠ s.activeBank → s.shadowLocked = true → s.danceRefuse b = some DNC_ERR_SHADOW_LOCKED) ∧
  (∀ (a d : Nat) (s : State), s.danceRefuse (danceBankOf a) = none → a % 16 / 4 ≠ 3 → exec (.dncEntryWordStage a d) s = .next
    (s.danceStage (danceBankOf a) (danceEntryOf a) (a % 16 / 4) d)) ∧
  (∀ (a d : Nat) (s : State), s.danceRefuse (danceBankOf a) = none →
    exec (.dncEntryCommit a 4 d) s = .next (s.danceCommit (danceBankOf a) (danceEntryOf a) d)) ∧
  (∀ (a d : Nat) (s : State), s.danceRefuse (danceBankOf a) = none →
    exec (.dncEntryCommit a 8 d) s = .next ((s.danceStage (danceBankOf a) (danceEntryOf a) 2 d).danceCommit (danceBankOf a)
      (danceEntryOf a) (d / 2 ^ 32))) ∧
  (∀ (s : State) (b e j d : Nat), j ≠ e → SMap.read ((s.danceCommit b e d).danceBank b) 0 j = SMap.read (s.danceBank b) 0 j) ∧
  (∀ (s : State) (b e d : Nat), SMap.read ((s.danceCommit b e d).danceBank b) 0 e =
    s.commitWord b e 0 + s.commitWord b e 1 * 2 ^ 32 + s.commitWord b e 2 * 2 ^ 64 + d % 2 ^ 32 * 2 ^ 96) ∧
  (∀ s : State, s.shadowLocked = false → exec .dncCopy s = .next (State.wr { s with dance := { s.dance with
    copyFrom := some (s.now, s.activeBank), staged := none, stagedWords := [] } } DNC_STATUS_COPY_BUSY 1)) ∧
  (∀ s : State, s.shadowLocked = true → exec .dncCopy s = .next s) ∧
  (∀ (s : State) (n b : Nat), s.dance.copyFrom = some (n, b) → n + 32768 ≤ s.now → exec .dncCopyDone s = .next
    ((State.setDanceBank { s with dance := { s.dance with copyFrom := none } } (1 - b) (s.danceBank b)).wr DNC_STATUS_COPY_BUSY 0)) ∧
  (∀ (s : State) (n b : Nat), s.dance.copyFrom = some (n, b) → s.now < n + 32768 → exec .dncCopyDone s = .next s) ∧
  (∀ (s : State) (n b c : Nat), s.dance.copyFrom = some (n, b) → c ≠ b → s.bankView c =
    ((s.danceBank b).filter fun (e : Nat × Nat) => decide (e.1 < 2 * (s.now - n))) ++
      (s.danceBank c).filter fun (e : Nat × Nat) => decide (2 * (s.now - n) ≤ e.1)) ∧
  (∀ (s : State) (c : Nat), s.dance.copyFrom = none → s.bankView c = s.danceBank c) ∧
  (∀ (v : Nat) (s : State), s.isSet DNC_CTRL_EN = false ∨ bitOf v 0 = 1 →
    exec (.dncEnable v) s = .next ((s.wr DNC_CTRL_EN (bitOf v 0)).wr DNC_CTRL_LOG_EN (bitOf v 8))) ∧
  (∀ (v : Nat) (s : State), s.isSet DNC_CTRL_EN = true → bitOf v 0 = 0 →
    exec (.dncEnable v) s = .next ((s.wr DNC_CTRL_EN 0).wr DNC_CTRL_LOG_EN (bitOf v 8)).danceDrop)

/-- 04 R101 to R107: DNC_SWAP_ARM, DNC_SWAP_CHECK_DONE, DNC_SWAP_CANCEL, DNC_BANK_SWAP, DNC_ENTRY_DUE. -/
def Obligations.DanceSwap : Prop :=
  (∀ (v : Nat) (s : State), bitOf v 1 = 0 → bitOf v 0 = 1 → s.rd DNC_SWAP_STAT_STATE ≠ 1 → s.rd DNC_SWAP_STAT_STATE ≠ 2 →
    exec (.dncSwapArm v) s = .next (((s.swapFields v).wr DNC_SWAP_STAT_STATE 1).wr DNC_SWAP_CTRL_ARM 1)) ∧
  (∀ (v : Nat) (s : State), bitOf v 1 = 1 → exec (.dncSwapArm v) s = .next (s.swapFields v).swapCancel) ∧
  (∀ (v : Nat) (s : State), bitOf v 1 = 0 →
    bitOf v 0 = 0 ∨ s.rd DNC_SWAP_STAT_STATE = 1 ∨ s.rd DNC_SWAP_STAT_STATE = 2 →
    exec (.dncSwapArm v) s = .next (s.swapFields v)) ∧
  (∀ s : State, s.rd DNC_SWAP_STAT_STATE = 1 → s.swapBad = true → exec .dncSwapCheckDone s = .next (s.swapRefuse 0xFFFF 8)) ∧
  (∀ (s : State) (e c : Nat), s.rd DNC_SWAP_STAT_STATE = 1 → s.swapBad = false →
    s.bankError (s.bankView (1 - s.activeBank)) = some (e, c) → exec .dncSwapCheckDone s = .next (s.swapRefuse e c)) ∧
  (∀ s : State, s.rd DNC_SWAP_STAT_STATE = 1 → s.swapBad = false → s.bankError (s.bankView (1 - s.activeBank)) = none →
    s.swapPast = true → exec .dncSwapCheckDone s = .next (s.swapRefuse 0xFFFF 7)) ∧
  (∀ s : State, s.rd DNC_SWAP_STAT_STATE = 1 → s.swapBad = false → s.bankError (s.bankView (1 - s.activeBank)) = none →
    s.swapPast = false → exec .dncSwapCheckDone s = .next
      { s.wr DNC_SWAP_STAT_STATE 2 with dance := { s.dance with swapPassed := false } }) ∧
  (∀ s : State, s.rd DNC_SWAP_STAT_STATE = 1 ∨ s.rd DNC_SWAP_STAT_STATE = 2 →
    exec .dncSwapCancel s = .next (s.swapRefuse 0xFFFF 9)) ∧
  (∀ s : State, s.rd DNC_SWAP_STAT_STATE ≠ 1 → s.rd DNC_SWAP_STAT_STATE ≠ 2 → exec .dncSwapCancel s = .next s) ∧
  (∀ (s : State) (e c : Nat), (s.swapRefuse e c).rd DNC_SWAP_STAT_STATE = 3 ∧
    (s.swapRefuse e c).rd DNC_SWAP_STAT_ERR_ENTRY = e % 2 ^ DNC_SWAP_STAT_ERR_ENTRY.width ∧
    (s.swapRefuse e c).rd DNC_SWAP_STAT_ERR_CODE = c % 2 ^ DNC_SWAP_STAT_ERR_CODE.width) ∧
  (∀ s : State, s.swapDue = true → exec .dncBankSwap s = .next
    ((((((State.wr { s with dance := { s.dance with
        fired := [], swapPassed := false, dueDone := none
        queue := s.dance.queue.filter fun (q : QueuedAction) => q.dueAt != s.now } }
      DNC_STATUS_ACTIVE_BANK (1 - s.activeBank)).wr DNC_SWAP_STAT_STATE 0).wr DNC_SWAP_CTRL_ARM 0).wr DNC_SWAP_MONO
      s.now).wr DNC_VALID_CNT (validEntries (s.bankView (1 - s.activeBank)))).post 0x2002 0x200 1
      (1 - s.activeBank + validEntries (s.bankView (1 - s.activeBank)) * 2 ^ 15))) ∧
  (∀ s : State, s.swapDue = false → exec .dncBankSwap s = .next s) ∧
  (∀ s : State, s.danceRunning = true → s.dance.dueDone ≠ some s.now → ∃ t, exec .dncEntryDue s = .next t ∧
    t.dance.queue = s.dance.queue ++ s.enqueue (s.executedNow + s.dance.queue.length)
      ((s.bankView s.activeBank).filter fun e => s.entryDue e.1 e.2) ∧ t.dance.dueDone = some s.now ∧ t.regs = s.regs) ∧
  (∀ s : State, s.danceRunning = false ∨ s.dance.dueDone = some s.now → exec .dncEntryDue s = .next s)

/-- 04 R97 to R114: the twelve actions that act on the engine, regions, flows, lands and comparators, DNC_LOG_WRITE, GPIO_PULSE_END. -/
def Obligations.DanceActions : Prop :=
  (∀ (s : State) (q : QueuedAction), s.nextAction 0x01 = some q → exec .dncTurn s = .next ((s.actionTaken q).requestAll
    (bitsOf (entryOperand q.word) 15 0) {
      kind := 0, context := bitsOf (entryOperand q.word) 17 16, reset := bitOf (entryOperand q.word) 18 == 1,
      issued := (s.actionTaken q).now, dance := true })) ∧
  (∀ (s : State) (q : QueuedAction), s.nextAction 0x02 = some q → exec .dncPark s = .next ((s.actionTaken q).requestAll
    (bitsOf (entryOperand q.word) 15 0) { kind := 1, issued := (s.actionTaken q).now, dance := true })) ∧
  (∀ (s : State) (q : QueuedAction), s.nextAction 0x03 = some q → exec .dncUnpark s = .next ((s.actionTaken q).requestAll
    (bitsOf (entryOperand q.word) 15 0) { kind := 2, issued := (s.actionTaken q).now, dance := true })) ∧
  (∀ (s : State) (q : QueuedAction), s.nextAction 0x04 = some q →
    (s.actionTaken q).captureRefusal ((s.actionTaken q).rd CTX_CAP_CFG_CLK) = none → exec .dncCapture s = .next
      ((s.actionTaken q).captureArm {
        mask := (s.actionTaken q).rd CTX_CAP_CFG_MASK, clock := (s.actionTaken q).rd CTX_CAP_CFG_CLK,
        halt := bitOf (entryOperand q.word) 0 == 1, issued := (s.actionTaken q).now })) ∧
  (∀ (s : State) (q : QueuedAction) (k : Nat), s.nextAction 0x04 = some q →
    (s.actionTaken q).captureRefusal ((s.actionTaken q).rd CTX_CAP_CFG_CLK) = some k →
    exec .dncCapture s = .next ((s.actionTaken q).captureRefused k)) ∧
  (∀ (s : State) (q : QueuedAction), s.nextAction 0x05 = some q → exec .dncWindow s = .next
    (if (s.actionTaken q).enabledIngress q.flow then (s.actionTaken q).openWindow q.flow else (s.actionTaken q).actionFailed q 1)) ∧
  (∀ (s : State) (q : QueuedAction), s.nextAction 0x06 = some q → exec .dncDeadline s = .next
    (if (s.actionTaken q).enabledIngress q.flow then (s.actionTaken q).closeWindow q.flow else (s.actionTaken q).actionFailed q 1)) ∧
  (∀ (s : State) (q : QueuedAction), s.nextAction 0x07 = some q → (s.actionTaken q).enabledEgress q.flow = true →
    exec .dncRelease s = .next ((s.actionTaken q).setFlowRun q.flow { (s.actionTaken q).flowRun q.flow with
      gateOpen := true
      gateLeft := (s.actionTaken q).flowWinSegs q.flow
      gateUnlimited := (s.actionTaken q).flowWinSegs q.flow == 0
      gateAt := (s.actionTaken q).tai
      sentSegs := 0 })) ∧
  (∀ (s : State) (q : QueuedAction), s.nextAction 0x07 = some q → (s.actionTaken q).enabledEgress q.flow = false →
    exec .dncRelease s = .next ((s.actionTaken q).actionFailed q 2)) ∧
  (∀ (s : State) (q : QueuedAction), s.nextAction 0x08 = some q → exec .dncGpioSet s = .next
    (if (s.actionTaken q).landOwnedBy q.land 1 then (s.actionTaken q).danceDrive q.land true else (s.actionTaken q).actionFailed q 3)) ∧
  (∀ (s : State) (q : QueuedAction), s.nextAction 0x09 = some q → exec .dncGpioClear s = .next
    (if (s.actionTaken q).landOwnedBy q.land 1 then (s.actionTaken q).danceDrive q.land false else (s.actionTaken q).actionFailed q 3)) ∧
  (∀ (s : State) (q : QueuedAction), s.nextAction 0x0A = some q → (s.actionTaken q).landOwnedBy q.land 1 = true →
    let low := bitOf (entryOperand q.word) 8 == 1
    let x := (s.actionTaken q).danceDrive q.land !low
    exec .dncGpioPulse s = .next { x with dance := { x.dance with
      pulses := SMap.put x.dance.pulses q.land { endsAt := x.now + 8 * bitsOf (entryOperand q.word) 31 16, after := low } } }) ∧
  (∀ (s : State) (q : QueuedAction), s.nextAction 0x0A = some q → (s.actionTaken q).landOwnedBy q.land 1 = false →
    exec .dncGpioPulse s = .next ((s.actionTaken q).actionFailed q 3)) ∧
  (∀ (s : State) (q : QueuedAction), s.nextAction 0x0B = some q → exec .dncEvent s = .next ((s.actionTaken q).post 0x2001 0x200
    (bitsOf (entryOperand q.word) 35 32) (bitsOf (entryOperand q.word) 31 0))) ∧
  (∀ (s : State) (q : QueuedAction), s.nextAction 0x0C = some q →
    let a := bitsOf (entryOperand q.word) 4 0
    let x := (s.actionTaken q).fireDue a
    let t := x.tai + bitsOf (entryOperand q.word) 63 32
    exec .dncAlarm s = .next (State.alarmArm (((((x.wrAt ALM_CTRL_MODE a 1).wrAt ALM_CTRL_REPEAT a 0).wrAt ALM_CTRL_EVENT a
      (bitOf (entryOperand q.word) 5)).wrAt ALM_TGT_HI a (t / 1000000000)).wrAt ALM_TGT_LO a (t % 1000000000)) a false)) ∧
  (∀ (s : State) (q : QueuedAction), s.nextAction 0x0D = some q → exec .dncFence s = .next (s.actionTaken q)) ∧
  (∀ (s : State) (code : Nat) (body : QueuedAction → State → State), s.nextAction code = none → s.runAction code body = s) ∧
  (∀ (s : State) (code : Nat), 4 ≤ s.executedNow → s.nextAction code = none) ∧
  (∀ (s : State) (r : Nat) (rest : List Nat), s.dance.logBuffer = r :: rest → exec .dncLogWrite s = .next
    ((State.spadPut { s with dance := { s.dance with logBuffer := rest } } (0xC000 + s.rd DNC_LOG_WR)
      { data := r, poison := false }).wr DNC_LOG_WR ((s.rd DNC_LOG_WR + 1) % 8192))) ∧
  (∀ (l : Nat) (p : GpioPulse) (s : State), SMap.find s.dance.pulses l = some p → p.endsAt ≤ s.now →
    exec (.gpioPulseEnd l) s = .next (s.danceDrive l p.after)) ∧
  (∀ (l : Nat) (p : GpioPulse) (s : State), SMap.find s.dance.pulses l = some p → s.now < p.endsAt →
    exec (.gpioPulseEnd l) s = .next s)

/-- 05 R118 to R129: STORE_WRITE, STORE_READ, STORE_CORRECTED_WRITEBACK, and the law of the store's memory. -/
def Obligations.StoreReadsWhatWasWritten : Prop :=
  (∀ (s : State) (a b : Nat) (w : StoreWord), (s.storePut a w).storeWord a = w ∧
    (b ≠ a → (s.storePut a w).storeWord b = s.storeWord b)) ∧
  (∀ (r : Requester) (n a d : Nat) (p : Bool) (s : State), s.accessRefusal r a = none → inStore a = true →
    s.storeServes a = true → s.store.waiting = [] → SMap.find s.store.served (unitCode (inFar a) (s.unitAt a)) ≠ some s.now →
    exec (.storeWrite r n a d p) s = .next ((State.storePut { s with store := { s.store with
      waiting := [], served := SMap.put s.store.served (unitCode (inFar a) (s.unitAt a)) s.now } } a
      { data := d % 2 ^ 72, poison := p }).wordWritten a)) ∧
  (∀ (r : Requester) (n a : Nat) (x : Syndrome) (s : State), s.accessRefusal r a = none → inStore a = true →
    s.storeServes a = true → s.store.waiting = [] → SMap.find s.store.served (unitCode (inFar a) (s.unitAt a)) ≠ some s.now →
    exec (.storeRead r n a x) s = .next (State.serveAccess { s with store := { s.store with
      waiting := [], served := SMap.put s.store.served (unitCode (inFar a) (s.unitAt a)) s.now } }
      { requester := r, number := n, addr := a, found := x, arrived := s.now })) ∧
  (∀ (x : StoreAccess) (s : State), x.write = none → x.found = .zero → (s.storeWord x.addr).poison = false →
    s.serveAccess x = { s with reply := { data := (s.storeWord x.addr).data, poison := false } }) ∧
  (∀ (x : StoreAccess) (s : State), x.write = none → (s.storeWord x.addr).poison = true →
    s.serveAccess x = { s.incSat STR_POISON_DLV_CNT with reply := { data := (s.storeWord x.addr).data, poison := true } }) ∧
  (∀ (r : Requester) (n a d : Nat) (p : Bool) (s : State), s.accessRefusal r a = none → inStore a = true →
    SMap.find s.store.served (unitCode (inFar a) (s.unitAt a)) = some s.now →
    exec (.storeWrite r n a d p) s = .next { s with store := { s.store with waiting := s.store.waiting ++
      [{ requester := r, number := n, addr := a, write := some { data := d % 2 ^ 72, poison := p }, arrived := s.now }] } }) ∧
  (∀ (r : Requester) (n a d k : Nat) (p : Bool) (s : State), s.accessRefusal r a = some k →
    exec (.storeWrite r n a d p) s = .next (s.addrRefuse a k)) ∧
  (∀ (r : Requester) (n a k : Nat) (x : Syndrome) (s : State), s.accessRefusal r a = some k →
    exec (.storeRead r n a x) s = .next { (s.addrRefuse a k).took with reply := { data := s.free 72, poison := true } }) ∧
  (∀ (r : Requester) (a : Nat) (s : State), ownPath r = true → s.accessRefusal r a = none) ∧
  (∀ (r : Requester) (a : Nat) (s : State), ownPath r = false → fixedPartition a = true → s.accessRefusal r a = some 1) ∧
  (∀ (r : Requester) (a : Nat) (s : State), r = .flow ∨ r = .design → fixedPartition a = false → s.inValidBuffer a = false →
    s.accessRefusal r a = some 2) ∧
  (∀ s : State, exec .storeCorrectedWriteback s = .next { s with store := { s.store with writebacks := s.store.writebacks.tail } })

/-- 05 R126 to R142, R542; 18 R483: PATROL_READ, PATROL_PERIOD_ELAPSED, BUFFER_DEFINE, BUFFER_REMOVE, BUFFER_EFFECTIVE,
STORE_INIT_DONE, RELOCATION_DONE. -/
def Obligations.PatrolBuffersRelocation : Prop :=
  (∀ (x : Syndrome) (s : State), s.isSet STR_CTRL_PATROL_EN = true → s.storeServes (s.rd STR_PATROL_NEAR_POS) = true →
    s.rd STR_PATROL_NEAR_POS + 1 - 0x4000_0000 < 0x80_0000 → exec (.patrolRead false x) s = .next
      ((((s.storeSense (s.rd STR_PATROL_NEAR_POS) x).2.wr STR_PATROL_NEAR_POS (s.rd STR_PATROL_NEAR_POS + 1)).patrolPace false
        (s.rd STR_PATROL_NEAR_POS + 1 - 0x4000_0000)))) ∧
  (∀ (x : Syndrome) (s : State), s.isSet STR_CTRL_PATROL_EN = true → s.storeServes (s.rd STR_PATROL_FAR_POS) = true →
    s.rd STR_PATROL_FAR_POS + 1 ≥ 0x2000_0000 → exec (.patrolRead true x) s = .next
      (((s.storeSense (s.rd STR_PATROL_FAR_POS) x).2.wr STR_PATROL_FAR_POS 0).patrolPass true)) ∧
  (∀ (far : Bool) (x : Syndrome) (s : State), s.isSet STR_CTRL_PATROL_EN = false → exec (.patrolRead far x) s = .next s) ∧
  (∀ (far : Bool) (s : State), s.isSet STR_CTRL_PATROL_EN = false → (s.patrol far).passStart + s.patrolPeriod far ≤ s.now →
    exec (.patrolPeriodElapsed far) s = .next ((s.incSat STR_PATROL_LATE_CNT).setPatrol far { s.patrol far with passStart := s.now })) ∧
  (∀ (far : Bool) (s : State), s.isSet STR_CTRL_PATROL_EN = true ∨ s.now < (s.patrol far).passStart + s.patrolPeriod far →
    exec (.patrolPeriodElapsed far) s = .next s) ∧
  (∀ (b v : Nat) (s : State), b < 256 → bitOf v 31 = 1 → s.rdBit CFG_CLAIM_BUF b = false → s.bufHolds b = false →
    ((s.wrAt STR_BUF_LEN b (v % 2 ^ 26)).wrAt STR_BUF_RELOCATED b 0).bufRefusal b = none →
    ((s.wrAt STR_BUF_LEN b (v % 2 ^ 26)).wrAt STR_BUF_RELOCATED b 0).slotsInBuffer b = [] → exec (.bufferDefine b v) s = .next
      (((s.wrAt STR_BUF_LEN b (v % 2 ^ 26)).wrAt STR_BUF_RELOCATED b 0).bufEffect b)) ∧
  (∀ (b v : Nat) (s : State), b < 256 → bitOf v 31 = 1 → s.rdBit CFG_CLAIM_BUF b = false → s.bufHolds b = false →
    ((s.wrAt STR_BUF_LEN b (v % 2 ^ 26)).wrAt STR_BUF_RELOCATED b 0).bufRefusal b = none →
    ((s.wrAt STR_BUF_LEN b (v % 2 ^ 26)).wrAt STR_BUF_RELOCATED b 0).slotsInBuffer b ≠ [] →
    let x := (s.wrAt STR_BUF_LEN b (v % 2 ^ 26)).wrAt STR_BUF_RELOCATED b 0
    exec (.bufferDefine b v) s = .next { x with store := { x.store with bufPending := x.store.bufPending ++ [b] } }) ∧
  (∀ (b v n : Nat) (s : State), b < 256 → bitOf v 31 = 1 → s.rdBit CFG_CLAIM_BUF b = false → s.bufHolds b = false →
    ((s.wrAt STR_BUF_LEN b (v % 2 ^ 26)).wrAt STR_BUF_RELOCATED b 0).bufRefusal b = some n → exec (.bufferDefine b v) s = .next
      ((((s.wrAt STR_BUF_LEN b (v % 2 ^ 26)).wrAt STR_BUF_RELOCATED b 0).wr STR_ERR_BUF_REFUSED 1).wr STR_BUF_ERR n)) ∧
  (∀ (b : Nat) (s : State), (s.bufEffect b).rdAt STR_BUF_VALID b = 1) ∧
  (∀ (b : Nat) (s : State), s.lostUnits (inFar (s.bufFirst b)) = 0 →
    s.bufEffect b = (s.relocateSlots (inFar (s.bufFirst b)) [] {}).wrAt STR_BUF_VALID b 1) ∧
  (∀ (b v : Nat) (s : State), b < 256 → bitOf v 31 = 0 → s.rdBit CFG_CLAIM_BUF b = false → exec (.bufferRemove b v) s = .next
    (s.bufRemove b (v % 2 ^ 26)) ∧ (s.bufRemove b (v % 2 ^ 26)).rdAt STR_BUF_VALID b = 0) ∧
  (∀ (b v : Nat) (s : State), b < 256 → bitOf v 31 = 0 → s.rdBit CFG_CLAIM_BUF b = true →
    exec (.bufferRemove b v) s = .next (s.resRefuse RES_ERR_BUF_REFUSED 0x94 5 0 b)) ∧
  (∀ (b : Nat) (f : Found) (s : State), b ∈ s.store.bufPending →
    let x := s.rehome (inFar (s.bufFirst b)) (s.slotsInBuffer b) f
    exec (.bufferEffective b f) s = .next
      (State.bufEffect { x with store := { x.store with bufPending := x.store.bufPending.filter (· != b) } } b)) ∧
  (∀ (b : Nat) (f : Found) (s : State), b ∉ s.store.bufPending → exec (.bufferEffective b f) s = .next s) ∧
  (∀ s : State, s.isSet GLB_LANDS_PWR_GOOD = true → s.isSet STR_STATUS_NEAR_INIT = false → exec (.storeInitDone false) s = .next
    ((s.wr STR_STATUS_NEAR_INIT 1).setPatrol false { passStart := s.now })) ∧
  (∀ s : State, s.isSet GLB_LANDS_PWR_GOOD = true → s.isSet STR_STATUS_FAR_INIT = false → exec (.storeInitDone true) s = .next
    ((s.wr STR_STATUS_FAR_INIT 1).setPatrol true { passStart := s.now }).logFlush) ∧
  (∀ (far : Bool) (s : State), s.isSet GLB_LANDS_PWR_GOOD = false → exec (.storeInitDone far) s = .next s) ∧
  (∀ (far : Bool) (u : Nat) (f : Found) (s : State), (far, u) ∉ s.store.relocating → exec (.relocationDone far u f) s = .next s) ∧
  (∀ (u : Nat) (f : Found) (s : State), (true, u) ∈ s.store.relocating → s.relocationShort true u = 0 →
    let x := s.relocateSlots true (s.boundSlots true u) f
    let y := (List.range 256).foldl (State.markRelocated true u)
      (x.rehome true ((x.usedSlots true).filter fun a => unitOf a == u) f)
    let z := { y with store := { y.store with relocating := y.store.relocating.filter fun (r : Bool × Nat) => r != (true, u) } }
    exec (.relocationDone true u f) s = .next (((((z.wrBit STR_FAR_LIVE u false).wr STR_STATUS_FAR_LIVE_CNT
      (z.rd STR_STATUS_FAR_LIVE_CNT - 1)).wrAt STR_PART_WORDS 3 (z.rdAt STR_PART_WORDS 3 - 16777216)).post 0x3005 0x300 3
      (u + 2 ^ 31)).startRecheck 2 0))

/-- 06 R153, R154, R165, R169 to R172: ADMIT, ADMISSION_CHECK_DONE, WITHDRAW, WITHDRAW_DONE, CONTRACT_QUERY. -/
def Obligations.AdmissionCommands : Prop :=
  (∀ (id : Nat) (r : List Nat) (s : State), s.Takes id 0x3001 r → s.running = false →
    exec (.admitFlow id) s = .next (s.complete id ⟨0x04, 0, 0⟩)) ∧
  (∀ (id b : Nat) (r : List Nat) (s : State), s.Takes id 0x3001 r → s.running = true → admitBadParam r = some b →
    exec (.admitFlow id) s = .next (s.complete id ⟨0x03, b, 0⟩)) ∧
  (∀ (id : Nat) (r : List Nat) (s : State), s.Takes id 0x3001 r → s.running = true → admitBadParam r = none →
    exec (.admitFlow id) s = .next (State.begin { s with adm := { s.adm with requests := s.adm.requests ++
      [{ id := id, flow := recField r 8 2 % 2 ^ 14, contract := askedContract r,
         trial := bitOf (recField r 10 2) 9 == 1 }] } } id)) ∧
  (∀ r : List Nat, admitBadParam r = none ↔ bitsOf (recField r 10 2) 5 4 ≠ 3 ∧ 1 ≤ recField r 12 4 ∧
    recField r 12 4 ≤ 16777215 ∧ 1000 ≤ recField r 16 4 ∧ 1 ≤ recField r 20 4 ∧ recField r 20 4 ≤ 196608) ∧
  (∀ r : List Nat, bitsOf (recField r 10 2) 5 4 = 3 → admitBadParam r = some 10) ∧
  (∀ (q : AdmitRequest) (rest : List AdmitRequest) (s : State), s.adm.requests = q :: rest → s.adm.rechecks = [] →
    s.mode = modeHalted ∨ s.mode = modePromenade → exec .admissionCheckDone s = .next
      (State.complete { s with adm := { s.adm with requests := rest } } q.id ⟨0x04, 0, 0⟩)) ∧
  (∀ (q : AdmitRequest) (rest : List AdmitRequest) (x : AdmitFailure) (s : State), s.adm.requests = q :: rest →
    s.adm.rechecks = [] → s.mode ≠ modeHalted → s.mode ≠ modePromenade →
    s.admitCheck q.flow (s.charged q.flow q.contract) = some x → exec .admissionCheckDone s = .next
      (State.admitRefused { s with adm := { s.adm with requests := rest } } q x)) ∧
  (∀ (q : AdmitRequest) (rest : List AdmitRequest) (s : State), s.adm.requests = q :: rest → s.adm.rechecks = [] →
    s.mode ≠ modeHalted → s.mode ≠ modePromenade →
    s.admitCheck q.flow (s.charged q.flow q.contract) = none → exec .admissionCheckDone s = .next
      (State.admitted { s with adm := { s.adm with requests := rest } } q (s.charged q.flow q.contract))) ∧
  (∀ (q : AdmitRequest) (x : AdmitFailure) (s : State), q.trial = false → s.admitRefused q x =
    (((((s.wr ADM_LAST_REFUSAL_STATUS x.status).wr ADM_LAST_REFUSAL_KIND x.kind).wr ADM_LAST_REFUSAL_FLOW q.flow).wr
      ADM_LAST_INSTANCE x.inst).incSat ADM_REFUSE_CNT).complete q.id
      ⟨x.status, x.kind * 2 ^ 28 + x.inst, x.point + sat32 x.short * 2 ^ 32⟩) ∧
  (∀ (q : AdmitRequest) (c : Contract) (s : State), q.trial = true →
    s.admitted q c = s.complete q.id ⟨0, 0, sat32 c.slots + quotaSum s.adm.contracts % 2 ^ 18 * 2 ^ 32⟩) ∧
  (∀ (f : Nat) (c : Contract) (s : State), (s.contractTakes f c).contract f = some c ∧
    (s.contractTakes f c).ticketContract f = s.ticketContract f) ∧
  (∀ s : State, s.adm.requests = [] ∨ s.adm.rechecks ≠ [] → exec .admissionCheckDone s = .next s) ∧
  (∀ (id : Nat) (r : List Nat) (s : State), s.Takes id 0x3002 r → recField r 8 2 ≤ 16383 → s.contract (recField r 8 2) = none →
    exec (.withdraw id) s = .next (s.complete id ⟨0x49, 0, 0⟩)) ∧
  (∀ (id : Nat) (r : List Nat) (c : Contract) (s : State), s.Takes id 0x3002 r → recField r 8 2 ≤ 16383 →
    s.contract (recField r 8 2) = some c → c.state ≠ .demoted → exec (.withdraw id) s = .next
      ((s.setContract (recField r 8 2) { c with state := .withdrawing, withdrawIds := c.withdrawIds ++ [id] }).begin id)) ∧
  (∀ (f : Nat) (c : Contract) (s : State), s.contract f = some c → c.state = .withdrawing → s.heldTickets f = 0 →
    exec (.withdrawDone f) s = .next (c.withdrawIds.foldl (fun (x : State) i => x.complete i .ok)
      { s with adm := { s.adm with contracts := SMap.erase s.adm.contracts f } })) ∧
  (∀ (f : Nat) (s : State), s.contract f = none → exec (.withdrawDone f) s = .next s) ∧
  (∀ (id : Nat) (r : List Nat) (c : Contract) (s : State), s.Takes id 0x3003 r → recField r 8 2 ≤ 16383 →
    s.contract (recField r 8 2) = some c → exec (.contractQuery id) s = .next (s.complete id
      ⟨0, contractCode c.state + min c.discarded (2 ^ 16 - 1) * 2 ^ 16, min c.late 0xFFFFFFFF +
        (s.adm.tickets.filter fun e => e.2.flow == recField r 8 2).length * 2 ^ 32⟩)) ∧
  (∀ (id : Nat) (r : List Nat) (s : State), s.Takes id 0x3003 r → recField r 8 2 ≤ 16383 → s.contract (recField r 8 2) = none →
    exec (.contractQuery id) s = .next (s.complete id
      ⟨0, 0, (s.adm.tickets.filter fun e => e.2.flow == recField r 8 2).length * 2 ^ 32⟩))

/-- 06 R147, R158, R159, R165; 05 R121: TICKET_CREATE, TICKET_DELIVERED, TICKET_DEADLINE, RECHECK_DONE. -/
def Obligations.TicketsAndRechecks : Prop :=
  (∀ (f n : Nat) (s : State), s.flowEn f = true → 0 < n → exec (.ticketCreate f n) s = .next (s.createTicket {
    flow := f, contracted := false, created := s.now, deadline := s.now, words := n, slots := [], far := s.flowFar f,
    unwritten := List.range n }).2) ∧
  (∀ (t : Ticket) (c : Contract) (s : State), s.mode ≠ modePromenade → s.ticketContract t.flow = some c → c.state = .admitted →
    s.heldTickets t.flow < c.quota → s.carriedNow c < c.rate → s.heldSlots t.flow + ceilDiv t.words 8 ≤ c.slots →
    s.createTicket t = (s.countCarried t.flow { c with
      period := s.periodNow c.grid c.unit, carried := s.carriedNow c + t.words }).enterTicket
        { t with contracted := true, deadline := t.deadline + c.deadline }) ∧
  (∀ (t : Ticket) (c : Contract) (s : State), s.mode ≠ modePromenade → s.ticketContract t.flow = some c → c.state = .admitted →
    c.quota ≤ s.heldTickets t.flow → s.createTicket t = (.stalled, s.stall t.flow)) ∧
  (∀ (f n : Nat) (s : State), s.flowEn f = false ∨ n = 0 → exec (.ticketCreate f n) s = .next s) ∧
  (∀ (i : Nat) (t : Ticket) (s : State), SMap.find s.adm.tickets i = some t → t.closed = true →
    exec (.ticketDelivered i) s = .next (s.deliverTicket i).drainFlows) ∧
  (∀ (i : Nat) (t : Ticket) (s : State), SMap.find s.adm.tickets i = some t → s.now < t.deadline →
    s.deliverTicket i = (s.keepHold t).releaseTicket i) ∧
  (∀ (i : Nat) (t : Ticket) (s : State), SMap.find s.adm.tickets i = some t → t.closed = false →
    exec (.ticketDelivered i) s = .next s) ∧
  (∀ (i : Nat) (t : Ticket) (c : Contract) (s : State), SMap.find s.adm.tickets i = some t → s.contract t.flow = some c →
    c.discardLate = true → t.handed = 0 → t.deadline < s.now →
    exec (.ticketDeadline i) s = .next (s.discardLate i t).drainFlows) ∧
  (∀ (i : Nat) (t : Ticket) (c : Contract) (s : State), SMap.find s.adm.tickets i = some t → s.contract t.flow = some c →
    c.discardLate = false ∨ t.handed ≠ 0 ∨ s.now ≤ t.deadline → exec (.ticketDeadline i) s = .next s) ∧
  (∀ (r : Recheck) (rest : List Recheck) (s : State), s.adm.rechecks = r :: rest →
    let flows := s.recheckFlows r
    let failed := s.addBack (s.adm.contracts.filter fun e => !flows.contains e.1) flows
    let s1 := failed.foldl (fun (x : State) (p : Nat × Nat) => x.demote p.1 p.2) s
    exec .recheckDone s = .next (((State.incSat { s1 with adm := { s1.adm with rechecks := rest } } ADM_RECHECK_CNT).post
      0x3014 0x310 1 (satN 16 flows.length + satN 16 failed.length * 2 ^ 16)).beginRecheck)) ∧
  (∀ s : State, s.adm.rechecks = [] → exec .recheckDone s = .next s)

/-- 07 R176, R179, R180, R191, R199, R201, R202: FLOW_TABLE_WRITE, PAIR_RECORD_WRITE, FLOW_ENABLE, FLOW_DISABLE, FLOW_DISABLE_DONE,
FLOW_STATS, INJECT. -/
def Obligations.FlowCommands : Prop :=
  (∀ (f n v : Nat) (s : State), f < 16384 → 1 ≤ n → n < 16 → s.flowEn f = false →
    exec (.flowTableWrite (0xC00000 + 64 * f + 4 * n) v) s = .next (s.setFlowWord f n v)) ∧
  (∀ (f v : Nat) (s : State), f < 16384 → s.flowEn f = false →
    exec (.flowTableWrite (0xC00000 + 64 * f) v) s = .next (s.setFlowWord f 0 (v % 2 ^ 31))) ∧
  (∀ (f n v : Nat) (s : State), f < 16384 → n < 16 → s.flowEn f = true →
    exec (.flowTableWrite (0xC00000 + 64 * f + 4 * n) v) s = .next (s.wr FLW_ERR_ENTRY_LOCKED 1)) ∧
  (∀ (p n v : Nat) (s : State), p < 256 → n < 16 → s.isSetAt FLW_PAIR_VALID p = false →
    exec (.pairRecordWrite (0x390000 + 64 * p + 4 * n) v) s = .next (s.pairWord p n v)) ∧
  (∀ (p n v : Nat) (s : State), p < 256 → n < 16 → s.isSetAt FLW_PAIR_VALID p = true → s.flowEn (s.rdAt FLW_PAIR_FLOW p) = true →
    s.flowPair (s.rdAt FLW_PAIR_FLOW p) = true →
    exec (.pairRecordWrite (0x390000 + 64 * p + 4 * n) v) s = .next (s.wr FLW_ERR_PAIR_LOCKED 1)) ∧
  (∀ (id : Nat) (r : List Nat) (s : State), s.Takes id 0x4001 r → 16383 < recField r 8 2 →
    exec (.flowEnable id) s = .next (s.complete id ⟨0x03, 8, 0⟩)) ∧
  (∀ (id x : Nat) (r : List Nat) (s : State), s.Takes id 0x4001 r → recField r 8 2 ≤ 16383 →
    s.flowRefusal (recField r 8 2) = some x → exec (.flowEnable id) s = .next (s.complete id ⟨x, 0, 0⟩)) ∧
  (∀ (id : Nat) (r : List Nat) (s : State), s.Takes id 0x4001 r → recField r 8 2 ≤ 16383 →
    s.flowRefusal (recField r 8 2) = none → s.pairOf (recField r 8 2) = none → exec (.flowEnable id) s = .next
      (((s.setFlowEn (recField r 8 2) true).setFlowRun (recField r 8 2) { enabledAt := some s.now }).complete id ⟨0, 0, 0⟩)) ∧
  (∀ (id : Nat) (r : List Nat) (s : State), s.Takes id 0x4002 r → recField r 8 2 ≤ 16383 → s.flowEn (recField r 8 2) = false →
    exec (.flowDisable id) s = .next (s.complete id ⟨0, 0, 0⟩)) ∧
  (∀ (id : Nat) (r : List Nat) (s : State), s.Takes id 0x4002 r → recField r 8 2 ≤ 16383 → s.flowEn (recField r 8 2) = true →
    s.flowFed (recField r 8 2) = true → exec (.flowDisable id) s = .next (s.complete id ⟨0x56, 0, 0⟩)) ∧
  (∀ (id : Nat) (r : List Nat) (s : State), s.Takes id 0x4002 r → recField r 8 2 ≤ 16383 → s.flowEn (recField r 8 2) = true →
    s.flowFed (recField r 8 2) = false → (s.stopFlow (recField r 8 2) id).contract (recField r 8 2) = none →
    exec (.flowDisable id) s = .next ((s.stopFlow (recField r 8 2) id).begin id)) ∧
  (∀ (id : Nat) (r : List Nat) (c : Contract) (s : State), s.Takes id 0x4002 r → recField r 8 2 ≤ 16383 →
    s.flowEn (recField r 8 2) = true → s.flowFed (recField r 8 2) = false →
    (s.stopFlow (recField r 8 2) id).contract (recField r 8 2) = some c → c.state = .admitted →
    exec (.flowDisable id) s = .next (((s.stopFlow (recField r 8 2) id).withdraw (recField r 8 2) []).begin id)) ∧
  (∀ (f : Nat) (s : State), (s.flowRun f).disabling ≠ [] → s.flowBusy f = false →
    exec (.flowDisableDone f) s = .next ((s.flowRun f).disabling.foldl (fun (x : State) i => x.complete i .ok)
      ((s.setFlowEn f false).setFlowRun f {}))) ∧
  (∀ (f : Nat) (s : State), (s.flowRun f).disabling = [] ∨ s.flowBusy f = true → exec (.flowDisableDone f) s = .next s) ∧
  (∀ (id : Nat) (r : List Nat) (s : State), s.Takes id 0x4003 r → recField r 8 2 ≤ 16383 →
    recByte r 10 % 2 = 0 ∨ s.flowEn (recField r 8 2) = false →
    exec (.flowStats id) s = .next ((s.hostWrite (recField r 16 8) (s.flowStatBytes (recField r 8 2))).complete id ⟨0, 0, 0⟩)) ∧
  (∀ (id : Nat) (r : List Nat) (s : State), s.Takes id 0x4003 r → recField r 8 2 ≤ 16383 → recByte r 10 % 2 = 1 →
    s.flowEn (recField r 8 2) = true →
    exec (.flowStats id) s = .next (((s.hostWrite (recField r 16 8) (s.flowStatBytes (recField r 8 2))).flowStatClear
      (recField r 8 2)).complete id ⟨0, 0, 0⟩)) ∧
  (∀ (id : Nat) (s : State), (SMap.find s.flows.inject (recByte (s.record id) 12)).isSome = true →
    exec (.inject id) s = .next s) ∧
  (∀ (id : Nat) (r : List Nat) (s : State), s.Takes id 0x4004 r → SMap.find s.flows.inject (recByte r 12) = none →
    recField r 10 2 < 60 ∨ 1514 < recField r 10 2 → exec (.inject id) s = .next (s.complete id ⟨0x03, 10, 0⟩)) ∧
  (∀ (id : Nat) (r : List Nat) (s : State), s.Takes id 0x4004 r → SMap.find s.flows.inject (recByte r 12) = none →
    60 ≤ recField r 10 2 → recField r 10 2 ≤ 1514 → s.injectLane (recByte r 12) = false →
    exec (.inject id) s = .next (s.complete id ⟨0x59, 0, 0⟩)) ∧
  (∀ (id : Nat) (r : List Nat) (s : State), s.Takes id 0x4004 r → SMap.find s.flows.inject (recByte r 12) = none →
    60 ≤ recField r 10 2 → recField r 10 2 ≤ 1514 → s.injectLane (recByte r 12) = true → s.rd FLW_INJ_TOKENS ≠ 0 →
    exec (.inject id) s = .next ((State.wr { s with flows := { s.flows with
        inject := SMap.put s.flows.inject (recByte r 12) (s.hostRead (recField r 16 8) (recField r 10 2)) } } FLW_INJ_TOKENS (s.rd FLW_INJ_TOKENS - 1)).complete id ⟨0, 0, 0⟩)) ∧
  (∀ (id : Nat) (r : List Nat) (s : State), s.Takes id 0x4004 r → SMap.find s.flows.inject (recByte r 12) = none →
    60 ≤ recField r 10 2 → recField r 10 2 ≤ 1514 → s.injectLane (recByte r 12) = true → s.rd FLW_INJ_TOKENS = 0 →
    exec (.inject id) s = .next ((s.incSat FLW_INJ_REFUSE_CNT).complete id ⟨0x58, 0, 0⟩)) ∧
  (∀ (s : State) (f n g m v : Nat), (s.setFlowWord f n v).flowWord f n = v % 2 ^ 32 ∧
    (16 * g + m ≠ 16 * f + n → (s.setFlowWord f n v).flowWord g m = s.flowWord g m))

/-- 07 R182, R192 to R194, R199: INGRESS_FRAME, MERGE_SKEW_EXPIRY, PATH_LOSS_TIMEOUT, SDI_LINE, INJECT_FRAME_SEND,
INJECT_TOKEN_REFILL. -/
def Obligations.FlowIngress : Prop :=
  (∀ (n : Nat) (x : Frame) (s : State), s.rdAt LNE_LN_STATUS_STATE n ≠ 2 ∨ s.rdAt LNE_LN_CTRL_PROTO n ≠ 1 →
    exec (.ingressFrame n x) s = .next s) ∧
  (∀ (n : Nat) (x : Frame) (s : State), n < 128 → s.rdAt LNE_LN_STATUS_STATE n = 2 → s.rdAt LNE_LN_CTRL_PROTO n = 1 →
    x.fcsOk = false ∨ 9216 < x.length ∨ x.isMacControl = true →
    exec (.ingressFrame n x) s = .next (s.addSatAt FLW_LN_BAD_FRAME n 1)) ∧
  (∀ (n : Nat) (x : Frame) (s : State), n < 128 → s.rdAt LNE_LN_STATUS_STATE n = 2 → s.rdAt LNE_LN_CTRL_PROTO n = 1 →
    badFrame x = false → x.isPtp = true → s.ptpLane n = true → exec (.ingressFrame n x) s = .next s) ∧
  (∀ (n : Nat) (x : Frame) (s : State), n < 128 → s.rdAt LNE_LN_STATUS_STATE n = 2 → s.rdAt LNE_LN_CTRL_PROTO n = 1 →
    badFrame x = true → x.isPtp = false → exec (.ingressFrame n x) s = .next (s.addSatAt FLW_LN_BAD_FRAME n 1)) ∧
  (∀ (n : Nat) (x : Frame) (s : State), n < 128 → s.rdAt LNE_LN_STATUS_STATE n = 2 → s.rdAt LNE_LN_CTRL_PROTO n = 1 →
    badFrame x = false → x.isPtp = false → s.matchFlow n x = none →
    exec (.ingressFrame n x) s = .next (s.addSatAt FLW_LN_UNMATCHED n 1)) ∧
  (∀ (n f : Nat) (x : Frame) (s : State), n < 128 → s.rdAt LNE_LN_STATUS_STATE n = 2 → s.rdAt LNE_LN_CTRL_PROTO n = 1 →
    badFrame x = false → x.isPtp = false → s.matchFlow n x = some f → s.flowPair f = false →
    exec (.ingressFrame n x) s = .next (s.passPacket f (packetOf (s.flowKind f) (s.flowFmt f) n s.now x))) ∧
  (∀ (n f p : Nat) (x : Frame) (s : State), n < 128 → s.rdAt LNE_LN_STATUS_STATE n = 2 → s.rdAt LNE_LN_CTRL_PROTO n = 1 →
    badFrame x = false → x.isPtp = false → s.matchFlow n x = some f → s.flowPair f = true → s.pairOf f = some p →
    exec (.ingressFrame n x) s = .next ((s.pathSeen p f !(s.matchA n f x)).mergeArrive p f (!(s.matchA n f x))
      (packetOf (s.flowKind f) (s.flowFmt f) n s.now x))) ∧
  (∀ (n : Nat) (x : List Nat) (s : State), SMap.find s.flows.inject n = some x → s.rdAt LNE_LN_STATUS_STATE n = 2 →
    s.laneFree n = true → s.laneFirst n = none → s.pacedDue n = false →
    exec (.injectFrameSend n) s = .next (State.incSat { s with flows := { s.flows with
      inject := SMap.erase s.flows.inject n, lastInjected := some (n, withFcs x) } } FLW_INJ_CNT)) ∧
  (∀ (n : Nat) (s : State), SMap.find s.flows.inject n = none ∨ s.rdAt LNE_LN_STATUS_STATE n ≠ 2 ∨ s.laneFree n = false ∨
    s.laneFirst n ≠ none ∨ s.pacedDue n = true → exec (.injectFrameSend n) s = .next s) ∧
  (∀ s : State, s.flows.tokenAt + 500000 ≤ s.now → exec .injectTokenRefill s = .next
    (State.wr { s with flows := { s.flows with tokenAt := s.now } } FLW_INJ_TOKENS (min 16 (s.rd FLW_INJ_TOKENS + 1)))) ∧
  (∀ s : State, s.now < s.flows.tokenAt + 500000 → exec .injectTokenRefill s = .next s) ∧
  (∀ (p : Nat) (h : HeldPacket) (rest : List HeldPacket) (s : State), (s.pairRun p).held = h :: rest →
    h.tick + 1000 * s.rdAt FLW_PAIR_SKEW_US p ≤ s.now →
    exec (.mergeSkewExpiry p) s = .next (s.mergeSkip p (s.rdAt FLW_PAIR_FLOW p))) ∧
  (∀ (p : Nat) (h : HeldPacket) (rest : List HeldPacket) (s : State), (s.pairRun p).held = h :: rest →
    s.now < h.tick + 1000 * s.rdAt FLW_PAIR_SKEW_US p → exec (.mergeSkewExpiry p) s = .next s) ∧
  (∀ (p : Nat) (s : State), (s.pairRun p).held = [] → exec (.mergeSkewExpiry p) s = .next s) ∧
  (∀ (p : Nat) (s : State), s.isSetAt FLW_PAIR_A_UP p = true → (s.pairRun p).lastA + s.rd FLW_PATH_LOSS_MS * 1000000 < s.now →
    exec (.pathLossTimeout p false) s = .next
      ((s.wrAt FLW_PAIR_A_UP p 0).flowEvent 0x4004 (s.rdAt FLW_PAIR_FLOW p) 3 0 1 false)) ∧
  (∀ (p : Nat) (s : State), s.isSetAt FLW_PAIR_B_UP p = true → (s.pairRun p).lastB + s.rd FLW_PATH_LOSS_MS * 1000000 < s.now →
    exec (.pathLossTimeout p true) s = .next
      ((s.wrAt FLW_PAIR_B_UP p 0).flowEvent 0x4004 (s.rdAt FLW_PAIR_FLOW p) 3 (2 ^ 16) 1 false)) ∧
  (∀ (p : Nat) (s : State), s.isSetAt FLW_PAIR_A_UP p = false ∨
    s.now ≤ (s.pairRun p).lastA + s.rd FLW_PATH_LOSS_MS * 1000000 → exec (.pathLossTimeout p false) s = .next s) ∧
  (∀ (f : Nat) (l : SdiLine) (s : State), s.flowEn f = false → exec (.sdiLine f l) s = .next s) ∧
  (∀ (f : Nat) (l : SdiLine) (s : State), s.flowEn f = true → s.flowEgress f = false → s.flowKind f = 6 →
    s.flowStarted f = true → s.rdAt LNE_LN_STATUS_STATE (s.flowLaneA f) = 2 → l.anc = none → l.crcOk = true →
    ((s.sdiTrs (s.flowLaneA f) f l.trsOk).sdiLock (s.flowLaneA f)).locked = false →
    exec (.sdiLine f l) s = .next (s.sdiTrs (s.flowLaneA f) f l.trsOk)) ∧
  (∀ (f k : Nat) (l : SdiLine) (s : State), s.flowEn f = true → s.flowEgress f = false → s.flowKind f = 6 →
    s.flowStarted f = true → s.rdAt LNE_LN_STATUS_STATE (s.flowLaneA f) = 2 → l.anc = none → l.crcOk = true →
    sdiIndex (s.flowFmt f) (s.gridTwoFields (s.flowGrid f)) l.lineNo = some k → (s.flowRun f).disabling = [] →
    ((s.sdiTrs (s.flowLaneA f) f l.trsOk).sdiLock (s.flowLaneA f)).locked = true →
    exec (.sdiLine f l) s = .next ((s.sdiTrs (s.flowLaneA f) f l.trsOk).passPacket f (sdiPacket (s.flowLaneA f) s.now k l))) ∧
  (∀ (f : Nat) (l : SdiLine) (a : AncPacket) (s : State), s.flowEn f = true → s.flowEgress f = false → s.flowKind f = 7 →
    s.flowStarted f = true → s.rdAt LNE_LN_STATUS_STATE (s.flowLaneA f) = 2 → l.anc = some a → (s.flowRun f).disabling = [] →
    (s.sdiLock (s.flowLaneA f)).locked = true →
    exec (.sdiLine f l) s = .next (s.passPacket f (sdiPacket (s.flowLaneA f) s.now 0 l)))

/-- 07 R189, R195 to R198: SUBSTITUTE_TICKET_CREATE, EGRESS_PACKET_SEND, EGRESS_SDI_LINE. -/
def Obligations.FlowEgress : Prop :=
  (∀ (f : Nat) (s : State), s.enabledIngress f = true → (s.flowRun f).substAt ≠ some s.now →
    exec (.substituteTicketCreate f) s = .next
      ((s.setFlowRun f { s.flowRun f with substAt := some s.now }).substitute f 4)) ∧
  (∀ (f : Nat) (s : State), s.enabledIngress f = false ∨ (s.flowRun f).substAt = some s.now →
    exec (.substituteTicketCreate f) s = .next s) ∧
  (∀ (g i : Nat) (t : Ticket) (d : Found) (s : State), s.egressUp g = true → s.nextTicket g = some (i, t) →
    s.packetReady g (s.flowRun g).sentOf t = true → s.flowPace g = false → s.turnOf g i = true →
    exec (.egressPacketSend g d) s = .next
      (s.sendPacket g i t (s.flowRun g).sentOf (s.packetsOf g t.words) d).drainFlows) ∧
  (∀ (g i : Nat) (t : Ticket) (d : Found) (s : State), s.egressUp g = true → s.nextTicket g = some (i, t) →
    s.packetReady g (s.flowRun g).sentOf t = false ∨ (s.flowPace g = false ∧ s.turnOf g i = false) →
    exec (.egressPacketSend g d) s = .next s) ∧
  (∀ (g i : Nat) (t : Ticket) (d : Found) (s : State), s.egressUp g = true → s.nextTicket g = some (i, t) →
    s.packetReady g (s.flowRun g).sentOf t = true → s.flowPace g = true →
    let start := (s.flowRun g).paceAt.getD (s.paceStart g t)
    let s1 := s.setFlowRun g { s.flowRun g with paceAt := some start }
    (s.tai : Int) < s.paceTime g (s.flowRun g).sentOf (s.packetsOf g t.words) start →
    exec (.egressPacketSend g d) s = .next s1) ∧
  (∀ (g i : Nat) (t : Ticket) (d : Found) (s : State), s.egressUp g = true → s.nextTicket g = some (i, t) →
    s.packetReady g (s.flowRun g).sentOf t = true → s.flowPace g = true →
    let start := (s.flowRun g).paceAt.getD (s.paceStart g t)
    let s1 := s.setFlowRun g { s.flowRun g with paceAt := some start }
    s.paceTime g (s.flowRun g).sentOf (s.packetsOf g t.words) start ≤ (s.tai : Int) →
    exec (.egressPacketSend g d) s = .next
      (s1.sendPacket g i t (s.flowRun g).sentOf (s.packetsOf g t.words) d).drainFlows) ∧
  (∀ (g : Nat) (d : Found) (s : State), s.egressUp g = false ∨ s.nextTicket g = none →
    exec (.egressPacketSend g d) s = .next s) ∧
  (∀ (g : Nat) (s : State), s.flowEn g = false ∨ s.flowEgress g = false ∨ s.gatePasses g = false ∨
    (∀ n ∈ s.flowLanes g, s.carries g n = false) → s.egressUp g = false) ∧
  (∀ (g : Nat) (d : Found) (s : State), s.enabledEgressNow g = false ∨ s.flowKind g ≠ 6 ∨
    s.rdAt LNE_LN_STATUS_STATE (s.flowLaneA g) ≠ 2 ∨
    (s.flowRun g).lineSent = some (s.lineAt (s.flowGrid g) s.tai) → exec (.egressSdiLine g d) s = .next s) ∧
  (∀ (g k : Nat) (d : Found) (s : State), s.enabledEgressNow g = true → s.flowKind g = 6 →
    s.rdAt LNE_LN_STATUS_STATE (s.flowLaneA g) = 2 → (s.flowRun g).lineSent ≠ some (s.lineAt (s.flowGrid g) s.tai) →
    sdiIndex (s.flowFmt g) (s.gridTwoFields (s.flowGrid g)) ((s.pos (s.flowGrid g)).line + 1) = some k →
    s.ancFor (s.flowLaneA g) ((s.pos (s.flowGrid g)).line + 1) = [] →
    exec (.egressSdiLine g d) s = .next (((s.takeLine g d).2.sendLine g ((s.pos (s.flowGrid g)).line + 1)
      ((s.sdiTotal g).getD 0 - sdiWidth (s.flowFmt g) - 12) {} (s.takeLine g d).1 false).drainFlows)) ∧
  (∀ (g : Nat) (d : Found) (s : State), (s.flowRun g).lateLines = 0 → s.nextTicket g = none →
    s.takeLine g d = (s.standIn g, (s.setFlowRun g { s.flowRun g with
      lateLines := (s.flowRun g).lateLines + 1 }).flowEvent 0x4009 g 2 0 1 true)) ∧
  (∀ (g : Nat) (d : Found) (s : State), s.enabledEgressNow g = true → s.flowKind g = 6 →
    s.rdAt LNE_LN_STATUS_STATE (s.flowLaneA g) = 2 → (s.flowRun g).lineSent ≠ some (s.lineAt (s.flowGrid g) s.tai) →
    sdiIndex (s.flowFmt g) (s.gridTwoFields (s.flowGrid g)) ((s.pos (s.flowGrid g)).line + 1) = none →
    s.ancFor (s.flowLaneA g) ((s.pos (s.flowGrid g)).line + 1) = [] →
    exec (.egressSdiLine g d) s = .next ((s.sendLine g ((s.pos (s.flowGrid g)).line + 1)
      ((s.sdiTotal g).getD 0 - sdiWidth (s.flowFmt g) - 12) {} (List.replicate (s.flowSegWords g) (s.blankWord g)) true).drainFlows))

/-- 08 R205 to R213, R221, R229, R230, 14 R402 and 17 R464: LANE_CTRL_WRITE, LANE_PRBS_WRITE, QUAD_PLL_LOCK_CHANGE, LANE_UP,
LANE_LINK_DOWN, LANE_FAULT, LANE_TEST_DONE, RAW_PCS_RECEIVE. -/
def Obligations.LaneCommands : Prop :=
  (∀ (n v : Nat) (s : State), n < 128 → exec (.laneCtrlWrite n v) s = .next ((s.noteLane n).laneCtrlWrite n v) ∧
    exec (.lanePrbsWrite n v) s = .next ((s.noteLane n).lanePrbsWrite n v)) ∧
  (∀ (n : Nat) (s : State), (s.noteLane n).regs = s.regs) ∧
  (∀ (n v why : Nat) (s : State), s.laneCtrlRefusal n v = some why → s.laneCtrlWrite n v =
    s.laneRefuse (if why = 1 then LNE_ERR_UNCLAIMED else if why = 2 then LNE_ERR_IN_USE else LNE_ERR_BAD_CONFIG)
      (0x500 + n) n why) ∧
  (∀ (n v : Nat) (s : State), s.laneCtrlRefusal n v = none → s.laneCtrlWrite n v =
    ((((((((((s.wrAt LNE_LN_CTRL_EN n (bitOf v 31)).wrAt LNE_LN_CTRL_PROTO n (bitsOf v 30 28)).wrAt LNE_LN_CTRL_MODE n
      (bitsOf v 27 24)).wrAt LNE_LN_CTRL_TX_PLL n (bitOf v 23)).wrAt LNE_LN_CTRL_TX_INV n (bitOf v 21)).wrAt
      LNE_LN_CTRL_RX_INV n (bitOf v 20)).wrAt LNE_LN_CTRL_LOOPBACK n (bitsOf v 19 17)).wrAt LNE_LN_CTRL_TX_DIS n
      (bitOf v 16)).laneFollowers n (flag (s.rdAt LNE_LN_CTRL_PROTO n == 1 && s.rdAt LNE_LN_CTRL_MODE n == 3))).laneSettle n)) ∧
  (∀ (n v : Nat) (s : State), s.laneClaimed n = false ∨ s.lane n = 5 → s.laneCtrlRefusal n v = some 1 ∧
    s.lanePrbsWrite n v = s.wr LNE_ERR_UNCLAIMED 1) ∧
  (∀ (n v : Nat) (s : State), s.laneClaimed n = true → s.lane n ≠ 5 → s.lanePrbsWrite n v =
    (((s.wrAt LNE_LN_PRBS_GEN_EN n (bitOf v 31)).wrAt LNE_LN_PRBS_CHK_EN n (bitOf v 30)).wrAt LNE_LN_PRBS_PATTERN n
      (bitsOf v 26 24)).laneSettle n) ∧
  (∀ (q : Nat) (s : State), q < 32 → s.isSetAt LNE_Q_PLL0_EN q = true → 1250000 ≤ s.rdAt LNE_Q_PLL0_RATE_KBPS q →
    s.rdAt LNE_Q_PLL0_RATE_KBPS q ≤ 28125000 →
    exec (.quadPllLockChange q 0 true) s = .next (s.wrAt LNE_Q_PLL0_LOCK q 1)) ∧
  (∀ (q : Nat) (s : State), q < 32 → s.isSetAt LNE_Q_PLL1_EN q = true → 1250000 ≤ s.rdAt LNE_Q_PLL1_RATE_KBPS q →
    s.rdAt LNE_Q_PLL1_RATE_KBPS q ≤ 28125000 →
    exec (.quadPllLockChange q 1 true) s = .next (s.wrAt LNE_Q_PLL1_LOCK q 1)) ∧
  (∀ (q : Nat) (s : State), s.isSetAt LNE_Q_PLL0_EN q = false ∨ s.rdAt LNE_Q_PLL0_RATE_KBPS q < 1250000 ∨
    28125000 < s.rdAt LNE_Q_PLL0_RATE_KBPS q → exec (.quadPllLockChange q 0 true) s = .next s) ∧
  (∀ (q : Nat) (s : State), q < 32 → exec (.quadPllLockChange q 0 false) s = .next
    (([4 * q, 4 * q + 1, 4 * q + 2, 4 * q + 3].filter fun n => s.lane n == 2 && s.rdAt LNE_LN_CTRL_TX_PLL n == 0).foldl
      (fun (x : State) n => x.laneDown n 1 6) (s.wrAt LNE_Q_PLL0_LOCK q 0))) ∧
  (∀ (q : Nat) (s : State), q < 32 → exec (.quadPllLockChange q 1 false) s = .next
    (([4 * q, 4 * q + 1, 4 * q + 2, 4 * q + 3].filter fun n => s.lane n == 2 && s.rdAt LNE_LN_CTRL_TX_PLL n == 1).foldl
      (fun (x : State) n => x.laneDown n 1 6) (s.wrAt LNE_Q_PLL1_LOCK q 0))) ∧
  (∀ (n r : Nat) (fr : Bool) (s : State), n < 128 → s.lane n = 1 → s.laneClaimed n = true → s.isSetAt LNE_LN_CTRL_EN n = true →
    s.rdAt LNE_LN_CTRL_PROTO n ≠ 0 → s.lanePllLock n = true → exec (.laneUp n r fr) s = .next
      (((((s.wrAt LNE_LN_STATUS_STATE n 2).wrAt LNE_LN_STATUS_CDR_LOCK n 1).wrAt LNE_LN_STATUS_BLOCK_LOCK n 1).post 0x5001
        (0x500 + n) 1 (s.rdAt LNE_LN_CTRL_PROTO n + 16 * s.rdAt LNE_LN_CTRL_MODE n)).sdiDetected n r fr)) ∧
  (∀ (n r : Nat) (fr : Bool) (s : State), s.rdAt LNE_LN_CTRL_PROTO n ≠ 2 → s.sdiDetected n r fr = s) ∧
  (∀ (n r : Nat) (fr : Bool) (s : State), s.lanePllLock n = false ∨ s.lane n ≠ 1 → exec (.laneUp n r fr) s = .next s) ∧
  (∀ (n : Nat) (remote : Bool) (s : State), n < 128 → s.lane n = 2 → exec (.laneLinkDown n remote) s = .next
    (s.laneDown n 1 (if remote then 2 else 1))) ∧
  (∀ (n k why : Nat) (s : State), s.isSetAt LNE_LN_RX_ADAPT n = false → s.laneDown n k why =
    (((((s.wrAt LNE_LN_STATUS_STATE n k).wrAt LNE_LN_STATUS_CDR_LOCK n 0).wrAt LNE_LN_STATUS_BLOCK_LOCK n 0).addSatAt
      LNE_LN_DOWN_CNT n 1).post 0x5002 (0x500 + n) 2 why)) ∧
  (∀ (n t : Nat) (s : State), n < 128 → s.linkDownWaits n = false → s.lane n = 2 → exec (.laneFault n t) s = .next
    ((((s.post 0x5003 (0x500 + n) 3 t).laneDown n 3 3).startTest kindLane n causeFailed).bondFault n)) ∧
  (∀ (n t : Nat) (remote : Bool) (s : State), s.lane n ≠ 2 → exec (.laneLinkDown n remote) s = .next s ∧
    (s.lane n ≠ 5 → exec (.laneFault n t) s = .next s)) ∧
  (∀ (n t : Nat) (s : State), s.linkDownWaits n = true → exec (.laneFault n t) s = .next s) ∧
  (∀ (n : Nat) (pass : Bool) (s : State), n < 128 → s.underTest kindLane n = true →
    (s.endTest kindLane n pass).1 = .transient →
    exec (.laneTestDone n pass) s = .next (((s.endTest kindLane n pass).2.laneSettle n).becomeSpare n)) ∧
  (∀ (n : Nat) (pass : Bool) (s : State), n < 128 → s.underTest kindLane n = true →
    (s.endTest kindLane n pass).1 ≠ .transient → exec (.laneTestDone n pass) s = .next
      ((s.endTest kindLane n pass).2.retireLane n (s.testCause kindLane n (s.endTest kindLane n pass).1))) ∧
  (∀ (n w p : Nat) (s : State), n < 128 → s.lane n = 2 → s.rdAt LNE_LN_CTRL_PROTO n = 4 → p = s.rdAt LNE_LN_RAW_DP n →
    s.rdAt DP_CFG_BIND p = 2 → s.rdAt DP_CFG_TARGET p = n → (s.port p).words.length < 512 →
    s.regionRetired (portRegion p) = false →
    exec (.rawPcsReceive n w) s = .next (s.portPlace p { data := s.rawWord n w })) ∧
  (∀ (n w p : Nat) (s : State), n < 128 → s.lane n = 2 → s.rdAt LNE_LN_CTRL_PROTO n = 4 → p = s.rdAt LNE_LN_RAW_DP n →
    s.rdAt DP_CFG_BIND p ≠ 2 ∨ s.rdAt DP_CFG_TARGET p ≠ n ∨ 512 ≤ (s.port p).words.length →
    exec (.rawPcsReceive n w) s = .next { s.addSatAt LNE_LN_SYNC_ERR n 1 with
      lanes := { (s.addSatAt LNE_LN_SYNC_ERR n 1).lanes with rawLost := some (n, s.rawWord n w) } }) ∧
  (∀ (n w : Nat) (r : Nat × Nat) (s : State), s.lane n ≠ 2 → s.reclockRoute n = some r →
    exec (.rawPcsReceive n w) s = .next { s with prom := { s.prom with reclocked := some (routeOut r.2, w % 2 ^ 72) } })

/-- 08 R215 to R220, R229, R230: BOND_ENABLE, HOKUTU_TRAIN_REQ, HOKUTU_TRAIN_ACK, BOND_TRAINING_DONE, BOND_RETRAIN,
BOND_SPARE_SWITCH, HOKUTU_TICKET_RECEIVE. LAT and SKEW are rounded to their unit (the model's choice, log 26). -/
def Obligations.BondCommands : Prop :=
  (∀ (b v : Nat) (s : State), b < 16 → s.isSetAt LNE_BOND_CTRL_EN b = true → bitOf v 31 = 0 →
    exec (.bondEnable b v) s = .next ((s.wrAt LNE_BOND_CTRL_EN b 0).bondStop b)) ∧
  (∀ (b v : Nat) (s : State), b < 16 → s.isSetAt LNE_BOND_CTRL_EN b = true → bitOf v 31 = 1 →
    exec (.bondEnable b v) s = .next s) ∧
  (∀ (b v : Nat) (s : State), b < 16 → s.isSetAt LNE_BOND_CTRL_EN b = false → bitOf v 31 = 1 →
    let s1 := ((s.wrAt LNE_BOND_CTRL_SPARE b (bitsOf v 23 16)).wrAt LNE_BOND_CTRL_DATA_CNT b (bitsOf v 12 8)).wrAt
      LNE_BOND_CTRL_FIRST b (bitsOf v 6 0)
    (∀ why, s1.bondRefusal b = some why →
      exec (.bondEnable b v) s = .next (s.laneRefuse LNE_ERR_BOND_REFUSED (0x580 + b) b why)) ∧
    (s1.bondRefusal b = none → exec (.bondEnable b v) s = .next ((s1.wrAt LNE_BOND_CTRL_EN b 1).bondStart b))) ∧
  (∀ (b p t : Nat) (l : List Nat) (x : LinkBlock) (s : State), s.bondEnabled b = true → (s.takeLast b p l).1 = some x →
    x.isCode 3 = true →
    let a := (s.takeLast b p l).2.sendBlock b p 0 (trainAckBlock (bitsOf x.payload 135 72) t p)
    exec (.hokutuTrainReq b p l t) s = .next (a.2.setBondRun b { a.2.bondRun b with ackSent := some (p, a.1.2) })) ∧
  (∀ (b p t : Nat) (l : List Nat) (s : State), s.bondEnabled b = false → exec (.hokutuTrainReq b p l t) s = .next s) ∧
  (∀ (b p d : Nat) (l : List Nat) (x : LinkBlock) (s : State), s.bondState b = 1 → (s.takeLast b p l).1 = some x →
    x.isCode 4 = true → exec (.hokutuTrainAck b p l d) s = .next ((s.takeLast b p l).2.addExchange b p
      ((s.takeLast b p l).2.flightTime b (bitsOf x.payload 135 72) (bitsOf x.payload 71 40) d))) ∧
  (∀ (b p t : Nat) (s : State), SMap.read (s.bondRun b).exchanges 0 p < 1024 → s.addExchange b p t =
    s.setBondRun b { s.bondRun b with
      exchanges := SMap.put (s.bondRun b).exchanges p (SMap.read (s.bondRun b).exchanges 0 p + 1)
      flightSum := SMap.put (s.bondRun b).flightSum p (SMap.read (s.bondRun b).flightSum 0 p + t) }) ∧
  (∀ (b p d : Nat) (l : List Nat) (s : State), s.bondState b ≠ 1 → exec (.hokutuTrainAck b p l d) s = .next s) ∧
  (∀ (b : Nat) (m : Bool) (s : State), s.bondState b = 1 → s.bondFail b m = none →
    exec (.bondTrainingDone b m) s = .next (s.bondTrained b)) ∧
  (∀ (b : Nat) (s : State), b < 16 → s.bondTrained b = (((s.setBondRun b { s.bondRun b with
      numberedAt := s.now, lat := (s.flightMax b + 125) / 250 }).wrAt LNE_BOND_LAT b ((s.flightMax b + 125) / 250)).wrAt
      LNE_BOND_SKEW b ((s.flightMax b - s.flightMin b + 125) / 250)).setBond b 2 0) ∧
  (∀ (b why : Nat) (m : Bool) (s : State), s.bondState b = 1 → s.bondFail b m = some why →
    (s.bondRun b).startedAt + 10000000 ≤ s.now → exec (.bondTrainingDone b m) s = .next (s.setBond b 4 why)) ∧
  (∀ (b why : Nat) (m : Bool) (s : State), s.bondState b = 1 → s.bondFail b m = some why →
    s.now < (s.bondRun b).startedAt + 10000000 → exec (.bondTrainingDone b m) s = .next s) ∧
  (∀ (b : Nat) (s : State), s.bondState b = 4 → s.bondEnabled b = true →
    (s.bondRun b).startedAt + 100000000 ≤ s.now → exec (.bondRetrain b) s = .next (s.bondTrain b)) ∧
  (∀ (b : Nat) (s : State), b < 16 → s.bondState b ≠ 4 → exec (.bondRetrain b) s = .next s) ∧
  (∀ (b p n m : Nat) (s : State), (s.bondRun b).spareWanted = some (p, n) → (s.bondRun b).spare = some m →
    s.bondState b = 2 → (s.bondRun b).faultAt < s.now → exec (.bondSpareSwitch b) s = .next (s.moveToSpare b p n m)) ∧
  (∀ (b p n m : Nat) (s : State), b < 16 → s.moveToSpare b p n m = ((((((s.setBondRun b { s.bondRun b with
      spareWanted := none
      spare := none
      state := 3
      moved := SMap.put (s.bondRun b).moved p m
      rx := SMap.store (s.bondRun b).rx 0 p (SMap.read (s.bondRun b).rx 0 16) }).wrAt LNE_BOND_STATUS_STATE b 3).wrAt
      LNE_BOND_STATUS_SPARED_POS b p).addSatAt LNE_BOND_SPARE_SWITCH_CNT b 1).wrAt LNE_LN_STATUS_POSITION m p).post 0x5005
      (0x580 + b) 2 (p + n * 2 ^ 8))) ∧
  (∀ (b : Nat) (s : State), (s.bondRun b).spareWanted = none ∨ (s.bondRun b).spare = none ∨ s.bondState b ≠ 2 ∨
    s.now ≤ (s.bondRun b).faultAt → exec (.bondSpareSwitch b) s = .next s) ∧
  (∀ (b : Nat) (l : List (List Nat)) (s : State), b < 16 → s.bondUp b = true →
    let q := (s.takeBlocks b 16 (l.getD 16 [])).2.receiveBlocks b l
    let r := linkRun (q.2.bondRun b).opened q.1
    exec (.hokutuTicketReceive b l) s = .next
      (r.2.foldl (State.linkTicket b) (q.2.setBondRun b { q.2.bondRun b with opened := r.1 }))) ∧
  (∀ (b f : Nat) (t : HokutuTicket) (s : State), t.inError = false → s.faultWaits t.endLane = false → s.lane t.endLane = 2 →
    s.hokutuFlow b (t.flowId % 16384) = some f →
    s.linkTicket b t = s.passPacket f (ticketPacket (s.bondFirst b) s.now t)) ∧
  (∀ (b : Nat) (t : HokutuTicket) (s : State), t.errorFlag = true → t.crcOk = true → s.faultWaits t.endLane = false →
    s.lane t.endLane = 2 →
    (((s.addSatAt LNE_BOND_TICKET_ERR_CNT b 1).post 0x5007 (0x580 + b) 2 (t.flowId % 16384 + 16384)).hokutuFlow b
      (t.flowId % 16384)) = none → s.linkTicket b t =
      (s.addSatAt LNE_BOND_TICKET_ERR_CNT b 1).post 0x5007 (0x580 + b) 2 (t.flowId % 16384 + 16384)) ∧
  (∀ (b : Nat) (l : List (List Nat)) (s : State), s.bondUp b = false → exec (.hokutuTicketReceive b l) s = .next s)

/-- 08 R223 to R226, R231: GPIO_WRITE, VIOB_FAULT, VIOB_RESTORE, and what a land shows. -/
def Obligations.LandCommands : Prop :=
  (∀ (p v : Nat) (s : State), p < 192 → s.landOwnedBy p 3 = false →
    exec (.gpioWrite p v) s = .next (s.wr LNE_ERR_UNCLAIMED 1)) ∧
  (∀ (p v : Nat) (s : State), p < 192 → s.landOwnedBy p 3 = true → exec (.gpioWrite p v) s = .next
    ((((((((((s.wrAt LNE_GPIO_OUT p (bitOf v 23)).wrAt LNE_GPIO_OE p (bitOf v 22)).wrAt LNE_GPIO_PULL p
      (bitsOf v 21 20)).wrAt LNE_GPIO_DRIVE p (bitsOf v 19 18)).wrAt LNE_GPIO_SLEW p (bitOf v 17)).wrAt
      LNE_GPIO_SCHMITT p (bitOf v 16)).wrAt LNE_GPIO_IO_STD p (bitsOf v 13 12)).wrAt LNE_GPIO_TERM p (bitOf v 10)).wrAt
      LNE_GPIO_OVS p (bitOf v 9)).keeperOn p (s.rdAt LNE_GPIO_PULL p))) ∧
  (∀ (p w : Nat) (s : State), s.rdAt LNE_GPIO_PULL p ≠ 3 ∨ w = 3 → s.keeperOn p w = s) ∧
  (∀ (b mv : Nat) (s : State), b < 6 → mv < 1140 ∨ 1890 < mv →
    let s1 := ((s.wrAt LNE_GPIO_BANK_VIOB_MV b mv).wrAt LNE_GPIO_BANK_VIOB_OK b 0).wrAt LNE_GPIO_BANK_LVDS_OK b 0
    exec (.viobFault b mv) s = .next (({ s1 with lanes := { s1.lanes with
      viobSince := SMap.erase s1.lanes.viobSince b } }).post 0x500B (0x5C0 + b) 3 (b + mv % 2 ^ 16 * 2 ^ 16))) ∧
  (∀ (b mv : Nat) (s : State), b < 6 → mv < 1140 ∨ 1890 < mv → exec (.viobRestore b mv) s = .next s) ∧
  (∀ (b mv : Nat) (s : State), b < 6 → 1140 ≤ mv → mv ≤ 1890 → exec (.viobFault b mv) s = .next s) ∧
  (∀ (b mv : Nat) (s : State), b < 6 → 1140 ≤ mv → mv ≤ 1890 → s.isSetAt LNE_GPIO_BANK_VIOB_OK b = false →
    let s1 := ((s.wrAt LNE_GPIO_BANK_VIOB_MV b mv).wrAt LNE_GPIO_BANK_VIOB_OK b 1).wrAt LNE_GPIO_BANK_LVDS_OK b
      (flag (decide (1710 ≤ mv)))
    exec (.viobRestore b mv) s = .next { s1 with lanes := { s1.lanes with
      viobSince := SMap.put s1.lanes.viobSince b s1.now } }) ∧
  (∀ (b : Nat) (s : State), s.isSetAt LNE_GPIO_BANK_VIOB_OK b = false → s.bankDrives b = false) ∧
  (∀ (p : Nat) (s : State), s.bankDrives (p / 32) = false → s.landDriven p = none) ∧
  (∀ (p : Nat) (s : State), s.bankDrives (p / 32) = true → s.jtagActs.drives = false → s.pairLvds p = true →
    s.isSetAt LNE_GPIO_BANK_LVDS_OK (p / 32) = true →
    s.landDriven p = (s.ownerDrives (p / 2 * 2)).map fun x => x != (p % 2 == 1)) ∧
  (∀ (p : Nat) (s : State), s.bankDrives (p / 32) = true → s.jtagActs.drives = false → s.pairLvds p = false →
    s.landDriven p = s.ownerDrives p) ∧
  (∀ (p : Nat) (s : State), s.landDriven p = none → s.landClaimed p = false →
    s.landLevel p = ((Config.boardLevel s.now p).map flag).getD 0) ∧
  (∀ (p : Nat) (s : State), s.landDriven p = none → s.landClaimed p = true → s.mode = modeRun → s.rdAt LNE_GPIO_PULL p = 1 →
    s.landLevel p = ((Config.boardLevel s.now p).map flag).getD 0) ∧
  (∀ (p : Nat) (s : State), s.landDriven p = none → s.landClaimed p = true → s.mode = modeRun → s.rdAt LNE_GPIO_PULL p = 2 →
    s.landLevel p = ((Config.boardLevel s.now p).map flag).getD 1)

/-- 08 R227, R228, 19 R513: EXTEST, EXTEST_PULSE, EXTEST_TRAIN, CLAMP, HIGHZ; beside them BYPASS, IDCODE, SAMPLE_PRELOAD,
JTAG_TRST. What SAMPLE captures and that TRST_N selects IDCODE are the model's choices (logs 151, 17). -/
def Obligations.BoundaryScan : Prop :=
  (∀ s : State, s.scrapped = false → s.mode = modeLoad ∨ s.mode = modeConfigFault ∨ s.mode = modeService →
    exec .extest s = .next (s.setJtag .extest) ∧ exec .extestPulse s = .next (s.setJtag .extestPulse) ∧
    exec .extestTrain s = .next (s.setJtag .extestTrain) ∧ exec .clamp s = .next (s.setJtag .clamp) ∧
    exec .highz s = .next (s.setJtag .highz)) ∧
  (∀ (s : State) (i : Instr), s.scrapped = false → s.mode ≠ modeLoad → s.mode ≠ modeConfigFault → s.mode ≠ modeService →
    i = .extest ∨ i = .extestPulse ∨ i = .extestTrain ∨ i = .clamp ∨ i = .highz →
    exec i s = .next ((s.setJtag .bypass).wr LNE_ERR_SCAN_REFUSED 1)) ∧
  (∀ (s : State) (i : Instr), s.scrapped = true →
    i = .extest ∨ i = .extestPulse ∨ i = .extestTrain ∨ i = .clamp ∨ i = .highz →
    exec i s = .next (s.setJtag .bypass)) ∧
  (∀ s : State, s.mode ≠ modeLoad → s.mode ≠ modeConfigFault → s.mode ≠ modeService → s.lanes.jtag.drives = true →
    s.jtagActs = .bypass) ∧
  (∀ s : State, s.mode = modeLoad ∨ s.mode = modeConfigFault ∨ s.mode = modeService → s.jtagActs = s.lanes.jtag) ∧
  (∀ s : State, s.lanes.jtag.drives = true → s.mode ≠ modeLoad → s.mode ≠ modeConfigFault → s.mode ≠ modeService →
    s.scanLeaves = s.wr LNE_ERR_SCAN_REFUSED 1) ∧
  (∀ (p : Nat) (s : State), s.bankDrives (p / 32) = true → s.jtagActs.drives = true → s.landDriven p = s.scanDriven p) ∧
  (∀ (p : Nat) (s : State), s.jtagActs = .highz → s.scanDriven p = none) ∧
  (∀ s : State, exec .bypass s = .next (s.setJtag .bypass) ∧
    exec .idcode s = .next ((s.setJtag .idcode).answer (s.rd GLB_IDCODE)) ∧
    exec .jtagTrst s = .next (s.setJtag .idcode)) ∧
  (∀ (cs : List (Nat × Bool)) (s : State), s.scrapped = false → exec (.samplePreload cs) s = .next
    { s with lanes := { s.lanes with
      jtag := .samplePreload, bypassBit := false, cells := putCells s.lanes.cells cs, captured := s.scanCaptured } }) ∧
  (∀ (s : State) (j : JtagInstr), (s.setJtag j).lanes.jtag = j ∧ (s.setJtag j).regs = s.regs)

/-- 09 R243, R244, R251, R254: FPLL_LOCK, FPLL_REF_LOST, FPLL_REALIGN_DONE, GSR_RELEASE, EXPRESS_CONFLICT. -/
def Obligations.FabricCommands : Prop :=
  (∀ (p : Nat) (s : State), p < 16 → s.fabricClocked = true → s.isSetAt FAB_PLL_CTRL_EN p = true →
    s.rdAt FAB_PLL_STATUS_LOCK p = 0 →
    s.rdAt FAB_PLL_CTRL_MODE p ≠ 0 → s.gridActive (s.rdAt FAB_PLL_CTRL_GRID p) = true →
    s.rdAt FAB_PLL_STATUS_GRID_LOST p = 0 → exec (.fpllLock p) s = .next ((List.range 16).foldl (fun (x : State) r => x.releaseStep r)
      (((((((({ s with fabric := { s.fabric with
        running := if s.pllRuns p then s.fabric.running else s.fabric.running ++ [p] } }).wrAt FAB_PLL_STATUS_LOCK p 1).wrAt
        FAB_PLL_STATUS_HOLDOVER p 0).wrAt FAB_PLL_STATUS_ALIGNED p 1).wrAt FAB_PLL_STATUS_GRID_LOST p 0).wrAt
        FAB_PLL_STATUS_FMAX_REFUSED p 0).wrAt FAB_PLL_STATUS_F0_KHZ p
        (match s.pllKhz p 0 with
         | some k => satN 20 k
         | none => s.free 20)).took.post 0x7801 (0x7C0 + p) 1 1))) ∧
  (∀ (p : Nat) (s : State), s.isSetAt FAB_PLL_CTRL_EN p = false ∨ s.rdAt FAB_PLL_STATUS_LOCK p = 1 ∨ s.fabricClocked = false →
    exec (.fpllLock p) s = .next s) ∧
  (∀ (p : Nat) (s : State), s.rdAt FAB_PLL_CTRL_MODE p ≠ 0 → s.gridActive (s.rdAt FAB_PLL_CTRL_GRID p) = false ∨
    s.rdAt FAB_PLL_STATUS_GRID_LOST p = 1 → exec (.fpllLock p) s = .next s) ∧
  (∀ (p : Nat) (s : State), p < 16 → s.isSetAt FAB_PLL_CTRL_EN p = true → s.rdAt FAB_PLL_CTRL_MODE p = 0 →
    s.rdAt FAB_PLL_CTRL_REF p ≠ 0 → s.isSetAt FAB_PLL_STATUS_LOCK p = true → exec (.fpllRefLost p) s = .next
      ((((s.wrAt FAB_PLL_STATUS_LOCK p 0).wrAt FAB_PLL_STATUS_HOLDOVER p 1).addSatAt FAB_PLL_LOCK_LOSS_CNT p 1).post
        0x7801 (0x7C0 + p) 3 2)) ∧
  (∀ (p : Nat) (s : State), s.rdAt FAB_PLL_CTRL_REF p = 0 → exec (.fpllRefLost p) s = .next s) ∧
  (∀ (p g : Nat) (s : State), p < 16 → g = s.rdAt FAB_PLL_CTRL_GRID p → s.pllOnGrid g p = true →
    s.isSetAt FAB_PLL_STATUS_LOCK p = true → s.rdAt FAB_PLL_STATUS_ALIGNED p = 0 → s.gridActive g = true →
    s.rdAt FAB_PLL_STATUS_GRID_LOST p = 0 → exec (.fpllRealignDone p) s = .next
      ((((s.wrAt FAB_PLL_STATUS_ALIGNED p 1).wrAt FAB_PLL_STATUS_FMAX_REFUSED p 0).wrAt FAB_PLL_STATUS_F0_KHZ p
        ((s.pllKhz p 0).elim (s.rdAt FAB_PLL_STATUS_F0_KHZ p) (satN 20))).post 0x7802 (0x7C0 + p) 2 (g + 2 ^ 8))) ∧
  (∀ (p : Nat) (s : State), s.rdAt FAB_PLL_STATUS_ALIGNED p = 1 → exec (.fpllRealignDone p) s = .next s) ∧
  (∀ (r : Nat) (s : State), r < 16 → s.isSetAt FAB_REGION_GSR_HELD r = true → s.isSetAt FAB_REGION_WAIT_CLK r = true →
    s.turnClock r = true → s.regionRetired r = false → s.rdAt FAB_REGION_CLK_RUN r ≠ 0 → exec (.gsrRelease r) s = .next
      ((s.wrAt FAB_REGION_WAIT_CLK r 0).wrAt FAB_REGION_GSR_HELD r 0)) ∧
  (∀ (r : Nat) (s : State), s.turnClock r = false → exec (.gsrRelease r) s = .next s) ∧
  (∀ (c row t p : Nat) (rest : List Nat) (s : State), s.otherDrivers c row t = p :: rest →
    exec (.expressConflict c row t) s = .next (((((s.wr FAB_ERR_XCONF 1).wr FAB_XCONF_LAST_SEGMENT (segmentOf c row t)).wr
      FAB_XCONF_LAST_POS (rest.foldl min (min p (tapPosition c row t)))).incSat FAB_XCONF_CNT).post 0x7804
      (0x7E0 + c / 96) 3 (segmentOf c row t % 2 ^ 20 + rest.foldl min (min p (tapPosition c row t)) % 2 ^ 5 * 2 ^ 20))) ∧
  (∀ (c row t : Nat) (s : State), s.otherDrivers c row t = [] → exec (.expressConflict c row t) s = .next s)

/-- 10 R264 to R266, R270, R273: TILE_MEMORY_ACCESS, TILE_ECC_WRITEBACK, MIX_SLICE_EDGE. -/
def Obligations.TileAndMixEdges : Prop :=
  (∀ (r m : Nat) (a b : TileAccess) (l : Bool) (fa fb : SpadRead) (s : State), r < 16 → m < 240 → s.regionRuns r = true →
    a.en = true → b.en = true → a.addr = b.addr → a.addr < 1024 * aspectLanes (s.tileBits r m 2 0) →
    tileWrites (s.tileBits r m 2 0) (s.tileBits r m 3 3 == 1) a = true →
    tileWrites (s.tileBits r m 2 0) (s.tileBits r m 3 3 == 1) b = true →
    exec (.tileMemoryAccess r m a b true l fa fb) s = .next
      ((s.tileAccess r m false a fa false false false).tileAccess r m true b fb true true false)) ∧
  (∀ (r m : Nat) (a b : TileAccess) (same : Bool) (fa fb : SpadRead) (s : State), r < 16 → m < 240 → s.regionRuns r = true →
    s.tileBits r m 9 7 = s.tileBits r m 12 10 → a.en = true → b.en = true → a.addr = b.addr →
    a.addr < 1024 * aspectLanes (s.tileBits r m 2 0) →
    tileWrites (s.tileBits r m 2 0) (s.tileBits r m 3 3 == 1) a = true →
    tileWrites (s.tileBits r m 2 0) (s.tileBits r m 3 3 == 1) b = false →
    exec (.tileMemoryAccess r m a b same true fa fb) s = .next
      ((s.tileAccess r m false a fa false false false).tileAccess r m true b fb false true true)) ∧
  (∀ (r m : Nat) (a b : TileAccess) (same : Bool) (fa fb : SpadRead) (s : State), r < 16 → m < 240 → s.regionRuns r = true →
    a.en = false ∨ b.en = false ∨ a.addr ≠ b.addr → exec (.tileMemoryAccess r m a b same true fa fb) s = .next
      ((s.tileAccess r m false a fa false false false).tileAccess r m true b fb false false false)) ∧
  (∀ (r m : Nat) (a b : TileAccess) (same l : Bool) (fa fb : SpadRead) (s : State), s.regionRuns r = false →
    exec (.tileMemoryAccess r m a b same l fa fb) s = .next s) ∧
  (∀ (r m : Nat) (b : Bool) (s : State), s.regionRuns r = true → (s.tilePort r m b).writeback ≠ none →
    exec (.tileEccWriteback r m b) s = .next (s.setTilePort r m b { s.tilePort r m b with writeback := none })) ∧
  (∀ (r m : Nat) (b : Bool) (s : State), (s.tilePort r m b).writeback = none →
    exec (.tileEccWriteback r m b) s = .next s) ∧
  (∀ (c k : Nat) (i : MixInput) (s : State), c < 1536 → columnType c = 2 → k < 32 → s.regionRuns (c / 96) = true →
    i.ce = true → exec (.mixSliceEdge c k i) s = .next { s with hard := { s.hard with
        mix := SMap.store s.hard.mix {} (32 * c + k) { (s.mixSlice c k).clock (s.groupBits c (4 * k) 1 0) (s.groupBits c (4 * k) 3 2)
        (s.groupBits c (4 * k) 9 4) (s.groupBits c (4 * k) 10 10 == 1) (s.groupBits c (4 * k) 11 11 == 1)
        (s.cascIn c k) i with edgeAt := some s.now, accWas := (s.mixSlice c k).acc } } }) ∧
  (∀ (c k : Nat) (i : MixInput) (s : State), c < 1536 → columnType c = 2 → k < 32 → s.regionRuns (c / 96) = true →
    i.ce = false → exec (.mixSliceEdge c k i) s = .next { s with hard := { s.hard with
        mix := SMap.store s.hard.mix {} (32 * c + k)
          { s.mixSlice c k with edgeAt := some s.now, accWas := (s.mixSlice c k).acc } } }) ∧
  (∀ (c k : Nat) (i : MixInput) (s : State), columnType c ≠ 2 → exec (.mixSliceEdge c k i) s = .next s)

/-- 10 R261, R262 (lanes of a row), R269 (pre-adder), R272 (rounding and saturation of OUT). -/
def Obligations.TileLanesAndMixArithmetic : Prop :=
  (∀ (aspect i old : Nat) (x : TileAccess), 0 < aspect → aspect < 6 → i < aspectLanes aspect →
    tileMerge aspect false x old / 2 ^ (72 / aspectLanes aspect * i) % 2 ^ (72 / aspectLanes aspect) =
      if i = x.addr % aspectLanes aspect then x.din % 2 ^ (72 / aspectLanes aspect)
      else old / 2 ^ (72 / aspectLanes aspect * i) % 2 ^ (72 / aspectLanes aspect)) ∧
  (∀ (i old : Nat) (x : TileAccess), i < 8 → tileMerge 0 false x old / 2 ^ (9 * i) % 2 ^ 9 =
    if bitOf x.we i = 1 then x.din / 2 ^ (9 * i) % 2 ^ 9 else old / 2 ^ (9 * i) % 2 ^ 9) ∧
  (∀ (w : Nat) (v : Int), 0 < w → -(2 ^ (w - 1) : Int) ≤ v → v < 2 ^ (w - 1) → mixSaturate w true v = (ofInt w v, false)) ∧
  (∀ (w : Nat) (v : Int), 0 < w → 2 ^ (w - 1) ≤ v → mixSaturate w true v = (2 ^ (w - 1) - 1, true)) ∧
  (∀ (w : Nat) (v : Int), 0 < w → v < -(2 ^ (w - 1) : Int) → mixSaturate w true v = (2 ^ (w - 1), true)) ∧
  (∀ (w : Nat) (v : Int), v < 0 → mixSaturate w false v = (0, true)) ∧
  (∀ (s : Nat) (v : Int), (2 ^ s : Int) * mixRound 0 s v ≤ v ∧ v < 2 ^ s * (mixRound 0 s v + 1)) ∧
  (∀ (s : Nat) (v : Int), 2 * (2 ^ s : Int) * mixRound 1 s v ≤ 2 * v + 2 ^ s ∧ 2 * v + 2 ^ s < 2 * 2 ^ s * (mixRound 1 s v + 1)) ∧
  (∀ (s : Nat) (v : Int), -(2 ^ s : Int) ≤ 2 * (v - 2 ^ s * mixRound 2 s v) ∧ 2 * (v - 2 ^ s * mixRound 2 s v) ≤ 2 ^ s ∧
    ((2 * (v - 2 ^ s * mixRound 2 s v) = 2 ^ s ∨ 2 * (v - 2 ^ s * mixRound 2 s v) = -(2 ^ s : Int)) →
      mixRound 2 s v % 2 = 0)) ∧
  (∀ x : Nat, -8388608 ≤ toSigned 24 x + toSigned 24 (x / 2 ^ 24) → toSigned 24 x + toSigned 24 (x / 2 ^ 24) ≤ 8388607 →
    preAdd 1 x = (ofInt 24 (toSigned 24 x + toSigned 24 (x / 2 ^ 24)), false)) ∧
  (∀ x : Nat, 8388607 < toSigned 24 x - toSigned 24 (x / 2 ^ 24) → preAdd 2 x = (8388607, true))

/-- 10 R277 to R283: PACK_FIFO_WRITE, PACK_FIFO_READER_TAKE, PACK_FIFO_NOTICE, DELIVERY_PORT_PLACE, DELIVERY_PORT_READ,
BUFFER_READ_REQUEST. -/
def Obligations.PackAndDelivery : Prop :=
  (∀ (p d n : Nat) (s : State), p < 256 → s.rdAt PF_CFG_BIND p ≠ 0 → s.regionRuns (portRegion p) = true →
    s.isSetAt PF_STATUS_FULL p = true → exec (.packFifoWrite p d false n) s = .next ((s.wrAt PF_STATUS_OVERRUN p 1).setPack p
      { s.pack p with isOpen := true, reason := max (s.pack p).reason 1 })) ∧
  (∀ (p d n : Nat) (s : State), p < 256 → s.rdAt PF_CFG_BIND p ≠ 0 → s.rdAt PF_CFG_BIND p ≠ 2 →
    s.regionRuns (portRegion p) = true → s.isSetAt PF_STATUS_FULL p = false → ∀ q : PackFifo,
    (bytesOf (if 0 < n % 4 then min (n % 4) (s.rdAt PF_CFG_WIDTH p + 1) else s.rdAt PF_CFG_WIDTH p + 1) d).foldl
      (s.packByte p) (s.pack p, false) = (q, false) →
    exec (.packFifoWrite p d true n) s = .next (s.setPack p (s.packClose p 0 q))) ∧
  (∀ (p d n : Nat) (e : Bool) (s : State), s.rdAt PF_CFG_BIND p = 0 → exec (.packFifoWrite p d e n) s = .next s) ∧
  (∀ (p : Nat) (s : State), (s.pack p).frontHas = true → s.rdAt PF_CFG_BIND p = 1 →
    exec (.packFifoReaderTake p) s = .next (s.takePacketWord p (s.rdAt PF_CFG_TARGET p) ((s.pack p).words.headD 0)
      (if (s.pack p).taken = 0 then { s.pack p with
        words := (s.pack p).words.tail
        taken := 1
        frontAt := s.now
        drop := !s.packListens (s.rdAt PF_CFG_TARGET p)
        slots := [] }
       else { s.pack p with words := (s.pack p).words.tail, taken := (s.pack p).taken + 1 }))) ∧
  (∀ (p t : Nat) (s : State), (s.pack p).frontHas = true → s.rdAt PF_CFG_BIND p = 2 → t = s.rdAt PF_CFG_TARGET p →
    s.rawSends p t = true → exec (.packFifoReaderTake p) s = .next
      { s.setPack p { s.pack p with words := (s.pack p).words.tail, taken := 0 } with
        hard := { (s.setPack p { s.pack p with words := (s.pack p).words.tail, taken := 0 }).hard with
          rawSent := some (t, rawBits (s.rdAt LNE_LN_CTRL_MODE t) ((s.pack p).words.headD 0)) } }) ∧
  (∀ (p : Nat) (s : State), s.rdAt PF_CFG_BIND p = 2 → s.rawSends p (s.rdAt PF_CFG_TARGET p) = false →
    exec (.packFifoReaderTake p) s = .next s) ∧
  (∀ (p t a : Nat) (s : State), (s.pack p).frontHas = true → s.rdAt PF_CFG_BIND p = 3 → t = s.rdAt PF_CFG_TARGET p →
    a = s.bufFirst t + 8 * (s.pack p).frontOffset + (s.pack p).taken → s.bufValid t = true → a < s.bufEnd t →
    exec (.packFifoReaderTake p) s = .next ((s.storePut a { data := (s.pack p).words.headD 0 }).setPack p
      { s.pack p with words := (s.pack p).words.tail, taken := (s.pack p).taken + 1 })) ∧
  (∀ (p : Nat) (s : State), (s.pack p).frontHas = false → exec (.packFifoReaderTake p) s = .next s) ∧
  (∀ (p : Nat) (c : PackClosed) (rest : List PackClosed) (s : State), (s.pack p).closed = c :: rest →
    c.words ≤ (s.pack p).taken → s.rdAt PF_CFG_BIND p ≠ 1 → exec (.packFifoNotice p) s = .next
      ((s.setPack p { s.pack p with closed := rest, taken := 0, slots := [], drop := false }).packCount p c)) ∧
  (∀ (p g : Nat) (c : PackClosed) (rest : List PackClosed) (s : State), (s.pack p).closed = c :: rest →
    c.words ≤ (s.pack p).taken → s.rdAt PF_CFG_BIND p = 1 → 0 < c.words → g = s.rdAt PF_CFG_TARGET p →
    (s.pack p).drop = true ∨ s.flowEn g = false ∨ s.flowEgress g = false → exec (.packFifoNotice p) s = .next
      (((s.setPack p { s.pack p with closed := rest, taken := 0, slots := [], drop := false }).flowStat g 3 1).packCount
        p c)) ∧
  (∀ (p g : Nat) (c : PackClosed) (rest : List PackClosed) (s t : State) (o : TicketOutcome), (s.pack p).closed = c :: rest →
    c.words ≤ (s.pack p).taken → s.rdAt PF_CFG_BIND p = 1 → 0 < c.words → g = s.rdAt PF_CFG_TARGET p →
    (s.pack p).drop = false → s.flowEn g = true → s.flowEgress g = true →
    (s.setPack p { s.pack p with closed := rest, taken := 0, slots := [], drop := false }).packTicket g (s.pack p).slots c =
      (o, t) → o ≠ .stalled → exec (.packFifoNotice p) s = .next (t.packCount p c)) ∧
  (∀ (p : Nat) (c : PackClosed) (rest : List PackClosed) (s : State), (s.pack p).closed = c :: rest →
    (s.pack p).taken < c.words → exec (.packFifoNotice p) s = .next s) ∧
  (∀ (p i : Nat) (t : Ticket) (f : Syndrome) (s : State), p < 256 → (s.port p).words.length < 512 →
    s.regionRetired (portRegion p) = false → s.rdAt DP_CFG_BIND p = 1 → s.portTicket p = some (i, t) →
    exec (.deliveryPortPlace p i f) s = .next (s.placeTicket p i t f)) ∧
  (∀ (p i : Nat) (q : BufferRead) (rest : List BufferRead) (f : Syndrome) (s : State), p < 256 →
    (s.port p).words.length < 512 → s.regionRetired (portRegion p) = false → s.rdAt DP_CFG_BIND p = 3 →
    (s.port p).requests = q :: rest → exec (.deliveryPortPlace p i f) s = .next (s.placeRead p q rest f)) ∧
  (∀ (p i : Nat) (f : Syndrome) (s : State), 512 ≤ (s.port p).words.length →
    exec (.deliveryPortPlace p i f) s = .next s) ∧
  (∀ (p : Nat) (w : DeliveryWord) (rest : List DeliveryWord) (s : State), p < 256 → s.regionRuns (portRegion p) = true →
    (s.port p).words = w :: rest → exec (.deliveryPortRead p) s = .next
      { (s.setPort p { s.port p with words := rest }).addSatAt DP_WORD_CNT p 1 with
        reply := { data := w.data, poison := w.poison } }) ∧
  (∀ (p : Nat) (s : State), (s.port p).words = [] → exec (.deliveryPortRead p) s = .next s) ∧
  (∀ (p o n : Nat) (s : State), p < 256 → s.rdAt DP_CFG_BIND p = 3 → s.regionRuns (portRegion p) = true →
    (s.port p).requests.length < 8 → n % 2 ^ 16 ≠ 0 → exec (.bufferReadRequest p o n) s = .next (s.setPort p
      { s.port p with requests := (s.port p).requests ++ [{ offset := o % 2 ^ 26, words := n % 2 ^ 16 }] })) ∧
  (∀ (p o n : Nat) (s : State), 8 ≤ (s.port p).requests.length ∨ n % 2 ^ 16 = 0 →
    exec (.bufferReadRequest p o n) s = .next s)

/-- 11 R307, R309, R310, R313, R314, R317 to R322, R325: STREAM_STAGE, STREAM_LOAD, STREAM_DISCARD, CFG_DISCARD_WRITE,
LOAD_CHECKS_DONE, FULL_LOAD_COMMIT, BACKGROUND_LOAD_COMMIT. -/
def Obligations.StreamCommands : Prop :=
  (∀ (id : Nat) (r : List Nat) (s : State), s.Takes id 0x6001 r → s.storeInit true = true → recField r 16 4 % 8 ≠ 0 →
    exec (.streamStage id) s = .next (s.complete id ⟨0x03, 16, 0⟩)) ∧
  (∀ (id : Nat) (r : List Nat) (s : State), s.Takes id 0x6001 r → s.storeInit true = true → recField r 16 4 % 8 = 0 →
    recField r 20 4 % 4 ≠ 0 ∨ recField r 20 4 < 4 ∨ 16777216 < recField r 20 4 →
    exec (.streamStage id) s = .next (s.complete id ⟨0x03, 20, 0⟩)) ∧
  (∀ (id o n : Nat) (r : List Nat) (s : State), s.Takes id 0x6001 r → s.storeInit true = true → o = recField r 16 4 →
    n = recField r 20 4 → o % 8 = 0 → n % 4 = 0 → 4 ≤ n → n ≤ 16777216 → o + n ≤ 268435456 → s.cfg.load = none →
    exec (.streamStage id) s = .next ((((State.stageBytes n s (o / 8) (s.hostRead (recField r 8 8) n)).wr CFG_STAGE_LEN
      (max ((State.stageBytes n s (o / 8) (s.hostRead (recField r 8 8) n)).rd CFG_STAGE_LEN) (o + n))).wr CFG_STATUS_STAGED
      1).complete id ⟨0, 0, 0⟩)) ∧
  (∀ (id o n : Nat) (r : List Nat) (s : State), s.Takes id 0x6001 r → s.storeInit true = true → o = recField r 16 4 →
    n = recField r 20 4 → o % 8 = 0 → n % 4 = 0 → 4 ≤ n → n ≤ 16777216 → 268435456 < o + n →
    exec (.streamStage id) s = .next (s.complete id ⟨0x03, 16, 0⟩)) ∧
  (∀ (id o n : Nat) (l : LoadRun) (r : List Nat) (s : State), s.Takes id 0x6001 r → s.storeInit true = true →
    o = recField r 16 4 → n = recField r 20 4 → o % 8 = 0 → n % 4 = 0 → 4 ≤ n → n ≤ 16777216 → o + n ≤ 268435456 →
    s.cfg.load = some l → exec (.streamStage id) s = .next (s.complete id ⟨0x05, 0, 0⟩)) ∧
  (∀ (id : Nat) (s : State), s.storeInit true = false → exec (.streamStage id) s = .next s) ∧
  (∀ (id : Nat) (l : LoadRun) (r : List Nat) (s : State), s.Takes id 0x6003 r → s.cfg.load = some l →
    exec (.streamDiscard id) s = .next (s.complete id ⟨0x05, 0, 0⟩)) ∧
  (∀ (id : Nat) (r : List Nat) (s : State), s.Takes id 0x6003 r → s.cfg.load = none → exec (.streamDiscard id) s = .next
    ((((s.wr CFG_STAGE_LEN 0).wr CFG_STATUS_STAGED 0).post 0x6004 0x600 1 0).complete id ⟨0, 0, 0⟩)) ∧
  (∀ (v : Nat) (s : State), bitOf v 0 = 1 → s.cfg.load = none → exec (.cfgDiscardWrite v) s = .next
    (((s.wr CFG_STAGE_LEN 0).wr CFG_STATUS_STAGED 0).post 0x6004 0x600 1 0)) ∧
  (∀ (v : Nat) (s : State), bitOf v 0 = 0 ∨ s.cfg.load ≠ none → exec (.cfgDiscardWrite v) s = .next s) ∧
  (∀ (id : Nat) (c : Completion) (r : List Nat) (s : State), s.Takes id 0x6002 r →
    s.loadRefusal (bitOf (recByte r 8) 0 == 1) (bitOf (recByte r 8) 1 == 1) (recByte r 9) (recField r 10 2) = some c →
    exec (.streamLoad id) s = .next (s.complete id c)) ∧
  (∀ (id : Nat) (r : List Nat) (s : State) (l : LoadRun), s.Takes id 0x6002 r → l = {
      id := id
      background := bitOf (recByte r 8) 0 == 1
      fromFlash := bitOf (recByte r 8) 1 == 1
      bank := recByte r 9
      sector := recField r 10 2
      startedAt := s.now
      retired := ((List.range 16).map fun k => if s.regionRetired k then 2 ^ k else 0).sum
      parked := s.rd CTX_STATUS_PARKED
      active := s.rd CTX_ACTIVE } →
    s.loadRefusal (bitOf (recByte r 8) 0 == 1) (bitOf (recByte r 8) 1 == 1) (recByte r 9) (recField r 10 2) = none →
    s.goldenClash l = false → exec (.streamLoad id) s = .next ((s.loadBegin l).begin id)) ∧
  (∀ (b f : Bool) (k n : Nat) (s : State), b = true → s.running = false → s.isSet LCS_STATE_PRIV_RUNNING = false → k ≤ 7 →
    n ≤ 1535 → s.loadRefusal b f k n = some .notInMode) ∧
  (∀ (f : Found) (s : State), s.cfg.load = none → exec (.loadChecksDone f) s = .next s ∧
    exec (.fullLoadCommit f) s = .next s ∧ exec (.backgroundLoadCommit f) s = .next s) ∧
  (∀ (l : LoadRun) (f : Found) (x : StreamFailure) (s : State), s.cfg.load = some l → l.image = none →
    (s.readStaged { l with found := f }).trustFailure { l with found := f } = some x →
    exec (.loadChecksDone f) s = .next ((s.readStaged { l with found := f }).failLoad { l with found := f } x false)) ∧
  (∀ (l k : LoadRun) (f : Found) (x : StreamFailure) (s : State), s.cfg.load = some l → l.image = none →
    k = { l with found := f } → (s.readStaged k).trustFailure k = none → ((s.readStaged k).parseLoad k).failure = some x →
    exec (.loadChecksDone f) s = .next ((s.readStaged k).failLoad k x false)) ∧
  (∀ (l k : LoadRun) (f : Found) (x : StreamFailure) (s : State), s.cfg.load = some l → l.image = none →
    k = { l with found := f } → (s.readStaged k).trustFailure k = none → ((s.readStaged k).parseLoad k).failure = none →
    (s.readStaged k).checkFailure ((s.readStaged k).parseLoad k).image k.parked = some x →
    exec (.loadChecksDone f) s = .next ((s.readStaged k).failLoad k x false)) ∧
  (∀ (l k : LoadRun) (f : Found) (s t : State), s.cfg.load = some l → l.image = none → k = { l with found := f } →
    t = s.readStaged k → t.trustFailure k = none → (t.parseLoad k).failure = none →
    t.checkFailure (t.parseLoad k).image k.parked = none → exec (.loadChecksDone f) s = .next
      (State.wr { t with cfg := { t.cfg with load := some { k with image := some (t.parseLoad k).image } } }
        CFG_STATUS_PHASE 3)) ∧
  (∀ (l k : LoadRun) (m : StreamImage) (f : Found) (s t : State), s.cfg.load = some l → l.image = some m →
    l.background = false → s.promenadeWaits = false → k = { l with found := f } → t = (s.readStaged k).commitTie k →
    exec (.fullLoadCommit f) s = .next
    (if t.loadRetired k m then t.failLoad k { status := 0x2F } true
     else
       match t.loadPoisoned k with
       | some a => (((t.clearPlanes.wr CFG_STATUS_PLANES_VALID 0).settled m).placeBefore k m a).failLoad k
          { status := 0x26, offset := a } true
       | none => t.fullCommit k m) ∧
    exec (.backgroundLoadCommit f) s = .next s) ∧
  (∀ (l k : LoadRun) (m : StreamImage) (f : Found) (s t : State), s.cfg.load = some l → l.image = some m →
    l.background = true → s.promenadeWaits = false → k = { l with found := f } → t = (s.readStaged k).commitTie k →
    exec (.backgroundLoadCommit f) s = .next
    (if t.loadRetired k m then t.failLoad k { status := 0x2F } true
     else
       match (t.loadParks m).loadPoisoned k with
       | some a => ((t.loadParks m).placeBefore k m a).failLoad k { status := 0x26, offset := a } true
       | none => (t.loadParks m).backgroundCommit k m) ∧
    exec (.fullLoadCommit f) s = .next s) ∧
  (∀ (f : Found) (s : State), s.promenadeWaits = true →
    exec (.fullLoadCommit f) s = .next s ∧ exec (.backgroundLoadCommit f) s = .next s)

/-- 12 R335 to R341, R351: CTX_TURN, CTX_PARK, CTX_UNPARK, TURN_EFFECT, TURN_NO_CLOCK, PARK_EFFECT, PARK_FORCED,
UNPARK_RELEASE. -/
def Obligations.RegionRequests : Prop :=
  (∀ (id : Nat) (r : List Nat) (s : State), recField r 8 2 = 0 →
    (s.Takes id 0x7001 r → exec (.ctxTurn id) s = .next (s.complete id ⟨0, 0, 0⟩)) ∧
    (s.Takes id 0x7002 r → exec (.ctxPark id) s = .next (s.complete id ⟨0, 0, 0⟩)) ∧
    (s.Takes id 0x7003 r → exec (.ctxUnpark id) s = .next (s.complete id ⟨0, 0, 0⟩))) ∧
  (∀ (id m : Nat) (r : List Nat) (s : State), m = recField r 8 2 → m ≠ 0 →
    let s1 : State := { s with ctx := { s.ctx with cmds := SMap.put s.ctx.cmds id { waiting := regionsOf m } } }
    (s.Takes id 0x7001 r → exec (.ctxTurn id) s = .next ((s1.requestAll m
      { kind := 0, context := recByte r 10 % 4, reset := bitOf (recByte r 10) 2 == 1, issued := s.now, cmd := some id }).begin id)) ∧
    (s.Takes id 0x7002 r → exec (.ctxPark id) s = .next ((s1.requestAll m
      { kind := 1, issued := s.now, cmd := some id }).begin id)) ∧
    (s.Takes id 0x7003 r → exec (.ctxUnpark id) s = .next ((s1.requestAll m
      { kind := 2, issued := s.now, cmd := some id }).begin id))) ∧
  (∀ (r st : Nat) (q : RegionRequest) (s : State), s.turnRefusal r q.context = some st → s.turnArrives r q = s.turnRefused r q st) ∧
  (∀ (r : Nat) (q : RegionRequest) (s : State), s.turnRefusal r q.context = none → s.parked r = false →
    s.turnArrives r q = s.waitEdge r q) ∧
  (∀ (r : Nat) (q : RegionRequest) (s : State), s.turnRefusal r q.context = none → s.parked r = true →
    s.turnArrives r q = (((s.turnTo r q.context).addSatAt CTX_TURN_CNT r 1).resetHard r).settle q.cmd r none) ∧
  (∀ (r k : Nat) (s : State), s.running = false → s.turnRefusal r k = some 0x04) ∧
  (∀ (r k : Nat) (s : State), s.running = true → s.loaded r k = false → s.turnRefusal r k = some 0x60) ∧
  (∀ (r k : Nat) (s : State), s.running = true → s.loaded r k = true → s.locked r k = true →
    s.releaseWaits = false → s.turnRefusal r k = some 0x61) ∧
  (∀ (r : Nat) (q : RegionRequest) (s : State), s.running = true → s.parked r = true → s.requests r = [] →
    s.parkArrives r q = s.settle q.cmd r (some 0)) ∧
  (∀ (r : Nat) (q : RegionRequest) (s : State), s.running = true → s.parked r = false → s.requests r = [] →
    s.unparkArrives r q = s.settle q.cmd r (some 0)) ∧
  (∀ (r : Nat) (s : State), r < 16 → s.waits r 0 = true → s.parked r = false → s.turnRuns r = true →
    exec (.turnEffect r) s = .next ((s.noClock r 10001).regionEdge r)) ∧
  (∀ (r : Nat) (s : State), r < 16 → s.waits r 1 = true → s.parked r = false → s.turnRuns r = true →
    exec (.parkEffect r) s = .next ((s.noClock r 10001).regionEdge r)) ∧
  (∀ (r : Nat) (s : State), s.turnRuns r = false → exec (.turnEffect r) s = .next s ∧ exec (.parkEffect r) s = .next s) ∧
  (∀ (r : Nat) (s : State), r < 16 → (s.noClock r 10001).waits r 2 = false →
    exec (.unparkRelease r) s = .next (s.noClock r 10001)) ∧
  (∀ (r : Nat) (s : State), r < 16 → exec (.turnNoClock r) s = .next (s.noClock r 10000)) ∧
  (∀ (r n : Nat) (q : RegionRequest) (s : State), s.requests r = [q] → q.kind = 0 → q.issued + n ≤ s.now →
    ((s.setRequests r []).refuseRequest r q 0x63).requests r = [] →
    s.noClock r n = (s.setRequests r []).refuseRequest r q 0x63) ∧
  (∀ (r n : Nat) (s : State), (s.overdue r 0 n).1 = [] → (s.overdue r 2 n).1 = [] → s.noClock r n = s) ∧
  (∀ (r : Nat) (s : State), r < 16 → (s.overdue r 1 10000).1 ≠ [] → s.parked r = false → exec (.parkForced r) s = .next
    (((s.setRequests r (s.overdue r 1 10000).2).parkRegion r true).settleAll r (s.overdue r 1 10000).1)) ∧
  (∀ (r : Nat) (s : State), (s.overdue r 1 10000).1 = [] → exec (.parkForced r) s = .next s) ∧
  (∀ (r : Nat) (s t : State), r < 16 → t = s.noClock r 10001 → t.waits r 2 = true → t.parked r = true →
    t.turnRuns r = true → SMap.find t.guard.relocations r = none → lastPark (t.requests r) = some 2 →
    exec (.unparkRelease r) s = .next ((((t.setRequests r []).turnsApply r
      ((t.requests r).filter fun q => q.kind == 0)).unparkRegion r).settleAll r (t.requests r)))

/-- 12 R328, R342 to R350, 13 R375, 19 R495: CTX_CAPTURE, CAPTURE_TAKEN, CTX_RESUME, CTX_READBACK, CTX_GOLDEN_SAVE,
GOLDEN_SAVE_DONE. -/
def Obligations.CaptureAndGolden : Prop :=
  (∀ (id : Nat) (r : List Nat) (s : State), s.Takes id 0x7004 r → recField r 12 4 = 0 → s.ctx.capture = none →
    exec (.ctxCapture id) s = .next (s.complete id ⟨0, 0, 0⟩)) ∧
  (∀ (id : Nat) (x : CaptureRun) (r : List Nat) (s : State), s.Takes id 0x7004 r → recField r 12 4 = 0 →
    s.ctx.capture = some x → x.cmd = none →
    exec (.ctxCapture id) s = .next (s.captureCancel.complete id ⟨0, 0, 0⟩)) ∧
  (∀ (id k : Nat) (r : List Nat) (s : State), s.Takes id 0x7004 r → recField r 12 4 ≠ 0 →
    s.captureRefusal (recByte r 10 % 64) = some k →
    exec (.ctxCapture id) s = .next ((s.captureRefused k).complete id ⟨if k = 3 then 0x63 else 0x65, 0, 0⟩)) ∧
  (∀ (id : Nat) (r : List Nat) (s : State), s.Takes id 0x7004 r → recField r 12 4 ≠ 0 →
    s.captureRefusal (recByte r 10 % 64) = none → exec (.ctxCapture id) s = .next ((s.captureArm {
      mask := recField r 8 2
      clock := recByte r 10 % 64
      edge := recField r 12 4
      halt := bitOf (recByte r 10) 7 == 1
      issued := s.now
      cmd := some id }).begin id)) ∧
  (∀ (x : CaptureRun) (s seen : State), s.ctx.capture = some x → s.netRuns x.clock = true →
    s.edgesPassed x.clock x.edge (s.now - x.issued) = true → x.halt = false → seen = s.beforeTurns x →
    let cells := (regionsOf x.mask).foldl (fun (m : SMap (List Nat)) r => SMap.put m r (seen.captureRegion r)) s.ctx.cells
    let s3 := (((((State.wr { s.tookN 393216 with ctx := { s.ctx with capture := none, cells := cells } }
      CTX_STATUS_CAP_STATE 2).wr CTX_CAP_MONO s.now).wr CTX_CAP_CTX (seen.rd CTX_ACTIVE)).wr CTX_CAP_REGIONS x.mask).incSat
      CTX_CAP_CNT).post 0x7003 0x700 0 (x.mask + 0)
    (x.cmd = none → exec .captureTaken s = .next s3) ∧
    (∀ id, x.cmd = some id → exec .captureTaken s = .next (s3.complete id ⟨0, 0, 0⟩))) ∧
  (∀ (x : CaptureRun) (s : State), s.ctx.capture = some x → s.netRuns x.clock = false →
    exec .captureTaken s = .next s) ∧
  (∀ s : State, s.ctx.capture = none → exec .captureTaken s = .next s) ∧
  (∀ (id : Nat) (r : List Nat) (s : State), s.Takes id 0x7005 r → s.mode ≠ modeHalted →
    exec (.ctxResume id) s = .next (s.complete id ⟨0x67, 0, 0⟩)) ∧
  (∀ (id : Nat) (r : List Nat) (s : State), s.Takes id 0x7005 r → s.mode = modeHalted →
    exec (.ctxResume id) s = .next (s.resumeRun.complete id ⟨0, 0, 0⟩)) ∧
  (∀ (id : Nat) (r : List Nat) (s : State), s.Takes id 0x7006 r →
    s.rd LCS_STATE_STATE = 4 ∨ s.rd LCS_STATE_STATE = 0xF ∨ s.rd LCS_STATE_STATE = 6 →
    exec (.ctxReadback id) s = .next (s.complete id ⟨0x06, 0, 0⟩)) ∧
  (∀ (id : Nat) (r : List Nat) (s : State), s.Takes id 0x7006 r → s.rd LCS_STATE_STATE < 4 → 2 < recByte r 16 →
    exec (.ctxReadback id) s = .next (s.complete id ⟨0x03, 16, 0⟩)) ∧
  (∀ (id : Nat) (r : List Nat) (s : State), s.Takes id 0x7006 r → s.rd LCS_STATE_STATE < 4 → recByte r 16 = 0 →
    exec (.ctxReadback id) s = .next ((s.readCapture (recField r 8 8) (recByte r 17 % 16) (bitOf (recByte r 17) 7 == 1)).2.complete
      id (s.readCapture (recField r 8 8) (recByte r 17 % 16) (bitOf (recByte r 17) 7 == 1)).1)) ∧
  (∀ (id : Nat) (r : List Nat) (s : State), s.Takes id 0x7006 r → s.rd LCS_STATE_STATE < 4 → recByte r 16 = 1 →
    exec (.ctxReadback id) s = .next ((s.readFrames (recField r 8 8) (recField r 20 4 % 2 ^ 21) (recField r 24 4)).2.complete
      id (s.readFrames (recField r 8 8) (recField r 20 4 % 2 ^ 21) (recField r 24 4)).1)) ∧
  (∀ (id : Nat) (c : Completion) (r : List Nat) (s : State), s.Takes id 0x7007 r → s.stewardReady = true →
    s.goldenRefusal (recByte r 8 % 4) = some c → exec (.ctxGoldenSave id) s = .next (s.complete id c)) ∧
  (∀ (id : Nat) (r : List Nat) (s : State), s.Takes id 0x7007 r → s.stewardReady = true →
    s.goldenRefusal (recByte r 8 % 4) = none →
    exec (.ctxGoldenSave id) s = .next ((s.goldenStart id (recByte r 8 % 4)).begin id)) ∧
  (∀ (id k mask : Nat) (s : State), s.ctx.golden = some (id, k, mask) → s.flash.ops = [] →
    exec (.goldenSaveDone false) s = .next (((s.took.goldenStop.wr CTX_ERR_GOLDEN_FAIL 1).post 0x7006 0x700 3
      (k + 4)).complete id ⟨0x60 + s.free 4, 0, 0⟩) ∧
    exec (.goldenSaveDone true) s = .next ((((s.goldenWrite k mask).goldenStop.directoryAppend k mask).post 0x7006 0x700 1
      (k + mask * 2 ^ 16)).complete id ⟨0, 0, mask⟩)) ∧
  (∀ (ok : Bool) (s : State), s.ctx.golden = none → exec (.goldenSaveDone ok) s = .next s)

/-- 13 R359 to R371: FLASH_ERASE, FLASH_ERASE_DONE, FLASH_PROGRAM, FLASH_PROGRAM_DONE, FLASH_SUSPEND, FLASH_RESUME,
STEWARD_OFF_BANK. -/
def Obligations.FlashOperations : Prop :=
  (∀ (id : Nat) (c : Completion) (r : List Nat) (s : State), s.Takes id 0x8001 r →
    s.flashRefusal (recBank r) (recSector r) = some c → exec (.flashErase id) s = .next (s.complete id c)) ∧
  (∀ (id : Nat) (r : List Nat) (s : State), s.Takes id 0x8001 r → s.flashRefusal (recBank r) (recSector r) = none →
    exec (.flashErase id) s = .next ((s.flashStart (recBank r)
      { erase := true, cmd := some id, sector := recSector r }).begin id)) ∧
  (∀ (id : Nat) (r : List Nat) (s : State), s.Takes id 0x8002 r → recField r 14 2 = 0 ∨ 256 < recField r 14 2 →
    exec (.flashProgram id) s = .next (s.complete id ⟨0x03, 14, 0⟩)) ∧
  (∀ (id : Nat) (r : List Nat) (s : State), s.Takes id 0x8002 r → 0 < recField r 14 2 → recField r 14 2 ≤ 256 →
    4096 < recField r 12 2 + recField r 14 2 → exec (.flashProgram id) s = .next (s.complete id ⟨0x03, 12, 0⟩)) ∧
  (∀ (id : Nat) (r : List Nat) (s : State), s.Takes id 0x8002 r → 0 < recField r 14 2 → recField r 14 2 ≤ 256 →
    recField r 12 2 + recField r 14 2 ≤ 4096 → s.flashRefusal (recBank r) (recSector r) = none →
    (s.sectorState (recBank r) (recSector r) = 2 ∨ s.sectorState (recBank r) (recSector r) = 3 →
      exec (.flashProgram id) s = .next (s.complete id ⟨0x32, 0, 0⟩)) ∧
    (s.sectorState (recBank r) (recSector r) < 2 → exec (.flashProgram id) s = .next ((s.flashStart (recBank r) {
      erase := false
      cmd := some id
      sector := recSector r
      word := recField r 12 2
      data := codeData (s.hostRead (recField r 16 8) (18 * recField r 14 2)) (recField r 14 2) }).begin id))) ∧
  (∀ (b n : Nat) (s : State), 7 < b → s.flashRefusal b n = some ⟨0x03, 8, 0⟩) ∧
  (∀ (b n : Nat) (s : State), b ≤ 7 → 1535 < n → s.flashRefusal b n = some ⟨0x03, 10, 0⟩) ∧
  (∀ (b n : Nat) (s : State), b ≤ 7 → n ≤ 1535 → s.isSet LCS_STATE_PRIV_RUNNING = false → s.flashMode = true →
    s.flashProtected b n = true → s.flashRefusal b n = some ⟨0x33, 0, 0⟩) ∧
  (∀ (b : Nat) (x : FlashOp) (s : State), s.stewardOn b = true → s.flashStart b x =
    ((s.setFlashOp b { x with begun := false }).wr FLC_STATUS_STW_MOVE_REQ 1).wrAt FLC_BANK_STW_BANK b 1) ∧
  (∀ (b : Nat) (x : FlashOp) (s : State), s.stewardOn b = false → x.erase = true → x.golden = false → s.flashStart b x =
    (s.setFlashOp b { x with
      begun := true
      held := false
      suspended := false
      was := s.sectorState b x.sector
      wasIndex := s.rdAt FLC_SECTOR_CW_INDEX (sectorOf b x.sector)
      startedAt := s.now }).setSector b x.sector 3) ∧
  (∀ (b : Nat) (x : FlashOp) (s : State), s.flashOp b = some x → x.erase = true → s.flashRuns b = true →
    x.golden = false → isRecordSector b x.sector = false →
    exec (.flashEraseDone b true) s = .next (((s.sectorErased b x.sector true).flashEnd b).flashAnswer x ⟨0, 0, 0⟩) ∧
    exec (.flashEraseDone b false) s = .next (((((s.sectorErased b x.sector false).flashEnd b).wr FLC_ERR_VERIFY_FAIL
      1).flashError b x.sector 0 0x36).flashAnswer x ⟨0x36, 0, 0⟩)) ∧
  (∀ (b : Nat) (v : Bool) (w : Option Nat) (s : State), s.flashOp b = none →
    exec (.flashEraseDone b v) s = .next s ∧ exec (.flashProgramDone b w) s = .next s) ∧
  (∀ (b n : Nat) (x : FlashOp) (w : Option Nat) (s t : State), s.flashOp b = some x → x.erase = false →
    s.flashRuns b = true → x.golden = false → (s.unmarkSector b x).programWords b x.sector x.word x.data w 0 = (n, none, t) →
    exec (.flashProgramDone b w) s = .next ((t.flashEnd b).flashAnswer x ⟨0, 0, n⟩)) ∧
  (∀ (b n : Nat) (x : FlashOp) (w : Option Nat) (s t : State), s.flashOp b = some x → x.erase = false →
    s.flashRuns b = true → x.golden = false → (s.unmarkSector b x).programWords b x.sector x.word x.data w 0 = (n, some 0x36, t) →
    exec (.flashProgramDone b w) s = .next ((((t.flashEnd b).flashError b x.sector (x.word + n) 0x36).post 0x8005
      (0x800 + b) 3 (flashDetail b x.sector (x.word + n))).flashAnswer x ⟨0x36, 0, n⟩)) ∧
  (∀ (id : Nat) (x : FlashOp) (r : List Nat) (s : State), s.Takes id 0x8003 r → recBank r ≤ 7 → s.flashMode = true →
    s.flashOp (recBank r) = some x → x.erase = true → s.flashRuns (recBank r) = true → x.golden = false →
    s.eraseEnds (recBank r) = false →
    exec (.flashSuspend id) s = .next (((s.setFlashOp (recBank r) { x with suspended := true }).setSector (recBank r)
      x.sector 2).complete id ⟨0, 0, 0⟩)) ∧
  (∀ (id : Nat) (r : List Nat) (s : State), recBank r ≤ 7 → s.flashMode = true → s.flashOp (recBank r) = none →
    (s.Takes id 0x8003 r → exec (.flashSuspend id) s = .next (s.complete id ⟨0x34, 0, 0⟩)) ∧
    (s.Takes id 0x8004 r → exec (.flashResume id) s = .next (s.complete id ⟨0x34, 0, 0⟩))) ∧
  (∀ (id : Nat) (x : FlashOp) (r : List Nat) (s : State), s.Takes id 0x8004 r → recBank r ≤ 7 → s.flashMode = true →
    s.flashOp (recBank r) = some x → x.suspended = true → x.held = false → exec (.flashResume id) s = .next
      ((s.flashStart (recBank r) { x with suspended := false, resumeCmds := x.resumeCmds ++ [id] }).begin id)) ∧
  (∀ s : State, s.isSet FLC_STATUS_STW_MOVE_REQ = true → s.stewardReady = true → s.isSet FLC_STATUS_STW_OFF_BANK = false →
    exec .stewardOffBank s = .next (((s.wr FLC_STATUS_STW_OFF_BANK 1).stewardRewrites).flashGo s.stewardBank)) ∧
  (∀ s : State, s.isSet FLC_STATUS_STW_MOVE_REQ = false → exec .stewardOffBank s = .next s)

/-- 13 R379 to R386: FLASH_SECTOR_INFO, FLASH_CAL_READ, FLASH_BOOT_SWAP, RECORD_SECTOR_ERASE_DONE. That a swap to the block
already active answers RESULT 0 is the model's choice (log 61). -/
def Obligations.FlashRecords : Prop :=
  (∀ (id : Nat) (r : List Nat) (s : State), s.Takes id 0x8005 r → 7 < recBank r →
    exec (.flashSectorInfo id) s = .next (s.complete id ⟨0x03, 8, 0⟩)) ∧
  (∀ (id : Nat) (r : List Nat) (s : State), s.Takes id 0x8005 r → recBank r ≤ 7 → 1535 < recSector r →
    exec (.flashSectorInfo id) s = .next (s.complete id ⟨0x03, 10, 0⟩)) ∧
  (∀ (id : Nat) (r : List Nat) (s : State), s.Takes id 0x8005 r → recBank r ≤ 7 → recSector r ≤ 1535 → s.mode ≠ modeBoot →
    s.mode ≠ modeLoad → exec (.flashSectorInfo id) s = .next (s.complete id ⟨0, 0,
      s.sectorState (recBank r) (recSector r) * 2 ^ 29 + s.rdAt FLC_SECTOR_ERASE_CNT (sectorOf (recBank r) (recSector r)) * 2 ^ 12 +
        s.rdAt FLC_SECTOR_CW_INDEX (sectorOf (recBank r) (recSector r))⟩)) ∧
  (∀ (id : Nat) (r : List Nat) (s : State), s.Takes id 0x8006 r → s.mode = modeBoot ∨ s.mode = modeService →
    exec (.flashCalRead id) s = .next ((s.hostWrite (recField r 16 8)
      ((List.range 256).flatMap fun n => bytesOf 18 (s.calibrationWord n))).complete id ⟨0, 0, 0⟩)) ∧
  (∀ (id : Nat) (r : List Nat) (s : State), s.Takes id 0x8006 r → s.mode ≠ modeBoot → s.mode ≠ modeService →
    exec (.flashCalRead id) s = .next (s.complete id ⟨0x04, 0, 0⟩)) ∧
  (∀ (id : Nat) (f : Found) (r : List Nat) (s : State), s.Takes id 0x8007 r → s.stewardReady = true → recByte r 8 ≠ 1 →
    recByte r 8 ≠ 2 → exec (.flashBootSwap id f) s = .next (s.complete id ⟨0x03, 8, 0⟩)) ∧
  (∀ (id : Nat) (f : Found) (r : List Nat) (s : State), s.Takes id 0x8007 r → s.stewardReady = true →
    recByte r 8 = 1 ∨ recByte r 8 = 2 → s.flashMode = true → s.rd FLC_BOOT_ACTIVE_BLOCK = recByte r 8 →
    exec (.flashBootSwap id f) s = .next (s.complete id ⟨0, 0, 0⟩)) ∧
  (∀ (id why : Nat) (f : Found) (r : List Nat) (s t : State), s.Takes id 0x8007 r → s.stewardReady = true →
    recByte r 8 = 1 ∨ recByte r 8 = 2 → s.flashMode = true → s.rd FLC_BOOT_ACTIVE_BLOCK ≠ recByte r 8 →
    t = s.senseSwap f (recByte r 8 - 1) → t.blockFault f (recByte r 8 - 1) = some why →
    exec (.flashBootSwap id f) s = .next (t.complete id ⟨0x35, why, 0⟩)) ∧
  (∀ (id n w : Nat) (f : Found) (r : List Nat) (s t : State), s.Takes id 0x8007 r → s.stewardReady = true →
    recByte r 8 = 1 ∨ recByte r 8 = 2 → s.flashMode = true → s.rd FLC_BOOT_ACTIVE_BLOCK ≠ recByte r 8 →
    t = s.senseSwap f (recByte r 8 - 1) → t.blockFault f (recByte r 8 - 1) = none → t.blockTag f (recByte r 8 - 1) = true →
    t.isSetAt FLC_BANK_LOAD_LOCK 7 = false → t.flashOp 7 = none → t.recordPlace f = some (n, w) →
    exec (.flashBootSwap id f) s = .next
      (((((t.writeSwap n w (t.rd FLC_BOOT_SEQ + 1) (recByte r 8)).showRecords f).loadLifeline f).post 0x8006 0x808 1
        (recByte r 8 + (t.rd FLC_BOOT_SEQ + 1) % 2 ^ 30 * 4)).complete id ⟨0, 0, t.rd FLC_BOOT_SEQ + 1⟩)) ∧
  (∀ (k : Nat) (x : FlashOp) (s : State), k < 2 → s.flashOp 7 = some x → x.erase = true → s.flashRuns 7 = true →
    x.sector = 1006 + k → exec (.recordSectorEraseDone k) s = .next
      (((s.sectorErased 7 x.sector true).flashEnd 7).post 0x8008 0x808 0 k)) ∧
  (∀ (k : Nat) (s : State), s.flashOp 7 = none → exec (.recordSectorEraseDone k) s = .next s)

/-- 14 R391, R395 to R403, R408: FRAME_UPSET_DETECT, STEWARD_SCRUB_MISMATCH, FRAME_SELF_TEST_DONE, COLUMN_RELOCATION_DONE,
GUARD_TMR_CORRECT, GUARD_FAILED, RISER_TRANSFER_ERROR, EXPRESS_TAP_MISMATCH. -/
def Obligations.GuardFaults : Prop :=
  (∀ (k p f c : Nat) (d : Found) (s : State), s.guarded k p f = some c → s.rdBit HLT_GUARD_FAILED p = false →
    exec (.frameUpsetDetect k p f d) s = .next (s.upset k p c f d)) ∧
  (∀ (k p f c : Nat) (d : Found) (s : State), s.guarded k p f = some c → s.rdBit HLT_GUARD_FAILED p = true →
    s.stewardReady = true →
    exec (.frameUpsetDetect k p f d) s = .next s ∧ exec (.stewardScrubMismatch k p f d) s = .next (s.upset k p c f d)) ∧
  (∀ (k p f : Nat) (d : Found) (s : State), s.guarded k p f = none →
    exec (.frameUpsetDetect k p f d) s = .next s ∧ exec (.stewardScrubMismatch k p f d) s = .next s) ∧
  (∀ (k p c f : Nat) (d : Found) (x : PlaneFrame) (s t : State), s.repairSource k c f d = some x →
    t = s.senseSource k c f d → s.upset k p c f d =
    (((t.writePlane k (frameIndex c f) x).upsetRepaired (c / 96) k (frameWord p f k) (t.upsetAction (c / 96) k)).startTest
      kindFrame (frameWord p f k) causeFailed)) ∧
  (∀ (k p c f : Nat) (d : Found) (s t : State), s.repairSource k c f d = none → t = s.senseSource k c f d →
    s.upset k p c f d = t.unrepairable (c / 96) k (frameWord p f k) (t.upsetAction (c / 96) k)) ∧
  (∀ (p : Nat) (s : State), p < 1568 → s.guardsRun = true → s.rdBit HLT_GUARD_FAILED p = false →
    exec (.guardTmrCorrect p) s = .next ((s.incSat HLT_TMR_CNT).postLimited 0x9004 0 0x900 0 fun n =>
      p + satN 16 n * 2 ^ 16)) ∧
  (∀ (p : Nat) (b : Bool) (s t : State), p < 1568 → s.guardsRun = true → s.rdBit HLT_GUARD_FAILED p = false →
    t = (if s.rd HLT_STATUS_UNGUARDED_CNT = 0 then s.scrubStarts else s) →
    exec (.guardFailed p b) s = .next (((((t.wrBit HLT_GUARD_FAILED p true).addSatAt HLT_STATUS_UNGUARDED_CNT 0 1).wr
      HLT_ERR_GUARD_FAILED 1).addRecord (repairRecord 9 p 1 0 0)).post 0x9003 0x900 3 (p + flag b * 2 ^ 11))) ∧
  (∀ (p : Nat) (b : Bool) (s : State), s.guardsRun = false →
    exec (.guardFailed p b) s = .next s ∧ exec (.guardTmrCorrect p) s = .next s) ∧
  (∀ (i g : Nat) (s : State), i ≠ 3 → riserGroup i g = true → s.guard.groupsRetired.contains (riserIndex i g) = false →
    exec (.riserTransferError i g) s = .next ((s.addSatAt HLT_RISER_TRANSFER_ERR_CNT (i - 1) 1).startTest kindRiser
      (riserIndex i g) causeFailed)) ∧
  (∀ (g : Nat) (s : State), tapGroup g = true → s.guard.groupsRetired.contains (riserIndex 3 g) = false →
    exec (.expressTapMismatch g) s = .next ((s.addSatAt HLT_RISER_TRANSFER_ERR_CNT 2 1).startTest kindRiser
      (riserIndex 3 g) causeFailed)) ∧
  (∀ (kind index cause : Nat) (cmd : Option Nat) (s : State), s.underTest kind index = true →
    s.startTest kind index cause cmd = s) ∧
  (∀ (key : Nat) (s : State), s.verdict key false = .failed) ∧
  (∀ (key : Nat) (s : State), 2 ≤ s.recentTransients key → s.verdict key true = .marginal) ∧
  (∀ (key : Nat) (s : State), s.recentTransients key < 2 → s.verdict key true = .transient) ∧
  (∀ (k p f : Nat) (x : FrameTest) (s : State), k < 4 → p < 1568 → f < 256 →
    s.underTest kindFrame (frameWord p f k) = true →
    (s.endTest kindFrame (frameWord p f k) (x == .pass)).1 = .transient →
    exec (.frameSelfTestDone k p f x) s = .next (s.endTest kindFrame (frameWord p f k) (x == .pass)).2) ∧
  (∀ (k p f : Nat) (x : FrameTest) (s t : State) (v : Verdict), k < 4 → p < 1568 → f < 256 →
    s.underTest kindFrame (frameWord p f k) = true → s.endTest kindFrame (frameWord p f k) (x == .pass) = (v, t) →
    v ≠ .transient → (∀ i n, x ≠ .signal i n) → s.active (p / 98) = k → t.active (p / 98) = k →
    exec (.frameSelfTestDone k p f x) s = .next
      (t.retireColumn p (s.testCause kindFrame (frameWord p f k) v) none)) ∧
  (∀ (k p f i n : Nat) (s t : State), k < 4 → p < 1568 → f < 256 →
    s.underTest kindFrame (frameWord p f k) = true →
    s.endTest kindFrame (frameWord p f k) (FrameTest.signal i n == .pass) = (.failed, t) →
    exec (.frameSelfTestDone k p f (.signal i n)) s = .next (t.signalFailed 3 (configGroup p f (i % 27)) (n % 64)
      (s.testCause kindFrame (frameWord p f k) .failed))) ∧
  (∀ (r t : Nat) (x : Relocation) (d : Found) (s : State), SMap.find s.guard.relocations r = some x → x.startedAt = some t →
    exec (.columnRelocationDone r d) s = .next (s.relocated r x t d)) ∧
  (∀ (r : Nat) (d : Found) (s : State), SMap.find s.guard.relocations r = none →
    exec (.columnRelocationDone r d) s = .next s)

/-- 14 R402, R403, R407, R412, 05 R132: RISER_TEST_DONE, STORE_BANK_TEST_DONE, FAR_CHANNEL_TEST_DONE, HLT_AFFECTED_FLOWS,
HLT_RECORDS, HLT_TEST. -/
def Obligations.GuardTestsAndCommands : Prop :=
  (∀ (i g : Nat) (s : State), riserGroup i g = true → s.underTest kindRiser (riserIndex i g) = true →
    (s.endTest kindRiser (riserIndex i g) true).1 = .transient →
    exec (.riserTestDone i g none) s = .next (s.endTest kindRiser (riserIndex i g) true).2) ∧
  (∀ (i g n : Nat) (s : State), riserGroup i g = true → s.underTest kindRiser (riserIndex i g) = true →
    exec (.riserTestDone i g (some n)) s = .next ((s.endTest kindRiser (riserIndex i g) false).2.signalFailed i g (n % 64)
      (s.testCause kindRiser (riserIndex i g) .failed))) ∧
  (∀ (i g : Nat) (s : State), riserGroup i g = true → s.underTest kindRiser (riserIndex i g) = true →
    (s.endTest kindRiser (riserIndex i g) true).1 = .marginal →
    exec (.riserTestDone i g none) s = .next ((s.endTest kindRiser (riserIndex i g) true).2.retireGroup i g
      (s.testCause kindRiser (riserIndex i g) .marginal))) ∧
  (∀ (i g : Nat) (x : Option Nat) (s : State), s.underTest kindRiser (riserIndex i g) = false →
    exec (.riserTestDone i g x) s = .next s) ∧
  (∀ (u : Nat) (s : State), u < 512 → s.underTest kindBank u = true → exec (.storeBankTestDone u false) s = .next
    ((s.endTest kindBank u false).2.retireUnit false u (s.testCause kindBank u .failed))) ∧
  (∀ (u : Nat) (s : State), u < 512 → s.underTest kindBank u = true → (s.endTest kindBank u true).1 = .transient →
    exec (.storeBankTestDone u true) s = .next (s.endTest kindBank u true).2) ∧
  (∀ (u : Nat) (s : State), u < 32 → s.underTest kindChannel u = true → exec (.farChannelTestDone u false) s = .next
    ((s.endTest kindChannel u false).2.retireUnit true u (s.testCause kindChannel u .failed))) ∧
  (∀ (u : Nat) (p : Bool) (s : State), (s.underTest kindBank u = false → exec (.storeBankTestDone u p) s = .next s) ∧
    (s.underTest kindChannel u = false → exec (.farChannelTestDone u p) s = .next s)) ∧
  (∀ (id : Nat) (r : List Nat) (s : State), s.Takes id 0x9001 r → s.stewardReady = true →
    exec (.hltAffectedFlows id) s = .next ((State.hostWrite { s with guard := { s.guard with
        affected := s.guard.affected.drop (recField r 16 2) } } (recField r 8 8)
      ((s.guard.affected.take (recField r 16 2)).flatMap fun f => bytesOf 2 f)).complete id
      ⟨0, 0, (s.guard.affected.take (recField r 16 2)).length +
        satN 16 (s.guard.affected.drop (recField r 16 2)).length * 2 ^ 16⟩)) ∧
  (∀ (id : Nat) (r : List Nat) (s : State), s.Takes id 0x9002 r → s.stewardReady = true →
    exec (.hltRecords id) s = .next ((s.hostWrite (recField r 8 8)
      ((s.guard.records.drop (recField r 16 2)).flatMap fun x => bytesOf 8 x)).complete id
      ⟨0, 0, (s.guard.records.drop (recField r 16 2)).length % 2 ^ 13⟩)) ∧
  (∀ (id : Nat) (s : State), s.stewardReady = false →
    exec (.hltAffectedFlows id) s = .next s ∧ exec (.hltRecords id) s = .next s) ∧
  (∀ (id k : Nat) (r : List Nat) (s : State), s.Takes id 0x9003 r → k = recByte r 8 % 16 →
    k ≠ 3 → k ≠ 6 → k ≠ 7 → k ≠ 8 → exec (.hltTest id) s = .next (s.complete id ⟨0x03, 8, 0⟩)) ∧
  (∀ (id k : Nat) (r : List Nat) (s : State), s.Takes id 0x9003 r → k = recByte r 8 % 16 →
    k = 3 ∨ k = 6 ∨ k = 7 ∨ k = 8 →
    (testTarget k (recField r 12 4) = false → exec (.hltTest id) s = .next (s.complete id ⟨0x03, 12, 0⟩)) ∧
    (testTarget k (recField r 12 4) = true → s.running = false → s.mode ≠ modeService →
      exec (.hltTest id) s = .next (s.complete id ⟨0x04, 0, 0⟩)) ∧
    (testTarget k (recField r 12 4) = true → s.running = true → s.underTest k (recField r 12 4) = true →
      exec (.hltTest id) s = .next (s.complete id ⟨0x05, 0, 0⟩)) ∧
    (testTarget k (recField r 12 4) = true → s.running = true → s.underTest k (recField r 12 4) = false → k ≠ 8 →
      exec (.hltTest id) s = .next ((s.startTest k (recField r 12 4) causeHost (some id)).begin id)) ∧
    (testTarget k (recField r 12 4) = true → s.running = true → s.underTest k (recField r 12 4) = false → k = 8 →
      exec (.hltTest id) s = .next (((s.testLane (recField r 12 4)).startTest k (recField r 12 4) causeHost
        (some id)).begin id)))

/-- 15 R414 to R425, R429, R430: VIN_MEASUREMENT, VIN_LOCKOUT, VIN_POWER_UP, CURRENT_LIMIT, BUDGET_UPDATE, POWER_SAMPLE,
DROOP_SAMPLE, FLOW_SAMPLE, TEMP_SAMPLE. -/
def Obligations.PolicySamples : Prop :=
  (∀ (mv ma mw : Nat) (s : State), s.mode = modeOff →
    exec (.vinMeasurement mv ma mw) s = .next { s with modes := { s.modes with vin := mv } }) ∧
  (∀ (mv ma mw : Nat) (s : State), s.mode ≠ modeOff → mv ≤ 60000 →
    exec (.vinMeasurement mv ma mw) s = .next ((s.vinCrosses mv).vinRange mv ma mw)) ∧
  (∀ (mv ma mw t : Nat) (s : State), s.mode ≠ modeOff → 60000 < mv → (s.vinCrosses mv).power.overSince = some t →
    t + 100000000 ≤ s.now →
    exec (.vinMeasurement mv ma mw) s = .next (((s.vinCrosses mv).vinRange mv ma mw).hardShutdown 2)) ∧
  (∀ s : State, s.mode = modeOff → exec .vinLockout s = .next { s with modes := { s.modes with vin := min s.modes.vin 8199 } }) ∧
  (∀ s : State, s.mode ≠ modeOff → exec .vinLockout s = .next
    (State.hardShutdown { s with modes := { s.modes with vin := min s.modes.vin 8199 } } 3)) ∧
  (∀ (mv : Nat) (s : State), s.mode = modeOff → s.modes.vin < 8800 → 8800 ≤ mv →
    exec (.vinPowerUp mv) s = .next (State.resetCold { s with modes := { s.modes with vin := mv } } 1)) ∧
  (∀ (mv : Nat) (s : State), s.mode ≠ modeOff ∨ mv < 8800 → exec (.vinPowerUp mv) s = .next s) ∧
  (∀ s : State, s.mode ≠ modeOff → s.isSet THM_STATUS_ILIMIT = false → exec (.currentLimit true) s = .next
    (((State.wr { s with power := { s.power with limitSince := holdSince true s.power.limitSince s.now } }
      THM_STATUS_ILIMIT 1).incSat THM_ILIMIT_CNT).vinEvent 3)) ∧
  (∀ s : State, s.mode ≠ modeOff → exec (.currentLimit false) s = .next
    (State.wr { s with power := { s.power with limitSince := none } } THM_STATUS_ILIMIT 0)) ∧
  (∀ s : State, s.policyRuns = true → exec .budgetUpdate s = .next s.budgetNow) ∧
  (∀ (s : State) (rs gs ds : List Nat) (rail ml : Nat) (ts : List Int), s.policyRuns = false →
    exec .budgetUpdate s = .next s ∧ exec (.powerSample rs gs) s = .next s ∧ exec (.droopSample rail ds) s = .next s ∧
    exec (.flowSample ml) s = .next s ∧ exec (.tempSample ts) s = .next s ∧ exec .policyEvaluate s = .next s) ∧
  (∀ (rs gs : List Nat) (s : State), s.policyRuns = true →
    let l := ((((List.range 6).map fun i => rs.getD i 0) ++ (List.range 16).map fun i => gs.getD i 0) :: s.power.samples).take 100
    exec (.powerSample rs gs) s = .next ((List.range 16).foldl (fun (x : State) r => x.regionPower r)
      (State.wr { s with power := { s.power with samples := l, powerL2 := meanOf l 2 } } THM_PSTACK_MW
        (satN 18 ((l.map fun (x : List Nat) => (x.take 6).sum).sum / l.length))))) ∧
  (∀ (rail : Nat) (ds : List Nat) (s : State), rail < 6 → s.policyRuns = true → ds.foldl max 0 < 30 →
    (ds.filter fun d => 60 ≤ d) = [] → SMap.find s.power.railGoodSince rail = none →
    let s1 := (State.wrAt { s with power := { s.power with
      droopSince := SMap.erase s.power.droopSince rail
      railGoodSince := SMap.put s.power.railGoodSince rail s.now } } THM_RAIL_DROOP_NOW rail (satN 8 (ds.foldl max 0)))
    exec (.droopSample rail ds) s = .next (s1.wrAt THM_RAIL_DROOP_MAX rail
      (max (s1.rdAt THM_RAIL_DROOP_MAX rail) (satN 8 (ds.foldl max 0))))) ∧
  (∀ (ml : Nat) (s : State), s.policyRuns = true →
    let s1 := ((s.wr THM_FLOW_FLOW_ML (satN 12 ml)).showEstimate).flowSuspect ml
    let s2 : State := { s1 with power := { s1.power with
      below300 := holdSince (decide (s1.flowTaken < 300)) s.power.below300 s.now
      below600 := holdSince (decide (s1.flowTaken < 600)) s.power.below600 s.now
      above600 := holdSince (decide (600 ≤ s1.flowTaken)) s.power.above600 s.now } }
    s1.flowTaken < 300 → exec (.flowSample ml) s = .next (s2.setFlowState s2.flowNext)) ∧
  (∀ (ts : List Int) (s : State), s.policyRuns = true →
    let s1 := ((s.readSensors ts).crossCheck.watchL2).showTemps.took
    (s1.tpol < 880 → exec (.tempSample ts) s = .next { s1 with power := { s1.power with hot := 0 } }) ∧
    (880 ≤ s1.tpol → 1 ≤ s1.power.hot → exec (.tempSample ts) s = .next
      (State.hardShutdown { s1 with power := { s1.power with hot := s1.power.hot + 1 } } 1)))

/-- 15 R416, R426 to R431, 16 R453: the budget's terms; POLICY_EVALUATE, CLEAR_SUSPECT, ALWAYS_ON_POWER_LOSS. That of equal terms the
cap is named first is the model's choice (log 62). -/
def Obligations.BudgetAndLadder : Prop :=
  (∀ s : State, let b := min (min s.budgetVin s.budgetInlet) (min s.budgetFlow s.budgetCap)
    b ≤ s.budgetVin ∧ b ≤ s.budgetInlet ∧ b ≤ s.budgetFlow ∧ b ≤ s.budgetCap ∧
    (s.budgetLimit = 1 → b = s.budgetVin) ∧ (s.budgetLimit = 2 → b = s.budgetInlet) ∧
    (s.budgetLimit = 3 → b = s.budgetFlow) ∧ (s.budgetLimit = 4 → b = s.budgetCap) ∧
    1 ≤ s.budgetLimit ∧ s.budgetLimit ≤ 4) ∧
  (∀ s : State, 35000 * 18 ≤ s.budgetFlow ∧ s.budgetFlow ≤ 245000 * 18 ∧ 35000 * 18 ≤ s.budgetInlet ∧
    s.budgetInlet ≤ 245000 * 18) ∧
  (∀ s : State, s.rd THM_STATUS_FLOW_STATE = 2 → s.budgetFlow = 35000 * 18) ∧
  (∀ s : State, (s.budgetNow).rd THM_BUDGET_BUDGET_MW =
    min (min s.budgetVin s.budgetInlet) (min s.budgetFlow s.budgetCap) / 18 % 2 ^ 18) ∧
  (∀ s : State, s.policyRuns = true → exec .policyEvaluate s = .next
    ([1, 2, 3, 4, 5, 6].foldl (fun (x : State) c => x.clearCause c)
      (s.policyTimes.promCauses.foldl (fun (x : State) c => x.promenade c)
        s.policyTimes.climb.stepEffects.raiseAlerts))) ∧
  (∀ s : State, s.stepLeft 4 = 4 ∧ (∀ k, s.stepLeft k ≤ k)) ∧
  (∀ s : State, s.rd THM_STATUS_STEP = 4 → s.climb = s) ∧
  (∀ s : State, s.rd THM_STATUS_STEP < s.stepWanted → s.climb =
    (s.setStep s.stepWanted ((s.stepCauses s.stepWanted).headD 0) (stepSeverity s.stepWanted)).countSteps
      (s.rd THM_STATUS_STEP) s.stepWanted) ∧
  (∀ s : State, s.isSet THM_STATUS_L2_SUSPECT = true → s.suspectRenewed = false →
    toSigned 16 (s.rd THM_L2_L2_INF) - toSigned 16 (s.rd THM_L2_L2_OWN) < 32 →
    exec .clearSuspect s = .next ((State.wr { s with power := { s.power with l2Since := none } } THM_STATUS_L2_SUSPECT 0).post
      0xA006 0xA00 3 (ofInt 16 (toSigned 16 (s.rd THM_L2_L2_INF) - toSigned 16 (s.rd THM_L2_L2_OWN))))) ∧
  (∀ s : State, s.isSet THM_STATUS_L2_SUSPECT = false ∨ s.suspectRenewed = true ∨
    32 ≤ toSigned 16 (s.rd THM_L2_L2_INF) - toSigned 16 (s.rd THM_L2_L2_OWN) → exec .clearSuspect s = .next s) ∧
  (∀ (mv : Nat) (s : State), s.mode = modeOff → mv < 3000 →
    let s1 := offFields.foldl (fun (x : State) f => x.wr f (f.reset 0))
      ((((s.wr THM_TRIP_VALID 0).wr THM_TRIP_CAUSE 0).wr THM_TRIP_TEMP 0).wr GLB_LANDS_FAULT_N 1)
    exec (.alwaysOnPowerLoss mv) s = .next { s1 with modes := { s1.modes with vin := mv } }) ∧
  (∀ (mv : Nat) (s : State), s.mode ≠ modeOff ∨ 3000 ≤ mv → exec (.alwaysOnPowerLoss mv) s = .next s)

/-- 16 R438 to R442: GLB_RESET_WRITE, COLD_RESET, WARM_RESET, RAILS_GOOD, STEWARD_BOOT_DONE, CONTEXT_RESTORE_DONE,
BOOT_TAG_VERIFIED, BOOT_DONE. That a boot record that does not parse gives outcome 3 is the model's choice (log 63). -/
def Obligations.ResetsAndStartUp : Prop :=
  (∀ (v : Nat) (s : State), bitsOf v 31 16 = 0x5254 → s.mode ≠ modeOff → s.mode ≠ modeDeepSleep →
    (bitOf v 0 = 1 → exec (.glbResetWrite v) s = .next { s with modes := { s.modes with
      resetDue := some { dueAt := s.now + 1000, cold := true, cause := 3 } } }) ∧
    (bitOf v 0 = 0 → exec (.glbResetWrite v) s = .next { s with modes := { s.modes with
      resetDue := some { dueAt := s.now + 1000, cold := false, cause := 4 } } })) ∧
  (∀ (v : Nat) (s : State), bitsOf v 31 16 ≠ 0x5254 ∨ s.mode = modeOff ∨ s.mode = modeDeepSleep →
    exec (.glbResetWrite v) s = .next s) ∧
  (∀ (d : ResetDue) (s : State), s.modes.resetDue = some d → d.dueAt ≤ s.now →
    (d.cold = true → exec .coldReset s = .next (s.resetCold d.cause) ∧ exec .warmReset s = .next s) ∧
    (d.cold = false → exec .warmReset s = .next (s.resetWarm d.cause) ∧ exec .coldReset s = .next s)) ∧
  (∀ (d : ResetDue) (s : State), s.modes.resetDue = some d → s.now < d.dueAt →
    exec .coldReset s = .next s ∧ exec .warmReset s = .next s) ∧
  (∀ s : State, s.modes.resetDue = none → exec .coldReset s = .next s ∧ exec .warmReset s = .next s) ∧
  (∀ (c : Nat) (s : State), 3 ≤ c → c < 16 → (s.resetCold c).rd GLB_RESET_CAUSE = c) ∧
  (∀ (b : BootRun) (s : State), s.mode = modeBoot → s.modes.boot = some b → b.rails = false → b.fromProm = false →
    exec .railsGood s = .next (State.wr { s with modes := { s.modes with boot := some { b with rails := true } } }
      GLB_LANDS_PWR_GOOD 1)) ∧
  (∀ (b : BootRun) (s : State), s.mode = modeBoot → s.modes.boot = some b → b.rails = true → exec .railsGood s = .next s) ∧
  (∀ (b : BootRun) (f : Found) (s t : State), s.mode = modeBoot → s.modes.boot = some b → b.rails = true → b.steward = false →
    s.mgmt.stewardDoneAt ≤ s.now → t = (s.senseBoot f).showRecords f → t.bootChoice f = none →
    exec (.stewardBootDone f) s = .next (State.setBoot { t with mgmt := { t.mgmt with steward := .stopped } }
      (some { b with steward := true, outcome := some 5, service := 1 }))) ∧
  (∀ (b : BootRun) (f : Found) (k : Nat) (s t : State), s.mode = modeBoot → s.modes.boot = some b → b.rails = true →
    b.steward = false → s.mgmt.stewardDoneAt ≤ s.now → ((s.senseBoot f).showRecords f).bootChoice f = some k →
    t = ((s.senseBoot f).showRecords f).stewardBoots f k → exec (.stewardBootDone f) s = .next (t.setBoot (some { b with
      steward := true
      outcome := if t.serviceCause = 0 then none else some 5
      service := t.serviceCause }))) ∧
  (∀ (b : BootRun) (f : Found) (s : State), s.mode = modeBoot → s.modes.boot = some b → b.rails = false ∨ b.steward = true →
    exec (.stewardBootDone f) s = .next s) ∧
  (∀ (b : BootRun) (f : Found) (s : State), s.mode = modeBoot → s.modes.boot = some b → b.steward = true →
    b.restored = false → b.outcome = none → s.goldenMask 0 = 0 → exec (.contextRestoreDone f) s = .next
    ((State.wr { s with cfg := { s.cfg with planes := [] } } CFG_CTX_LOADED 0).setBoot
      (some { b with restored := true, outcome := some 2 }))) ∧
  (∀ (b : BootRun) (f : Found) (m : Nat) (s t : State), s.mode = modeBoot → s.modes.boot = some b → b.steward = true →
    b.restored = false → b.outcome = none → m = s.goldenMask 0 → m ≠ 0 → t = s.senseCodes f imageCode →
    exec (.contextRestoreDone f) s = .next (((regionsOf m).foldl (fun (x : State) r => x.restoreRegion f r)
      (State.wr { t with cfg := { t.cfg with planes := [] } } CFG_CTX_LOADED 0)).setBoot
      (some { b with restored := true, outcome := if t.goldenBad f m then some 4 else none }))) ∧
  (∀ (b : BootRun) (f : Found) (s t : State), s.mode = modeBoot → s.modes.boot = some b → b.restored = true →
    b.verified = false → b.outcome ≠ some 2 → b.outcome ≠ some 5 → t = s.senseCodes f recordCode →
    (t.bootRecordImage f (t.goldenMask 0) = none →
      exec (.bootTagVerified f) s = .next (t.setBoot (some { b with verified := true, outcome := some 3 }))) ∧
    (∀ m, t.bootRecordImage f (t.goldenMask 0) = some m → exec (.bootTagVerified f) s = .next
      ((if b.outcome.isSome then t else t.applyBoot m (t.goldenMask 0)).setBoot (some { b with verified := true })))) ∧
  (∀ (b : BootRun) (s : State), s.mode = modeBoot → s.modes.boot = some b → s.bootReady b = true →
    exec .bootDone s = .next (s.endBoot b)) ∧
  (∀ (b : BootRun) (s : State), s.mode = modeBoot → s.modes.boot = some b → s.bootReady b = false →
    exec .bootDone s = .next s) ∧
  (∀ (f : Found) (s : State), s.mode ≠ modeBoot → exec .railsGood s = .next s ∧ exec (.stewardBootDone f) s = .next s ∧
    exec (.contextRestoreDone f) s = .next s ∧ exec (.bootTagVerified f) s = .next s ∧ exec .bootDone s = .next s)

/-- 16 R445 to R455: PWR_ENTER, PWR_QUIESCE_DONE, PWR_COMMIT, PWR_EXIT, SERVICE_ENTER, WAKE_INPUT, WAKE_DONE, FIRST_ACCESS_WAKE,
FAR_STORE_IDLE_TIMEOUT. -/
def Obligations.PowerStates : Prop :=
  (∀ (id : Nat) (r : List Nat) (s : State), s.Takes id 0xB001 r → recByte r 8 = 0 ∨ 4 < recByte r 8 →
    exec (.pwrEnter id) s = .next (s.complete id ⟨0x03, 8, 0⟩)) ∧
  (∀ (id d : Nat) (r : List Nat) (s : State), s.Takes id 0xB001 r → 0 < recByte r 8 → recByte r 8 ≤ 4 → s.depth = some d →
    (recByte r 8 ≤ d → exec (.pwrEnter id) s = .next (s.complete id ⟨0x04, 0, 0⟩)) ∧
    (d < recByte r 8 → s.modes.entry ≠ none → exec (.pwrEnter id) s = .next (s.complete id ⟨0x05, 0, 0⟩)) ∧
    (∀ code, d < recByte r 8 → s.modes.entry = none → s.refuser (recByte r 8) = some code → exec (.pwrEnter id) s = .next
      ((s.pwrRecord code (recByte r 8) s.mode false).complete id ⟨0x70, code, 0⟩)) ∧
    (d < recByte r 8 → s.modes.entry = none → s.refuser (recByte r 8) = none → exec (.pwrEnter id) s = .next
      ((State.wr { s with modes := { s.modes with
        entry := some { id := id, target := recByte r 8, mode := s.mode, since := s.now } } } PWR_STATUS_ENTERING 1).begin id))) ∧
  (∀ (e : PowerEntry) (s : State), s.modes.entry = some e → e.window = true ∨ s.commandsRun e.id = true →
    exec .pwrQuiesceDone s = .next s) ∧
  (∀ (e : PowerEntry) (code : Nat) (s : State), s.modes.entry = some e → e.window = false → s.commandsRun e.id = false →
    s.refuser e.target = some code → exec .pwrQuiesceDone s = .next (s.pwrAbort code)) ∧
  (∀ (e : PowerEntry) (s : State), s.modes.entry = some e → e.window = false → s.commandsRun e.id = false →
    s.refuser e.target = none → e.target < 3 → exec .pwrQuiesceDone s = .next { s.gateAll false with
      modes := { (s.gateAll false).modes with entry := some { e with window := true, since := s.now } } }) ∧
  (∀ (e : PowerEntry) (s t : State), s.modes.entry = some e → e.window = false → s.commandsRun e.id = false →
    s.refuser e.target = none → 3 ≤ e.target → t = ((s.gateAll false).complete e.id ⟨0, 0, e.target⟩).drainCompletions →
    exec .pwrQuiesceDone s = .next { t with
      modes := { t.modes with entry := some { e with window := true, since := s.now } } }) ∧
  (∀ s : State, s.modes.entry = none → exec .pwrQuiesceDone s = .next s ∧ exec .pwrCommit s = .next s) ∧
  (∀ (e : PowerEntry) (s : State), s.modes.entry = some e → e.window = false ∨ s.now < e.since + 160 ∨ s.resetWaits = true →
    exec .pwrCommit s = .next s) ∧
  (∀ (e : PowerEntry) (s t : State), s.modes.entry = some e → e.window = true → e.since + 160 ≤ s.now →
    s.resetWaits = false → t = (if s.alarmTies then s.resTie 1 else s) →
    let s3 := (((((State.wr { t with modes := { t.modes with entry := none } } PWR_STATUS_ENTERING 0).incSat
      PWR_ENTRY_CNT).post 0xB002 0xB00 1 (e.target + s.rd PWR_WAKE_CAUSE * 16)).enterState e.target))
    exec .pwrCommit s = .next ((s3.complete e.id (s3.entryCompletion e)).afterCommit (s.levelWake e.target))) ∧
  (∀ (id : Nat) (r : List Nat) (s : State), s.Takes id 0xB002 r → s.running = true →
    exec (.pwrExit id) s = .next (s.complete id ⟨0x04, 0, 0⟩)) ∧
  (∀ (id : Nat) (r : List Nat) (s : State), s.Takes id 0xB002 r → s.mode = modeSleep → s.modes.entry = none →
    exec (.pwrExit id) s = .next (State.begin { s.noteWake 5 with
      modes := { (s.noteWake 5).modes with exitCmds := s.modes.exitCmds ++ [id] } } id)) ∧
  (∀ (id : Nat) (r : List Nat) (s : State), s.Takes id 0xB003 r → s.mode ≠ modeIdle → s.mode ≠ modeConfigFault →
    exec (.serviceEnter id) s = .next (s.complete id ⟨0x04, 0, 0⟩)) ∧
  (∀ (id : Nat) (r : List Nat) (s : State), s.Takes id 0xB003 r → s.mode = modeIdle ∨ s.mode = modeConfigFault →
    s.modes.entry = none → s.modes.waking = none → exec (.serviceEnter id) s = .next
      ((((((s.gateAll false).leaveFor modeService).lanesSettle).wr GLB_MODE_SERVICE_CAUSE 3).wr PWR_STATUS_FABRIC_GATED
        0).complete id ⟨0, 0, 0⟩)) ∧
  (∀ (l : Bool) (s : State), s.isSet PWR_CTRL_WAKE_EN = false →
    exec (.wakeInput l) s = .next { s with modes := { s.modes with wakeHigh := l } }) ∧
  (∀ (l : Bool) (s : State), s.isSet PWR_CTRL_WAKE_EN = true → l = !s.isSet PWR_CTRL_WAKE_POL → s.modes.wakeHigh ≠ l →
    exec (.wakeInput l) s = .next (State.wakeArrives { s with modes := { s.modes with wakeHigh := l } } 1)) ∧
  (∀ (c : Nat) (s : State), s.modes.waking = some c → s.modes.entry = none → s.mode = modeIdle ∨ s.mode = modeSleep →
    exec .wakeDone s = .next (s.leaveState c)) ∧
  (∀ s : State, s.modes.waking = none → exec .wakeDone s = .next s) ∧
  (∀ (far : Bool) (ns : Nat) (s : State), s.inWindow = true → exec (.firstAccessWake far ns) s = .next s) ∧
  (∀ (ns : Nat) (s : State), s.modes.entry = none → s.mode = modeSleep → s.isSet PWR_STATUS_FAR_REFRESH = true →
    exec (.firstAccessWake true ns) s = .next { (s.firstAccess true ns).wr PWR_STATUS_FAR_REFRESH 0 with
      modes := { s.modes with farAccess := s.now } }) ∧
  (∀ (ns : Nat) (s : State), s.modes.entry = none → s.mode = modeIdle → s.isSet GLB_MODE_UNCONFIGURED = false →
    exec (.firstAccessWake false ns) s = .next ((s.firstAccess false ns).leaveState 6)) ∧
  (∀ s : State, s.mode = modeSleep → s.rd PWR_STATUS_FAR_REFRESH = 0 → s.modes.farAccess + 1000000 ≤ s.now →
    exec .farStoreIdleTimeout s = .next (s.wr PWR_STATUS_FAR_REFRESH 1)) ∧
  (∀ s : State, s.mode ≠ modeSleep ∨ s.now < s.modes.farAccess + 1000000 → exec .farStoreIdleTimeout s = .next s)

/-- 17 R464 to R471 and 18 R477, R478, R493: PROM_ENTER, PROM_EXIT, PROM_REQ_INPUT, ROUTE_STATE_CHANGE, FRAME_SYNC_INPUT_FRAME,
FRAME_SYNC_OUTPUT_FRAME, RES_CLAIM, RES_RELEASE. -/
def Obligations.PromenadeAndClaims : Prop :=
  (∀ (id : Nat) (r : List Nat) (s : State), s.Takes id 0xB010 r →
    (s.mode = modeOff ∨ s.mode = modeDeepSleep ∨ s.mode = modeBoot ∨ s.mode = modeService →
      exec (.promEnter id) s = .next (s.complete id ⟨0x04, 0, 0⟩)) ∧
    (s.mode ≠ modeOff → s.mode ≠ modeDeepSleep → s.mode ≠ modeBoot → s.mode ≠ modeService →
      exec (.promEnter id) s = .next ((s.promenade 8).complete id ⟨0, 0, 0⟩))) ∧
  (∀ (id : Nat) (r : List Nat) (s : State), s.Takes id 0xB011 r →
    (s.mode ≠ modePromenade → exec (.promExit id) s = .next (s.complete id ⟨0x04, 0, 0⟩)) ∧
    (s.mode = modePromenade → 1 < recByte r 8 → exec (.promExit id) s = .next (s.complete id ⟨0x03, 8, 0⟩)) ∧
    (s.mode = modePromenade → recByte r 8 ≤ 1 → s.exitCauses ≠ 0 →
      exec (.promExit id) s = .next (s.complete id ⟨0x05, s.exitCauses, 0⟩)) ∧
    (s.mode = modePromenade → s.exitCauses = 0 → recByte r 8 = 0 → s.isSet PRM_STATUS_CTX_INTACT = true →
      exec (.promExit id) s = .next
        ((({ s with prom := { s.prom with exit := some (id, 0) } }.promToLoad).promExited 0).begin id)) ∧
    (s.mode = modePromenade → s.exitCauses = 0 →
      recByte r 8 = 1 ∨ (recByte r 8 = 0 ∧ s.isSet PRM_STATUS_CTX_INTACT = false) → exec (.promExit id) s = .next
        (({ s with prom := { s.prom with exit := some (id, recByte r 8) } }.promToBoot).begin id))) ∧
  (∀ s : State, s.causesRecur = 0 → s.exitCauses = s.rd PRM_PENDING) ∧
  (∀ s : State, (s.modes.promReqLow = none → exec (.promReqInput true) s = .next
      (State.promRequest { s with modes := { s.modes with promReqLow := some s.now } })) ∧
    (s.modes.promReqLow ≠ none → exec (.promReqInput true) s = .next s) ∧
    exec (.promReqInput false) s = .next (State.wrMask { s with modes := { s.modes with promReqLow := none } } PRM_PENDING 8 false)) ∧
  (∀ (n : Nat) (up : Bool) (s : State), s.route n = none ∨ s.rdAt PRM_ROUTE_UP n = flag up →
    exec (.routeStateChange n up) s = .next s) ∧
  (∀ (n w : Nat) (s : State), s.route n = some w →
    (s.rdAt PRM_ROUTE_UP n ≠ 1 → s.routeMayUp n w = true → exec (.routeStateChange n true) s = .next
      (((s.wrAt PRM_ROUTE_UP n 1).wr PRM_STATUS_ROUTES_UP (s.rd PRM_STATUS_ROUTES_UP + 1)).post 0xB012 (0xB60 + n) 1 (n + 32))) ∧
    (s.routeMayUp n w = false → exec (.routeStateChange n true) s = .next s) ∧
    (s.rdAt PRM_ROUTE_UP n ≠ 0 → exec (.routeStateChange n false) s = .next
      (((s.wrAt PRM_ROUTE_UP n 0).wr PRM_STATUS_ROUTES_UP (s.rd PRM_STATUS_ROUTES_UP - 1)).post 0xB012 (0xB60 + n) 3 n))) ∧
  (∀ (n : Nat) (whole crosses : Bool) (ws : List (Nat × Bool)) (f : Found) (s : State),
    (∀ w, s.route n = some w → routeKind w ≠ 2) →
    exec (.frameSyncInputFrame n whole crosses ws) s = .next s ∧ exec (.frameSyncOutputFrame n crosses f) s = .next s) ∧
  (∀ (n w : Nat) (whole crosses : Bool) (ws : List (Nat × Bool)) (s : State), s.route n = some w → routeKind w = 2 →
    (crosses = true → s.outputStarts n = false → exec (.frameSyncInputFrame n whole crosses ws) s = .next
      ((s.addSatAt PRM_ROUTE_DROP_CNT n 1).post 0xB014 (0xB60 + n) 2 n)) ∧
    (crosses = false ∨ s.outputStarts n = true → whole = false ∨ ws.length ≠ routeWords w →
      exec (.frameSyncInputFrame n whole crosses ws) s = .next s) ∧
    (crosses = false ∨ s.outputStarts n = true → whole = true → ws.length = routeWords w →
      exec (.frameSyncInputFrame n whole crosses ws) s = .next { s.routeWrite (s.routeBase n) ws with
        prom := { s.prom with runs := SMap.put s.prom.runs n {
          buffered := true
          inputAt := s.now
          before := (s.routeAddrs n w).map s.storeWord
          wasBuffered := (SMap.read s.prom.runs {} n).buffered } } })) ∧
  (∀ (n w : Nat) (d : Found) (f : List Nat × Nat) (s t : State), s.route n = some w → routeKind w = 2 →
    f = s.routeFrame n w d → t = (if s.routeHolds n w then s.senseWords d (s.routeAddrs n w) else s) →
    let u := State.addSatAt { t with prom := { t.prom with lastFrame := some (n, f.1) } } PRM_ROUTE_POISON_CNT n f.2
    exec (.frameSyncOutputFrame n false d) s = .next u ∧
    (s.routeTie n = true → exec (.frameSyncOutputFrame n true d) s = .next u) ∧
    (s.routeTie n = false → exec (.frameSyncOutputFrame n true d) s = .next
      ((u.addSatAt PRM_ROUTE_REPEAT_CNT n 1).post 0xB014 (0xB60 + n) 2 (n + 32)))) ∧
  (∀ (n w : Nat) (d : Found) (s : State), s.routeTie n = false → (s.routeFrame n w d).1.length = routeWords w) ∧
  (∀ (id : Nat) (r : List Nat) (s : State), s.Takes id 0xE001 r →
    (191 < recByte r 8 → exec (.resClaim id) s = .next (s.complete id ⟨0x03, 8, 0⟩)) ∧
    (recByte r 8 ≤ 191 → recByte r 9 ≠ 2 → recByte r 9 ≠ 3 → exec (.resClaim id) s = .next (s.complete id ⟨0x03, 9, 0⟩)) ∧
    (recByte r 8 ≤ 191 → recByte r 9 = 2 ∨ recByte r 9 = 3 → s.tableLocked = true →
      exec (.resClaim id) s = .next (s.complete id ⟨0x05, 0, 0⟩)) ∧
    (recByte r 8 ≤ 191 → 7 < recByte r 8 → recByte r 9 = 2 → s.tableLocked = false →
      exec (.resClaim id) s = .next (s.complete id ⟨0x91, 0, 0⟩)) ∧
    (recByte r 8 ≤ 191 → recByte r 9 = 3 ∨ (recByte r 9 = 2 ∧ recByte r 8 ≤ 7) → s.tableLocked = false →
      (s.landClaimed (recByte r 8) = true → s.landHostHeld (recByte r 8) = false →
        exec (.resClaim id) s = .next (s.complete id ⟨0x90, 0, 0⟩)) ∧
      (s.landClaimed (recByte r 8) = true → s.landHostHeld (recByte r 8) = true → s.landOwnedBy (recByte r 8) (recByte r 9) = true →
        exec (.resClaim id) s = .next (s.complete id ⟨0, 0, 0⟩)) ∧
      (s.landClaimed (recByte r 8) = false ∨
        (s.landHostHeld (recByte r 8) = true ∧ s.landOwnedBy (recByte r 8) (recByte r 9) = false) → exec (.resClaim id) s = .next
        (((((s.wrAt RES_LAND_OWNER (recByte r 8) (recByte r 9)).wrAt RES_LAND_CLAIMED (recByte r 8) 1).wrAt RES_LAND_HOLDER
          (recByte r 8) 1).postClaim (recByte r 8) (recByte r 9) true).complete id ⟨0, 0, 0⟩)))) ∧
  (∀ (id : Nat) (r : List Nat) (s : State), s.Takes id 0xE002 r →
    (191 < recByte r 8 → exec (.resRelease id) s = .next (s.complete id ⟨0x03, 8, 0⟩)) ∧
    (recByte r 8 ≤ 191 → s.tableLocked = true → exec (.resRelease id) s = .next (s.complete id ⟨0x05, 0, 0⟩)) ∧
    (recByte r 8 ≤ 191 → s.tableLocked = false → s.landHostHeld (recByte r 8) = false →
      exec (.resRelease id) s = .next (s.complete id ⟨0x92, 0, 0⟩)) ∧
    (recByte r 8 ≤ 191 → s.tableLocked = false → s.landHostHeld (recByte r 8) = true →
      exec (.resRelease id) s = .next (((((s.wrAt RES_LAND_OWNER (recByte r 8) 0).wrAt RES_LAND_CLAIMED (recByte r 8) 0).wrAt
        RES_LAND_HOLDER (recByte r 8) 0).postClaim (recByte r 8) (s.rdAt RES_LAND_OWNER (recByte r 8)) false).complete id ⟨0, 0, 0⟩)))

/-- 19 R501 to R510: LCS_INFO, LCS_CHALLENGE, LCS_KEY_WRITE, LCS_TRANSITION, REPEAT_TRANSITION, PRIVILEGED_STEP_DONE. The order of
the checks is the model's choice (log 64). -/
def Obligations.LifeCycleCommands : Prop :=
  (∀ (id : Nat) (r : List Nat) (s : State), s.Takes id 0xC001 r → exec (.lcsInfo id) s = .next
    (s.complete id ⟨0, s.lcsStateWord, s.rd LCS_KEYS + s.lcsProgressWord * 2 ^ 8⟩)) ∧
  (∀ (id : Nat) (r : List Nat) (s : State), s.Takes id 0xC002 r → exec (.lcsChallenge id) s = .next
    ((State.took (State.wr { s with life := { s.life with hostChallenge := some (s.free 96) } } LCS_AUTH_HOST_CHALLENGE 1)).complete
      id ⟨0, s.free 96 / 2 ^ 64, s.free 96 % 2 ^ 64⟩)) ∧
  (∀ (id : Nat) (s : State), s.pulsing = true →
    exec (.lcsKeyWrite id) s = .next s ∧ exec (.lcsTransition id) s = .next s ∧ exec (.repeatTransition id) s = .next s) ∧
  (∀ (id : Nat) (r : List Nat) (s : State), s.Takes id 0xC003 r → s.pulsing = false →
    (3 < recByte r 8 → exec (.lcsKeyWrite id) s = .next (s.complete id ⟨0x03, 8, 0⟩)) ∧
    (recByte r 8 ≤ 3 → s.rd LCS_STATE_STATE = 0xF → exec (.lcsKeyWrite id) s = .next (s.complete id ⟨0x86, 0, 0⟩)) ∧
    (recByte r 8 ≤ 3 → s.rd LCS_STATE_STATE ∈ [1, 4, 5, 6] →
      exec (.lcsKeyWrite id) s = .next (s.complete id ⟨0x06, 0, 0⟩)) ∧
    (recByte r 8 ≤ 3 → s.rd LCS_STATE_STATE = 2 ∨ s.rd LCS_STATE_STATE = 3 → (s.keySlot (recByte r 8)).code ≠ 0 →
      exec (.lcsKeyWrite id) s = .next (s.complete id ⟨0x84, 0, 0⟩)) ∧
    (recByte r 8 ≤ 3 → s.rd LCS_STATE_STATE = 2 ∨ s.rd LCS_STATE_STATE = 3 → (s.keySlot (recByte r 8)).code = 0 →
      (s.keySlot (recByte r 8)).weak = false → exec (.lcsKeyWrite id) s = .next
        ((((s.notePulse { startedAt := s.now, keySlot := some (recByte r 8) }).setKeySlot (recByte r 8)
          { s.keySlot (recByte r 8) with key := recField r 16 32, touched := true, written := true }).post 0xC006 0xC00 1
            (recByte r 8 + Config.keyCheckValue (recField r 16 32) % 2 ^ 24 * 2 ^ 8)).complete id
          ⟨0, 0, Config.keyCheckValue (recField r 16 32) % 2 ^ 24⟩))) ∧
  (∀ (t slot : Nat) (s : State), slotNamed slot = false → s.transitionRefusal t slot = some ⟨0x03, 9, 0⟩) ∧
  (∀ (t slot : Nat) (s : State), slotNamed slot = true →
    (s.rd LCS_STATE_STATE = 0xF → s.transitionRefusal t slot = some ⟨0x86, 0, 0⟩) ∧
    (s.rd LCS_STATE_STATE ≠ 0xF → s.isSet LCS_STATE_PENDING = true → s.transitionRefusal t slot = some ⟨0x87, 0, 0⟩) ∧
    (s.rd LCS_STATE_STATE ≠ 0xF → s.isSet LCS_STATE_PENDING = false → s.privTarget = none →
      transitionPermitted (s.rd LCS_STATE_STATE) t = false → s.transitionRefusal t slot = some ⟨0x80, 0, 0⟩) ∧
    (s.isSet LCS_STATE_PENDING = false → s.privTarget = none → transitionPermitted (s.rd LCS_STATE_STATE) t = true →
      s.rd LCS_STATE_STATE ≠ 0xF →
      (t = 5 ∨ t = 6 → s.mode ≠ modeService → s.transitionRefusal t slot = some ⟨0x04, 0, 0⟩) ∧
      (t = 3 → s.anyKeyed = false → s.transitionRefusal t slot = some ⟨0x89, 0, 0⟩) ∧
      (t = 2 ∨ t = 4 ∨ (t = 3 ∧ s.anyKeyed = true) → s.transitionRefusal t slot = none))) ∧
  (∀ (id : Nat) (r : List Nat) (s : State), s.Takes id 0xC004 r → s.pulsing = false →
    privilegedTarget (recByte r 8) = false ∨ s.mode ≠ modeService ∨ s.stewardReady = true ∨
      s.mgmt.steward = .stopped →
    (∀ c, s.transitionRefusal (recByte r 8) (recByte r 9) = some c → exec (.lcsTransition id) s = .next (s.complete id c)) ∧
    (s.transitionRefusal (recByte r 8) (recByte r 9) = none →
      let a := s.authenticate false 0xC004 (recByte r 8) (recByte r 9) (recField r 16 16)
      exec (.lcsTransition id) s = .next (
        if a.1 ≠ 0 then a.2.complete id ⟨a.1, 0, 0⟩
        else if a.2.mayAuthorise (recByte r 8) (recByte r 9) = false then a.2.complete id ⟨0x81, 0, 0⟩
        else if privilegedTarget (recByte r 8) = true then
          (a.2.privBegin (recByte r 8)).2.complete id (a.2.privBegin (recByte r 8)).1
        else (a.2.plainTransition (recByte r 8) (recByte r 9)).2.complete id
          (a.2.plainTransition (recByte r 8) (recByte r 9)).1))) ∧
  (∀ (s : State) (t slot : Nat), 1 ≤ t → slot < 4 → (s.rowGroup (t - 1)).weak = 0 → (s.rowGroup (t - 1)).auth = 0 →
    (s.rowGroup (t - 1)).authPart = 0 → (s.plainTransition t slot).1 = ⟨0, 0, 0⟩ ∧
      ((s.plainTransition t slot).2.rowGroup (t - 1)).full = true ∧
      (s.plainTransition t slot).2.rd LCS_STATE_STATE = s.rd LCS_STATE_STATE) ∧
  (∀ (s : State) (t slot : Nat), (s.rowGroup (t - 1)).bars slot = true → s.plainTransition t slot = (⟨0x81, 0, 0⟩, s)) ∧
  (∀ (id : Nat) (r : List Nat) (s : State), s.Takes id 0xC005 r → s.pulsing = false →
    (slotNamed (recByte r 9) = false → exec (.repeatTransition id) s = .next (s.complete id ⟨0x03, 9, 0⟩)) ∧
    (slotNamed (recByte r 9) = true → s.partialGroup = none →
      exec (.repeatTransition id) s = .next (s.complete id ⟨0x88, 0, 0⟩)) ∧
    (∀ g, slotNamed (recByte r 9) = true → s.partialGroup = some g →
      let a := s.authenticate false 0xC005 0 (recByte r 9) (recField r 16 16)
      let p := (a.2.notePulse { startedAt := s.now, group := g, before := a.2.rowGroup g }).programGroup g (g + 1) (recByte r 9)
      exec (.repeatTransition id) s = .next (
        if a.1 ≠ 0 then a.2.complete id ⟨a.1, 0, 0⟩
        else if bitOf ((a.2.rowGroup g).auth ||| (a.2.rowGroup g).authPart) (authBit (recByte r 9)) = 0 then
          a.2.complete id ⟨0x81, 0, 0⟩
        else p.2.complete id p.1))) ∧
  (∀ s : State, s.privTarget = none ∨ s.rd LCS_PROGRESS_CUR_STEP = 0 ∨ s.stewardReady = false →
    exec .privilegedStepDone s = .next s) ∧
  (∀ (t : Nat) (s : State), s.privTarget = some t → s.rd LCS_PROGRESS_CUR_STEP ≠ 0 → s.stewardReady = true →
    let k := s.rd LCS_PROGRESS_CUR_STEP
    ((s.privWork t k).privVerified t k = false → exec .privilegedStepDone s = .next (s.privWork t k)) ∧
    ((s.privWork t k).privVerified t k = true → (s.privWork t k).markWeak t k = true →
      exec .privilegedStepDone s = .next ((s.privWork t k).post 0xC008 0xC00 4 (3 + k * 2 ^ 3))) ∧
    ((s.privWork t k).privVerified t k = true → (s.privWork t k).markWeak t k = false →
      exec .privilegedStepDone s = .next ((s.privWork t k).markStep t k)))

/-- 19 R503 to R505, R513: DBG_CHALLENGE, DBG_RESPONSE, DBG_ACCESS, DBG_HALT, DBG_RESUME, DBG_RESET, DBG_LOCK. -/
def Obligations.DebugInstructions : Prop :=
  (∀ (op t slot tag : Nat) (s : State), s.life.hostChallenge = none →
    s.authenticate false op t slot tag = (if s.isSet LCS_AUTH_LOCKOUT then 0x83 else 0x82, s)) ∧
  (∀ (op t slot tag c : Nat) (s : State), s.life.hostChallenge = some c →
    let s1 := State.wr { s with life := { s.life with hostChallenge := none } } LCS_AUTH_HOST_CHALLENGE 0
    (s.isSet LCS_AUTH_LOCKOUT = true → s.authenticate false op t slot tag = (0x83, s)) ∧
    (s.isSet LCS_AUTH_LOCKOUT = false → slot < 4 → s.slotKeyed slot = false → s.authenticate false op t slot tag = (0x85, s1)) ∧
    (s.isSet LCS_AUTH_LOCKOUT = false → slot < 4 → s.slotKeyed slot = true → s.authenticate false op t slot tag =
      if (Config.gcmTag (s.keySlot slot).key c (authData op t slot) []).toNat = tag then (0, s1) else (0x81, s1.authFailed false)) ∧
    (s.isSet LCS_AUTH_LOCKOUT = false → s.authenticate false op t 0xF tag =
      if (Config.gcmTag defaultKey c (authData op t 0xF) []).toNat = tag then (0, s1) else (0x81, s1.authFailed false))) ∧
  (∀ (o : Bool) (s : State), s.debugPermitted o = true ↔ s.isSet LCS_DEBUG_JTAG_EN = true ∧ (s.rd LCS_DEBUG_LEVEL = 3 ∨
    (s.rd LCS_STATE_STATE = 3 ∧ (o = true ∨ s.isSet LCS_DEBUG_UNLOCKED = true)))) ∧
  (∀ (slot tag offset data : Nat) (write : Bool) (s : State), s.mode = modeOff ∨ s.mode = modeDeepSleep →
    exec .dbgChallenge s = .next s ∧ exec (.dbgResponse slot tag) s = .next s ∧ exec (.dbgAccess write offset data) s = .next s ∧
    exec .dbgHalt s = .next s ∧ exec .dbgResume s = .next s ∧ exec .dbgReset s = .next s ∧ exec .dbgLock s = .next s) ∧
  (∀ (slot tag : Nat) (s : State), s.mode ≠ modeOff → s.mode ≠ modeDeepSleep → s.debugPermitted true = false →
    exec .dbgChallenge s = .next ((s.setJtag .bypass).incSat LCS_DBG_REFUSE_CNT) ∧
    exec (.dbgResponse slot tag) s = .next ((s.setJtag .bypass).incSat LCS_DBG_REFUSE_CNT)) ∧
  (∀ (offset data : Nat) (write : Bool) (s : State), s.mode ≠ modeOff → s.mode ≠ modeDeepSleep → s.debugPermitted false = false →
    exec (.dbgAccess write offset data) s = .next ((s.setJtag .bypass).incSat LCS_DBG_REFUSE_CNT) ∧
    exec .dbgHalt s = .next ((s.setJtag .bypass).incSat LCS_DBG_REFUSE_CNT) ∧
    exec .dbgResume s = .next ((s.setJtag .bypass).incSat LCS_DBG_REFUSE_CNT) ∧
    exec .dbgReset s = .next ((s.setJtag .bypass).incSat LCS_DBG_REFUSE_CNT) ∧
    exec .dbgLock s = .next ((s.setJtag .bypass).incSat LCS_DBG_REFUSE_CNT)) ∧
  (∀ (slot tag : Nat) (s : State), s.mode ≠ modeOff → s.mode ≠ modeDeepSleep → s.debugPermitted true = true →
    exec .dbgChallenge s = .next (((State.wr { s.setJtag .debug with life := { s.life with jtagChallenge := some (s.free 96) } }
      LCS_AUTH_JTAG_CHALLENGE 1).took).answer (s.free 96)) ∧
    (let a := (s.setJtag .debug).authenticate true 0xD0B6 0 (slot % 16) (tag % 2 ^ 128)
     exec (.dbgResponse slot tag) s = .next (if a.1 = 0 then
       ((a.2.wr LCS_DEBUG_UNLOCKED 1).wr LCS_DEBUG_UNLOCK_SLOT (slot % 16)).post 0xC007 0xC00 2 (slot % 16 + 16) else a.2))) ∧
  (∀ (offset data : Nat) (s : State), s.mode ≠ modeOff → s.mode ≠ modeDeepSleep → s.debugPermitted false = true →
    (let t := (s.setJtag .debug).hostWriteBus (offset % 2 ^ 26) 4 data
     exec (.dbgAccess true offset data) s = .next { t with life := { t.life with dbgDone := true } }) ∧
    (let t := (s.setJtag .debug).hostReadBus (offset % 2 ^ 26) 4
     exec (.dbgAccess false offset data) s =
       .next { t with life := { t.life with dbgDone := true, dbgData := t.reply.data } })) ∧
  (∀ s : State, s.mode ≠ modeOff → s.mode ≠ modeDeepSleep → s.debugPermitted false = true →
    (s.running = true → s.captureHalts = false → exec .dbgHalt s = .next (s.setJtag .debug).enterHalted) ∧
    (s.running = false ∨ s.captureHalts = true → exec .dbgHalt s = .next (s.setJtag .debug)) ∧
    (s.mode = modeHalted → exec .dbgResume s = .next (s.setJtag .debug).resumeRun) ∧
    (s.mode ≠ modeHalted → exec .dbgResume s = .next (s.setJtag .debug)) ∧
    exec .dbgReset s = .next ((s.setJtag .debug).resetWarm 7) ∧
    (s.isSet LCS_DEBUG_UNLOCKED = true → exec .dbgLock s = .next
      (((s.setJtag .debug).wr LCS_DEBUG_UNLOCKED 0).post 0xC007 0xC00 2 (s.rd LCS_DEBUG_UNLOCK_SLOT))) ∧
    (s.isSet LCS_DEBUG_UNLOCKED = false → exec .dbgLock s = .next (s.setJtag .debug)))

/-- 00 R6 to R8 and 02 R28 to R30: REGISTER_WRITE, REG64_LOW_READ, REG64_HIGH_READ, REG64_LOW_WRITE, REG64_HIGH_WRITE, PERST_RELEASE. -/
def Obligations.RegisterAccess : Prop :=
  (∀ (a size v : Nat) (s : State), s.mode = modeOff ∨ s.mode = modeDeepSleep → exec (.registerWrite a size v) s = .next s ∧
    exec (.reg64LowRead a size) s = .next s ∧ exec (.reg64HighRead a) s = .next s ∧ exec (.reg64LowWrite a v) s = .next s ∧
    exec (.reg64HighWrite a v) s = .next s) ∧
  (∀ (a size v : Nat) (s : State), s.busUp = true → ¬ (size = 4 ∧ a % 4 = 0) → ¬ (size = 8 ∧ a % 8 = 0) →
    exec (.registerWrite a size v) s = .next (s.mbxErr MBX_ERR_BAD_SIZE)) ∧
  (∀ (a n : Nat) (s : State), s.busUp = true → ¬ (n = 4 ∧ a % 4 = 0) → ¬ (n = 8 ∧ a % 8 = 0) →
    exec (.reg64LowRead a n) s = .next ((s.mbxErr MBX_ERR_BAD_SIZE).answer 0)) ∧
  (∀ (a v : Nat) (s : State), s.busUp = true → a % 4 = 0 → windowAt a = none → isDecoded a = false →
    exec (.registerWrite a 4 v) s = .next (s.mbxErr MBX_ERR_UNMAPPED) ∧
    exec (.reg64LowRead a 4) s = .next ((s.mbxErr MBX_ERR_UNMAPPED).answer 0)) ∧
  (∀ (a v : Nat) (s : State), s.busUp = true → a % 4 = 0 → windowAt a = none → isDecoded a = true → isWide a = false →
    isWide (a - 4) = false → s.writeA a (v % 2 ^ 32) = none → s.writeB a (v % 2 ^ 32) = none →
    exec (.registerWrite a 4 v) s = .next ((fieldsAt a).foldl (fun (x : State) e =>
      x.fieldWrite e.1 e.2 (v % 2 ^ 32 / 2 ^ e.1.lo % 2 ^ e.1.width)) s)) ∧
  (∀ (s : State) (f : Field) (i v : Nat), (f.acc = .ro ∨ f.acc = .wo → s.fieldWrite f i v = s) ∧
    (f.acc = .rw ∨ f.acc = .rws → s.fieldWrite f i v = s.wrAt f i (clampNat f.vmin f.vmax v)) ∧
    (f.acc = .w1c → s.fieldWrite f i v = s.wrAt f i (s.rdAt f i - (s.rdAt f i &&& v))) ∧
    (f.acc = .w1s → s.fieldWrite f i v = s.wrAt f i (s.rdAt f i ||| v)) ∧
    (f.acc = .rwl → s.fieldWrite f i v = if s.rd LCS_STATE_STATE ∈ [1, 2, 3, 5] then s.wrAt f i v else s)) ∧
  (∀ (a : Nat) (s : State), s.busUp = true → a % 4 = 0 → windowAt a = none → isDecoded a = true → isWide a = true →
    exec (.reg64LowRead a 4) s = .next (State.answer
      { s.readEffect a with latches := SMap.put s.latches a (s.regValue a / 2 ^ 32) } (s.regValue a % 2 ^ 32))) ∧
  (∀ (a : Nat) (s : State), s.busUp = true → a % 4 = 0 → windowAt (a + 4) = none → isDecoded (a + 4) = true →
    isWide (a + 4) = false → isWide a = true →
    (∀ h, SMap.find s.latches a = some h →
      exec (.reg64HighRead (a + 4)) s = .next (State.answer { s with latches := SMap.erase s.latches a } h)) ∧
    (SMap.find s.latches a = none → exec (.reg64HighRead (a + 4)) s = .next (s.answer (s.regValue a / 2 ^ 32)))) ∧
  (∀ (a v : Nat) (s : State), s.busUp = true → a % 4 = 0 → windowAt a = none → isDecoded a = true → isWide a = true →
    exec (.reg64LowWrite a v) s = .next { s with holds := SMap.put s.holds a (v % 2 ^ 32) }) ∧
  (∀ (a v low : Nat) (s : State), s.busUp = true → a % 4 = 0 → windowAt (a + 4) = none → isDecoded (a + 4) = true →
    isWide (a + 4) = false → isWide a = true → SMap.find s.holds a = some low → exec (.reg64HighWrite (a + 4) v) s =
      .next (State.regWrite { s with holds := SMap.erase s.holds a } a (low + v % 2 ^ 32 * 2 ^ 32))) ∧
  (∀ (a v : Nat) (s : State), s.busUp = true → a % 4 = 0 → windowAt (a + 4) = none → isDecoded (a + 4) = true →
    isWide (a + 4) = false → isWide a = true → SMap.find s.holds a = none → exec (.reg64HighWrite (a + 4) v) s =
      .next (State.regWrite { s with holds := SMap.erase s.holds a } a (s.keepValue a % 2 ^ 32 + v % 2 ^ 32 * 2 ^ 32))) ∧
  (∀ (a : Nat) (s : State), s.busUp = true → a % 8 = 0 → windowAt a = none → isWide a = true →
    exec (.reg64LowRead a 8) s = .next ((s.readEffect a).answer (s.regValue a))) ∧
  (∀ (a v : Nat) (s : State), s.busUp = true → a % 8 = 0 → windowAt a = none → isWide a = true →
    exec (.registerWrite a 8 v) s = .next (s.regWrite a (v % 2 ^ 64))) ∧
  (∀ s : State, s.mode ≠ modeDeepSleep ∨ s.isSet PWR_CTRL_PERST_WAKE_EN = false ∨ s.mgmt.perstN = true →
    exec .perstRelease s = .next { s with mgmt := { s.mgmt with perstN := true } }) ∧
  (∀ s : State, s.mode = modeDeepSleep → s.isSet PWR_CTRL_PERST_WAKE_EN = true → s.mgmt.perstN = false →
    exec .perstRelease s = .next (State.wake { s with mgmt := { s.mgmt with perstN := true } } 4))

/-- 02 R32, R50 to R53 and 13 R370: BAR2_READ, SPI_READ, SPI_WRITE, SPI_STATUS, SPI_FRAME_ERROR, SMBUS_READ, SMBUS_ALERT_READ. The status
byte is as log 40 reads it; that an unknown code is not acknowledged is the model's choice (log 41). -/
def Obligations.FlashWindowAndSideBuses : Prop :=
  (∀ (a n : Nat) (found : List FlashRead) (s : State), s.busUp = true → s.mgmt.perstN = true → 905969664 ≤ a →
    exec (.bar2Read a n found) s = .next ((s.mbxErr MBX_ERR_UNMAPPED).answerBytes (List.replicate n 0))) ∧
  (∀ (a n : Nat) (found : List FlashRead) (s : State), s.busUp = true → s.mgmt.perstN = true → a < 905969664 →
    s.startingOp (a / 113246208) = none → s.flashRuns (a / 113246208) = true →
    exec (.bar2Read a n found) s = .next { (((s.wr FLC_ERR_BUSY_READ 1).incSat FLC_BUSY_READ_CNT).postLimited 0x8004
      0 (0x800 + a / 113246208) 2 fun _ => a / 113246208) with reply := { abort := true } }) ∧
  (∀ (a n : Nat) (found : List FlashRead) (s : State), s.busUp = true → s.mgmt.perstN = true → a < 905969664 →
    s.flashRuns (a / 113246208) = false →
    let r := s.bar2Words (a / 18) ((a + n + 17) / 18 - a / 18) found
    (∀ bs, r.1 = some bs → exec (.bar2Read a n found) s = .next (r.2.answerBytes ((bs.drop (a % 18)).take n))) ∧
    (r.1 = none → exec (.bar2Read a n found) s = .next { r.2 with reply := { abort := true } })) ∧
  (∀ (a n b : Nat) (x : FlashOp) (found : List FlashRead) (s : State), s.busUp = true → s.mgmt.perstN = true →
    a < 905969664 → b = a / 113246208 → s.startingOp b = some x →
    exec (.bar2Read a n found) s = .next (((s.unmarkSector b x).bar2Answer a n found).markSector b x)) ∧
  (∀ (a n : Nat) (found : List FlashRead) (s : State), s.mgmt.perstN = false → exec (.bar2Read a n found) s = .next s) ∧
  (∀ (a n c g : Nat) (found : List FlashRead) (l : Bool) (s : State), s.busUp = false →
    exec (.bar2Read a n found) s = .next s ∧ exec (.spiRead a n l) s = .next s ∧ exec .spiStatus s = .next s ∧
    exec (.spiFrameError c) s = .next s ∧ exec (.spiWrite a [g]) s = .next s) ∧
  (∀ (a n : Nat) (s : State), s.busUp = true →
    exec (.spiRead a n true) s = .next ((s.spiWords a n).2.answerBytes (s.spiWords a n).1) ∧
    exec (.spiRead a n false) s = .next ((s.spiWords a (n - 1)).2.answerBytes (s.spiWords a (n - 1)).1)) ∧
  (∀ (a n : Nat) (s : State), (s.hostReadBus a 4).reply.abort = false → s.spiWords a (n + 1) =
    (0xA5 :: bytesOf 4 (s.hostReadBus a 4).reply.data ++ ((s.hostReadBus a 4).spiWords (a + 4) n).1,
      ((s.hostReadBus a 4).spiWords (a + 4) n).2)) ∧
  (∀ (a n : Nat) (s : State), (s.hostReadBus a 4).reply.abort = true → s.spiWords a (n + 1) = ([0xE1], s.hostReadBus a 4)) ∧
  (∀ (a g : Nat) (gs : List Nat) (s : State), exec (.spiWrite a []) s = .next s ∧
    exec (.spiWrite a (g :: gs)) s = exec (.spiWrite (a + 4) gs) (s.hostWriteBus a 4 g)) ∧
  (∀ s : State, s.busUp = true → (s.stewardReady = true →
      exec .spiStatus s = .next (s.answerBytes [2 * s.rd MBX_ERR_SPI_FRAME_ERR + 4])) ∧
    (s.stewardReady = false → exec .spiStatus s = .next (s.answerBytes [2 * s.rd MBX_ERR_SPI_FRAME_ERR]))) ∧
  (∀ (c : Nat) (s : State), s.busUp = true →
    exec (.spiFrameError c) s = .next ((s.mbxErr MBX_ERR_SPI_FRAME_ERR).post 0xD008 0xD00 2 (c % 256))) ∧
  (∀ (t c : Nat) (s : State), s.mode = modeOff → exec (.smbusRead t c) s = .next s ∧ exec .smbusAlertRead s = .next s) ∧
  (∀ (t c : Nat) (s : State), s.mode ≠ modeOff → t ≠ alertResponseAddress → t ≠ s.rd MBX_SMB_ADDR ∨ s.smbusCode c = none →
    exec (.smbusRead t c) s = .next { s with reply := { abort := true } }) ∧
  (∀ (c : Nat) (s : State), s.mode ≠ modeOff → s.mgmt.smbAlertN = false →
    exec (.smbusRead alertResponseAddress c) s = .next (s.answerBytes [2 * s.rd MBX_SMB_ADDR])) ∧
  (∀ (t : Nat) (s : State), s.mode = modeDeepSleep → t ≠ alertResponseAddress → t = s.rd MBX_SMB_ADDR →
    exec .smbusAlertRead s = .next (s.answerBytes [0x00, 0x80]) ∧
    exec (.smbusRead t 0x40) s = .next (s.answerBytes [0x00, 0x80]) ∧
    exec (.smbusRead t 0x20) s = .next (s.answerBytes [0x00, 0x80]) ∧
    exec (.smbusRead t 0x30) s = .next (s.answerBytes [modeDeepSleep])) ∧
  (∀ (t : Nat) (s : State), s.mode ≠ modeOff → s.mode ≠ modeDeepSleep → t ≠ alertResponseAddress → t = s.rd MBX_SMB_ADDR →
    exec .smbusAlertRead s = .next (State.answerBytes { s with mgmt := { s.mgmt with smbAlertN := true } } [s.rd THM_ALERT]) ∧
    exec (.smbusRead t 0x40) s = exec .smbusAlertRead s ∧
    exec (.smbusRead t 0x30) s = .next (s.answerBytes [s.mode]) ∧
    exec (.smbusRead t 0x20) s = .next (s.answerBytes (bytesOf 2 (min (ofInt 16 (max (toSigned 16 (s.rd THM_TPOL)) (toSigned 16 (s.rd THM_L2_L2_INF)))) 0xFFFF))) ∧
    exec (.smbusRead t 0x12) s = .next (s.answerBytes (bytesOf 2 (min (s.rd THM_PIN_MW / 100) 0xFFFF))))

/-- 02 R40, R58, R539: STEWARD_WATCHDOG_EXPIRY, STEWARD_LOCKSTEP_MISMATCH, STEWARD_POISONED_FETCH, STEWARD_RESTART_DONE, COMMAND_TIMEOUT,
COMMAND_DATA_DMA_ERROR. That the error row stands for the command's own row is the model's choice (log 65). -/
def Obligations.StewardAndTimeouts : Prop :=
  (∀ (c : Instr) (k : Nat) (s : State), (c, k) ∈ [(Instr.stewardWatchdogExpiry, 0), (Instr.stewardLockstepMismatch, 1),
      (Instr.stewardPoisonedFetch, 2)] →
    (s.mgmt.steward = .stopped → exec c s = .next s) ∧
    (s.mgmt.steward = .running →
      let s1 := ((s.incSat MBX_STW_RESTART_CNT).post 0xD004 0xD00 3 k).abortSteward.holdBootBank
      exec c s = .next { s1 with mgmt := { s1.mgmt with steward := .restarting (s.now + 200000) } }) ∧
    (s.mgmt.steward = .booting → k = 0 → exec c s = .next s) ∧
    (s.mgmt.steward = .booting → k ≠ 0 →
      let s1 := (s.incSat MBX_STW_RESTART_CNT).post 0xD004 0xD00 3 k
      exec c s = .next { s1 with mgmt := { s1.mgmt with stewardDoneAt := s.now + 200000 } }) ∧
    (∀ t, s.mgmt.steward = .restarting t → k = 0 → exec c s = .next s) ∧
    (∀ t, s.mgmt.steward = .restarting t → k ≠ 0 →
      let s1 := (s.incSat MBX_STW_RESTART_CNT).post 0xD004 0xD00 3 k
      exec c s = .next { s1 with mgmt := { s1.mgmt with steward := .restarting (s.now + 200000) } })) ∧
  (∀ (t : Nat) (s : State), s.mgmt.steward = .restarting t → t ≤ s.now → exec .stewardRestartDone s = .next
    (((State.wr { s with mgmt := { s.mgmt with steward := .running } } FLC_BOOT_RUNNING_BLOCK
      (s.rd FLC_BOOT_ACTIVE_BLOCK)).leftBank s.stewardBank).stewardRewrites)) ∧
  (∀ (t : Nat) (s : State), s.mgmt.steward = .restarting t → s.now < t → exec .stewardRestartDone s = .next s) ∧
  (∀ s : State, s.mgmt.steward = .running ∨ s.mgmt.steward = .booting ∨ s.mgmt.steward = .stopped →
    exec .stewardRestartDone s = .next s) ∧
  (∀ (id : Nat) (s : State), s.cmd id = none →
    exec (.commandTimeout id) s = .next s ∧ ∀ n, exec (.commandDataDmaError id n) s = .next s) ∧
  (∀ (id : Nat) (c : InFlight) (s : State), s.cmd id = some c → s.now ≤ c.expiresAt →
    exec (.commandTimeout id) s = .next s) ∧
  (∀ (id : Nat) (c : InFlight) (s : State), s.cmd id = some c → c.expiresAt < s.now →
    s.cfg.load = none → s.modes.entry = none → c.id = id → exec (.commandTimeout id) s = .next
      ((s.timeoutEffect id (recOpcode c.bytes)).complete id ⟨0x07, 0, 0⟩)) ∧
  (∀ (id : Nat) (c : InFlight) (l : LoadRun) (s : State), s.cmd id = some c →
    c.expiresAt < s.now → s.cfg.load = some l → l.id = c.id →
    exec (.commandTimeout id) s = .next (s.failLoad l { status := 0x07 } false)) ∧
  (∀ (id : Nat) (c : InFlight) (e : PowerEntry) (s : State), s.cmd id = some c →
    c.expiresAt < s.now → s.cfg.load = none → s.modes.entry = some e → e.id = c.id →
    exec (.commandTimeout id) s = .next (s.pwrAbort 0xA)) ∧
  (∀ (id n : Nat) (c : InFlight) (s : State), s.cmd id = some c → c.begun = true ∨ s.dmaLength c.bytes ≤ n →
    exec (.commandDataDmaError id n) s = .next s) ∧
  (∀ (id n : Nat) (c : InFlight) (s : State), s.cmd id = some c → c.begun = false → n < s.dmaLength c.bytes →
    recOpcode c.bytes ≠ 0x8002 →
    let t := (s.undiscard id).ownRow id (recOpcode c.bytes)
    let p := s.dmaPartial t c.bytes n
    exec (.commandDataDmaError id n) s = .next
      (if t.cmd id = none ∧ t.lastStatus c.ring = 0 then (p.2.complete id p.1).dmaFault 4 else s)) ∧
  (∀ (s : State) (n : Nat), (s.dmaFault n).rd MBX_CTRL_CMD_EN = 0 ∧ (s.dmaFault n).rd MBX_CTRL_CPL_EN = 0 ∧
    (s.dmaFault n).rd MBX_CTRL_EVT_EN = 0)
end

