-- ==== Sys2Proof/Machine/Cells.lean ====
section
/-! DEFINITION. The logic cells of the fabric (09 R237 to R241, R248, R255, R256; 11 R299, R300): what the bits of the active context
make of a cell, what its table and carry logic give, what its flip-flops take at an edge, what a select names. No row of the table
clocks a region, so no command runs these functions; the levels of the design's own wires and flip-flops are no part of the
state (log 44). -/

namespace Sys2Proof.Machine

open Sys2Proof

/-! ### Bits of a cell and of its cluster (R239, R240; 11 R299) -/

/-- The 96 bits of cell `n` of cluster `k` of logical column `c`, in the region's active context. -/
def State.cellBits (s : State) (c k n : Nat) : Nat := s.groupBits c (4 * k) (96 * n + 95) (96 * n)

/-- The 12-bit select whose bit 0 is cluster bit `b` of cluster `k`; a select may run on into the next frame. -/
def State.selectBits (s : State) (c k b : Nat) : Nat :=
  ((List.range 12).map fun j => s.groupBits c (4 * k) (b + j) (b + j) * 2 ^ j).sum

/-- Select of input `i` of cell `n`: A, B, C, D, E, F, X0, X1. -/
def State.inputSelect (s : State) (c k n i : Nat) : Nat := s.selectBits c k (1600 + 96 * n + 12 * i)

/-- Selects of clock enables 0 and 1 and of resets 0 and 1, `j` = 0 to 3. -/
def State.controlSelect (s : State) (c k j : Nat) : Nat := s.selectBits c k (3136 + 12 * j)

/-- Selects of the cluster's outgoing short wire `w` (0 to 95) and medium wire `w` (0 to 31). -/
def State.shortSelect (s : State) (c k w : Nat) : Nat := s.selectBits c k (3184 + 12 * w)
def State.mediumSelect (s : State) (c k w : Nat) : Nat := s.selectBits c k (4336 + 12 * w)

/-- Cluster clock `i`: the region clock it selects, and whether it is inverted (R240, R248). -/
def State.clusterClock (s : State) (c k i : Nat) : Nat × Bool :=
  (s.groupBits c (4 * k) (1537 + 3 * i) (1536 + 3 * i), s.groupBits c (4 * k) (1538 + 3 * i) (1538 + 3 * i) == 1)

/-! ### Sources of a select (11 R300) -/

/-- What a 12-bit select names. -/
inductive WireSource where
  | constant (v : Nat)
  | cell (n output : Nat)
  | short (direction track : Nat)
  | medium (direction track : Nat)
  | receive (tap : Nat)
  | inbound (q : Nat)
  | west (output : Nat)
  | east (output : Nat)
  deriving DecidableEq, Repr

/-- The source of a select; values not listed select constant 0. -/
def selectSource (v : Nat) : WireSource :=
  if v = 1 then .constant 1
  else if 0x010 ≤ v ∧ v < 0x040 then .cell ((v - 0x010) / 3) ((v - 0x010) % 3)
  else if 0x040 ≤ v ∧ v < 0x0A0 then .short ((v - 0x040) / 12) ((v - 0x040) % 12)
  else if 0x0A0 ≤ v ∧ v < 0x0C0 then .medium ((v - 0x0A0) / 8) ((v - 0x0A0) % 8)
  else if 0x100 ≤ v ∧ v < 0x180 then .receive (v - 0x100)
  else if 0x180 ≤ v ∧ v < 0x184 then .inbound (v - 0x180)
  else if 0x200 ≤ v ∧ v < 0x300 then .west (v - 0x200)
  else if 0x300 ≤ v ∧ v < 0x400 then .east (v - 0x300)
  else .constant 0

/-! ### The table and the carry logic (R237, R238) -/

/-- FRACTURE and CARRY of a cell. -/
def cellFracture (w : Nat) : Bool := bitOf w 64 == 1
def cellCarry (w : Nat) : Bool := bitOf w 65 == 1

/-- O6: the table's bit at the index of the six inputs, F its high bit. -/
def cellO6 (w inputs : Nat) : Nat := bitOf w (inputs % 64)

/-- OA and OB: the low and the high half of the table at the index of inputs A to E. -/
def cellOA (w inputs : Nat) : Nat := bitOf w (inputs % 32)
def cellOB (w inputs : Nat) : Nat := bitOf w (32 + inputs % 32)

/-- S of a cell with CARRY = 1. -/
def cellSum (w inputs ci : Nat) : Nat := cellOA w inputs ^^^ ci

/-- CO of a cell with CARRY = 1. -/
def cellCO (w inputs ci : Nat) : Nat := if cellOA w inputs = 1 then ci else cellOB w inputs

/-- O6, or OA with FRACTURE = 1. -/
def cellTable (w inputs : Nat) : Nat := if cellFracture w then cellOA w inputs else cellO6 w inputs

/-- Output O; none where it selects S without carry logic, of which the spec states no value. -/
def cellO (w inputs ci : Nat) : Option Nat :=
  if bitOf w 86 = 0 then some (cellTable w inputs) else if cellCarry w then some (cellSum w inputs ci) else none

/-- CI of cell `j` of a column, its cells counted from cluster 0 upward: `bits` gives each cell's 96 bits, `inputs` the index of its
six inputs, `x0` its bypass input. Below cluster 0 the carry is 0. -/
def carryIn (bits inputs x0 : Nat → Nat) (j : Nat) : Nat :=
  match j with
  | 0 =>
    match bitsOf (bits 0) 67 66 with
    | 2 => 1
    | 3 => x0 0
    | _ => 0
  | i + 1 =>
    let below := cellCO (bits i) (inputs i) (carryIn bits inputs x0 i)
    if (i + 1) % 16 ≠ 0 then below
    else
      match bitsOf (bits (i + 1)) 67 66 with
      | 0 => below
      | 1 => 0
      | 2 => 1
      | _ => x0 (i + 1)

/-! ### Oversampling (08 R225) -/

/-- What the oversampling cell of a land hands the fabric in a clock cycle: the levels at its eight phases, the earliest in bit 7. -/
def overSamples (levels : List Bool) : Nat := ((List.range 8).map fun k => flag (levels.getD k false) * 2 ^ (7 - k)).sum

/-! ### Flip-flops (R239, R255, R256) -/

/-- The D input of flip-flop `k` of a cell; none where it is S without carry logic. `x` is X0 for FF0 and X1 for FF1. -/
def ffInput (w k inputs ci x : Nat) : Option Nat :=
  match bitsOf w (69 + 2 * k) (68 + 2 * k) with
  | 1 => if cellCarry w then some (cellSum w inputs ci) else none
  | 2 => some x
  | _ => some (if cellFracture w then (if k = 0 then cellOA w inputs else cellOB w inputs) else cellO6 w inputs)

/-- Cluster clock, clock enable and reset that flip-flop `k` uses. -/
def ffClock (w k : Nat) : Nat := bitOf w (72 + k)
def ffEnable (w k : Nat) : Nat := bitOf w (74 + k)
def ffReset (w k : Nat) : Nat := bitOf w (76 + k)

/-- The value that set-reset loads, and the one that the cluster reset loads. -/
def ffInit (w k : Nat) : Nat := bitOf w (78 + k)
def ffSrval (w k : Nat) : Nat := bitOf w (80 + k)

/-- Flip-flop `k` after a rising edge of its cluster clock. Set-reset comes first, then the cluster reset, whether or not the
clock enable is high. -/
def ffNext (w k : Nat) (setReset reset enable : Bool) (d q : Nat) : Nat :=
  if setReset then ffInit w k
  else if bitOf w (84 + k) = 1 ∧ reset then ffSrval w k
  else if bitOf w (82 + k) = 0 ∨ enable then d
  else q

end Sys2Proof.Machine
end

