-- ==== Sys2Proof/Laws/Cells.lean ====
section
/-! SUPPORT. Laws of the logic cells: what a flip-flop takes, and that a cell of a carry chain adds. -/

namespace Sys2Proof.Machine

open Sys2Proof

/-- Set-reset loads INIT whatever the cluster reset and the clock enable are (09 R256). -/
@[simp] theorem ffNext_setReset (w k : Nat) (r e : Bool) (d q : Nat) : ffNext w k true r e d q = ffInit w k := rfl

/-- The cluster reset loads SRVAL whether or not the clock enable is high (09 R239). -/
theorem ffNext_reset (w k : Nat) (e : Bool) (d q : Nat) (h : bitOf w (84 + k) = 1) : ffNext w k false true e d q = ffSrval w k := by
  simp [ffNext, h]

/-- A flip-flop that heeds its clock enable holds while it is low. -/
theorem ffNext_holds (w k d q : Nat) (h : bitOf w (82 + k) = 1) : ffNext w k false false false d q = q := by
  simp [ffNext, h]

/-- The bits of a cell that adds inputs A and B: OA their exclusive or, OB input B, FRACTURE and CARRY set. -/
def adderCell : Nat := 3 * 2 ^ 64 + 0xCCCCCCCC * 2 ^ 32 + 0x66666666

/-- One cell of an adder: A + B + CI = S + 2 CO (09 R238). -/
theorem adder_adds : ∀ a < 2, ∀ b < 2, ∀ ci < 2,
    a + b + ci = cellSum adderCell (a + 2 * b) ci + 2 * cellCO adderCell (a + 2 * b) ci := by decide

/-- The low half of the table at input index 5 (09 R237), and the source that select 0x045 names (11 R300). -/
theorem cell_outputs : cellO6 (2 ^ 37) 37 = 1 ∧ cellOB (2 ^ 37) 5 = 1 ∧ cellOA (2 ^ 37) 5 = 0 ∧
    selectSource 0x045 = .short 0 5 ∧ selectSource 0x0BF = .medium 3 7 ∧ selectSource 0x03F = .cell 15 2 := by decide

end Sys2Proof.Machine
end

