-- ==== Sys2Proof/Laws/Map.lean ====
section
/-! SUPPORT. Laws of the sparse maps: what a read gives after a write, and that every operation keeps the canonical form. -/

namespace Sys2Proof.Machine

variable {α : Type}

theorem SMap.find_insert_same (m : SMap α) (k : Nat) (v : α) (h : SMap.find m k = none) :
    SMap.find (SMap.insert m k v) k = some v := by
  induction m with
  | nil => simp [SMap.insert, SMap.find]
  | cons e r ih =>
    simp only [SMap.insert]
    split
    · simp [SMap.find]
    · rename_i hk
      simp only [SMap.find] at h ⊢
      split at h
      · cases h
      · rename_i hne
        rw [if_neg hne]
        exact ih h

theorem SMap.find_insert_other (m : SMap α) (k j : Nat) (v : α) (h : j ≠ k) :
    SMap.find (SMap.insert m k v) j = SMap.find m j := by
  induction m with
  | nil => simp [SMap.insert, SMap.find, Ne.symm h]
  | cons e r ih =>
    simp only [SMap.insert]
    split
    · simp [SMap.find, Ne.symm h]
    · simp only [SMap.find, ih]

theorem SMap.find_erase_same (m : SMap α) (k : Nat) : SMap.find (SMap.erase m k) k = none := by
  induction m with
  | nil => rfl
  | cons e r ih =>
    by_cases he : e.1 = k
    · simpa [SMap.erase, he] using ih
    · simp only [SMap.erase, List.filter_cons]
      simp only [bne_iff_ne, ne_eq, he, not_false_eq_true, if_true, SMap.find, if_false]
      exact ih

theorem SMap.find_erase_other (m : SMap α) (k j : Nat) (h : j ≠ k) :
    SMap.find (SMap.erase m k) j = SMap.find m j := by
  induction m with
  | nil => rfl
  | cons e r ih =>
    by_cases he : e.1 = k
    · have hj : e.1 ≠ j := fun hh => h (hh.symm.trans he)
      simp only [SMap.find, if_neg hj]
      simpa [SMap.erase, he] using ih
    · simp only [SMap.erase, List.filter_cons]
      simp only [bne_iff_ne, ne_eq, he, not_false_eq_true, if_true, SMap.find]
      split
      · rfl
      · exact ih

@[simp] theorem SMap.find_put_same (m : SMap α) (k : Nat) (v : α) : SMap.find (SMap.put m k v) k = some v :=
  SMap.find_insert_same _ _ _ (SMap.find_erase_same m k)

theorem SMap.find_put_other (m : SMap α) (k j : Nat) (v : α) (h : j ≠ k) :
    SMap.find (SMap.put m k v) j = SMap.find m j := by
  rw [SMap.put, SMap.find_insert_other _ _ _ _ h, SMap.find_erase_other _ _ _ h]

@[simp] theorem SMap.read_store_same [DecidableEq α] (m : SMap α) (d : α) (k : Nat) (v : α) :
    SMap.read (SMap.store m d k v) d k = v := by
  unfold SMap.store SMap.read
  split
  · rename_i h; simp [SMap.find_erase_same, h]
  · simp

theorem SMap.read_store_other [DecidableEq α] (m : SMap α) (d : α) (k j : Nat) (v : α) (h : j ≠ k) :
    SMap.read (SMap.store m d k v) d j = SMap.read m d j := by
  unfold SMap.store SMap.read
  split
  · rw [SMap.find_erase_other _ _ _ h]
  · rw [SMap.find_put_other _ _ _ _ h]

/-- A store of another key, whatever the default it was read with, leaves a read as it was. -/
theorem SMap.read_store_ne [DecidableEq α] (m : SMap α) (d e : α) (k j : Nat) (v : α) (h : j ≠ k) :
    SMap.read (SMap.store m d k v) e j = SMap.read m e j := by
  unfold SMap.store SMap.read
  split
  · rw [SMap.find_erase_other _ _ _ h]
  · rw [SMap.find_put_other _ _ _ _ h]

/-! ### The canonical form -/

/-- Every key of the map lies above `b`. -/
def SMap.above (m : SMap α) (b : Nat) : Prop := ∀ e ∈ m, b < e.1

theorem SMap.rising_cons (e : Nat × α) (r : SMap α) :
    SMap.rising (e :: r) = true ↔ SMap.above r e.1 ∧ SMap.rising r = true := by
  simp [SMap.rising, SMap.above]

theorem SMap.rising_filter (m : SMap α) (p : Nat × α → Bool) (h : SMap.rising m = true) :
    SMap.rising (m.filter p) = true := by
  induction m with
  | nil => rfl
  | cons e r ih =>
    obtain ⟨h1, h2⟩ := (SMap.rising_cons e r).1 h
    by_cases hp : p e = true
    · rw [List.filter_cons_of_pos hp, SMap.rising_cons]
      exact ⟨fun x hx => h1 x (List.mem_filter.1 hx).1, ih h2⟩
    · rw [List.filter_cons_of_neg hp]
      exact ih h2

theorem SMap.rising_erase (m : SMap α) (k : Nat) (h : SMap.rising m = true) : SMap.rising (SMap.erase m k) = true :=
  SMap.rising_filter m _ h

theorem SMap.mem_insert (m : SMap α) (k : Nat) (v : α) (e : Nat × α) :
    e ∈ SMap.insert m k v ↔ e = (k, v) ∨ e ∈ m := by
  induction m with
  | nil => simp [SMap.insert]
  | cons x r ih =>
    simp only [SMap.insert]
    split
    · simp
    · simp only [List.mem_cons, ih]
      tauto

theorem SMap.rising_insert (m : SMap α) (k : Nat) (v : α) (h : SMap.rising m = true)
    (hk : ∀ e ∈ m, e.1 ≠ k) : SMap.rising (SMap.insert m k v) = true := by
  induction m with
  | nil => rfl
  | cons e r ih =>
    obtain ⟨h1, h2⟩ := (SMap.rising_cons e r).1 h
    have hne := hk e List.mem_cons_self
    simp only [SMap.insert]
    split
    · rename_i hlt
      rw [SMap.rising_cons]
      refine ⟨fun x hx => ?_, h⟩
      rcases List.mem_cons.1 hx with rfl | hx
      · exact hlt
      · exact lt_trans hlt (h1 x hx)
    · rw [SMap.rising_cons]
      refine ⟨fun x hx => ?_, ih h2 fun x hx => hk x (List.mem_cons_of_mem _ hx)⟩
      rcases (SMap.mem_insert r k v x).1 hx with rfl | hx
      · simp only; omega
      · exact h1 x hx

theorem SMap.rising_put (m : SMap α) (k : Nat) (v : α) (h : SMap.rising m = true) : SMap.rising (SMap.put m k v) = true :=
  SMap.rising_insert _ _ _ (SMap.rising_erase m k h) fun e he => by
    simpa [SMap.erase] using (List.mem_filter.1 he).2

theorem SMap.wf_iff [DecidableEq α] (m : SMap α) (d : α) :
    SMap.wf m d = true ↔ SMap.rising m = true ∧ ∀ e ∈ m, e.2 ≠ d := by
  simp [SMap.wf]

theorem SMap.wf_nil [DecidableEq α] (d : α) : SMap.wf ([] : SMap α) d = true := rfl

theorem SMap.wf_filter [DecidableEq α] (m : SMap α) (d : α) (p : Nat × α → Bool) (h : SMap.wf m d = true) :
    SMap.wf (m.filter p) d = true := by
  obtain ⟨h1, h2⟩ := (SMap.wf_iff m d).1 h
  exact (SMap.wf_iff _ d).2 ⟨SMap.rising_filter m p h1, fun e he => h2 e (List.mem_filter.1 he).1⟩

theorem SMap.wf_erase [DecidableEq α] (m : SMap α) (d : α) (k : Nat) (h : SMap.wf m d = true) :
    SMap.wf (SMap.erase m k) d = true :=
  SMap.wf_filter m d _ h

theorem SMap.wf_put [DecidableEq α] (m : SMap α) (d : α) (k : Nat) (v : α) (h : SMap.wf m d = true) (hv : v ≠ d) :
    SMap.wf (SMap.put m k v) d = true := by
  obtain ⟨h1, h2⟩ := (SMap.wf_iff m d).1 h
  refine (SMap.wf_iff _ d).2 ⟨SMap.rising_put m k v h1, fun e he => ?_⟩
  rcases (SMap.mem_insert _ _ _ e).1 he with rfl | he
  · exact hv
  · exact h2 e (List.mem_filter.1 he).1

theorem SMap.wf_store [DecidableEq α] (m : SMap α) (d : α) (k : Nat) (v : α) (h : SMap.wf m d = true) :
    SMap.wf (SMap.store m d k v) d = true := by
  unfold SMap.store
  split
  · exact SMap.wf_erase m d k h
  · rename_i hv; exact SMap.wf_put m d k v h hv

end Sys2Proof.Machine
end

