-- ==== Sys2Proof/Laws/State.lean ====
section
/-! SUPPORT. What the basic operations over the state leave unchanged: one lemma for each component and operation. -/

namespace Sys2Proof.Machine

/-! `wrAt` -/

@[simp] theorem State.wrAt_latches (s : State) (f : Field) (i v : Nat) : (s.wrAt f i v).latches = s.latches := rfl
@[simp] theorem State.wrAt_holds (s : State) (f : Field) (i v : Nat) : (s.wrAt f i v).holds = s.holds := rfl
@[simp] theorem State.wrAt_reply (s : State) (f : Field) (i v : Nat) : (s.wrAt f i v).reply = s.reply := rfl
@[simp] theorem State.wrAt_mgmt (s : State) (f : Field) (i v : Nat) : (s.wrAt f i v).mgmt = s.mgmt := rfl
@[simp] theorem State.wrAt_caller (s : State) (f : Field) (i v : Nat) : (s.wrAt f i v).caller = s.caller := rfl
@[simp] theorem State.wrAt_dance (s : State) (f : Field) (i v : Nat) : (s.wrAt f i v).dance = s.dance := rfl
@[simp] theorem State.wrAt_store (s : State) (f : Field) (i v : Nat) : (s.wrAt f i v).store = s.store := rfl
@[simp] theorem State.wrAt_adm (s : State) (f : Field) (i v : Nat) : (s.wrAt f i v).adm = s.adm := rfl
@[simp] theorem State.wrAt_flows (s : State) (f : Field) (i v : Nat) : (s.wrAt f i v).flows = s.flows := rfl
@[simp] theorem State.wrAt_lanes (s : State) (f : Field) (i v : Nat) : (s.wrAt f i v).lanes = s.lanes := rfl
@[simp] theorem State.wrAt_fabric (s : State) (f : Field) (i v : Nat) : (s.wrAt f i v).fabric = s.fabric := rfl
@[simp] theorem State.wrAt_hard (s : State) (f : Field) (i v : Nat) : (s.wrAt f i v).hard = s.hard := rfl
@[simp] theorem State.wrAt_cfg (s : State) (f : Field) (i v : Nat) : (s.wrAt f i v).cfg = s.cfg := rfl
@[simp] theorem State.wrAt_ctx (s : State) (f : Field) (i v : Nat) : (s.wrAt f i v).ctx = s.ctx := rfl
@[simp] theorem State.wrAt_flash (s : State) (f : Field) (i v : Nat) : (s.wrAt f i v).flash = s.flash := rfl
@[simp] theorem State.wrAt_guard (s : State) (f : Field) (i v : Nat) : (s.wrAt f i v).guard = s.guard := rfl
@[simp] theorem State.wrAt_power (s : State) (f : Field) (i v : Nat) : (s.wrAt f i v).power = s.power := rfl
@[simp] theorem State.wrAt_modes (s : State) (f : Field) (i v : Nat) : (s.wrAt f i v).modes = s.modes := rfl
@[simp] theorem State.wrAt_prom (s : State) (f : Field) (i v : Nat) : (s.wrAt f i v).prom = s.prom := rfl
@[simp] theorem State.wrAt_life (s : State) (f : Field) (i v : Nat) : (s.wrAt f i v).life = s.life := rfl
@[simp] theorem State.wrAt_fresh (s : State) (f : Field) (i v : Nat) : (s.wrAt f i v).fresh = s.fresh := rfl
@[simp] theorem State.wrAt_pending (s : State) (f : Field) (i v : Nat) : (s.wrAt f i v).pending = s.pending := rfl

/-! `wr` -/

@[simp] theorem State.wr_latches (s : State) (f : Field) (v : Nat) : (s.wr f v).latches = s.latches := rfl
@[simp] theorem State.wr_holds (s : State) (f : Field) (v : Nat) : (s.wr f v).holds = s.holds := rfl
@[simp] theorem State.wr_reply (s : State) (f : Field) (v : Nat) : (s.wr f v).reply = s.reply := rfl
@[simp] theorem State.wr_mgmt (s : State) (f : Field) (v : Nat) : (s.wr f v).mgmt = s.mgmt := rfl
@[simp] theorem State.wr_caller (s : State) (f : Field) (v : Nat) : (s.wr f v).caller = s.caller := rfl
@[simp] theorem State.wr_dance (s : State) (f : Field) (v : Nat) : (s.wr f v).dance = s.dance := rfl
@[simp] theorem State.wr_store (s : State) (f : Field) (v : Nat) : (s.wr f v).store = s.store := rfl
@[simp] theorem State.wr_adm (s : State) (f : Field) (v : Nat) : (s.wr f v).adm = s.adm := rfl
@[simp] theorem State.wr_flows (s : State) (f : Field) (v : Nat) : (s.wr f v).flows = s.flows := rfl
@[simp] theorem State.wr_lanes (s : State) (f : Field) (v : Nat) : (s.wr f v).lanes = s.lanes := rfl
@[simp] theorem State.wr_fabric (s : State) (f : Field) (v : Nat) : (s.wr f v).fabric = s.fabric := rfl
@[simp] theorem State.wr_hard (s : State) (f : Field) (v : Nat) : (s.wr f v).hard = s.hard := rfl
@[simp] theorem State.wr_cfg (s : State) (f : Field) (v : Nat) : (s.wr f v).cfg = s.cfg := rfl
@[simp] theorem State.wr_ctx (s : State) (f : Field) (v : Nat) : (s.wr f v).ctx = s.ctx := rfl
@[simp] theorem State.wr_flash (s : State) (f : Field) (v : Nat) : (s.wr f v).flash = s.flash := rfl
@[simp] theorem State.wr_guard (s : State) (f : Field) (v : Nat) : (s.wr f v).guard = s.guard := rfl
@[simp] theorem State.wr_power (s : State) (f : Field) (v : Nat) : (s.wr f v).power = s.power := rfl
@[simp] theorem State.wr_modes (s : State) (f : Field) (v : Nat) : (s.wr f v).modes = s.modes := rfl
@[simp] theorem State.wr_prom (s : State) (f : Field) (v : Nat) : (s.wr f v).prom = s.prom := rfl
@[simp] theorem State.wr_life (s : State) (f : Field) (v : Nat) : (s.wr f v).life = s.life := rfl
@[simp] theorem State.wr_fresh (s : State) (f : Field) (v : Nat) : (s.wr f v).fresh = s.fresh := rfl
@[simp] theorem State.wr_pending (s : State) (f : Field) (v : Nat) : (s.wr f v).pending = s.pending := rfl

/-! `addSatAt` -/

@[simp] theorem State.addSatAt_latches (s : State) (f : Field) (i n : Nat) : (s.addSatAt f i n).latches = s.latches := rfl
@[simp] theorem State.addSatAt_holds (s : State) (f : Field) (i n : Nat) : (s.addSatAt f i n).holds = s.holds := rfl
@[simp] theorem State.addSatAt_reply (s : State) (f : Field) (i n : Nat) : (s.addSatAt f i n).reply = s.reply := rfl
@[simp] theorem State.addSatAt_mgmt (s : State) (f : Field) (i n : Nat) : (s.addSatAt f i n).mgmt = s.mgmt := rfl
@[simp] theorem State.addSatAt_caller (s : State) (f : Field) (i n : Nat) : (s.addSatAt f i n).caller = s.caller := rfl
@[simp] theorem State.addSatAt_dance (s : State) (f : Field) (i n : Nat) : (s.addSatAt f i n).dance = s.dance := rfl
@[simp] theorem State.addSatAt_store (s : State) (f : Field) (i n : Nat) : (s.addSatAt f i n).store = s.store := rfl
@[simp] theorem State.addSatAt_adm (s : State) (f : Field) (i n : Nat) : (s.addSatAt f i n).adm = s.adm := rfl
@[simp] theorem State.addSatAt_flows (s : State) (f : Field) (i n : Nat) : (s.addSatAt f i n).flows = s.flows := rfl
@[simp] theorem State.addSatAt_lanes (s : State) (f : Field) (i n : Nat) : (s.addSatAt f i n).lanes = s.lanes := rfl
@[simp] theorem State.addSatAt_fabric (s : State) (f : Field) (i n : Nat) : (s.addSatAt f i n).fabric = s.fabric := rfl
@[simp] theorem State.addSatAt_hard (s : State) (f : Field) (i n : Nat) : (s.addSatAt f i n).hard = s.hard := rfl
@[simp] theorem State.addSatAt_cfg (s : State) (f : Field) (i n : Nat) : (s.addSatAt f i n).cfg = s.cfg := rfl
@[simp] theorem State.addSatAt_ctx (s : State) (f : Field) (i n : Nat) : (s.addSatAt f i n).ctx = s.ctx := rfl
@[simp] theorem State.addSatAt_flash (s : State) (f : Field) (i n : Nat) : (s.addSatAt f i n).flash = s.flash := rfl
@[simp] theorem State.addSatAt_guard (s : State) (f : Field) (i n : Nat) : (s.addSatAt f i n).guard = s.guard := rfl
@[simp] theorem State.addSatAt_power (s : State) (f : Field) (i n : Nat) : (s.addSatAt f i n).power = s.power := rfl
@[simp] theorem State.addSatAt_modes (s : State) (f : Field) (i n : Nat) : (s.addSatAt f i n).modes = s.modes := rfl
@[simp] theorem State.addSatAt_prom (s : State) (f : Field) (i n : Nat) : (s.addSatAt f i n).prom = s.prom := rfl
@[simp] theorem State.addSatAt_life (s : State) (f : Field) (i n : Nat) : (s.addSatAt f i n).life = s.life := rfl
@[simp] theorem State.addSatAt_fresh (s : State) (f : Field) (i n : Nat) : (s.addSatAt f i n).fresh = s.fresh := rfl
@[simp] theorem State.addSatAt_pending (s : State) (f : Field) (i n : Nat) : (s.addSatAt f i n).pending = s.pending := rfl

/-! `incSat` -/

@[simp] theorem State.incSat_latches (s : State) (f : Field) : (s.incSat f).latches = s.latches := rfl
@[simp] theorem State.incSat_holds (s : State) (f : Field) : (s.incSat f).holds = s.holds := rfl
@[simp] theorem State.incSat_reply (s : State) (f : Field) : (s.incSat f).reply = s.reply := rfl
@[simp] theorem State.incSat_mgmt (s : State) (f : Field) : (s.incSat f).mgmt = s.mgmt := rfl
@[simp] theorem State.incSat_caller (s : State) (f : Field) : (s.incSat f).caller = s.caller := rfl
@[simp] theorem State.incSat_dance (s : State) (f : Field) : (s.incSat f).dance = s.dance := rfl
@[simp] theorem State.incSat_store (s : State) (f : Field) : (s.incSat f).store = s.store := rfl
@[simp] theorem State.incSat_adm (s : State) (f : Field) : (s.incSat f).adm = s.adm := rfl
@[simp] theorem State.incSat_flows (s : State) (f : Field) : (s.incSat f).flows = s.flows := rfl
@[simp] theorem State.incSat_lanes (s : State) (f : Field) : (s.incSat f).lanes = s.lanes := rfl
@[simp] theorem State.incSat_fabric (s : State) (f : Field) : (s.incSat f).fabric = s.fabric := rfl
@[simp] theorem State.incSat_hard (s : State) (f : Field) : (s.incSat f).hard = s.hard := rfl
@[simp] theorem State.incSat_cfg (s : State) (f : Field) : (s.incSat f).cfg = s.cfg := rfl
@[simp] theorem State.incSat_ctx (s : State) (f : Field) : (s.incSat f).ctx = s.ctx := rfl
@[simp] theorem State.incSat_flash (s : State) (f : Field) : (s.incSat f).flash = s.flash := rfl
@[simp] theorem State.incSat_guard (s : State) (f : Field) : (s.incSat f).guard = s.guard := rfl
@[simp] theorem State.incSat_power (s : State) (f : Field) : (s.incSat f).power = s.power := rfl
@[simp] theorem State.incSat_modes (s : State) (f : Field) : (s.incSat f).modes = s.modes := rfl
@[simp] theorem State.incSat_prom (s : State) (f : Field) : (s.incSat f).prom = s.prom := rfl
@[simp] theorem State.incSat_life (s : State) (f : Field) : (s.incSat f).life = s.life := rfl
@[simp] theorem State.incSat_fresh (s : State) (f : Field) : (s.incSat f).fresh = s.fresh := rfl
@[simp] theorem State.incSat_pending (s : State) (f : Field) : (s.incSat f).pending = s.pending := rfl

/-! `wrBit` -/

@[simp] theorem State.wrBit_latches (s : State) (f : Field) (k : Nat) (b : Bool) : (s.wrBit f k b).latches = s.latches := rfl
@[simp] theorem State.wrBit_holds (s : State) (f : Field) (k : Nat) (b : Bool) : (s.wrBit f k b).holds = s.holds := rfl
@[simp] theorem State.wrBit_reply (s : State) (f : Field) (k : Nat) (b : Bool) : (s.wrBit f k b).reply = s.reply := rfl
@[simp] theorem State.wrBit_mgmt (s : State) (f : Field) (k : Nat) (b : Bool) : (s.wrBit f k b).mgmt = s.mgmt := rfl
@[simp] theorem State.wrBit_caller (s : State) (f : Field) (k : Nat) (b : Bool) : (s.wrBit f k b).caller = s.caller := rfl
@[simp] theorem State.wrBit_dance (s : State) (f : Field) (k : Nat) (b : Bool) : (s.wrBit f k b).dance = s.dance := rfl
@[simp] theorem State.wrBit_store (s : State) (f : Field) (k : Nat) (b : Bool) : (s.wrBit f k b).store = s.store := rfl
@[simp] theorem State.wrBit_adm (s : State) (f : Field) (k : Nat) (b : Bool) : (s.wrBit f k b).adm = s.adm := rfl
@[simp] theorem State.wrBit_flows (s : State) (f : Field) (k : Nat) (b : Bool) : (s.wrBit f k b).flows = s.flows := rfl
@[simp] theorem State.wrBit_lanes (s : State) (f : Field) (k : Nat) (b : Bool) : (s.wrBit f k b).lanes = s.lanes := rfl
@[simp] theorem State.wrBit_fabric (s : State) (f : Field) (k : Nat) (b : Bool) : (s.wrBit f k b).fabric = s.fabric := rfl
@[simp] theorem State.wrBit_hard (s : State) (f : Field) (k : Nat) (b : Bool) : (s.wrBit f k b).hard = s.hard := rfl
@[simp] theorem State.wrBit_cfg (s : State) (f : Field) (k : Nat) (b : Bool) : (s.wrBit f k b).cfg = s.cfg := rfl
@[simp] theorem State.wrBit_ctx (s : State) (f : Field) (k : Nat) (b : Bool) : (s.wrBit f k b).ctx = s.ctx := rfl
@[simp] theorem State.wrBit_flash (s : State) (f : Field) (k : Nat) (b : Bool) : (s.wrBit f k b).flash = s.flash := rfl
@[simp] theorem State.wrBit_guard (s : State) (f : Field) (k : Nat) (b : Bool) : (s.wrBit f k b).guard = s.guard := rfl
@[simp] theorem State.wrBit_power (s : State) (f : Field) (k : Nat) (b : Bool) : (s.wrBit f k b).power = s.power := rfl
@[simp] theorem State.wrBit_modes (s : State) (f : Field) (k : Nat) (b : Bool) : (s.wrBit f k b).modes = s.modes := rfl
@[simp] theorem State.wrBit_prom (s : State) (f : Field) (k : Nat) (b : Bool) : (s.wrBit f k b).prom = s.prom := rfl
@[simp] theorem State.wrBit_life (s : State) (f : Field) (k : Nat) (b : Bool) : (s.wrBit f k b).life = s.life := rfl
@[simp] theorem State.wrBit_fresh (s : State) (f : Field) (k : Nat) (b : Bool) : (s.wrBit f k b).fresh = s.fresh := rfl
@[simp] theorem State.wrBit_pending (s : State) (f : Field) (k : Nat) (b : Bool) : (s.wrBit f k b).pending = s.pending := rfl

/-! `wrMask` -/

@[simp] theorem State.wrMask_latches (s : State) (f : Field) (k : Nat) (b : Bool) : (s.wrMask f k b).latches = s.latches := rfl
@[simp] theorem State.wrMask_holds (s : State) (f : Field) (k : Nat) (b : Bool) : (s.wrMask f k b).holds = s.holds := rfl
@[simp] theorem State.wrMask_reply (s : State) (f : Field) (k : Nat) (b : Bool) : (s.wrMask f k b).reply = s.reply := rfl
@[simp] theorem State.wrMask_mgmt (s : State) (f : Field) (k : Nat) (b : Bool) : (s.wrMask f k b).mgmt = s.mgmt := rfl
@[simp] theorem State.wrMask_caller (s : State) (f : Field) (k : Nat) (b : Bool) : (s.wrMask f k b).caller = s.caller := rfl
@[simp] theorem State.wrMask_dance (s : State) (f : Field) (k : Nat) (b : Bool) : (s.wrMask f k b).dance = s.dance := rfl
@[simp] theorem State.wrMask_store (s : State) (f : Field) (k : Nat) (b : Bool) : (s.wrMask f k b).store = s.store := rfl
@[simp] theorem State.wrMask_adm (s : State) (f : Field) (k : Nat) (b : Bool) : (s.wrMask f k b).adm = s.adm := rfl
@[simp] theorem State.wrMask_flows (s : State) (f : Field) (k : Nat) (b : Bool) : (s.wrMask f k b).flows = s.flows := rfl
@[simp] theorem State.wrMask_lanes (s : State) (f : Field) (k : Nat) (b : Bool) : (s.wrMask f k b).lanes = s.lanes := rfl
@[simp] theorem State.wrMask_fabric (s : State) (f : Field) (k : Nat) (b : Bool) : (s.wrMask f k b).fabric = s.fabric := rfl
@[simp] theorem State.wrMask_hard (s : State) (f : Field) (k : Nat) (b : Bool) : (s.wrMask f k b).hard = s.hard := rfl
@[simp] theorem State.wrMask_cfg (s : State) (f : Field) (k : Nat) (b : Bool) : (s.wrMask f k b).cfg = s.cfg := rfl
@[simp] theorem State.wrMask_ctx (s : State) (f : Field) (k : Nat) (b : Bool) : (s.wrMask f k b).ctx = s.ctx := rfl
@[simp] theorem State.wrMask_flash (s : State) (f : Field) (k : Nat) (b : Bool) : (s.wrMask f k b).flash = s.flash := rfl
@[simp] theorem State.wrMask_guard (s : State) (f : Field) (k : Nat) (b : Bool) : (s.wrMask f k b).guard = s.guard := rfl
@[simp] theorem State.wrMask_power (s : State) (f : Field) (k : Nat) (b : Bool) : (s.wrMask f k b).power = s.power := rfl
@[simp] theorem State.wrMask_modes (s : State) (f : Field) (k : Nat) (b : Bool) : (s.wrMask f k b).modes = s.modes := rfl
@[simp] theorem State.wrMask_prom (s : State) (f : Field) (k : Nat) (b : Bool) : (s.wrMask f k b).prom = s.prom := rfl
@[simp] theorem State.wrMask_life (s : State) (f : Field) (k : Nat) (b : Bool) : (s.wrMask f k b).life = s.life := rfl
@[simp] theorem State.wrMask_fresh (s : State) (f : Field) (k : Nat) (b : Bool) : (s.wrMask f k b).fresh = s.fresh := rfl
@[simp] theorem State.wrMask_pending (s : State) (f : Field) (k : Nat) (b : Bool) : (s.wrMask f k b).pending = s.pending := rfl

/-! `took` -/

@[simp] theorem State.took_regs (s : State) : (s.took).regs = s.regs := rfl
@[simp] theorem State.took_latches (s : State) : (s.took).latches = s.latches := rfl
@[simp] theorem State.took_holds (s : State) : (s.took).holds = s.holds := rfl
@[simp] theorem State.took_reply (s : State) : (s.took).reply = s.reply := rfl
@[simp] theorem State.took_mgmt (s : State) : (s.took).mgmt = s.mgmt := rfl
@[simp] theorem State.took_caller (s : State) : (s.took).caller = s.caller := rfl
@[simp] theorem State.took_dance (s : State) : (s.took).dance = s.dance := rfl
@[simp] theorem State.took_store (s : State) : (s.took).store = s.store := rfl
@[simp] theorem State.took_adm (s : State) : (s.took).adm = s.adm := rfl
@[simp] theorem State.took_flows (s : State) : (s.took).flows = s.flows := rfl
@[simp] theorem State.took_lanes (s : State) : (s.took).lanes = s.lanes := rfl
@[simp] theorem State.took_fabric (s : State) : (s.took).fabric = s.fabric := rfl
@[simp] theorem State.took_hard (s : State) : (s.took).hard = s.hard := rfl
@[simp] theorem State.took_cfg (s : State) : (s.took).cfg = s.cfg := rfl
@[simp] theorem State.took_ctx (s : State) : (s.took).ctx = s.ctx := rfl
@[simp] theorem State.took_flash (s : State) : (s.took).flash = s.flash := rfl
@[simp] theorem State.took_guard (s : State) : (s.took).guard = s.guard := rfl
@[simp] theorem State.took_power (s : State) : (s.took).power = s.power := rfl
@[simp] theorem State.took_modes (s : State) : (s.took).modes = s.modes := rfl
@[simp] theorem State.took_prom (s : State) : (s.took).prom = s.prom := rfl
@[simp] theorem State.took_life (s : State) : (s.took).life = s.life := rfl
@[simp] theorem State.took_pending (s : State) : (s.took).pending = s.pending := rfl

/-! `tookN` -/

@[simp] theorem State.tookN_regs (s : State) (n : Nat) : (s.tookN n).regs = s.regs := rfl
@[simp] theorem State.tookN_latches (s : State) (n : Nat) : (s.tookN n).latches = s.latches := rfl
@[simp] theorem State.tookN_holds (s : State) (n : Nat) : (s.tookN n).holds = s.holds := rfl
@[simp] theorem State.tookN_reply (s : State) (n : Nat) : (s.tookN n).reply = s.reply := rfl
@[simp] theorem State.tookN_mgmt (s : State) (n : Nat) : (s.tookN n).mgmt = s.mgmt := rfl
@[simp] theorem State.tookN_caller (s : State) (n : Nat) : (s.tookN n).caller = s.caller := rfl
@[simp] theorem State.tookN_dance (s : State) (n : Nat) : (s.tookN n).dance = s.dance := rfl
@[simp] theorem State.tookN_store (s : State) (n : Nat) : (s.tookN n).store = s.store := rfl
@[simp] theorem State.tookN_adm (s : State) (n : Nat) : (s.tookN n).adm = s.adm := rfl
@[simp] theorem State.tookN_flows (s : State) (n : Nat) : (s.tookN n).flows = s.flows := rfl
@[simp] theorem State.tookN_lanes (s : State) (n : Nat) : (s.tookN n).lanes = s.lanes := rfl
@[simp] theorem State.tookN_fabric (s : State) (n : Nat) : (s.tookN n).fabric = s.fabric := rfl
@[simp] theorem State.tookN_hard (s : State) (n : Nat) : (s.tookN n).hard = s.hard := rfl
@[simp] theorem State.tookN_cfg (s : State) (n : Nat) : (s.tookN n).cfg = s.cfg := rfl
@[simp] theorem State.tookN_ctx (s : State) (n : Nat) : (s.tookN n).ctx = s.ctx := rfl
@[simp] theorem State.tookN_flash (s : State) (n : Nat) : (s.tookN n).flash = s.flash := rfl
@[simp] theorem State.tookN_guard (s : State) (n : Nat) : (s.tookN n).guard = s.guard := rfl
@[simp] theorem State.tookN_power (s : State) (n : Nat) : (s.tookN n).power = s.power := rfl
@[simp] theorem State.tookN_modes (s : State) (n : Nat) : (s.tookN n).modes = s.modes := rfl
@[simp] theorem State.tookN_prom (s : State) (n : Nat) : (s.tookN n).prom = s.prom := rfl
@[simp] theorem State.tookN_life (s : State) (n : Nat) : (s.tookN n).life = s.life := rfl
@[simp] theorem State.tookN_pending (s : State) (n : Nat) : (s.tookN n).pending = s.pending := rfl

/-! `answer` -/

@[simp] theorem State.answer_regs (s : State) (d : Nat) : (s.answer d).regs = s.regs := rfl
@[simp] theorem State.answer_latches (s : State) (d : Nat) : (s.answer d).latches = s.latches := rfl
@[simp] theorem State.answer_holds (s : State) (d : Nat) : (s.answer d).holds = s.holds := rfl
@[simp] theorem State.answer_mgmt (s : State) (d : Nat) : (s.answer d).mgmt = s.mgmt := rfl
@[simp] theorem State.answer_caller (s : State) (d : Nat) : (s.answer d).caller = s.caller := rfl
@[simp] theorem State.answer_dance (s : State) (d : Nat) : (s.answer d).dance = s.dance := rfl
@[simp] theorem State.answer_store (s : State) (d : Nat) : (s.answer d).store = s.store := rfl
@[simp] theorem State.answer_adm (s : State) (d : Nat) : (s.answer d).adm = s.adm := rfl
@[simp] theorem State.answer_flows (s : State) (d : Nat) : (s.answer d).flows = s.flows := rfl
@[simp] theorem State.answer_lanes (s : State) (d : Nat) : (s.answer d).lanes = s.lanes := rfl
@[simp] theorem State.answer_fabric (s : State) (d : Nat) : (s.answer d).fabric = s.fabric := rfl
@[simp] theorem State.answer_hard (s : State) (d : Nat) : (s.answer d).hard = s.hard := rfl
@[simp] theorem State.answer_cfg (s : State) (d : Nat) : (s.answer d).cfg = s.cfg := rfl
@[simp] theorem State.answer_ctx (s : State) (d : Nat) : (s.answer d).ctx = s.ctx := rfl
@[simp] theorem State.answer_flash (s : State) (d : Nat) : (s.answer d).flash = s.flash := rfl
@[simp] theorem State.answer_guard (s : State) (d : Nat) : (s.answer d).guard = s.guard := rfl
@[simp] theorem State.answer_power (s : State) (d : Nat) : (s.answer d).power = s.power := rfl
@[simp] theorem State.answer_modes (s : State) (d : Nat) : (s.answer d).modes = s.modes := rfl
@[simp] theorem State.answer_prom (s : State) (d : Nat) : (s.answer d).prom = s.prom := rfl
@[simp] theorem State.answer_life (s : State) (d : Nat) : (s.answer d).life = s.life := rfl
@[simp] theorem State.answer_fresh (s : State) (d : Nat) : (s.answer d).fresh = s.fresh := rfl
@[simp] theorem State.answer_pending (s : State) (d : Nat) : (s.answer d).pending = s.pending := rfl

/-! `answerBytes` -/

@[simp] theorem State.answerBytes_regs (s : State) (bs : List Nat) : (s.answerBytes bs).regs = s.regs := rfl
@[simp] theorem State.answerBytes_latches (s : State) (bs : List Nat) : (s.answerBytes bs).latches = s.latches := rfl
@[simp] theorem State.answerBytes_holds (s : State) (bs : List Nat) : (s.answerBytes bs).holds = s.holds := rfl
@[simp] theorem State.answerBytes_mgmt (s : State) (bs : List Nat) : (s.answerBytes bs).mgmt = s.mgmt := rfl
@[simp] theorem State.answerBytes_caller (s : State) (bs : List Nat) : (s.answerBytes bs).caller = s.caller := rfl
@[simp] theorem State.answerBytes_dance (s : State) (bs : List Nat) : (s.answerBytes bs).dance = s.dance := rfl
@[simp] theorem State.answerBytes_store (s : State) (bs : List Nat) : (s.answerBytes bs).store = s.store := rfl
@[simp] theorem State.answerBytes_adm (s : State) (bs : List Nat) : (s.answerBytes bs).adm = s.adm := rfl
@[simp] theorem State.answerBytes_flows (s : State) (bs : List Nat) : (s.answerBytes bs).flows = s.flows := rfl
@[simp] theorem State.answerBytes_lanes (s : State) (bs : List Nat) : (s.answerBytes bs).lanes = s.lanes := rfl
@[simp] theorem State.answerBytes_fabric (s : State) (bs : List Nat) : (s.answerBytes bs).fabric = s.fabric := rfl
@[simp] theorem State.answerBytes_hard (s : State) (bs : List Nat) : (s.answerBytes bs).hard = s.hard := rfl
@[simp] theorem State.answerBytes_cfg (s : State) (bs : List Nat) : (s.answerBytes bs).cfg = s.cfg := rfl
@[simp] theorem State.answerBytes_ctx (s : State) (bs : List Nat) : (s.answerBytes bs).ctx = s.ctx := rfl
@[simp] theorem State.answerBytes_flash (s : State) (bs : List Nat) : (s.answerBytes bs).flash = s.flash := rfl
@[simp] theorem State.answerBytes_guard (s : State) (bs : List Nat) : (s.answerBytes bs).guard = s.guard := rfl
@[simp] theorem State.answerBytes_power (s : State) (bs : List Nat) : (s.answerBytes bs).power = s.power := rfl
@[simp] theorem State.answerBytes_modes (s : State) (bs : List Nat) : (s.answerBytes bs).modes = s.modes := rfl
@[simp] theorem State.answerBytes_prom (s : State) (bs : List Nat) : (s.answerBytes bs).prom = s.prom := rfl
@[simp] theorem State.answerBytes_life (s : State) (bs : List Nat) : (s.answerBytes bs).life = s.life := rfl
@[simp] theorem State.answerBytes_fresh (s : State) (bs : List Nat) : (s.answerBytes bs).fresh = s.fresh := rfl
@[simp] theorem State.answerBytes_pending (s : State) (bs : List Nat) : (s.answerBytes bs).pending = s.pending := rfl

/-! `setTai` -/

@[simp] theorem State.setTai_regs (s : State) (t : Nat) : (s.setTai t).regs = s.regs := rfl
@[simp] theorem State.setTai_latches (s : State) (t : Nat) : (s.setTai t).latches = s.latches := rfl
@[simp] theorem State.setTai_holds (s : State) (t : Nat) : (s.setTai t).holds = s.holds := rfl
@[simp] theorem State.setTai_reply (s : State) (t : Nat) : (s.setTai t).reply = s.reply := rfl
@[simp] theorem State.setTai_mgmt (s : State) (t : Nat) : (s.setTai t).mgmt = s.mgmt := rfl
@[simp] theorem State.setTai_dance (s : State) (t : Nat) : (s.setTai t).dance = s.dance := rfl
@[simp] theorem State.setTai_store (s : State) (t : Nat) : (s.setTai t).store = s.store := rfl
@[simp] theorem State.setTai_adm (s : State) (t : Nat) : (s.setTai t).adm = s.adm := rfl
@[simp] theorem State.setTai_flows (s : State) (t : Nat) : (s.setTai t).flows = s.flows := rfl
@[simp] theorem State.setTai_lanes (s : State) (t : Nat) : (s.setTai t).lanes = s.lanes := rfl
@[simp] theorem State.setTai_fabric (s : State) (t : Nat) : (s.setTai t).fabric = s.fabric := rfl
@[simp] theorem State.setTai_hard (s : State) (t : Nat) : (s.setTai t).hard = s.hard := rfl
@[simp] theorem State.setTai_cfg (s : State) (t : Nat) : (s.setTai t).cfg = s.cfg := rfl
@[simp] theorem State.setTai_ctx (s : State) (t : Nat) : (s.setTai t).ctx = s.ctx := rfl
@[simp] theorem State.setTai_flash (s : State) (t : Nat) : (s.setTai t).flash = s.flash := rfl
@[simp] theorem State.setTai_guard (s : State) (t : Nat) : (s.setTai t).guard = s.guard := rfl
@[simp] theorem State.setTai_power (s : State) (t : Nat) : (s.setTai t).power = s.power := rfl
@[simp] theorem State.setTai_modes (s : State) (t : Nat) : (s.setTai t).modes = s.modes := rfl
@[simp] theorem State.setTai_prom (s : State) (t : Nat) : (s.setTai t).prom = s.prom := rfl
@[simp] theorem State.setTai_life (s : State) (t : Nat) : (s.setTai t).life = s.life := rfl
@[simp] theorem State.setTai_fresh (s : State) (t : Nat) : (s.setTai t).fresh = s.fresh := rfl
@[simp] theorem State.setTai_pending (s : State) (t : Nat) : (s.setTai t).pending = s.pending := rfl

/-! `storePut` -/

@[simp] theorem State.storePut_regs (s : State) (a : Nat) (w : StoreWord) : (s.storePut a w).regs = s.regs := rfl
@[simp] theorem State.storePut_latches (s : State) (a : Nat) (w : StoreWord) : (s.storePut a w).latches = s.latches := rfl
@[simp] theorem State.storePut_holds (s : State) (a : Nat) (w : StoreWord) : (s.storePut a w).holds = s.holds := rfl
@[simp] theorem State.storePut_reply (s : State) (a : Nat) (w : StoreWord) : (s.storePut a w).reply = s.reply := rfl
@[simp] theorem State.storePut_mgmt (s : State) (a : Nat) (w : StoreWord) : (s.storePut a w).mgmt = s.mgmt := rfl
@[simp] theorem State.storePut_caller (s : State) (a : Nat) (w : StoreWord) : (s.storePut a w).caller = s.caller := rfl
@[simp] theorem State.storePut_dance (s : State) (a : Nat) (w : StoreWord) : (s.storePut a w).dance = s.dance := rfl
@[simp] theorem State.storePut_adm (s : State) (a : Nat) (w : StoreWord) : (s.storePut a w).adm = s.adm := rfl
@[simp] theorem State.storePut_flows (s : State) (a : Nat) (w : StoreWord) : (s.storePut a w).flows = s.flows := rfl
@[simp] theorem State.storePut_lanes (s : State) (a : Nat) (w : StoreWord) : (s.storePut a w).lanes = s.lanes := rfl
@[simp] theorem State.storePut_fabric (s : State) (a : Nat) (w : StoreWord) : (s.storePut a w).fabric = s.fabric := rfl
@[simp] theorem State.storePut_hard (s : State) (a : Nat) (w : StoreWord) : (s.storePut a w).hard = s.hard := rfl
@[simp] theorem State.storePut_cfg (s : State) (a : Nat) (w : StoreWord) : (s.storePut a w).cfg = s.cfg := rfl
@[simp] theorem State.storePut_ctx (s : State) (a : Nat) (w : StoreWord) : (s.storePut a w).ctx = s.ctx := rfl
@[simp] theorem State.storePut_flash (s : State) (a : Nat) (w : StoreWord) : (s.storePut a w).flash = s.flash := rfl
@[simp] theorem State.storePut_guard (s : State) (a : Nat) (w : StoreWord) : (s.storePut a w).guard = s.guard := rfl
@[simp] theorem State.storePut_power (s : State) (a : Nat) (w : StoreWord) : (s.storePut a w).power = s.power := rfl
@[simp] theorem State.storePut_modes (s : State) (a : Nat) (w : StoreWord) : (s.storePut a w).modes = s.modes := rfl
@[simp] theorem State.storePut_prom (s : State) (a : Nat) (w : StoreWord) : (s.storePut a w).prom = s.prom := rfl
@[simp] theorem State.storePut_life (s : State) (a : Nat) (w : StoreWord) : (s.storePut a w).life = s.life := rfl
@[simp] theorem State.storePut_fresh (s : State) (a : Nat) (w : StoreWord) : (s.storePut a w).fresh = s.fresh := rfl
@[simp] theorem State.storePut_pending (s : State) (a : Nat) (w : StoreWord) : (s.storePut a w).pending = s.pending := rfl

/-! `logPlace` -/

@[simp] theorem State.logPlace_regs (s : State) (r : Nat) : (s.logPlace r).regs = s.regs := rfl
@[simp] theorem State.logPlace_latches (s : State) (r : Nat) : (s.logPlace r).latches = s.latches := rfl
@[simp] theorem State.logPlace_holds (s : State) (r : Nat) : (s.logPlace r).holds = s.holds := rfl
@[simp] theorem State.logPlace_reply (s : State) (r : Nat) : (s.logPlace r).reply = s.reply := rfl
@[simp] theorem State.logPlace_caller (s : State) (r : Nat) : (s.logPlace r).caller = s.caller := rfl
@[simp] theorem State.logPlace_dance (s : State) (r : Nat) : (s.logPlace r).dance = s.dance := rfl
@[simp] theorem State.logPlace_adm (s : State) (r : Nat) : (s.logPlace r).adm = s.adm := rfl
@[simp] theorem State.logPlace_flows (s : State) (r : Nat) : (s.logPlace r).flows = s.flows := rfl
@[simp] theorem State.logPlace_lanes (s : State) (r : Nat) : (s.logPlace r).lanes = s.lanes := rfl
@[simp] theorem State.logPlace_fabric (s : State) (r : Nat) : (s.logPlace r).fabric = s.fabric := rfl
@[simp] theorem State.logPlace_hard (s : State) (r : Nat) : (s.logPlace r).hard = s.hard := rfl
@[simp] theorem State.logPlace_cfg (s : State) (r : Nat) : (s.logPlace r).cfg = s.cfg := rfl
@[simp] theorem State.logPlace_ctx (s : State) (r : Nat) : (s.logPlace r).ctx = s.ctx := rfl
@[simp] theorem State.logPlace_flash (s : State) (r : Nat) : (s.logPlace r).flash = s.flash := rfl
@[simp] theorem State.logPlace_guard (s : State) (r : Nat) : (s.logPlace r).guard = s.guard := rfl
@[simp] theorem State.logPlace_power (s : State) (r : Nat) : (s.logPlace r).power = s.power := rfl
@[simp] theorem State.logPlace_modes (s : State) (r : Nat) : (s.logPlace r).modes = s.modes := rfl
@[simp] theorem State.logPlace_prom (s : State) (r : Nat) : (s.logPlace r).prom = s.prom := rfl
@[simp] theorem State.logPlace_life (s : State) (r : Nat) : (s.logPlace r).life = s.life := rfl
@[simp] theorem State.logPlace_fresh (s : State) (r : Nat) : (s.logPlace r).fresh = s.fresh := rfl
@[simp] theorem State.logPlace_pending (s : State) (r : Nat) : (s.logPlace r).pending = s.pending := rfl

/-! `logEvent` -/

@[simp] theorem State.logEvent_regs (s : State) (r : Nat) : (s.logEvent r).regs = s.regs := by unfold State.logEvent; split <;> simp
@[simp] theorem State.logEvent_latches (s : State) (r : Nat) : (s.logEvent r).latches = s.latches := by unfold State.logEvent; split <;> simp
@[simp] theorem State.logEvent_holds (s : State) (r : Nat) : (s.logEvent r).holds = s.holds := by unfold State.logEvent; split <;> simp
@[simp] theorem State.logEvent_reply (s : State) (r : Nat) : (s.logEvent r).reply = s.reply := by unfold State.logEvent; split <;> simp
@[simp] theorem State.logEvent_caller (s : State) (r : Nat) : (s.logEvent r).caller = s.caller := by unfold State.logEvent; split <;> simp
@[simp] theorem State.logEvent_dance (s : State) (r : Nat) : (s.logEvent r).dance = s.dance := by unfold State.logEvent; split <;> simp
@[simp] theorem State.logEvent_adm (s : State) (r : Nat) : (s.logEvent r).adm = s.adm := by unfold State.logEvent; split <;> simp
@[simp] theorem State.logEvent_flows (s : State) (r : Nat) : (s.logEvent r).flows = s.flows := by unfold State.logEvent; split <;> simp
@[simp] theorem State.logEvent_lanes (s : State) (r : Nat) : (s.logEvent r).lanes = s.lanes := by unfold State.logEvent; split <;> simp
@[simp] theorem State.logEvent_fabric (s : State) (r : Nat) : (s.logEvent r).fabric = s.fabric := by unfold State.logEvent; split <;> simp
@[simp] theorem State.logEvent_hard (s : State) (r : Nat) : (s.logEvent r).hard = s.hard := by unfold State.logEvent; split <;> simp
@[simp] theorem State.logEvent_cfg (s : State) (r : Nat) : (s.logEvent r).cfg = s.cfg := by unfold State.logEvent; split <;> simp
@[simp] theorem State.logEvent_ctx (s : State) (r : Nat) : (s.logEvent r).ctx = s.ctx := by unfold State.logEvent; split <;> simp
@[simp] theorem State.logEvent_flash (s : State) (r : Nat) : (s.logEvent r).flash = s.flash := by unfold State.logEvent; split <;> simp
@[simp] theorem State.logEvent_guard (s : State) (r : Nat) : (s.logEvent r).guard = s.guard := by unfold State.logEvent; split <;> simp
@[simp] theorem State.logEvent_power (s : State) (r : Nat) : (s.logEvent r).power = s.power := by unfold State.logEvent; split <;> simp
@[simp] theorem State.logEvent_modes (s : State) (r : Nat) : (s.logEvent r).modes = s.modes := by unfold State.logEvent; split <;> simp
@[simp] theorem State.logEvent_prom (s : State) (r : Nat) : (s.logEvent r).prom = s.prom := by unfold State.logEvent; split <;> simp
@[simp] theorem State.logEvent_life (s : State) (r : Nat) : (s.logEvent r).life = s.life := by unfold State.logEvent; split <;> simp
@[simp] theorem State.logEvent_fresh (s : State) (r : Nat) : (s.logEvent r).fresh = s.fresh := by unfold State.logEvent; split <;> simp
@[simp] theorem State.logEvent_pending (s : State) (r : Nat) : (s.logEvent r).pending = s.pending := by unfold State.logEvent; split <;> simp

/-! `raise` -/

@[simp] theorem State.raise_regs (s : State) (v : Nat) : (s.raise v).regs = s.regs := by unfold State.raise; split <;> [rfl; (split <;> rfl)]
@[simp] theorem State.raise_latches (s : State) (v : Nat) : (s.raise v).latches = s.latches := by unfold State.raise; split <;> [rfl; (split <;> rfl)]
@[simp] theorem State.raise_holds (s : State) (v : Nat) : (s.raise v).holds = s.holds := by unfold State.raise; split <;> [rfl; (split <;> rfl)]
@[simp] theorem State.raise_reply (s : State) (v : Nat) : (s.raise v).reply = s.reply := by unfold State.raise; split <;> [rfl; (split <;> rfl)]
@[simp] theorem State.raise_caller (s : State) (v : Nat) : (s.raise v).caller = s.caller := by unfold State.raise; split <;> [rfl; (split <;> rfl)]
@[simp] theorem State.raise_dance (s : State) (v : Nat) : (s.raise v).dance = s.dance := by unfold State.raise; split <;> [rfl; (split <;> rfl)]
@[simp] theorem State.raise_store (s : State) (v : Nat) : (s.raise v).store = s.store := by unfold State.raise; split <;> [rfl; (split <;> rfl)]
@[simp] theorem State.raise_adm (s : State) (v : Nat) : (s.raise v).adm = s.adm := by unfold State.raise; split <;> [rfl; (split <;> rfl)]
@[simp] theorem State.raise_flows (s : State) (v : Nat) : (s.raise v).flows = s.flows := by unfold State.raise; split <;> [rfl; (split <;> rfl)]
@[simp] theorem State.raise_lanes (s : State) (v : Nat) : (s.raise v).lanes = s.lanes := by unfold State.raise; split <;> [rfl; (split <;> rfl)]
@[simp] theorem State.raise_fabric (s : State) (v : Nat) : (s.raise v).fabric = s.fabric := by unfold State.raise; split <;> [rfl; (split <;> rfl)]
@[simp] theorem State.raise_hard (s : State) (v : Nat) : (s.raise v).hard = s.hard := by unfold State.raise; split <;> [rfl; (split <;> rfl)]
@[simp] theorem State.raise_cfg (s : State) (v : Nat) : (s.raise v).cfg = s.cfg := by unfold State.raise; split <;> [rfl; (split <;> rfl)]
@[simp] theorem State.raise_ctx (s : State) (v : Nat) : (s.raise v).ctx = s.ctx := by unfold State.raise; split <;> [rfl; (split <;> rfl)]
@[simp] theorem State.raise_flash (s : State) (v : Nat) : (s.raise v).flash = s.flash := by unfold State.raise; split <;> [rfl; (split <;> rfl)]
@[simp] theorem State.raise_guard (s : State) (v : Nat) : (s.raise v).guard = s.guard := by unfold State.raise; split <;> [rfl; (split <;> rfl)]
@[simp] theorem State.raise_power (s : State) (v : Nat) : (s.raise v).power = s.power := by unfold State.raise; split <;> [rfl; (split <;> rfl)]
@[simp] theorem State.raise_modes (s : State) (v : Nat) : (s.raise v).modes = s.modes := by unfold State.raise; split <;> [rfl; (split <;> rfl)]
@[simp] theorem State.raise_prom (s : State) (v : Nat) : (s.raise v).prom = s.prom := by unfold State.raise; split <;> [rfl; (split <;> rfl)]
@[simp] theorem State.raise_life (s : State) (v : Nat) : (s.raise v).life = s.life := by unfold State.raise; split <;> [rfl; (split <;> rfl)]
@[simp] theorem State.raise_fresh (s : State) (v : Nat) : (s.raise v).fresh = s.fresh := by unfold State.raise; split <;> [rfl; (split <;> rfl)]
@[simp] theorem State.raise_pending (s : State) (v : Nat) : (s.raise v).pending = s.pending := by unfold State.raise; split <;> [rfl; (split <;> rfl)]

/-! `mbxErr` -/

@[simp] theorem State.mbxErr_latches (s : State) (f : Field) : (s.mbxErr f).latches = s.latches := by unfold State.mbxErr; split <;> simp
@[simp] theorem State.mbxErr_holds (s : State) (f : Field) : (s.mbxErr f).holds = s.holds := by unfold State.mbxErr; split <;> simp
@[simp] theorem State.mbxErr_reply (s : State) (f : Field) : (s.mbxErr f).reply = s.reply := by unfold State.mbxErr; split <;> simp
@[simp] theorem State.mbxErr_caller (s : State) (f : Field) : (s.mbxErr f).caller = s.caller := by unfold State.mbxErr; split <;> simp
@[simp] theorem State.mbxErr_dance (s : State) (f : Field) : (s.mbxErr f).dance = s.dance := by unfold State.mbxErr; split <;> simp
@[simp] theorem State.mbxErr_store (s : State) (f : Field) : (s.mbxErr f).store = s.store := by unfold State.mbxErr; split <;> simp
@[simp] theorem State.mbxErr_adm (s : State) (f : Field) : (s.mbxErr f).adm = s.adm := by unfold State.mbxErr; split <;> simp
@[simp] theorem State.mbxErr_flows (s : State) (f : Field) : (s.mbxErr f).flows = s.flows := by unfold State.mbxErr; split <;> simp
@[simp] theorem State.mbxErr_lanes (s : State) (f : Field) : (s.mbxErr f).lanes = s.lanes := by unfold State.mbxErr; split <;> simp
@[simp] theorem State.mbxErr_fabric (s : State) (f : Field) : (s.mbxErr f).fabric = s.fabric := by unfold State.mbxErr; split <;> simp
@[simp] theorem State.mbxErr_hard (s : State) (f : Field) : (s.mbxErr f).hard = s.hard := by unfold State.mbxErr; split <;> simp
@[simp] theorem State.mbxErr_cfg (s : State) (f : Field) : (s.mbxErr f).cfg = s.cfg := by unfold State.mbxErr; split <;> simp
@[simp] theorem State.mbxErr_ctx (s : State) (f : Field) : (s.mbxErr f).ctx = s.ctx := by unfold State.mbxErr; split <;> simp
@[simp] theorem State.mbxErr_flash (s : State) (f : Field) : (s.mbxErr f).flash = s.flash := by unfold State.mbxErr; split <;> simp
@[simp] theorem State.mbxErr_guard (s : State) (f : Field) : (s.mbxErr f).guard = s.guard := by unfold State.mbxErr; split <;> simp
@[simp] theorem State.mbxErr_power (s : State) (f : Field) : (s.mbxErr f).power = s.power := by unfold State.mbxErr; split <;> simp
@[simp] theorem State.mbxErr_modes (s : State) (f : Field) : (s.mbxErr f).modes = s.modes := by unfold State.mbxErr; split <;> simp
@[simp] theorem State.mbxErr_prom (s : State) (f : Field) : (s.mbxErr f).prom = s.prom := by unfold State.mbxErr; split <;> simp
@[simp] theorem State.mbxErr_life (s : State) (f : Field) : (s.mbxErr f).life = s.life := by unfold State.mbxErr; split <;> simp
@[simp] theorem State.mbxErr_fresh (s : State) (f : Field) : (s.mbxErr f).fresh = s.fresh := by unfold State.mbxErr; split <;> simp
@[simp] theorem State.mbxErr_pending (s : State) (f : Field) : (s.mbxErr f).pending = s.pending := by unfold State.mbxErr; split <;> simp

/-! `toMailbox` -/

@[simp] theorem State.toMailbox_latches (s : State) (r : Nat) : (s.toMailbox r).latches = s.latches := by unfold State.toMailbox State.mailboxPut; split <;> [rfl; (split <;> simp)]
@[simp] theorem State.toMailbox_holds (s : State) (r : Nat) : (s.toMailbox r).holds = s.holds := by unfold State.toMailbox State.mailboxPut; split <;> [rfl; (split <;> simp)]
@[simp] theorem State.toMailbox_reply (s : State) (r : Nat) : (s.toMailbox r).reply = s.reply := by unfold State.toMailbox State.mailboxPut; split <;> [rfl; (split <;> simp)]
@[simp] theorem State.toMailbox_caller (s : State) (r : Nat) : (s.toMailbox r).caller = s.caller := by unfold State.toMailbox State.mailboxPut; split <;> [rfl; (split <;> simp)]
@[simp] theorem State.toMailbox_dance (s : State) (r : Nat) : (s.toMailbox r).dance = s.dance := by unfold State.toMailbox State.mailboxPut; split <;> [rfl; (split <;> simp)]
@[simp] theorem State.toMailbox_store (s : State) (r : Nat) : (s.toMailbox r).store = s.store := by unfold State.toMailbox State.mailboxPut; split <;> [rfl; (split <;> simp)]
@[simp] theorem State.toMailbox_adm (s : State) (r : Nat) : (s.toMailbox r).adm = s.adm := by unfold State.toMailbox State.mailboxPut; split <;> [rfl; (split <;> simp)]
@[simp] theorem State.toMailbox_flows (s : State) (r : Nat) : (s.toMailbox r).flows = s.flows := by unfold State.toMailbox State.mailboxPut; split <;> [rfl; (split <;> simp)]
@[simp] theorem State.toMailbox_lanes (s : State) (r : Nat) : (s.toMailbox r).lanes = s.lanes := by unfold State.toMailbox State.mailboxPut; split <;> [rfl; (split <;> simp)]
@[simp] theorem State.toMailbox_fabric (s : State) (r : Nat) : (s.toMailbox r).fabric = s.fabric := by unfold State.toMailbox State.mailboxPut; split <;> [rfl; (split <;> simp)]
@[simp] theorem State.toMailbox_hard (s : State) (r : Nat) : (s.toMailbox r).hard = s.hard := by unfold State.toMailbox State.mailboxPut; split <;> [rfl; (split <;> simp)]
@[simp] theorem State.toMailbox_cfg (s : State) (r : Nat) : (s.toMailbox r).cfg = s.cfg := by unfold State.toMailbox State.mailboxPut; split <;> [rfl; (split <;> simp)]
@[simp] theorem State.toMailbox_ctx (s : State) (r : Nat) : (s.toMailbox r).ctx = s.ctx := by unfold State.toMailbox State.mailboxPut; split <;> [rfl; (split <;> simp)]
@[simp] theorem State.toMailbox_flash (s : State) (r : Nat) : (s.toMailbox r).flash = s.flash := by unfold State.toMailbox State.mailboxPut; split <;> [rfl; (split <;> simp)]
@[simp] theorem State.toMailbox_guard (s : State) (r : Nat) : (s.toMailbox r).guard = s.guard := by unfold State.toMailbox State.mailboxPut; split <;> [rfl; (split <;> simp)]
@[simp] theorem State.toMailbox_power (s : State) (r : Nat) : (s.toMailbox r).power = s.power := by unfold State.toMailbox State.mailboxPut; split <;> [rfl; (split <;> simp)]
@[simp] theorem State.toMailbox_modes (s : State) (r : Nat) : (s.toMailbox r).modes = s.modes := by unfold State.toMailbox State.mailboxPut; split <;> [rfl; (split <;> simp)]
@[simp] theorem State.toMailbox_prom (s : State) (r : Nat) : (s.toMailbox r).prom = s.prom := by unfold State.toMailbox State.mailboxPut; split <;> [rfl; (split <;> simp)]
@[simp] theorem State.toMailbox_life (s : State) (r : Nat) : (s.toMailbox r).life = s.life := by unfold State.toMailbox State.mailboxPut; split <;> [rfl; (split <;> simp)]
@[simp] theorem State.toMailbox_fresh (s : State) (r : Nat) : (s.toMailbox r).fresh = s.fresh := by unfold State.toMailbox State.mailboxPut; split <;> [rfl; (split <;> simp)]
@[simp] theorem State.toMailbox_pending (s : State) (r : Nat) : (s.toMailbox r).pending = s.pending := by unfold State.toMailbox State.mailboxPut; split <;> [rfl; (split <;> simp)]

/-! `toQueue` -/

@[simp] theorem State.toQueue_latches (s : State) (r : Nat) : (s.toQueue r).latches = s.latches := by unfold State.toQueue; split <;> [rfl; (split <;> simp)]
@[simp] theorem State.toQueue_holds (s : State) (r : Nat) : (s.toQueue r).holds = s.holds := by unfold State.toQueue; split <;> [rfl; (split <;> simp)]
@[simp] theorem State.toQueue_reply (s : State) (r : Nat) : (s.toQueue r).reply = s.reply := by unfold State.toQueue; split <;> [rfl; (split <;> simp)]
@[simp] theorem State.toQueue_caller (s : State) (r : Nat) : (s.toQueue r).caller = s.caller := by unfold State.toQueue; split <;> [rfl; (split <;> simp)]
@[simp] theorem State.toQueue_dance (s : State) (r : Nat) : (s.toQueue r).dance = s.dance := by unfold State.toQueue; split <;> [rfl; (split <;> simp)]
@[simp] theorem State.toQueue_store (s : State) (r : Nat) : (s.toQueue r).store = s.store := by unfold State.toQueue; split <;> [rfl; (split <;> simp)]
@[simp] theorem State.toQueue_adm (s : State) (r : Nat) : (s.toQueue r).adm = s.adm := by unfold State.toQueue; split <;> [rfl; (split <;> simp)]
@[simp] theorem State.toQueue_flows (s : State) (r : Nat) : (s.toQueue r).flows = s.flows := by unfold State.toQueue; split <;> [rfl; (split <;> simp)]
@[simp] theorem State.toQueue_lanes (s : State) (r : Nat) : (s.toQueue r).lanes = s.lanes := by unfold State.toQueue; split <;> [rfl; (split <;> simp)]
@[simp] theorem State.toQueue_fabric (s : State) (r : Nat) : (s.toQueue r).fabric = s.fabric := by unfold State.toQueue; split <;> [rfl; (split <;> simp)]
@[simp] theorem State.toQueue_hard (s : State) (r : Nat) : (s.toQueue r).hard = s.hard := by unfold State.toQueue; split <;> [rfl; (split <;> simp)]
@[simp] theorem State.toQueue_cfg (s : State) (r : Nat) : (s.toQueue r).cfg = s.cfg := by unfold State.toQueue; split <;> [rfl; (split <;> simp)]
@[simp] theorem State.toQueue_ctx (s : State) (r : Nat) : (s.toQueue r).ctx = s.ctx := by unfold State.toQueue; split <;> [rfl; (split <;> simp)]
@[simp] theorem State.toQueue_flash (s : State) (r : Nat) : (s.toQueue r).flash = s.flash := by unfold State.toQueue; split <;> [rfl; (split <;> simp)]
@[simp] theorem State.toQueue_guard (s : State) (r : Nat) : (s.toQueue r).guard = s.guard := by unfold State.toQueue; split <;> [rfl; (split <;> simp)]
@[simp] theorem State.toQueue_power (s : State) (r : Nat) : (s.toQueue r).power = s.power := by unfold State.toQueue; split <;> [rfl; (split <;> simp)]
@[simp] theorem State.toQueue_modes (s : State) (r : Nat) : (s.toQueue r).modes = s.modes := by unfold State.toQueue; split <;> [rfl; (split <;> simp)]
@[simp] theorem State.toQueue_prom (s : State) (r : Nat) : (s.toQueue r).prom = s.prom := by unfold State.toQueue; split <;> [rfl; (split <;> simp)]
@[simp] theorem State.toQueue_life (s : State) (r : Nat) : (s.toQueue r).life = s.life := by unfold State.toQueue; split <;> [rfl; (split <;> simp)]
@[simp] theorem State.toQueue_fresh (s : State) (r : Nat) : (s.toQueue r).fresh = s.fresh := by unfold State.toQueue; split <;> [rfl; (split <;> simp)]
@[simp] theorem State.toQueue_pending (s : State) (r : Nat) : (s.toQueue r).pending = s.pending := by unfold State.toQueue; split <;> [rfl; (split <;> simp)]

/-! `post` -/

@[simp] theorem State.post_latches (s : State) (code source severity detail : Nat) : (s.post code source severity detail).latches = s.latches := by unfold State.post; dsimp only; split <;> split <;> simp
@[simp] theorem State.post_holds (s : State) (code source severity detail : Nat) : (s.post code source severity detail).holds = s.holds := by unfold State.post; dsimp only; split <;> split <;> simp
@[simp] theorem State.post_reply (s : State) (code source severity detail : Nat) : (s.post code source severity detail).reply = s.reply := by unfold State.post; dsimp only; split <;> split <;> simp
@[simp] theorem State.post_caller (s : State) (code source severity detail : Nat) : (s.post code source severity detail).caller = s.caller := by unfold State.post; dsimp only; split <;> split <;> simp
@[simp] theorem State.post_dance (s : State) (code source severity detail : Nat) : (s.post code source severity detail).dance = s.dance := by unfold State.post; dsimp only; split <;> split <;> simp
@[simp] theorem State.post_adm (s : State) (code source severity detail : Nat) : (s.post code source severity detail).adm = s.adm := by unfold State.post; dsimp only; split <;> split <;> simp
@[simp] theorem State.post_flows (s : State) (code source severity detail : Nat) : (s.post code source severity detail).flows = s.flows := by unfold State.post; dsimp only; split <;> split <;> simp
@[simp] theorem State.post_lanes (s : State) (code source severity detail : Nat) : (s.post code source severity detail).lanes = s.lanes := by unfold State.post; dsimp only; split <;> split <;> simp
@[simp] theorem State.post_fabric (s : State) (code source severity detail : Nat) : (s.post code source severity detail).fabric = s.fabric := by unfold State.post; dsimp only; split <;> split <;> simp
@[simp] theorem State.post_hard (s : State) (code source severity detail : Nat) : (s.post code source severity detail).hard = s.hard := by unfold State.post; dsimp only; split <;> split <;> simp
@[simp] theorem State.post_cfg (s : State) (code source severity detail : Nat) : (s.post code source severity detail).cfg = s.cfg := by unfold State.post; dsimp only; split <;> split <;> simp
@[simp] theorem State.post_ctx (s : State) (code source severity detail : Nat) : (s.post code source severity detail).ctx = s.ctx := by unfold State.post; dsimp only; split <;> split <;> simp
@[simp] theorem State.post_flash (s : State) (code source severity detail : Nat) : (s.post code source severity detail).flash = s.flash := by unfold State.post; dsimp only; split <;> split <;> simp
@[simp] theorem State.post_guard (s : State) (code source severity detail : Nat) : (s.post code source severity detail).guard = s.guard := by unfold State.post; dsimp only; split <;> split <;> simp
@[simp] theorem State.post_power (s : State) (code source severity detail : Nat) : (s.post code source severity detail).power = s.power := by unfold State.post; dsimp only; split <;> split <;> simp
@[simp] theorem State.post_modes (s : State) (code source severity detail : Nat) : (s.post code source severity detail).modes = s.modes := by unfold State.post; dsimp only; split <;> split <;> simp
@[simp] theorem State.post_prom (s : State) (code source severity detail : Nat) : (s.post code source severity detail).prom = s.prom := by unfold State.post; dsimp only; split <;> split <;> simp
@[simp] theorem State.post_life (s : State) (code source severity detail : Nat) : (s.post code source severity detail).life = s.life := by unfold State.post; dsimp only; split <;> split <;> simp
@[simp] theorem State.post_fresh (s : State) (code source severity detail : Nat) : (s.post code source severity detail).fresh = s.fresh := by unfold State.post; dsimp only; split <;> split <;> simp
@[simp] theorem State.post_pending (s : State) (code source severity detail : Nat) : (s.post code source severity detail).pending = s.pending := by unfold State.post; dsimp only; split <;> split <;> simp

/-! `postLimitedN` -/

@[simp] theorem State.postLimitedN_latches (s : State) (n code inst source severity : Nat) (detail : Nat → Nat) : (s.postLimitedN n code inst source severity detail).latches = s.latches := by unfold State.postLimitedN; dsimp only; split <;> simp
@[simp] theorem State.postLimitedN_holds (s : State) (n code inst source severity : Nat) (detail : Nat → Nat) : (s.postLimitedN n code inst source severity detail).holds = s.holds := by unfold State.postLimitedN; dsimp only; split <;> simp
@[simp] theorem State.postLimitedN_reply (s : State) (n code inst source severity : Nat) (detail : Nat → Nat) : (s.postLimitedN n code inst source severity detail).reply = s.reply := by unfold State.postLimitedN; dsimp only; split <;> simp
@[simp] theorem State.postLimitedN_caller (s : State) (n code inst source severity : Nat) (detail : Nat → Nat) : (s.postLimitedN n code inst source severity detail).caller = s.caller := by unfold State.postLimitedN; dsimp only; split <;> simp
@[simp] theorem State.postLimitedN_dance (s : State) (n code inst source severity : Nat) (detail : Nat → Nat) : (s.postLimitedN n code inst source severity detail).dance = s.dance := by unfold State.postLimitedN; dsimp only; split <;> simp
@[simp] theorem State.postLimitedN_adm (s : State) (n code inst source severity : Nat) (detail : Nat → Nat) : (s.postLimitedN n code inst source severity detail).adm = s.adm := by unfold State.postLimitedN; dsimp only; split <;> simp
@[simp] theorem State.postLimitedN_flows (s : State) (n code inst source severity : Nat) (detail : Nat → Nat) : (s.postLimitedN n code inst source severity detail).flows = s.flows := by unfold State.postLimitedN; dsimp only; split <;> simp
@[simp] theorem State.postLimitedN_lanes (s : State) (n code inst source severity : Nat) (detail : Nat → Nat) : (s.postLimitedN n code inst source severity detail).lanes = s.lanes := by unfold State.postLimitedN; dsimp only; split <;> simp
@[simp] theorem State.postLimitedN_fabric (s : State) (n code inst source severity : Nat) (detail : Nat → Nat) : (s.postLimitedN n code inst source severity detail).fabric = s.fabric := by unfold State.postLimitedN; dsimp only; split <;> simp
@[simp] theorem State.postLimitedN_hard (s : State) (n code inst source severity : Nat) (detail : Nat → Nat) : (s.postLimitedN n code inst source severity detail).hard = s.hard := by unfold State.postLimitedN; dsimp only; split <;> simp
@[simp] theorem State.postLimitedN_cfg (s : State) (n code inst source severity : Nat) (detail : Nat → Nat) : (s.postLimitedN n code inst source severity detail).cfg = s.cfg := by unfold State.postLimitedN; dsimp only; split <;> simp
@[simp] theorem State.postLimitedN_ctx (s : State) (n code inst source severity : Nat) (detail : Nat → Nat) : (s.postLimitedN n code inst source severity detail).ctx = s.ctx := by unfold State.postLimitedN; dsimp only; split <;> simp
@[simp] theorem State.postLimitedN_flash (s : State) (n code inst source severity : Nat) (detail : Nat → Nat) : (s.postLimitedN n code inst source severity detail).flash = s.flash := by unfold State.postLimitedN; dsimp only; split <;> simp
@[simp] theorem State.postLimitedN_guard (s : State) (n code inst source severity : Nat) (detail : Nat → Nat) : (s.postLimitedN n code inst source severity detail).guard = s.guard := by unfold State.postLimitedN; dsimp only; split <;> simp
@[simp] theorem State.postLimitedN_power (s : State) (n code inst source severity : Nat) (detail : Nat → Nat) : (s.postLimitedN n code inst source severity detail).power = s.power := by unfold State.postLimitedN; dsimp only; split <;> simp
@[simp] theorem State.postLimitedN_modes (s : State) (n code inst source severity : Nat) (detail : Nat → Nat) : (s.postLimitedN n code inst source severity detail).modes = s.modes := by unfold State.postLimitedN; dsimp only; split <;> simp
@[simp] theorem State.postLimitedN_prom (s : State) (n code inst source severity : Nat) (detail : Nat → Nat) : (s.postLimitedN n code inst source severity detail).prom = s.prom := by unfold State.postLimitedN; dsimp only; split <;> simp
@[simp] theorem State.postLimitedN_life (s : State) (n code inst source severity : Nat) (detail : Nat → Nat) : (s.postLimitedN n code inst source severity detail).life = s.life := by unfold State.postLimitedN; dsimp only; split <;> simp
@[simp] theorem State.postLimitedN_fresh (s : State) (n code inst source severity : Nat) (detail : Nat → Nat) : (s.postLimitedN n code inst source severity detail).fresh = s.fresh := by unfold State.postLimitedN; dsimp only; split <;> simp
@[simp] theorem State.postLimitedN_pending (s : State) (n code inst source severity : Nat) (detail : Nat → Nat) : (s.postLimitedN n code inst source severity detail).pending = s.pending := by unfold State.postLimitedN; dsimp only; split <;> simp

/-! `postLimited` -/

@[simp] theorem State.postLimited_latches (s : State) (code inst source severity : Nat) (detail : Nat → Nat) : (s.postLimited code inst source severity detail).latches = s.latches := by simp [State.postLimited]
@[simp] theorem State.postLimited_holds (s : State) (code inst source severity : Nat) (detail : Nat → Nat) : (s.postLimited code inst source severity detail).holds = s.holds := by simp [State.postLimited]
@[simp] theorem State.postLimited_reply (s : State) (code inst source severity : Nat) (detail : Nat → Nat) : (s.postLimited code inst source severity detail).reply = s.reply := by simp [State.postLimited]
@[simp] theorem State.postLimited_caller (s : State) (code inst source severity : Nat) (detail : Nat → Nat) : (s.postLimited code inst source severity detail).caller = s.caller := by simp [State.postLimited]
@[simp] theorem State.postLimited_dance (s : State) (code inst source severity : Nat) (detail : Nat → Nat) : (s.postLimited code inst source severity detail).dance = s.dance := by simp [State.postLimited]
@[simp] theorem State.postLimited_adm (s : State) (code inst source severity : Nat) (detail : Nat → Nat) : (s.postLimited code inst source severity detail).adm = s.adm := by simp [State.postLimited]
@[simp] theorem State.postLimited_flows (s : State) (code inst source severity : Nat) (detail : Nat → Nat) : (s.postLimited code inst source severity detail).flows = s.flows := by simp [State.postLimited]
@[simp] theorem State.postLimited_lanes (s : State) (code inst source severity : Nat) (detail : Nat → Nat) : (s.postLimited code inst source severity detail).lanes = s.lanes := by simp [State.postLimited]
@[simp] theorem State.postLimited_fabric (s : State) (code inst source severity : Nat) (detail : Nat → Nat) : (s.postLimited code inst source severity detail).fabric = s.fabric := by simp [State.postLimited]
@[simp] theorem State.postLimited_hard (s : State) (code inst source severity : Nat) (detail : Nat → Nat) : (s.postLimited code inst source severity detail).hard = s.hard := by simp [State.postLimited]
@[simp] theorem State.postLimited_cfg (s : State) (code inst source severity : Nat) (detail : Nat → Nat) : (s.postLimited code inst source severity detail).cfg = s.cfg := by simp [State.postLimited]
@[simp] theorem State.postLimited_ctx (s : State) (code inst source severity : Nat) (detail : Nat → Nat) : (s.postLimited code inst source severity detail).ctx = s.ctx := by simp [State.postLimited]
@[simp] theorem State.postLimited_flash (s : State) (code inst source severity : Nat) (detail : Nat → Nat) : (s.postLimited code inst source severity detail).flash = s.flash := by simp [State.postLimited]
@[simp] theorem State.postLimited_guard (s : State) (code inst source severity : Nat) (detail : Nat → Nat) : (s.postLimited code inst source severity detail).guard = s.guard := by simp [State.postLimited]
@[simp] theorem State.postLimited_power (s : State) (code inst source severity : Nat) (detail : Nat → Nat) : (s.postLimited code inst source severity detail).power = s.power := by simp [State.postLimited]
@[simp] theorem State.postLimited_modes (s : State) (code inst source severity : Nat) (detail : Nat → Nat) : (s.postLimited code inst source severity detail).modes = s.modes := by simp [State.postLimited]
@[simp] theorem State.postLimited_prom (s : State) (code inst source severity : Nat) (detail : Nat → Nat) : (s.postLimited code inst source severity detail).prom = s.prom := by simp [State.postLimited]
@[simp] theorem State.postLimited_life (s : State) (code inst source severity : Nat) (detail : Nat → Nat) : (s.postLimited code inst source severity detail).life = s.life := by simp [State.postLimited]
@[simp] theorem State.postLimited_fresh (s : State) (code inst source severity : Nat) (detail : Nat → Nat) : (s.postLimited code inst source severity detail).fresh = s.fresh := by simp [State.postLimited]
@[simp] theorem State.postLimited_pending (s : State) (code inst source severity : Nat) (detail : Nat → Nat) : (s.postLimited code inst source severity detail).pending = s.pending := by simp [State.postLimited]

/-! `begin` -/

@[simp] theorem State.begin_regs (s : State) (id : Nat) : (s.begin id).regs = s.regs := rfl
@[simp] theorem State.begin_latches (s : State) (id : Nat) : (s.begin id).latches = s.latches := rfl
@[simp] theorem State.begin_holds (s : State) (id : Nat) : (s.begin id).holds = s.holds := rfl
@[simp] theorem State.begin_reply (s : State) (id : Nat) : (s.begin id).reply = s.reply := rfl
@[simp] theorem State.begin_caller (s : State) (id : Nat) : (s.begin id).caller = s.caller := rfl
@[simp] theorem State.begin_dance (s : State) (id : Nat) : (s.begin id).dance = s.dance := rfl
@[simp] theorem State.begin_store (s : State) (id : Nat) : (s.begin id).store = s.store := rfl
@[simp] theorem State.begin_adm (s : State) (id : Nat) : (s.begin id).adm = s.adm := rfl
@[simp] theorem State.begin_flows (s : State) (id : Nat) : (s.begin id).flows = s.flows := rfl
@[simp] theorem State.begin_lanes (s : State) (id : Nat) : (s.begin id).lanes = s.lanes := rfl
@[simp] theorem State.begin_fabric (s : State) (id : Nat) : (s.begin id).fabric = s.fabric := rfl
@[simp] theorem State.begin_hard (s : State) (id : Nat) : (s.begin id).hard = s.hard := rfl
@[simp] theorem State.begin_cfg (s : State) (id : Nat) : (s.begin id).cfg = s.cfg := rfl
@[simp] theorem State.begin_ctx (s : State) (id : Nat) : (s.begin id).ctx = s.ctx := rfl
@[simp] theorem State.begin_flash (s : State) (id : Nat) : (s.begin id).flash = s.flash := rfl
@[simp] theorem State.begin_guard (s : State) (id : Nat) : (s.begin id).guard = s.guard := rfl
@[simp] theorem State.begin_power (s : State) (id : Nat) : (s.begin id).power = s.power := rfl
@[simp] theorem State.begin_modes (s : State) (id : Nat) : (s.begin id).modes = s.modes := rfl
@[simp] theorem State.begin_prom (s : State) (id : Nat) : (s.begin id).prom = s.prom := rfl
@[simp] theorem State.begin_life (s : State) (id : Nat) : (s.begin id).life = s.life := rfl
@[simp] theorem State.begin_fresh (s : State) (id : Nat) : (s.begin id).fresh = s.fresh := rfl
@[simp] theorem State.begin_pending (s : State) (id : Nat) : (s.begin id).pending = s.pending := rfl

/-! `putCompletion` -/

@[simp] theorem State.putCompletion_latches (s : State) (ring discard : Bool) (bs : List Nat) : (s.putCompletion ring discard bs).latches = s.latches := by unfold State.putCompletion; split <;> [(split <;> simp); simp]
@[simp] theorem State.putCompletion_holds (s : State) (ring discard : Bool) (bs : List Nat) : (s.putCompletion ring discard bs).holds = s.holds := by unfold State.putCompletion; split <;> [(split <;> simp); simp]
@[simp] theorem State.putCompletion_reply (s : State) (ring discard : Bool) (bs : List Nat) : (s.putCompletion ring discard bs).reply = s.reply := by unfold State.putCompletion; split <;> [(split <;> simp); simp]
@[simp] theorem State.putCompletion_caller (s : State) (ring discard : Bool) (bs : List Nat) : (s.putCompletion ring discard bs).caller = s.caller := by unfold State.putCompletion; split <;> [(split <;> simp); simp]
@[simp] theorem State.putCompletion_dance (s : State) (ring discard : Bool) (bs : List Nat) : (s.putCompletion ring discard bs).dance = s.dance := by unfold State.putCompletion; split <;> [(split <;> simp); simp]
@[simp] theorem State.putCompletion_store (s : State) (ring discard : Bool) (bs : List Nat) : (s.putCompletion ring discard bs).store = s.store := by unfold State.putCompletion; split <;> [(split <;> simp); simp]
@[simp] theorem State.putCompletion_adm (s : State) (ring discard : Bool) (bs : List Nat) : (s.putCompletion ring discard bs).adm = s.adm := by unfold State.putCompletion; split <;> [(split <;> simp); simp]
@[simp] theorem State.putCompletion_flows (s : State) (ring discard : Bool) (bs : List Nat) : (s.putCompletion ring discard bs).flows = s.flows := by unfold State.putCompletion; split <;> [(split <;> simp); simp]
@[simp] theorem State.putCompletion_lanes (s : State) (ring discard : Bool) (bs : List Nat) : (s.putCompletion ring discard bs).lanes = s.lanes := by unfold State.putCompletion; split <;> [(split <;> simp); simp]
@[simp] theorem State.putCompletion_fabric (s : State) (ring discard : Bool) (bs : List Nat) : (s.putCompletion ring discard bs).fabric = s.fabric := by unfold State.putCompletion; split <;> [(split <;> simp); simp]
@[simp] theorem State.putCompletion_hard (s : State) (ring discard : Bool) (bs : List Nat) : (s.putCompletion ring discard bs).hard = s.hard := by unfold State.putCompletion; split <;> [(split <;> simp); simp]
@[simp] theorem State.putCompletion_cfg (s : State) (ring discard : Bool) (bs : List Nat) : (s.putCompletion ring discard bs).cfg = s.cfg := by unfold State.putCompletion; split <;> [(split <;> simp); simp]
@[simp] theorem State.putCompletion_ctx (s : State) (ring discard : Bool) (bs : List Nat) : (s.putCompletion ring discard bs).ctx = s.ctx := by unfold State.putCompletion; split <;> [(split <;> simp); simp]
@[simp] theorem State.putCompletion_flash (s : State) (ring discard : Bool) (bs : List Nat) : (s.putCompletion ring discard bs).flash = s.flash := by unfold State.putCompletion; split <;> [(split <;> simp); simp]
@[simp] theorem State.putCompletion_guard (s : State) (ring discard : Bool) (bs : List Nat) : (s.putCompletion ring discard bs).guard = s.guard := by unfold State.putCompletion; split <;> [(split <;> simp); simp]
@[simp] theorem State.putCompletion_power (s : State) (ring discard : Bool) (bs : List Nat) : (s.putCompletion ring discard bs).power = s.power := by unfold State.putCompletion; split <;> [(split <;> simp); simp]
@[simp] theorem State.putCompletion_modes (s : State) (ring discard : Bool) (bs : List Nat) : (s.putCompletion ring discard bs).modes = s.modes := by unfold State.putCompletion; split <;> [(split <;> simp); simp]
@[simp] theorem State.putCompletion_prom (s : State) (ring discard : Bool) (bs : List Nat) : (s.putCompletion ring discard bs).prom = s.prom := by unfold State.putCompletion; split <;> [(split <;> simp); simp]
@[simp] theorem State.putCompletion_life (s : State) (ring discard : Bool) (bs : List Nat) : (s.putCompletion ring discard bs).life = s.life := by unfold State.putCompletion; split <;> [(split <;> simp); simp]
@[simp] theorem State.putCompletion_fresh (s : State) (ring discard : Bool) (bs : List Nat) : (s.putCompletion ring discard bs).fresh = s.fresh := by unfold State.putCompletion; split <;> [(split <;> simp); simp]
@[simp] theorem State.putCompletion_pending (s : State) (ring discard : Bool) (bs : List Nat) : (s.putCompletion ring discard bs).pending = s.pending := by unfold State.putCompletion; split <;> [(split <;> simp); simp]

/-! `complete` -/

@[simp] theorem State.complete_latches (s : State) (id : Nat) (c : Completion) : (s.complete id c).latches = s.latches := by unfold State.complete; split <;> [rfl; (dsimp only; split <;> simp)]
@[simp] theorem State.complete_holds (s : State) (id : Nat) (c : Completion) : (s.complete id c).holds = s.holds := by unfold State.complete; split <;> [rfl; (dsimp only; split <;> simp)]
@[simp] theorem State.complete_reply (s : State) (id : Nat) (c : Completion) : (s.complete id c).reply = s.reply := by unfold State.complete; split <;> [rfl; (dsimp only; split <;> simp)]
@[simp] theorem State.complete_caller (s : State) (id : Nat) (c : Completion) : (s.complete id c).caller = s.caller := by unfold State.complete; split <;> [rfl; (dsimp only; split <;> simp)]
@[simp] theorem State.complete_dance (s : State) (id : Nat) (c : Completion) : (s.complete id c).dance = s.dance := by unfold State.complete; split <;> [rfl; (dsimp only; split <;> simp)]
@[simp] theorem State.complete_store (s : State) (id : Nat) (c : Completion) : (s.complete id c).store = s.store := by unfold State.complete; split <;> [rfl; (dsimp only; split <;> simp)]
@[simp] theorem State.complete_adm (s : State) (id : Nat) (c : Completion) : (s.complete id c).adm = s.adm := by unfold State.complete; split <;> [rfl; (dsimp only; split <;> simp)]
@[simp] theorem State.complete_flows (s : State) (id : Nat) (c : Completion) : (s.complete id c).flows = s.flows := by unfold State.complete; split <;> [rfl; (dsimp only; split <;> simp)]
@[simp] theorem State.complete_lanes (s : State) (id : Nat) (c : Completion) : (s.complete id c).lanes = s.lanes := by unfold State.complete; split <;> [rfl; (dsimp only; split <;> simp)]
@[simp] theorem State.complete_fabric (s : State) (id : Nat) (c : Completion) : (s.complete id c).fabric = s.fabric := by unfold State.complete; split <;> [rfl; (dsimp only; split <;> simp)]
@[simp] theorem State.complete_hard (s : State) (id : Nat) (c : Completion) : (s.complete id c).hard = s.hard := by unfold State.complete; split <;> [rfl; (dsimp only; split <;> simp)]
@[simp] theorem State.complete_cfg (s : State) (id : Nat) (c : Completion) : (s.complete id c).cfg = s.cfg := by unfold State.complete; split <;> [rfl; (dsimp only; split <;> simp)]
@[simp] theorem State.complete_ctx (s : State) (id : Nat) (c : Completion) : (s.complete id c).ctx = s.ctx := by unfold State.complete; split <;> [rfl; (dsimp only; split <;> simp)]
@[simp] theorem State.complete_flash (s : State) (id : Nat) (c : Completion) : (s.complete id c).flash = s.flash := by unfold State.complete; split <;> [rfl; (dsimp only; split <;> simp)]
@[simp] theorem State.complete_guard (s : State) (id : Nat) (c : Completion) : (s.complete id c).guard = s.guard := by unfold State.complete; split <;> [rfl; (dsimp only; split <;> simp)]
@[simp] theorem State.complete_power (s : State) (id : Nat) (c : Completion) : (s.complete id c).power = s.power := by unfold State.complete; split <;> [rfl; (dsimp only; split <;> simp)]
@[simp] theorem State.complete_modes (s : State) (id : Nat) (c : Completion) : (s.complete id c).modes = s.modes := by unfold State.complete; split <;> [rfl; (dsimp only; split <;> simp)]
@[simp] theorem State.complete_prom (s : State) (id : Nat) (c : Completion) : (s.complete id c).prom = s.prom := by unfold State.complete; split <;> [rfl; (dsimp only; split <;> simp)]
@[simp] theorem State.complete_life (s : State) (id : Nat) (c : Completion) : (s.complete id c).life = s.life := by unfold State.complete; split <;> [rfl; (dsimp only; split <;> simp)]
@[simp] theorem State.complete_fresh (s : State) (id : Nat) (c : Completion) : (s.complete id c).fresh = s.fresh := by unfold State.complete; split <;> [rfl; (dsimp only; split <;> simp)]
@[simp] theorem State.complete_pending (s : State) (id : Nat) (c : Completion) : (s.complete id c).pending = s.pending := by unfold State.complete; split <;> [rfl; (dsimp only; split <;> simp)]

/-- Host memory written: nothing but the management plane changes. -/
@[simp] theorem State.hostWrite_regs (s : State) (a : Nat) (bs : List Nat) : (s.hostWrite a bs).regs = s.regs := by
  induction bs generalizing s a with
  | nil => rfl
  | cons b r ih => simp [State.hostWrite, ih]
@[simp] theorem State.hostWrite_latches (s : State) (a : Nat) (bs : List Nat) : (s.hostWrite a bs).latches = s.latches := by
  induction bs generalizing s a with
  | nil => rfl
  | cons b r ih => simp [State.hostWrite, ih]
@[simp] theorem State.hostWrite_holds (s : State) (a : Nat) (bs : List Nat) : (s.hostWrite a bs).holds = s.holds := by
  induction bs generalizing s a with
  | nil => rfl
  | cons b r ih => simp [State.hostWrite, ih]
@[simp] theorem State.hostWrite_reply (s : State) (a : Nat) (bs : List Nat) : (s.hostWrite a bs).reply = s.reply := by
  induction bs generalizing s a with
  | nil => rfl
  | cons b r ih => simp [State.hostWrite, ih]
@[simp] theorem State.hostWrite_caller (s : State) (a : Nat) (bs : List Nat) : (s.hostWrite a bs).caller = s.caller := by
  induction bs generalizing s a with
  | nil => rfl
  | cons b r ih => simp [State.hostWrite, ih]
@[simp] theorem State.hostWrite_dance (s : State) (a : Nat) (bs : List Nat) : (s.hostWrite a bs).dance = s.dance := by
  induction bs generalizing s a with
  | nil => rfl
  | cons b r ih => simp [State.hostWrite, ih]
@[simp] theorem State.hostWrite_store (s : State) (a : Nat) (bs : List Nat) : (s.hostWrite a bs).store = s.store := by
  induction bs generalizing s a with
  | nil => rfl
  | cons b r ih => simp [State.hostWrite, ih]
@[simp] theorem State.hostWrite_adm (s : State) (a : Nat) (bs : List Nat) : (s.hostWrite a bs).adm = s.adm := by
  induction bs generalizing s a with
  | nil => rfl
  | cons b r ih => simp [State.hostWrite, ih]
@[simp] theorem State.hostWrite_flows (s : State) (a : Nat) (bs : List Nat) : (s.hostWrite a bs).flows = s.flows := by
  induction bs generalizing s a with
  | nil => rfl
  | cons b r ih => simp [State.hostWrite, ih]
@[simp] theorem State.hostWrite_lanes (s : State) (a : Nat) (bs : List Nat) : (s.hostWrite a bs).lanes = s.lanes := by
  induction bs generalizing s a with
  | nil => rfl
  | cons b r ih => simp [State.hostWrite, ih]
@[simp] theorem State.hostWrite_fabric (s : State) (a : Nat) (bs : List Nat) : (s.hostWrite a bs).fabric = s.fabric := by
  induction bs generalizing s a with
  | nil => rfl
  | cons b r ih => simp [State.hostWrite, ih]
@[simp] theorem State.hostWrite_hard (s : State) (a : Nat) (bs : List Nat) : (s.hostWrite a bs).hard = s.hard := by
  induction bs generalizing s a with
  | nil => rfl
  | cons b r ih => simp [State.hostWrite, ih]
@[simp] theorem State.hostWrite_cfg (s : State) (a : Nat) (bs : List Nat) : (s.hostWrite a bs).cfg = s.cfg := by
  induction bs generalizing s a with
  | nil => rfl
  | cons b r ih => simp [State.hostWrite, ih]
@[simp] theorem State.hostWrite_ctx (s : State) (a : Nat) (bs : List Nat) : (s.hostWrite a bs).ctx = s.ctx := by
  induction bs generalizing s a with
  | nil => rfl
  | cons b r ih => simp [State.hostWrite, ih]
@[simp] theorem State.hostWrite_flash (s : State) (a : Nat) (bs : List Nat) : (s.hostWrite a bs).flash = s.flash := by
  induction bs generalizing s a with
  | nil => rfl
  | cons b r ih => simp [State.hostWrite, ih]
@[simp] theorem State.hostWrite_guard (s : State) (a : Nat) (bs : List Nat) : (s.hostWrite a bs).guard = s.guard := by
  induction bs generalizing s a with
  | nil => rfl
  | cons b r ih => simp [State.hostWrite, ih]
@[simp] theorem State.hostWrite_power (s : State) (a : Nat) (bs : List Nat) : (s.hostWrite a bs).power = s.power := by
  induction bs generalizing s a with
  | nil => rfl
  | cons b r ih => simp [State.hostWrite, ih]
@[simp] theorem State.hostWrite_modes (s : State) (a : Nat) (bs : List Nat) : (s.hostWrite a bs).modes = s.modes := by
  induction bs generalizing s a with
  | nil => rfl
  | cons b r ih => simp [State.hostWrite, ih]
@[simp] theorem State.hostWrite_prom (s : State) (a : Nat) (bs : List Nat) : (s.hostWrite a bs).prom = s.prom := by
  induction bs generalizing s a with
  | nil => rfl
  | cons b r ih => simp [State.hostWrite, ih]
@[simp] theorem State.hostWrite_life (s : State) (a : Nat) (bs : List Nat) : (s.hostWrite a bs).life = s.life := by
  induction bs generalizing s a with
  | nil => rfl
  | cons b r ih => simp [State.hostWrite, ih]
@[simp] theorem State.hostWrite_fresh (s : State) (a : Nat) (bs : List Nat) : (s.hostWrite a bs).fresh = s.fresh := by
  induction bs generalizing s a with
  | nil => rfl
  | cons b r ih => simp [State.hostWrite, ih]
@[simp] theorem State.hostWrite_pending (s : State) (a : Nat) (bs : List Nat) : (s.hostWrite a bs).pending = s.pending := by
  induction bs generalizing s a with
  | nil => rfl
  | cons b r ih => simp [State.hostWrite, ih]

end Sys2Proof.Machine
end

