-- ==== Sys2Proof/Laws/Kept.lean ====
section
/-! SUPPORT. `Kept` (what every command keeps) for the basic operations, and how it passes through sequences, folds, updates of
one component, and the rows of commands. -/

namespace Sys2Proof.Machine

open Sys2Proof

theorem Kept.refl (s : State) : Kept s s := ⟨rfl, le_rfl, id⟩

theorem Kept.trans {a b c : State} (h : Kept a b) (g : Kept b c) : Kept a c :=
  ⟨g.queue.trans h.queue, le_trans h.fresh g.fresh, fun x => g.canon (h.canon x)⟩

/-- An update that leaves queue, count of free values and the three maps as `t` has them. -/
theorem Kept.mk_same {s t : State} {r l h' : SMap Nat} {y : Reply} {m : Mgmt} {c : Caller} {d : Dance} {o : Store} {a : Adm}
    {f : Flows} {n : Lanes} {b : Fabric} {k : Hard} {g : Cfg} {x : Ctx} {w : Flash} {u : Guard} {p : Power} {q : Modes} {j : Prom}
    {i : Life} {e : Nat} {z : List Instr} (h : Kept s t) (hz : z = t.pending) (he : e = t.fresh) (hr : r = t.regs)
    (ho : o.mem = t.store.mem) (hm : m.hostMem = t.mgmt.hostMem) :
    Kept s (State.mk r l h' y m c d o a f n b k g x w u p q j i e z) := by
  subst hz he hr
  exact ⟨h.queue, h.fresh, fun v => ⟨(h.canon v).1, by rw [ho]; exact (h.canon v).2.1, by rw [hm]; exact (h.canon v).2.2⟩⟩

/-- A part of the state's fields other than those is given. -/
theorem Kept.of_eq {s t u : State} (h : Kept s t) (hz : u.pending = t.pending) (he : u.fresh = t.fresh) (hr : u.regs = t.regs)
    (ho : u.store.mem = t.store.mem) (hm : u.mgmt.hostMem = t.mgmt.hostMem) : Kept s u :=
  ⟨hz.trans h.queue, he ▸ h.fresh, fun v => by
    have := h.canon v
    exact ⟨hr ▸ this.1, ho ▸ this.2.1, hm ▸ this.2.2⟩⟩

theorem Kept.next {s t : State} (h : Kept s t) : Kept s (stateOf (.next t) s) := h

theorem Kept.ite {s a b : State} {p : Prop} {dec : Decidable p} (ha : p → Kept s a) (hb : ¬p → Kept s b) :
    Kept s (if p then a else b) := by
  split
  · exact ha ‹_›
  · exact hb ‹_›

theorem Kept.foldl {α : Type} (g : State → α → State) (xs : List α) (s : State) (h : ∀ x a, Kept x (g x a)) :
    Kept s (xs.foldl g s) := by
  induction xs generalizing s with
  | nil => exact Kept.refl s
  | cons a r ih => exact (h s a).trans (ih (g s a))

theorem State.wrAt_kept (s : State) (f : Field) (i v : Nat) : Kept s (s.wrAt f i v) :=
  ⟨rfl, le_rfl, fun h => ⟨SMap.wf_store _ _ _ _ h.1, h.2⟩⟩

theorem State.wr_kept (s : State) (f : Field) (v : Nat) : Kept s (s.wr f v) := s.wrAt_kept f 0 v

theorem State.storePut_kept (s : State) (a : Nat) (w : StoreWord) : Kept s (s.storePut a w) :=
  ⟨rfl, le_rfl, fun h => ⟨h.1, SMap.wf_store _ _ _ _ h.2.1, h.2.2⟩⟩

theorem State.took_kept (s : State) : Kept s s.took := ⟨rfl, Nat.le_succ _, id⟩

theorem State.tookN_kept (s : State) (n : Nat) : Kept s (s.tookN n) := ⟨rfl, Nat.le_add_right _ _, id⟩

theorem State.hostPut_kept (s : State) (a v : Nat) :
    Kept s { s with mgmt := { s.mgmt with hostMem := SMap.store s.mgmt.hostMem 0 a v } } :=
  ⟨rfl, le_rfl, fun h => ⟨h.1, h.2.1, SMap.wf_store _ _ _ _ h.2.2⟩⟩

theorem State.hostWrite_kept (s : State) (a : Nat) (bs : List Nat) : Kept s (s.hostWrite a bs) := by
  induction bs generalizing s a with
  | nil => exact Kept.refl s
  | cons b r ih => exact (s.hostPut_kept a (b % 256)).trans (ih _ _)

/-- A word of the central store dropped: it reads zero. -/
theorem Kept.filterStore {s t : State} (p : Nat × StoreWord → Bool) (h : Kept s t) :
    Kept s { t with store := { t.store with mem := t.store.mem.filter p } } :=
  h.trans ⟨rfl, le_rfl, fun v => ⟨v.1, SMap.wf_filter _ _ _ v.2.1, v.2.2⟩⟩

end Sys2Proof.Machine
end

