-- ==== Sys2Proof/Laws/Commands.lean ====
section
/-! SUPPORT. What the row of a command does, in each of its cases: it takes the command, it is not due, a power entry bars it; and
what a completion does to a command of the ring and of the mailbox. -/

namespace Sys2Proof.Machine

open Sys2Proof

theorem State.runCmd_takes {s : State} {id op : Nat} {r : List Nat} (h : s.Takes id op r)
    (body : List Nat → State → Completion × State) : s.runCmd id op body = (body r s).2.complete id (body r s).1 := by
  obtain ⟨h1, h2, rfl⟩ := h
  simp [State.runCmd, h1, h2]

theorem State.startCmd_ends {s : State} {id op : Nat} {r : List Nat} (h : s.Takes id op r)
    {body : List Nat → State → Option Completion × State} {c : Completion} (hc : (body r s).1 = some c) :
    s.startCmd id op body = (body r s).2.complete id c := by
  obtain ⟨h1, h2, rfl⟩ := h
  simp [State.startCmd, h1, h2, hc]

theorem State.startCmd_goes_on {s : State} {id op : Nat} {r : List Nat} (h : s.Takes id op r)
    {body : List Nat → State → Option Completion × State} (hc : (body r s).1 = none) :
    s.startCmd id op body = (body r s).2.begin id := by
  obtain ⟨h1, h2, rfl⟩ := h
  simp [State.startCmd, h1, h2, hc]

theorem State.runCmd_not_due {s : State} {id op : Nat} (h : s.ready id op = false)
    (body : List Nat → State → Completion × State) : s.runCmd id op body = s := by
  simp [State.runCmd, h]

theorem State.startCmd_not_due {s : State} {id op : Nat} (h : s.ready id op = false)
    (body : List Nat → State → Option Completion × State) : s.startCmd id op body = s := by
  simp [State.startCmd, h]

theorem State.runCmd_barred {s : State} {id op : Nat} (h : s.ready id op = true) (hb : s.barred (s.record id) = true)
    (body : List Nat → State → Completion × State) : s.runCmd id op body = s.complete id .busy := by
  simp [State.runCmd, h, hb]

theorem State.startCmd_barred {s : State} {id op : Nat} (h : s.ready id op = true) (hb : s.barred (s.record id) = true)
    (body : List Nat → State → Option Completion × State) : s.startCmd id op body = s.complete id .busy := by
  simp [State.startCmd, h, hb]

/-- A completion of a ring command that is not discarded, before its TIMEOUT: its record waits for the ring. -/
theorem State.complete_ring {s : State} {id : Nat} {f : InFlight} (c : Completion) (h : s.cmd id = some f) (hr : f.ring = true)
    (hd : f.discard = false) (ht : s.now < f.expiresAt) :
    s.complete id c = { s with mgmt := { s.mgmt with
      inFlight := s.mgmt.inFlight.filter fun x => x.id != id
      cplWait := s.mgmt.cplWait ++ [completionRecord (recTag f.bytes) c.status c.detail c.result] } } := by
  simp [State.complete, h, ht.ne, InFlight.answerAt, Nat.not_lt.mpr ht.le, State.putCompletion, hr, hd]

/-- A command that is not in flight completes nothing. -/
theorem State.complete_gone {s : State} {id : Nat} (c : Completion) (h : s.cmd id = none) : s.complete id c = s := by
  simp [State.complete, h]

/-- An action of the dance card that is next in the queue acts on the state that has taken it. -/
theorem State.runAction_next {s : State} {code : Nat} {q : QueuedAction} (h : s.nextAction code = some q)
    (body : QueuedAction → State → State) : s.runAction code body = body q (s.actionTaken q) := by
  simp [State.runAction, h, State.actionTaken]

/-- With no action of that code next, nothing happens. -/
theorem State.runAction_none {s : State} {code : Nat} (h : s.nextAction code = none)
    (body : QueuedAction → State → State) : s.runAction code body = s := by
  simp [State.runAction, h]

end Sys2Proof.Machine
end

