-- ==== Sys2Proof/Laws/Fields.lean ====
section
/-! SUPPORT. Reading register fields after the basic operations: a field written, every other field, and what an event leaves. -/

namespace Sys2Proof.Machine

open Sys2Proof

/-- A field reads what was written to it, cut to its width. -/
@[simp] theorem State.rdAt_wrAt_same (s : State) (f : Field) (i v : Nat) : (s.wrAt f i v).rdAt f i = v % 2 ^ f.width := by
  simp only [State.rdAt, State.wrAt, SMap.read_store_same, Field.cut, Nat.xor_assoc, Nat.xor_self, Nat.xor_zero]

@[simp] theorem State.rd_wr_same (s : State) (f : Field) (v : Nat) : (s.wr f v).rd f = v % 2 ^ f.width :=
  s.rdAt_wrAt_same f 0 v

/-- A field at another bit address reads as before. -/
theorem State.rdAt_wrAt_other (s : State) (f g : Field) (i j v : Nat) (h : g.key j ≠ f.key i) :
    (s.wrAt f i v).rdAt g j = s.rdAt g j := by
  simp only [State.rdAt, State.wrAt]
  rw [SMap.read_store_other _ _ _ _ _ h]

theorem State.rdAt_wr_other (s : State) (f g : Field) (j v : Nat) (h : g.key j ≠ f.key 0) : (s.wr f v).rdAt g j = s.rdAt g j :=
  s.rdAt_wrAt_other f g 0 j v h

theorem State.rd_wr_other (s : State) (f g : Field) (v : Nat) (h : g.key 0 ≠ f.key 0) : (s.wr f v).rd g = s.rd g :=
  s.rdAt_wrAt_other f g 0 0 v h

theorem State.rdAt_of_regs {s t : State} (h : t.regs = s.regs) (g : Field) (j : Nat) : t.rdAt g j = s.rdAt g j := by
  simp only [State.rdAt, h]

/-- Raising a vector changes no register. -/
@[simp] theorem State.rdAt_raise (s : State) (v : Nat) (g : Field) (j : Nat) : (s.raise v).rdAt g j = s.rdAt g j :=
  State.rdAt_of_regs (by simp) g j

/-- Writing an event record to the log changes no register. -/
@[simp] theorem State.rdAt_logEvent (s : State) (r : Nat) (g : Field) (j : Nat) : (s.logEvent r).rdAt g j = s.rdAt g j :=
  State.rdAt_of_regs (by simp) g j

theorem State.rdAt_mbxErr_other (s : State) (f g : Field) (j : Nat) (h : g.key j ≠ f.key 0) :
    (s.mbxErr f).rdAt g j = s.rdAt g j := by
  unfold State.mbxErr
  split
  · rfl
  · rw [State.rdAt_raise, State.rdAt_wr_other _ _ _ _ _ h]

/-- An MBX_ERR bit set reads 1. -/
theorem State.rd_mbxErr_same (s : State) (f : Field) (h : f.width = 1) : (s.mbxErr f).rd f = 1 := by
  unfold State.mbxErr
  split
  · rename_i hs
    simpa [State.isSet] using hs
  · show ((s.wr f 1).raise 3).rdAt f 0 = 1
    rw [State.rdAt_raise]
    have := s.rd_wr_same f 1
    rw [h] at this
    exact this

/-- The registers that an event can change: the counts of lost records, and the error bit of a full event queue. -/
def eventKeys : List Nat := [MBX_EVT_LOST_CNT.key 0, MBX_MB_EVT_CNT_LOST.key 0, MBX_ERR_EVT_LOST.key 0]

/-- An event leaves every other field as it was. -/
theorem State.rdAt_post (s : State) (code source severity detail : Nat) (g : Field) (j : Nat) (h : g.key j ∉ eventKeys) :
    (s.post code source severity detail).rdAt g j = s.rdAt g j := by
  simp only [eventKeys, List.mem_cons, List.not_mem_nil, or_false, not_or] at h
  obtain ⟨h1, h2, h3⟩ := h
  have q : ∀ (x : State) (r : Nat), (x.toQueue r).rdAt g j = x.rdAt g j := by
    intro x r
    unfold State.toQueue
    split
    · rfl
    · split
      · rfl
      · rw [State.rdAt_mbxErr_other _ _ _ _ h3]
        exact State.rdAt_wrAt_other _ _ _ _ _ _ h1
  have m : ∀ (x : State) (r : Nat), (x.toMailbox r).rdAt g j = x.rdAt g j := by
    intro x r
    unfold State.toMailbox State.mailboxPut
    split
    · rfl
    · split
      · rfl
      · exact State.rdAt_wrAt_other _ _ _ _ _ _ h2
  have l : ∀ r : Nat, (s.logEvent r).rdAt g j = s.rdAt g j := fun r => State.rdAt_of_regs (by simp) g j
  unfold State.post
  dsimp only
  split <;> split <;> simp [q, m, l]

theorem State.rd_post (s : State) (code source severity detail : Nat) (g : Field) (h : g.key 0 ∉ eventKeys) :
    (s.post code source severity detail).rd g = s.rd g :=
  s.rdAt_post code source severity detail g 0 h

/-- So does a record put into the mailbox event queue. -/
theorem State.rdAt_mailboxPut (s : State) (r : Nat) (g : Field) (j : Nat) (h : g.key j ∉ eventKeys) :
    (s.mailboxPut r).rdAt g j = s.rdAt g j := by
  simp only [eventKeys, List.mem_cons, List.not_mem_nil, or_false, not_or] at h
  unfold State.mailboxPut
  split
  · rfl
  · exact State.rdAt_wrAt_other _ _ _ _ _ _ h.2.1

/-- So does an event that is posted at most once a millisecond. -/
theorem State.rdAt_postLimited (s : State) (code inst source severity : Nat) (d : Nat → Nat) (g : Field) (j : Nat)
    (h : g.key j ∉ eventKeys) : (s.postLimited code inst source severity d).rdAt g j = s.rdAt g j := by
  unfold State.postLimited State.postLimitedN
  dsimp only
  split
  · rfl
  · rw [State.rdAt_post _ _ _ _ _ _ _ h]; rfl

/-! What an event leaves of the management plane. -/

@[simp] theorem State.raise_mgmt_inFlight (s : State) (v : Nat) : (s.raise v).mgmt.inFlight = s.mgmt.inFlight := by
  unfold State.raise; split <;> (try split) <;> rfl
@[simp] theorem State.mbxErr_mgmt_inFlight (s : State) (f : Field) : (s.mbxErr f).mgmt.inFlight = s.mgmt.inFlight := by
  unfold State.mbxErr; split <;> simp
@[simp] theorem State.toQueue_mgmt_inFlight (s : State) (r : Nat) : (s.toQueue r).mgmt.inFlight = s.mgmt.inFlight := by
  unfold State.toQueue; split <;> (try split) <;> simp [State.incSat, State.addSatAt]
@[simp] theorem State.toMailbox_mgmt_inFlight (s : State) (r : Nat) : (s.toMailbox r).mgmt.inFlight = s.mgmt.inFlight := by
  unfold State.toMailbox State.mailboxPut; split <;> (try split) <;> simp [State.incSat, State.addSatAt]
@[simp] theorem State.mailboxPut_mgmt_inFlight (s : State) (r : Nat) : (s.mailboxPut r).mgmt.inFlight = s.mgmt.inFlight := by
  unfold State.mailboxPut; split <;> simp [State.incSat, State.addSatAt]
@[simp] theorem State.mailboxPut_mgmt_cplWait (s : State) (r : Nat) : (s.mailboxPut r).mgmt.cplWait = s.mgmt.cplWait := by
  unfold State.mailboxPut; split <;> simp [State.incSat, State.addSatAt]
@[simp] theorem State.logPlace_mgmt_inFlight (s : State) (r : Nat) : (s.logPlace r).mgmt.inFlight = s.mgmt.inFlight := rfl
@[simp] theorem State.logEvent_mgmt_inFlight (s : State) (r : Nat) : (s.logEvent r).mgmt.inFlight = s.mgmt.inFlight := by
  unfold State.logEvent; split <;> simp
@[simp] theorem State.post_mgmt_inFlight (s : State) (c o v d : Nat) : (s.post c o v d).mgmt.inFlight = s.mgmt.inFlight := by
  unfold State.post; dsimp only; split <;> split <;> simp
@[simp] theorem State.raise_mgmt_cplWait (s : State) (v : Nat) : (s.raise v).mgmt.cplWait = s.mgmt.cplWait := by
  unfold State.raise; split <;> (try split) <;> rfl
@[simp] theorem State.mbxErr_mgmt_cplWait (s : State) (f : Field) : (s.mbxErr f).mgmt.cplWait = s.mgmt.cplWait := by
  unfold State.mbxErr; split <;> simp
@[simp] theorem State.toQueue_mgmt_cplWait (s : State) (r : Nat) : (s.toQueue r).mgmt.cplWait = s.mgmt.cplWait := by
  unfold State.toQueue; split <;> (try split) <;> simp [State.incSat, State.addSatAt]
@[simp] theorem State.toMailbox_mgmt_cplWait (s : State) (r : Nat) : (s.toMailbox r).mgmt.cplWait = s.mgmt.cplWait := by
  unfold State.toMailbox State.mailboxPut; split <;> (try split) <;> simp [State.incSat, State.addSatAt]
@[simp] theorem State.logPlace_mgmt_cplWait (s : State) (r : Nat) : (s.logPlace r).mgmt.cplWait = s.mgmt.cplWait := rfl
@[simp] theorem State.logEvent_mgmt_cplWait (s : State) (r : Nat) : (s.logEvent r).mgmt.cplWait = s.mgmt.cplWait := by
  unfold State.logEvent; split <;> simp
@[simp] theorem State.post_mgmt_cplWait (s : State) (c o v d : Nat) : (s.post c o v d).mgmt.cplWait = s.mgmt.cplWait := by
  unfold State.post; dsimp only; split <;> split <;> simp
@[simp] theorem State.raise_mgmt_fetched (s : State) (v : Nat) : (s.raise v).mgmt.fetched = s.mgmt.fetched := by
  unfold State.raise; split <;> (try split) <;> rfl
@[simp] theorem State.mbxErr_mgmt_fetched (s : State) (f : Field) : (s.mbxErr f).mgmt.fetched = s.mgmt.fetched := by
  unfold State.mbxErr; split <;> simp
@[simp] theorem State.toQueue_mgmt_fetched (s : State) (r : Nat) : (s.toQueue r).mgmt.fetched = s.mgmt.fetched := by
  unfold State.toQueue; split <;> (try split) <;> simp [State.incSat, State.addSatAt]
@[simp] theorem State.toMailbox_mgmt_fetched (s : State) (r : Nat) : (s.toMailbox r).mgmt.fetched = s.mgmt.fetched := by
  unfold State.toMailbox State.mailboxPut; split <;> (try split) <;> simp [State.incSat, State.addSatAt]
@[simp] theorem State.logPlace_mgmt_fetched (s : State) (r : Nat) : (s.logPlace r).mgmt.fetched = s.mgmt.fetched := rfl
@[simp] theorem State.logEvent_mgmt_fetched (s : State) (r : Nat) : (s.logEvent r).mgmt.fetched = s.mgmt.fetched := by
  unfold State.logEvent; split <;> simp
@[simp] theorem State.post_mgmt_fetched (s : State) (c o v d : Nat) : (s.post c o v d).mgmt.fetched = s.mgmt.fetched := by
  unfold State.post; dsimp only; split <;> split <;> simp
@[simp] theorem State.raise_mgmt_mailbox (s : State) (v : Nat) : (s.raise v).mgmt.mailbox = s.mgmt.mailbox := by
  unfold State.raise; split <;> (try split) <;> rfl
@[simp] theorem State.mbxErr_mgmt_mailbox (s : State) (f : Field) : (s.mbxErr f).mgmt.mailbox = s.mgmt.mailbox := by
  unfold State.mbxErr; split <;> simp
@[simp] theorem State.toQueue_mgmt_mailbox (s : State) (r : Nat) : (s.toQueue r).mgmt.mailbox = s.mgmt.mailbox := by
  unfold State.toQueue; split <;> (try split) <;> simp [State.incSat, State.addSatAt]
@[simp] theorem State.toMailbox_mgmt_mailbox (s : State) (r : Nat) : (s.toMailbox r).mgmt.mailbox = s.mgmt.mailbox := by
  unfold State.toMailbox State.mailboxPut; split <;> (try split) <;> simp [State.incSat, State.addSatAt]
@[simp] theorem State.logPlace_mgmt_mailbox (s : State) (r : Nat) : (s.logPlace r).mgmt.mailbox = s.mgmt.mailbox := rfl
@[simp] theorem State.logEvent_mgmt_mailbox (s : State) (r : Nat) : (s.logEvent r).mgmt.mailbox = s.mgmt.mailbox := by
  unfold State.logEvent; split <;> simp
@[simp] theorem State.post_mgmt_mailbox (s : State) (c o v d : Nat) : (s.post c o v d).mgmt.mailbox = s.mgmt.mailbox := by
  unfold State.post; dsimp only; split <;> split <;> simp
@[simp] theorem State.raise_mgmt_nextId (s : State) (v : Nat) : (s.raise v).mgmt.nextId = s.mgmt.nextId := by
  unfold State.raise; split <;> (try split) <;> rfl
@[simp] theorem State.mbxErr_mgmt_nextId (s : State) (f : Field) : (s.mbxErr f).mgmt.nextId = s.mgmt.nextId := by
  unfold State.mbxErr; split <;> simp
@[simp] theorem State.toQueue_mgmt_nextId (s : State) (r : Nat) : (s.toQueue r).mgmt.nextId = s.mgmt.nextId := by
  unfold State.toQueue; split <;> (try split) <;> simp [State.incSat, State.addSatAt]
@[simp] theorem State.toMailbox_mgmt_nextId (s : State) (r : Nat) : (s.toMailbox r).mgmt.nextId = s.mgmt.nextId := by
  unfold State.toMailbox State.mailboxPut; split <;> (try split) <;> simp [State.incSat, State.addSatAt]
@[simp] theorem State.logPlace_mgmt_nextId (s : State) (r : Nat) : (s.logPlace r).mgmt.nextId = s.mgmt.nextId := rfl
@[simp] theorem State.logEvent_mgmt_nextId (s : State) (r : Nat) : (s.logEvent r).mgmt.nextId = s.mgmt.nextId := by
  unfold State.logEvent; split <;> simp
@[simp] theorem State.post_mgmt_nextId (s : State) (c o v d : Nat) : (s.post c o v d).mgmt.nextId = s.mgmt.nextId := by
  unfold State.post; dsimp only; split <;> split <;> simp
@[simp] theorem State.raise_mgmt_hostMem (s : State) (v : Nat) : (s.raise v).mgmt.hostMem = s.mgmt.hostMem := by
  unfold State.raise; split <;> (try split) <;> rfl
@[simp] theorem State.mbxErr_mgmt_hostMem (s : State) (f : Field) : (s.mbxErr f).mgmt.hostMem = s.mgmt.hostMem := by
  unfold State.mbxErr; split <;> simp
@[simp] theorem State.toQueue_mgmt_hostMem (s : State) (r : Nat) : (s.toQueue r).mgmt.hostMem = s.mgmt.hostMem := by
  unfold State.toQueue; split <;> (try split) <;> simp [State.incSat, State.addSatAt]
@[simp] theorem State.toMailbox_mgmt_hostMem (s : State) (r : Nat) : (s.toMailbox r).mgmt.hostMem = s.mgmt.hostMem := by
  unfold State.toMailbox State.mailboxPut; split <;> (try split) <;> simp [State.incSat, State.addSatAt]
@[simp] theorem State.logPlace_mgmt_hostMem (s : State) (r : Nat) : (s.logPlace r).mgmt.hostMem = s.mgmt.hostMem := rfl
@[simp] theorem State.logEvent_mgmt_hostMem (s : State) (r : Nat) : (s.logEvent r).mgmt.hostMem = s.mgmt.hostMem := by
  unfold State.logEvent; split <;> simp
@[simp] theorem State.post_mgmt_hostMem (s : State) (c o v d : Nat) : (s.post c o v d).mgmt.hostMem = s.mgmt.hostMem := by
  unfold State.post; dsimp only; split <;> split <;> simp
@[simp] theorem State.raise_mgmt_spad (s : State) (v : Nat) : (s.raise v).mgmt.spad = s.mgmt.spad := by
  unfold State.raise; split <;> (try split) <;> rfl
@[simp] theorem State.mbxErr_mgmt_spad (s : State) (f : Field) : (s.mbxErr f).mgmt.spad = s.mgmt.spad := by
  unfold State.mbxErr; split <;> simp
@[simp] theorem State.toQueue_mgmt_spad (s : State) (r : Nat) : (s.toQueue r).mgmt.spad = s.mgmt.spad := by
  unfold State.toQueue; split <;> (try split) <;> simp [State.incSat, State.addSatAt]
@[simp] theorem State.toMailbox_mgmt_spad (s : State) (r : Nat) : (s.toMailbox r).mgmt.spad = s.mgmt.spad := by
  unfold State.toMailbox State.mailboxPut; split <;> (try split) <;> simp [State.incSat, State.addSatAt]
@[simp] theorem State.logPlace_mgmt_spad (s : State) (r : Nat) : (s.logPlace r).mgmt.spad = s.mgmt.spad := rfl
@[simp] theorem State.logEvent_mgmt_spad (s : State) (r : Nat) : (s.logEvent r).mgmt.spad = s.mgmt.spad := by
  unfold State.logEvent; split <;> simp
@[simp] theorem State.post_mgmt_spad (s : State) (c o v d : Nat) : (s.post c o v d).mgmt.spad = s.mgmt.spad := by
  unfold State.post; dsimp only; split <;> split <;> simp
@[simp] theorem State.raise_mgmt_steward (s : State) (v : Nat) : (s.raise v).mgmt.steward = s.mgmt.steward := by
  unfold State.raise; split <;> (try split) <;> rfl
@[simp] theorem State.mbxErr_mgmt_steward (s : State) (f : Field) : (s.mbxErr f).mgmt.steward = s.mgmt.steward := by
  unfold State.mbxErr; split <;> simp
@[simp] theorem State.toQueue_mgmt_steward (s : State) (r : Nat) : (s.toQueue r).mgmt.steward = s.mgmt.steward := by
  unfold State.toQueue; split <;> (try split) <;> simp [State.incSat, State.addSatAt]
@[simp] theorem State.toMailbox_mgmt_steward (s : State) (r : Nat) : (s.toMailbox r).mgmt.steward = s.mgmt.steward := by
  unfold State.toMailbox State.mailboxPut; split <;> (try split) <;> simp [State.incSat, State.addSatAt]
@[simp] theorem State.logPlace_mgmt_steward (s : State) (r : Nat) : (s.logPlace r).mgmt.steward = s.mgmt.steward := rfl
@[simp] theorem State.logEvent_mgmt_steward (s : State) (r : Nat) : (s.logEvent r).mgmt.steward = s.mgmt.steward := by
  unfold State.logEvent; split <;> simp
@[simp] theorem State.post_mgmt_steward (s : State) (c o v d : Nat) : (s.post c o v d).mgmt.steward = s.mgmt.steward := by
  unfold State.post; dsimp only; split <;> split <;> simp
@[simp] theorem State.raise_mgmt_perstN (s : State) (v : Nat) : (s.raise v).mgmt.perstN = s.mgmt.perstN := by
  unfold State.raise; split <;> (try split) <;> rfl
@[simp] theorem State.mbxErr_mgmt_perstN (s : State) (f : Field) : (s.mbxErr f).mgmt.perstN = s.mgmt.perstN := by
  unfold State.mbxErr; split <;> simp
@[simp] theorem State.toQueue_mgmt_perstN (s : State) (r : Nat) : (s.toQueue r).mgmt.perstN = s.mgmt.perstN := by
  unfold State.toQueue; split <;> (try split) <;> simp [State.incSat, State.addSatAt]
@[simp] theorem State.toMailbox_mgmt_perstN (s : State) (r : Nat) : (s.toMailbox r).mgmt.perstN = s.mgmt.perstN := by
  unfold State.toMailbox State.mailboxPut; split <;> (try split) <;> simp [State.incSat, State.addSatAt]
@[simp] theorem State.logPlace_mgmt_perstN (s : State) (r : Nat) : (s.logPlace r).mgmt.perstN = s.mgmt.perstN := rfl
@[simp] theorem State.logEvent_mgmt_perstN (s : State) (r : Nat) : (s.logEvent r).mgmt.perstN = s.mgmt.perstN := by
  unfold State.logEvent; split <;> simp
@[simp] theorem State.post_mgmt_perstN (s : State) (c o v d : Nat) : (s.post c o v d).mgmt.perstN = s.mgmt.perstN := by
  unfold State.post; dsimp only; split <;> split <;> simp
@[simp] theorem State.raise_mgmt_pcieUp (s : State) (v : Nat) : (s.raise v).mgmt.pcieUp = s.mgmt.pcieUp := by
  unfold State.raise; split <;> (try split) <;> rfl
@[simp] theorem State.mbxErr_mgmt_pcieUp (s : State) (f : Field) : (s.mbxErr f).mgmt.pcieUp = s.mgmt.pcieUp := by
  unfold State.mbxErr; split <;> simp
@[simp] theorem State.toQueue_mgmt_pcieUp (s : State) (r : Nat) : (s.toQueue r).mgmt.pcieUp = s.mgmt.pcieUp := by
  unfold State.toQueue; split <;> (try split) <;> simp [State.incSat, State.addSatAt]
@[simp] theorem State.toMailbox_mgmt_pcieUp (s : State) (r : Nat) : (s.toMailbox r).mgmt.pcieUp = s.mgmt.pcieUp := by
  unfold State.toMailbox State.mailboxPut; split <;> (try split) <;> simp [State.incSat, State.addSatAt]
@[simp] theorem State.logPlace_mgmt_pcieUp (s : State) (r : Nat) : (s.logPlace r).mgmt.pcieUp = s.mgmt.pcieUp := rfl
@[simp] theorem State.logEvent_mgmt_pcieUp (s : State) (r : Nat) : (s.logEvent r).mgmt.pcieUp = s.mgmt.pcieUp := by
  unfold State.logEvent; split <;> simp
@[simp] theorem State.post_mgmt_pcieUp (s : State) (c o v d : Nat) : (s.post c o v d).mgmt.pcieUp = s.mgmt.pcieUp := by
  unfold State.post; dsimp only; split <;> split <;> simp

/-! Time. -/

theorem State.tai_setTai (x : State) (t : Nat) (ht : t < 2 ^ 48 * 1000000000) : (x.setTai t).tai = t := by
  unfold State.tai State.setTai
  dsimp only
  have h : t / 1000000000 < 2 ^ 48 := by omega
  rw [Nat.mod_eq_of_lt h]
  omega

@[simp] theorem State.now_setTai (x : State) (t : Nat) : (x.setTai t).now = x.now := by
  unfold State.now State.setTai
  rfl

@[simp] theorem State.tai_took (x : State) : x.took.tai = x.tai := by
  unfold State.tai
  simp only [State.took_caller]

@[simp] theorem State.now_took (x : State) : x.took.now = x.now := by
  unfold State.now
  simp only [State.took_caller]

@[simp] theorem State.now_wr (x : State) (f : Field) (v : Nat) : (x.wr f v).now = x.now := rfl

@[simp] theorem State.now_wrAt (x : State) (f : Field) (i v : Nat) : (x.wrAt f i v).now = x.now := rfl

@[simp] theorem State.now_post (x : State) (c o v d : Nat) : (x.post c o v d).now = x.now := by
  unfold State.now
  simp only [State.post_caller]

end Sys2Proof.Machine
end

