-- ==== Sys2Proof/Laws/KeptOps.lean ====
section
/-! SUPPORT. `Kept` for the functions of Machine/Ops.lean. -/

namespace Sys2Proof.Machine

open Sys2Proof

theorem State.addSatAt_kept (s : State) (f : Field) (i n : Nat) : Kept s (State.addSatAt s f i n) := by
  unfold State.addSatAt
  with_reducible refine Kept.trans ?_ (State.wrAt_kept _ _ _ _)
  with_reducible exact Kept.refl _

theorem State.incSat_kept (s : State) (f : Field) : Kept s (State.incSat s f) := by
  unfold State.incSat
  with_reducible refine Kept.trans ?_ (State.addSatAt_kept _ _ _ _)
  with_reducible exact Kept.refl _

theorem State.wrBit_kept (s : State) (f : Field) (k : Nat) (b : Bool) : Kept s (State.wrBit s f k b) := by
  unfold State.wrBit
  dsimp only
  with_reducible refine Kept.trans ?_ (State.wrAt_kept _ _ _ _)
  with_reducible exact Kept.refl _

theorem State.wrMask_kept (s : State) (f : Field) (k : Nat) (b : Bool) : Kept s (State.wrMask s f k b) := by
  unfold State.wrMask
  dsimp only
  with_reducible refine Kept.trans ?_ (State.wr_kept _ _ _)
  with_reducible exact Kept.refl _

theorem State.setTai_kept (s : State) (t : Nat) : Kept s (State.setTai s t) := by
  unfold State.setTai
  with_reducible refine Kept.mk_same ?_ rfl rfl rfl rfl rfl
  with_reducible exact Kept.refl _

theorem State.answer_kept (s : State) (d : Nat) : Kept s (State.answer s d) := by
  unfold State.answer
  with_reducible refine Kept.mk_same ?_ rfl rfl rfl rfl rfl
  with_reducible exact Kept.refl _

theorem State.answerBytes_kept (s : State) (bs : List Nat) : Kept s (State.answerBytes s bs) := by
  unfold State.answerBytes
  with_reducible refine Kept.mk_same ?_ rfl rfl rfl rfl rfl
  with_reducible exact Kept.refl _

theorem State.raise_kept (s : State) (v : Nat) : Kept s (State.raise s v) := by
  unfold State.raise
  with_reducible refine Kept.ite (fun _ => ?_) (fun _ => ?_)
  with_reducible exact Kept.refl _
  with_reducible refine Kept.ite (fun _ => ?_) (fun _ => ?_)
  with_reducible refine Kept.mk_same ?_ rfl rfl rfl rfl rfl
  with_reducible exact Kept.refl _
  with_reducible refine Kept.mk_same ?_ rfl rfl rfl rfl rfl
  with_reducible exact Kept.refl _

theorem State.mbxErr_kept (s : State) (f : Field) : Kept s (State.mbxErr s f) := by
  unfold State.mbxErr
  with_reducible refine Kept.ite (fun _ => ?_) (fun _ => ?_)
  with_reducible exact Kept.refl _
  with_reducible refine Kept.trans ?_ (State.raise_kept _ _)
  with_reducible refine Kept.trans ?_ (State.wr_kept _ _ _)
  with_reducible exact Kept.refl _

theorem State.logPlace_kept (s : State) (r : Nat) : Kept s (State.logPlace s r) := by
  unfold State.logPlace
  dsimp only
  with_reducible refine Kept.mk_same ?_ rfl rfl rfl rfl rfl
  with_reducible refine Kept.trans ?_ (State.storePut_kept _ _ _)
  with_reducible refine Kept.trans ?_ (State.storePut_kept _ _ _)
  with_reducible exact Kept.refl _

theorem State.logEvent_kept (s : State) (r : Nat) : Kept s (State.logEvent s r) := by
  unfold State.logEvent
  with_reducible refine Kept.ite (fun _ => ?_) (fun _ => ?_)
  with_reducible refine Kept.trans ?_ (State.logPlace_kept _ _)
  with_reducible exact Kept.refl _
  with_reducible refine Kept.mk_same ?_ rfl rfl rfl rfl rfl
  with_reducible exact Kept.refl _

theorem State.logFlush_kept (s : State) : Kept s (State.logFlush s) := by
  unfold State.logFlush
  with_reducible refine Kept.trans ?_ (Kept.foldl _ _ _ ?_)
  with_reducible refine Kept.mk_same ?_ rfl rfl rfl rfl rfl
  with_reducible exact Kept.refl _
  intro _ _
  with_reducible refine Kept.trans ?_ (State.logPlace_kept _ _)
  with_reducible exact Kept.refl _

theorem State.mailboxPut_kept (s : State) (r : Nat) : Kept s (State.mailboxPut s r) := by
  unfold State.mailboxPut
  with_reducible refine Kept.ite (fun _ => ?_) (fun _ => ?_)
  with_reducible refine Kept.mk_same ?_ rfl rfl rfl rfl rfl
  with_reducible exact Kept.refl _
  with_reducible refine Kept.trans ?_ (State.incSat_kept _ _)
  with_reducible exact Kept.refl _

theorem State.toMailbox_kept (s : State) (r : Nat) : Kept s (State.toMailbox s r) := by
  unfold State.toMailbox
  with_reducible refine Kept.ite (fun _ => ?_) (fun _ => ?_)
  with_reducible exact Kept.refl _
  with_reducible refine Kept.trans ?_ (State.mailboxPut_kept _ _)
  with_reducible exact Kept.refl _

theorem State.toQueue_kept (s : State) (r : Nat) : Kept s (State.toQueue s r) := by
  unfold State.toQueue
  with_reducible refine Kept.ite (fun _ => ?_) (fun _ => ?_)
  with_reducible exact Kept.refl _
  with_reducible refine Kept.ite (fun _ => ?_) (fun _ => ?_)
  with_reducible refine Kept.mk_same ?_ rfl rfl rfl rfl rfl
  with_reducible exact Kept.refl _
  with_reducible refine Kept.trans ?_ (State.mbxErr_kept _ _)
  with_reducible refine Kept.trans ?_ (State.incSat_kept _ _)
  with_reducible refine Kept.mk_same ?_ rfl rfl rfl rfl rfl
  with_reducible exact Kept.refl _

theorem State.post_kept (s : State) (code source severity detail : Nat) :
    Kept s (State.post s code source severity detail) := by
  unfold State.post
  dsimp only
  with_reducible refine Kept.ite (fun _ => ?_) (fun _ => ?_)
  with_reducible refine Kept.trans ?_ (State.raise_kept _ _)
  with_reducible refine Kept.ite (fun _ => ?_) (fun _ => ?_)
  with_reducible refine Kept.trans ?_ (State.toMailbox_kept _ _)
  with_reducible refine Kept.trans ?_ (State.toQueue_kept _ _)
  with_reducible refine Kept.trans ?_ (State.logEvent_kept _ _)
  with_reducible exact Kept.refl _
  with_reducible refine Kept.trans ?_ (State.logEvent_kept _ _)
  with_reducible exact Kept.refl _
  with_reducible refine Kept.ite (fun _ => ?_) (fun _ => ?_)
  with_reducible refine Kept.trans ?_ (State.toMailbox_kept _ _)
  with_reducible refine Kept.trans ?_ (State.toQueue_kept _ _)
  with_reducible refine Kept.trans ?_ (State.logEvent_kept _ _)
  with_reducible exact Kept.refl _
  with_reducible refine Kept.trans ?_ (State.logEvent_kept _ _)
  with_reducible exact Kept.refl _

theorem State.postLimitedN_kept (s : State) (n code inst source severity : Nat) (detail : Nat → Nat) :
    Kept s (State.postLimitedN s n code inst source severity detail) := by
  unfold State.postLimitedN
  dsimp only
  with_reducible refine Kept.ite (fun _ => ?_) (fun _ => ?_)
  with_reducible refine Kept.mk_same ?_ rfl rfl rfl rfl rfl
  with_reducible exact Kept.refl _
  with_reducible refine Kept.trans ?_ (State.post_kept _ _ _ _ _)
  with_reducible refine Kept.mk_same ?_ rfl rfl rfl rfl rfl
  with_reducible exact Kept.refl _

theorem State.postLimited_kept (s : State) (code inst source severity : Nat) (detail : Nat → Nat) :
    Kept s (State.postLimited s code inst source severity detail) := by
  unfold State.postLimited
  with_reducible refine Kept.trans ?_ (State.postLimitedN_kept _ _ _ _ _ _ _)
  with_reducible exact Kept.refl _

theorem State.hostUndefined_kept (s : State) (a n : Nat) : Kept s (State.hostUndefined s a n) := by
  unfold State.hostUndefined
  with_reducible refine Kept.trans ?_ (State.tookN_kept _ _)
  with_reducible refine Kept.trans ?_ (State.hostWrite_kept _ _ _)
  with_reducible exact Kept.refl _

theorem State.putCompletion_kept (s : State) (ring discard : Bool) (bs : List Nat) :
    Kept s (State.putCompletion s ring discard bs) := by
  unfold State.putCompletion
  with_reducible refine Kept.ite (fun _ => ?_) (fun _ => ?_)
  with_reducible refine Kept.ite (fun _ => ?_) (fun _ => ?_)
  with_reducible exact Kept.refl _
  with_reducible refine Kept.mk_same ?_ rfl rfl rfl rfl rfl
  with_reducible exact Kept.refl _
  with_reducible refine Kept.trans ?_ (State.wr_kept _ _ _)
  with_reducible refine Kept.trans ?_ (State.wr_kept _ _ _)
  with_reducible refine Kept.trans ?_ (State.wrAt_kept _ _ _ _)
  with_reducible refine Kept.trans ?_ (State.wrAt_kept _ _ _ _)
  with_reducible refine Kept.trans ?_ (State.wrAt_kept _ _ _ _)
  with_reducible refine Kept.trans ?_ (State.wrAt_kept _ _ _ _)
  with_reducible exact Kept.refl _

theorem State.complete_kept (s : State) (id : Nat) (c : Completion) : Kept s (State.complete s id c) := by
  unfold State.complete
  split
  with_reducible exact Kept.refl _
  dsimp only
  with_reducible refine Kept.trans ?_ (State.putCompletion_kept _ _ _ _)
  with_reducible refine Kept.mk_same ?_ rfl rfl rfl rfl rfl
  with_reducible refine Kept.ite (fun _ => ?_) (fun _ => ?_)
  with_reducible refine Kept.trans ?_ (State.incSat_kept _ _)
  with_reducible exact Kept.refl _
  with_reducible exact Kept.refl _

theorem State.begin_kept (s : State) (id : Nat) : Kept s (State.begin s id) := by
  unfold State.begin
  with_reducible refine Kept.mk_same ?_ rfl rfl rfl rfl rfl
  with_reducible exact Kept.refl _

theorem State.runCmd_kept (s : State) (id op : Nat) (body : List Nat → State → Completion × State)
    (h : ∀ r x, Kept x (body r x).2) : Kept s (State.runCmd s id op body) := by
  unfold State.runCmd
  split
  · split
    · exact State.complete_kept _ _ _
    · exact (h _ _).trans (State.complete_kept _ _ _)
  · exact Kept.refl s

theorem State.startCmd_kept (s : State) (id op : Nat) (body : List Nat → State → Option Completion × State)
    (h : ∀ r x, Kept x (body r x).2) : Kept s (State.startCmd s id op body) := by
  unfold State.startCmd
  split
  · split
    · exact State.complete_kept _ _ _
    · dsimp only
      split
      · exact (h _ _).trans (State.complete_kept _ _ _)
      · exact (h _ _).trans (State.begin_kept _ _)
  · exact Kept.refl s

end Sys2Proof.Machine
end

