-- ==== Sys2Proof/Laws/KeptManagement.lean ====
section
/-! SUPPORT. `Kept` for the functions of Machine/Management.lean. -/

namespace Sys2Proof.Machine

open Sys2Proof

theorem State.ringError_kept (s : State) : Kept s (State.ringError s) := by
  unfold State.ringError
  dsimp only
  with_reducible refine Kept.trans ?_ (State.post_kept _ _ _ _ _)
  with_reducible refine Kept.trans ?_ (State.mbxErr_kept _ _)
  with_reducible exact Kept.refl _

theorem State.ringIndex_kept (s : State) (entries : Nat) (index enable : Field) (v : Nat) :
    Kept s (State.ringIndex s entries index enable v) := by
  unfold State.ringIndex
  with_reducible refine Kept.ite (fun _ => ?_) (fun _ => ?_)
  with_reducible refine Kept.trans ?_ (State.wr_kept _ _ _)
  with_reducible exact Kept.refl _
  with_reducible refine Kept.trans ?_ (State.ringError_kept _)
  with_reducible refine Kept.trans ?_ (State.wr_kept _ _ _)
  with_reducible exact Kept.refl _

theorem State.writeback_kept (s : State) : Kept s (State.writeback s) := by
  unfold State.writeback
  with_reducible refine Kept.ite (fun _ => ?_) (fun _ => ?_)
  with_reducible exact Kept.refl _
  with_reducible refine Kept.trans ?_ (State.hostWrite_kept _ _ _)
  with_reducible exact Kept.refl _

theorem State.setHoldoff_kept (s : State) (v : Nat) (h : Holdoff) : Kept s (State.setHoldoff s v h) := by
  unfold State.setHoldoff
  with_reducible refine Kept.ite (fun _ => ?_) (fun _ => ?_)
  with_reducible refine Kept.mk_same ?_ rfl rfl rfl rfl rfl
  with_reducible exact Kept.refl _
  with_reducible refine Kept.mk_same ?_ rfl rfl rfl rfl rfl
  with_reducible exact Kept.refl _

theorem State.raiseHeld_kept (s : State) (v : Nat) : Kept s (State.raiseHeld s v) := by
  unfold State.raiseHeld
  with_reducible refine Kept.ite (fun _ => ?_) (fun _ => ?_)
  with_reducible exact Kept.refl _
  with_reducible refine Kept.ite (fun _ => ?_) (fun _ => ?_)
  with_reducible refine Kept.trans ?_ (State.raise_kept _ _)
  with_reducible exact Kept.refl _
  split
  with_reducible refine Kept.trans ?_ (State.setHoldoff_kept _ _ _)
  with_reducible exact Kept.refl _
  with_reducible refine Kept.trans ?_ (State.setHoldoff_kept _ _ _)
  with_reducible refine Kept.trans ?_ (State.raise_kept _ _)
  with_reducible exact Kept.refl _

theorem execCmdDoorbell_kept (tail : Nat) (s : State) : Kept s (stateOf (execCmdDoorbell tail s) s) := by
  unfold execCmdDoorbell
  refine Kept.next ?_
  with_reducible refine Kept.trans ?_ (State.ringIndex_kept _ _ _ _ _)
  with_reducible exact Kept.refl _

theorem execCplHeadWrite_kept (head : Nat) (s : State) : Kept s (stateOf (execCplHeadWrite head s) s) := by
  unfold execCplHeadWrite
  refine Kept.next ?_
  with_reducible refine Kept.trans ?_ (State.ringIndex_kept _ _ _ _ _)
  with_reducible exact Kept.refl _

theorem execEvtHeadWrite_kept (head : Nat) (s : State) : Kept s (stateOf (execEvtHeadWrite head s) s) := by
  unfold execEvtHeadWrite
  refine Kept.next ?_
  with_reducible refine Kept.trans ?_ (State.ringIndex_kept _ _ _ _ _)
  with_reducible exact Kept.refl _

theorem State.enableRing_kept (s : State) (enable size : Field) (b : Nat) : Kept s (State.enableRing s enable size b) := by
  unfold State.enableRing
  with_reducible refine Kept.ite (fun _ => ?_) (fun _ => ?_)
  with_reducible refine Kept.trans ?_ (State.ringError_kept _)
  with_reducible refine Kept.trans ?_ (State.wr_kept _ _ _)
  with_reducible exact Kept.refl _
  with_reducible refine Kept.trans ?_ (State.wr_kept _ _ _)
  with_reducible exact Kept.refl _

theorem execRingEnable_kept (value : Nat) (s : State) : Kept s (stateOf (execRingEnable value s) s) := by
  unfold execRingEnable
  refine Kept.next ?_
  with_reducible refine Kept.trans ?_ (State.wr_kept _ _ _)
  with_reducible refine Kept.trans ?_ (State.enableRing_kept _ _ _ _)
  with_reducible refine Kept.trans ?_ (State.enableRing_kept _ _ _ _)
  with_reducible refine Kept.trans ?_ (State.enableRing_kept _ _ _ _)
  with_reducible exact Kept.refl _

theorem State.ringReset_kept (s : State) : Kept s (State.ringReset s) := by
  unfold State.ringReset
  dsimp only
  with_reducible refine Kept.trans ?_ (State.post_kept _ _ _ _ _)
  with_reducible refine Kept.trans ?_ (State.wr_kept _ _ _)
  with_reducible refine Kept.trans ?_ (State.wr_kept _ _ _)
  with_reducible refine Kept.trans ?_ (State.wr_kept _ _ _)
  with_reducible refine Kept.trans ?_ (State.wr_kept _ _ _)
  with_reducible refine Kept.trans ?_ (State.wr_kept _ _ _)
  with_reducible refine Kept.trans ?_ (State.wr_kept _ _ _)
  with_reducible refine Kept.mk_same ?_ rfl rfl rfl rfl rfl
  with_reducible exact Kept.refl _

theorem execRingReset_kept (value : Nat) (s : State) : Kept s (stateOf (execRingReset value s) s) := by
  unfold execRingReset
  refine Kept.next ?_
  with_reducible refine Kept.ite (fun _ => ?_) (fun _ => ?_)
  with_reducible refine Kept.trans ?_ (State.ringReset_kept _)
  with_reducible exact Kept.refl _
  with_reducible exact Kept.refl _

theorem execCommandFetch_kept (s : State) : Kept s (stateOf (execCommandFetch s) s) := by
  unfold execCommandFetch
  refine Kept.next ?_
  with_reducible refine Kept.ite (fun _ => ?_) (fun _ => ?_)
  dsimp only
  with_reducible refine Kept.trans ?_ (State.wr_kept _ _ _)
  with_reducible refine Kept.mk_same ?_ rfl rfl rfl rfl rfl
  with_reducible exact Kept.refl _
  with_reducible exact Kept.refl _

theorem State.dispatch_kept (s : State) (ring : Bool) (r : List Nat) : Kept s (State.dispatch s ring r) := by
  unfold State.dispatch
  dsimp only
  split
  with_reducible refine Kept.trans ?_ (State.complete_kept _ _ _)
  with_reducible refine Kept.mk_same ?_ rfl rfl rfl rfl rfl
  with_reducible exact Kept.refl _
  with_reducible refine Kept.mk_same ?_ rfl rfl rfl rfl rfl
  with_reducible exact Kept.refl _

theorem State.ringDispatch_kept (s : State) : Kept s (State.ringDispatch s) := by
  unfold State.ringDispatch
  split
  with_reducible exact Kept.refl _
  with_reducible refine Kept.ite (fun _ => ?_) (fun _ => ?_)
  with_reducible refine Kept.trans ?_ (State.dispatch_kept _ _ _)
  with_reducible refine Kept.mk_same ?_ rfl rfl rfl rfl rfl
  with_reducible exact Kept.refl _
  with_reducible exact Kept.refl _

theorem execCommandDispatch_kept (s : State) : Kept s (stateOf (execCommandDispatch s) s) := by
  unfold execCommandDispatch
  refine Kept.next ?_
  dsimp only
  split
  with_reducible refine Kept.ite (fun _ => ?_) (fun _ => ?_)
  with_reducible refine Kept.trans ?_ (State.dispatch_kept _ _ _)
  with_reducible refine Kept.trans ?_ (State.wr_kept _ _ _)
  with_reducible refine Kept.trans ?_ (State.wr_kept _ _ _)
  with_reducible refine Kept.mk_same ?_ rfl rfl rfl rfl rfl
  with_reducible exact Kept.refl _
  with_reducible refine Kept.ite (fun _ => ?_) (fun _ => ?_)
  with_reducible exact Kept.refl _
  with_reducible refine Kept.trans ?_ (State.ringDispatch_kept _)
  with_reducible exact Kept.refl _
  with_reducible refine Kept.trans ?_ (State.ringDispatch_kept _)
  with_reducible exact Kept.refl _

theorem State.completionWrite_kept (s : State) : Kept s (State.completionWrite s) := by
  unfold State.completionWrite
  split
  with_reducible exact Kept.refl _
  with_reducible refine Kept.ite (fun _ => ?_) (fun _ => ?_)
  with_reducible refine Kept.trans ?_ (State.raiseHeld_kept _ _)
  with_reducible refine Kept.trans ?_ (State.writeback_kept _)
  with_reducible refine Kept.trans ?_ (State.wr_kept _ _ _)
  with_reducible refine Kept.trans ?_ (State.hostWrite_kept _ _ _)
  with_reducible refine Kept.mk_same ?_ rfl rfl rfl rfl rfl
  with_reducible exact Kept.refl _
  with_reducible exact Kept.refl _

theorem execCompletionWrite_kept (s : State) : Kept s (stateOf (execCompletionWrite s) s) := by
  unfold execCompletionWrite
  refine Kept.next ?_
  with_reducible refine Kept.trans ?_ (State.completionWrite_kept _)
  with_reducible exact Kept.refl _

theorem State.drainCompletions_kept (s : State) : Kept s (State.drainCompletions s) := by
  unfold State.drainCompletions
  with_reducible refine Kept.trans ?_ (Kept.foldl _ _ _ ?_)
  with_reducible exact Kept.refl _
  intro _ _
  with_reducible refine Kept.trans ?_ (State.completionWrite_kept _)
  with_reducible exact Kept.refl _

theorem State.dmaFault_kept (s : State) (detail : Nat) : Kept s (State.dmaFault s detail) := by
  unfold State.dmaFault
  dsimp only
  with_reducible refine Kept.trans ?_ (State.mailboxPut_kept _ _)
  with_reducible refine Kept.trans ?_ (State.logEvent_kept _ _)
  with_reducible refine Kept.trans ?_ (State.raise_kept _ _)
  with_reducible refine Kept.trans ?_ (State.wr_kept _ _ _)
  with_reducible refine Kept.trans ?_ (State.wr_kept _ _ _)
  with_reducible refine Kept.trans ?_ (State.wr_kept _ _ _)
  with_reducible refine Kept.trans ?_ (State.wr_kept _ _ _)
  with_reducible exact Kept.refl _

theorem execHostDmaFault_kept (kind : DmaKind) (s : State) : Kept s (stateOf (execHostDmaFault kind s) s) := by
  unfold execHostDmaFault
  refine Kept.next ?_
  with_reducible refine Kept.trans ?_ (State.dmaFault_kept _ _)
  with_reducible exact Kept.refl _

theorem State.eventRingPut_kept (s : State) (r : Nat) : Kept s (State.eventRingPut s r) := by
  unfold State.eventRingPut
  with_reducible refine Kept.trans ?_ (State.raiseHeld_kept _ _)
  with_reducible refine Kept.trans ?_ (State.writeback_kept _)
  with_reducible refine Kept.trans ?_ (State.wr_kept _ _ _)
  with_reducible refine Kept.trans ?_ (State.hostWrite_kept _ _ _)
  with_reducible exact Kept.refl _

theorem execEventRingWrite_kept (s : State) : Kept s (stateOf (execEventRingWrite s) s) := by
  unfold execEventRingWrite
  refine Kept.next ?_
  with_reducible refine Kept.ite (fun _ => ?_) (fun _ => ?_)
  with_reducible refine Kept.ite (fun _ => ?_) (fun _ => ?_)
  dsimp only
  with_reducible refine Kept.trans ?_ (State.eventRingPut_kept _ _)
  with_reducible refine Kept.trans ?_ (State.toMailbox_kept _ _)
  with_reducible refine Kept.trans ?_ (State.logEvent_kept _ _)
  with_reducible refine Kept.mk_same ?_ rfl rfl rfl rfl rfl
  with_reducible exact Kept.refl _
  split
  with_reducible exact Kept.refl _
  with_reducible refine Kept.trans ?_ (State.eventRingPut_kept _ _)
  with_reducible refine Kept.mk_same ?_ rfl rfl rfl rfl rfl
  with_reducible exact Kept.refl _
  with_reducible exact Kept.refl _

theorem execIrqHoldoffExpiry_kept (vector : Nat) (s : State) : Kept s (stateOf (execIrqHoldoffExpiry vector s) s) := by
  unfold execIrqHoldoffExpiry
  refine Kept.next ?_
  split
  with_reducible exact Kept.refl _
  with_reducible refine Kept.ite (fun _ => ?_) (fun _ => ?_)
  with_reducible exact Kept.refl _
  with_reducible refine Kept.ite (fun _ => ?_) (fun _ => ?_)
  with_reducible refine Kept.trans ?_ (State.setHoldoff_kept _ _ _)
  with_reducible refine Kept.trans ?_ (State.raise_kept _ _)
  with_reducible exact Kept.refl _
  with_reducible refine Kept.trans ?_ (State.setHoldoff_kept _ _ _)
  with_reducible exact Kept.refl _

theorem execDesignIrqSet_kept (n : Nat) (s : State) : Kept s (stateOf (execDesignIrqSet n s) s) := by
  unfold execDesignIrqSet
  refine Kept.next ?_
  with_reducible refine Kept.ite (fun _ => ?_) (fun _ => ?_)
  with_reducible refine Kept.trans ?_ (State.raise_kept _ _)
  with_reducible refine Kept.trans ?_ (State.wrMask_kept _ _ _ _)
  with_reducible exact Kept.refl _
  with_reducible exact Kept.refl _

theorem execPcieLinkChange_kept (up : Bool) (widthRate : Nat) (s : State) :
    Kept s (stateOf (execPcieLinkChange up widthRate s) s) := by
  unfold execPcieLinkChange
  refine Kept.next ?_
  with_reducible refine Kept.ite (fun _ => ?_) (fun _ => ?_)
  with_reducible exact Kept.refl _
  with_reducible refine Kept.trans ?_ (State.post_kept _ _ _ _ _)
  with_reducible refine Kept.mk_same ?_ rfl rfl rfl rfl rfl
  with_reducible exact Kept.refl _

theorem execPerstAssert_kept (s : State) : Kept s (stateOf (execPerstAssert s) s) := by
  unfold execPerstAssert
  refine Kept.next ?_
  with_reducible refine Kept.mk_same ?_ rfl rfl rfl rfl rfl
  with_reducible exact Kept.refl _

theorem execNop_kept (id : Nat) (s : State) : Kept s (stateOf (execNop id s) s) := by
  unfold execNop
  refine Kept.next ?_
  with_reducible refine Kept.trans ?_ (State.runCmd_kept _ _ _ _ ?_)
  with_reducible exact Kept.refl _
  intro _ _
  dsimp only
  with_reducible exact Kept.refl _

theorem execStewardInfo_kept (id : Nat) (s : State) : Kept s (stateOf (execStewardInfo id s) s) := by
  unfold execStewardInfo
  refine Kept.next ?_
  with_reducible refine Kept.trans ?_ (State.runCmd_kept _ _ _ _ ?_)
  with_reducible exact Kept.refl _
  intro _ _
  dsimp only
  with_reducible exact Kept.refl _

theorem execMailboxGo_kept (s : State) : Kept s (stateOf (execMailboxGo s) s) := by
  unfold execMailboxGo
  refine Kept.next ?_
  with_reducible refine Kept.ite (fun _ => ?_) (fun _ => ?_)
  with_reducible exact Kept.refl _
  with_reducible refine Kept.trans ?_ (State.wr_kept _ _ _)
  with_reducible refine Kept.mk_same ?_ rfl rfl rfl rfl rfl
  with_reducible exact Kept.refl _

theorem execMbEvtRead_kept (s : State) : Kept s (stateOf (execMbEvtRead s) s) := by
  unfold execMbEvtRead
  refine Kept.next ?_
  split
  with_reducible refine Kept.trans ?_ (State.answer_kept _ _)
  with_reducible exact Kept.refl _
  with_reducible refine Kept.trans ?_ (State.answer_kept _ _)
  with_reducible refine Kept.mk_same ?_ rfl rfl rfl rfl rfl
  with_reducible exact Kept.refl _

theorem State.stewardRewrites_kept (s : State) : Kept s (State.stewardRewrites s) := by
  unfold State.stewardRewrites
  with_reducible refine Kept.trans ?_ (State.tookN_kept _ _)
  with_reducible refine Kept.mk_same ?_ rfl rfl rfl rfl rfl
  with_reducible exact Kept.refl _

theorem State.spadPut_kept (s : State) (w : Nat) (x : SpadWord) : Kept s (State.spadPut s w x) := by
  unfold State.spadPut
  with_reducible refine Kept.mk_same ?_ rfl rfl rfl rfl rfl
  with_reducible exact Kept.refl _

theorem State.spadSense_kept (s : State) (w : Nat) (found : SpadRead) : Kept s (State.spadSense s w found) := by
  unfold State.spadSense
  with_reducible refine Kept.ite (fun _ => ?_) (fun _ => ?_)
  with_reducible refine Kept.trans ?_ (State.post_kept _ _ _ _ _)
  with_reducible refine Kept.trans ?_ (State.incSat_kept _ _)
  with_reducible refine Kept.trans ?_ (State.spadPut_kept _ _ _)
  with_reducible exact Kept.refl _
  with_reducible refine Kept.ite (fun _ => ?_) (fun _ => ?_)
  with_reducible refine Kept.trans ?_ (State.post_kept _ _ _ _ _)
  with_reducible refine Kept.trans ?_ (State.incSat_kept _ _)
  with_reducible exact Kept.refl _
  with_reducible exact Kept.refl _

theorem execSpadHostRead_kept (offset size : Nat) (found : SpadRead) (s : State) :
    Kept s (stateOf (execSpadHostRead offset size found s) s) := by
  unfold execSpadHostRead
  refine Kept.next ?_
  with_reducible refine Kept.ite (fun _ => ?_) (fun _ => ?_)
  with_reducible refine Kept.trans ?_ (State.answer_kept _ _)
  with_reducible refine Kept.trans ?_ (State.mbxErr_kept _ _)
  with_reducible exact Kept.refl _
  with_reducible refine Kept.ite (fun _ => ?_) (fun _ => ?_)
  with_reducible refine Kept.mk_same ?_ rfl rfl rfl rfl rfl
  with_reducible refine Kept.trans ?_ (State.spadSense_kept _ _ _)
  with_reducible exact Kept.refl _
  with_reducible refine Kept.ite (fun _ => ?_) (fun _ => ?_)
  with_reducible refine Kept.trans ?_ (State.answer_kept _ _)
  with_reducible refine Kept.trans ?_ (State.spadSense_kept _ _ _)
  with_reducible exact Kept.refl _
  with_reducible refine Kept.trans ?_ (State.answer_kept _ _)
  with_reducible refine Kept.trans ?_ (State.spadSense_kept _ _ _)
  with_reducible exact Kept.refl _

theorem execSpadReadAbandon_kept (word : Nat) (s : State) : Kept s (stateOf (execSpadReadAbandon word s) s) := by
  unfold execSpadReadAbandon
  refine Kept.next ?_
  dsimp only
  with_reducible refine Kept.mk_same ?_ rfl rfl rfl rfl rfl
  with_reducible refine Kept.trans ?_ (State.post_kept _ _ _ _ _)
  with_reducible refine Kept.trans ?_ (State.mbxErr_kept _ _)
  with_reducible exact Kept.refl _

theorem execSpadHostWrite_kept (offset size data : Nat) (found : SpadRead) (s : State) :
    Kept s (stateOf (execSpadHostWrite offset size data found s) s) := by
  unfold execSpadHostWrite
  refine Kept.next ?_
  with_reducible refine Kept.ite (fun _ => ?_) (fun _ => ?_)
  with_reducible refine Kept.trans ?_ (State.mbxErr_kept _ _)
  with_reducible exact Kept.refl _
  with_reducible refine Kept.ite (fun _ => ?_) (fun _ => ?_)
  with_reducible refine Kept.trans ?_ (State.mbxErr_kept _ _)
  with_reducible exact Kept.refl _
  with_reducible refine Kept.ite (fun _ => ?_) (fun _ => ?_)
  with_reducible refine Kept.trans ?_ (State.spadPut_kept _ _ _)
  with_reducible exact Kept.refl _
  dsimp only
  with_reducible refine Kept.ite (fun _ => ?_) (fun _ => ?_)
  with_reducible refine Kept.trans ?_ (State.mbxErr_kept _ _)
  with_reducible refine Kept.trans ?_ (State.spadSense_kept _ _ _)
  with_reducible exact Kept.refl _
  with_reducible refine Kept.trans ?_ (State.spadPut_kept _ _ _)
  with_reducible refine Kept.trans ?_ (State.spadSense_kept _ _ _)
  with_reducible exact Kept.refl _

theorem State.spadAtomic_kept (s : State) (w : Nat) (add : Bool) (operand : Nat) (found : SpadRead) :
    Kept s (State.spadAtomic s w add operand found).2 := by
  unfold State.spadAtomic
  dsimp only
  split
  split
  dsimp only
  with_reducible refine Kept.trans ?_ (State.took_kept _)
  with_reducible refine Kept.trans ?_ (State.spadPut_kept _ _ _)
  with_reducible refine Kept.trans ?_ (State.spadSense_kept _ _ _)
  with_reducible exact Kept.refl _
  dsimp only
  with_reducible refine Kept.trans ?_ (State.spadPut_kept _ _ _)
  with_reducible refine Kept.trans ?_ (State.spadSense_kept _ _ _)
  with_reducible exact Kept.refl _
  dsimp only
  with_reducible refine Kept.trans ?_ (State.spadPut_kept _ _ _)
  with_reducible refine Kept.trans ?_ (State.spadSense_kept _ _ _)
  with_reducible exact Kept.refl _

theorem execSpadFabricAccess_kept (word : Nat) (access : SpadAccess) (found : SpadRead) (s : State) :
    Kept s (stateOf (execSpadFabricAccess word access found s) s) := by
  unfold execSpadFabricAccess
  refine Kept.next ?_
  split
  dsimp only
  with_reducible refine Kept.mk_same ?_ rfl rfl rfl rfl rfl
  with_reducible refine Kept.trans ?_ (State.spadSense_kept _ _ _)
  with_reducible exact Kept.refl _
  with_reducible refine Kept.ite (fun _ => ?_) (fun _ => ?_)
  with_reducible refine Kept.trans ?_ (State.spadPut_kept _ _ _)
  with_reducible exact Kept.refl _
  with_reducible exact Kept.refl _
  with_reducible refine Kept.ite (fun _ => ?_) (fun _ => ?_)
  dsimp only
  with_reducible refine Kept.mk_same ?_ rfl rfl rfl rfl rfl
  with_reducible refine Kept.trans ?_ (State.spadAtomic_kept _ _ _ _ _)
  with_reducible exact Kept.refl _
  with_reducible exact Kept.refl _
  with_reducible refine Kept.ite (fun _ => ?_) (fun _ => ?_)
  dsimp only
  with_reducible refine Kept.mk_same ?_ rfl rfl rfl rfl rfl
  with_reducible refine Kept.trans ?_ (State.spadAtomic_kept _ _ _ _ _)
  with_reducible exact Kept.refl _
  with_reducible exact Kept.refl _

theorem State.hostAtomic_kept (s : State) (add : Bool) (found : SpadRead) : Kept s (State.hostAtomic s add found) := by
  unfold State.hostAtomic
  dsimp only
  with_reducible refine Kept.ite (fun _ => ?_) (fun _ => ?_)
  with_reducible refine Kept.trans ?_ (State.wr_kept _ _ _)
  with_reducible refine Kept.trans ?_ (State.spadAtomic_kept _ _ _ _ _)
  with_reducible exact Kept.refl _
  with_reducible refine Kept.trans ?_ (State.mbxErr_kept _ _)
  with_reducible exact Kept.refl _

theorem execAtomicAdd_kept (found : SpadRead) (s : State) : Kept s (stateOf (execAtomicAdd found s) s) := by
  unfold execAtomicAdd
  refine Kept.next ?_
  with_reducible refine Kept.trans ?_ (State.hostAtomic_kept _ _ _)
  with_reducible exact Kept.refl _

theorem execAtomicSwap_kept (found : SpadRead) (s : State) : Kept s (stateOf (execAtomicSwap found s) s) := by
  unfold execAtomicSwap
  refine Kept.next ?_
  with_reducible refine Kept.trans ?_ (State.hostAtomic_kept _ _ _)
  with_reducible exact Kept.refl _

theorem State.perstRelease_kept (s : State) : Kept s (State.perstRelease s) := by
  unfold State.perstRelease
  with_reducible refine Kept.mk_same ?_ rfl rfl rfl rfl rfl
  with_reducible exact Kept.refl _

end Sys2Proof.Machine
end

