-- ==== Sys2Proof/Laws/KeptClaims.lean ====
section
/-! SUPPORT. `Kept` for the functions of Machine/Claims.lean. -/

namespace Sys2Proof.Machine

open Sys2Proof

theorem State.resRefuse_kept (s : State) (err : Field) (status kind requester index : Nat) :
    Kept s (State.resRefuse s err status kind requester index) := by
  unfold State.resRefuse
  with_reducible refine Kept.trans ?_ (State.postLimited_kept _ _ _ _ _ _)
  with_reducible refine Kept.trans ?_ (State.incSat_kept _ _)
  with_reducible refine Kept.trans ?_ (State.wr_kept _ _ _)
  with_reducible refine Kept.trans ?_ (State.wr_kept _ _ _)
  with_reducible refine Kept.trans ?_ (State.wr_kept _ _ _)
  with_reducible refine Kept.trans ?_ (State.wr_kept _ _ _)
  with_reducible refine Kept.trans ?_ (State.wr_kept _ _ _)
  with_reducible exact Kept.refl _

theorem State.resTie_kept (s : State) (source : Nat) : Kept s (State.resTie s source) := by
  unfold State.resTie
  with_reducible refine Kept.trans ?_ (State.wr_kept _ _ _)
  with_reducible refine Kept.trans ?_ (State.incSat_kept _ _)
  with_reducible exact Kept.refl _

theorem State.claimLand_kept (s : State) (p owner holder : Nat) : Kept s (State.claimLand s p owner holder) := by
  unfold State.claimLand
  with_reducible refine Kept.trans ?_ (State.wrAt_kept _ _ _ _)
  with_reducible refine Kept.trans ?_ (State.wrAt_kept _ _ _ _)
  with_reducible refine Kept.trans ?_ (State.wrAt_kept _ _ _ _)
  with_reducible exact Kept.refl _

theorem State.releaseLand_kept (s : State) (p : Nat) : Kept s (State.releaseLand s p) := by
  unfold State.releaseLand
  with_reducible refine Kept.trans ?_ (State.wrAt_kept _ _ _ _)
  with_reducible refine Kept.trans ?_ (State.wrAt_kept _ _ _ _)
  with_reducible refine Kept.trans ?_ (State.wrAt_kept _ _ _ _)
  with_reducible exact Kept.refl _

theorem State.postClaim_kept (s : State) (p use : Nat) (claimed : Bool) : Kept s (State.postClaim s p use claimed) := by
  unfold State.postClaim
  with_reducible refine Kept.trans ?_ (State.post_kept _ _ _ _ _)
  with_reducible exact Kept.refl _

end Sys2Proof.Machine
end

