-- ==== Sys2Proof/Laws/KeptGrid.lean ====
section
/-! SUPPORT. `Kept` for the functions of Machine/Grid.lean. -/

namespace Sys2Proof.Machine

open Sys2Proof

theorem State.pllRealign_kept (s : State) (g : Nat) : Kept s (State.pllRealign s g) := by
  unfold State.pllRealign
  with_reducible refine Kept.trans ?_ (Kept.foldl _ _ _ ?_)
  with_reducible exact Kept.refl _
  intro _ _
  with_reducible refine Kept.trans ?_ (State.wrAt_kept _ _ _ _)
  with_reducible exact Kept.refl _

end Sys2Proof.Machine
end

