-- ==== Sys2Proof/Laws/KeptDanceOps.lean ====
section
/-! SUPPORT. `Kept` for the functions of Machine/DanceOps.lean. -/

namespace Sys2Proof.Machine

open Sys2Proof

theorem State.setDanceBank_kept (s : State) (b : Nat) (m : SMap Nat) : Kept s (State.setDanceBank s b m) := by
  unfold State.setDanceBank
  with_reducible refine Kept.ite (fun _ => ?_) (fun _ => ?_)
  with_reducible refine Kept.mk_same ?_ rfl rfl rfl rfl rfl
  with_reducible exact Kept.refl _
  with_reducible refine Kept.mk_same ?_ rfl rfl rfl rfl rfl
  with_reducible exact Kept.refl _

theorem State.postSkipped_kept (s : State) (passed : List (Nat × Nat)) (g : Nat) : Kept s (State.postSkipped s passed g) := by
  unfold State.postSkipped
  dsimp only
  with_reducible refine Kept.ite (fun _ => ?_) (fun _ => ?_)
  with_reducible exact Kept.refl _
  with_reducible refine Kept.trans ?_ (State.post_kept _ _ _ _ _)
  with_reducible exact Kept.refl _

theorem State.danceStep_kept (s : State) (t1 : Nat) : Kept s (State.danceStep s t1) := by
  unfold State.danceStep
  dsimp only
  with_reducible refine Kept.ite (fun _ => ?_) (fun _ => ?_)
  with_reducible refine Kept.trans ?_ (Kept.foldl _ _ _ ?_)
  with_reducible refine Kept.trans ?_ (State.addSatAt_kept _ _ _ _)
  with_reducible refine Kept.mk_same ?_ rfl rfl rfl rfl rfl
  with_reducible refine Kept.ite (fun _ => ?_) (fun _ => ?_)
  with_reducible refine Kept.mk_same ?_ rfl rfl rfl rfl rfl
  with_reducible exact Kept.refl _
  with_reducible exact Kept.refl _
  intro _ _
  with_reducible refine Kept.trans ?_ (State.postSkipped_kept _ _ _)
  with_reducible exact Kept.refl _
  with_reducible refine Kept.ite (fun _ => ?_) (fun _ => ?_)
  with_reducible refine Kept.mk_same ?_ rfl rfl rfl rfl rfl
  with_reducible exact Kept.refl _
  with_reducible exact Kept.refl _

theorem State.danceDrop_kept (s : State) : Kept s (State.danceDrop s) := by
  unfold State.danceDrop
  with_reducible refine Kept.trans ?_ (State.addSatAt_kept _ _ _ _)
  with_reducible refine Kept.mk_same ?_ rfl rfl rfl rfl rfl
  with_reducible exact Kept.refl _

theorem State.setLands_kept (s : State) (m : Nat) : Kept s (State.setLands s m) := by
  unfold State.setLands
  dsimp only
  with_reducible refine Kept.ite (fun _ => ?_) (fun _ => ?_)
  with_reducible refine Kept.trans ?_ (State.wr_kept _ _ _)
  with_reducible refine Kept.trans ?_ (State.wr_kept _ _ _)
  with_reducible refine Kept.trans ?_ (State.wr_kept _ _ _)
  with_reducible refine Kept.trans ?_ (State.wr_kept _ _ _)
  with_reducible refine Kept.trans ?_ (State.wr_kept _ _ _)
  with_reducible refine Kept.trans ?_ (State.wr_kept _ _ _)
  with_reducible refine Kept.trans ?_ (State.wr_kept _ _ _)
  with_reducible refine Kept.trans ?_ (State.wr_kept _ _ _)
  with_reducible exact Kept.refl _
  with_reducible refine Kept.trans ?_ (State.wr_kept _ _ _)
  with_reducible refine Kept.trans ?_ (State.wr_kept _ _ _)
  with_reducible refine Kept.trans ?_ (State.wr_kept _ _ _)
  with_reducible refine Kept.trans ?_ (State.wr_kept _ _ _)
  with_reducible refine Kept.trans ?_ (State.wr_kept _ _ _)
  with_reducible refine Kept.trans ?_ (State.wr_kept _ _ _)
  with_reducible exact Kept.refl _

theorem State.showMode_kept (s : State) (m : Nat) : Kept s (State.showMode s m) := by
  unfold State.showMode
  with_reducible refine Kept.trans ?_ (State.wr_kept _ _ _)
  with_reducible refine Kept.trans ?_ (State.wr_kept _ _ _)
  with_reducible refine Kept.trans ?_ (State.wr_kept _ _ _)
  with_reducible exact Kept.refl _

theorem State.scanLeaves_kept (s : State) : Kept s (State.scanLeaves s) := by
  unfold State.scanLeaves
  with_reducible refine Kept.ite (fun _ => ?_) (fun _ => ?_)
  with_reducible refine Kept.trans ?_ (State.wr_kept _ _ _)
  with_reducible exact Kept.refl _
  with_reducible exact Kept.refl _

theorem State.setMode_kept (s : State) (m : Nat) : Kept s (State.setMode s m) := by
  unfold State.setMode
  dsimp only
  with_reducible refine Kept.ite (fun _ => ?_) (fun _ => ?_)
  with_reducible exact Kept.refl _
  with_reducible refine Kept.trans ?_ (State.scanLeaves_kept _)
  with_reducible refine Kept.ite (fun _ => ?_) (fun _ => ?_)
  with_reducible refine Kept.ite (fun _ => ?_) (fun _ => ?_)
  with_reducible refine Kept.trans ?_ (State.post_kept _ _ _ _ _)
  with_reducible refine Kept.trans ?_ (State.incSat_kept _ _)
  with_reducible refine Kept.trans ?_ (State.showMode_kept _ _)
  with_reducible refine Kept.trans ?_ (State.setLands_kept _ _)
  with_reducible refine Kept.trans ?_ (State.wr_kept _ _ _)
  with_reducible refine Kept.trans ?_ (State.wr_kept _ _ _)
  with_reducible exact Kept.refl _
  with_reducible refine Kept.mk_same ?_ rfl rfl rfl rfl rfl
  with_reducible refine Kept.trans ?_ (State.post_kept _ _ _ _ _)
  with_reducible refine Kept.trans ?_ (State.incSat_kept _ _)
  with_reducible refine Kept.trans ?_ (State.showMode_kept _ _)
  with_reducible refine Kept.trans ?_ (State.setLands_kept _ _)
  with_reducible refine Kept.trans ?_ (State.wr_kept _ _ _)
  with_reducible refine Kept.trans ?_ (State.wr_kept _ _ _)
  with_reducible exact Kept.refl _
  with_reducible refine Kept.trans ?_ (State.danceDrop_kept _)
  with_reducible refine Kept.ite (fun _ => ?_) (fun _ => ?_)
  with_reducible refine Kept.trans ?_ (State.post_kept _ _ _ _ _)
  with_reducible refine Kept.trans ?_ (State.incSat_kept _ _)
  with_reducible refine Kept.trans ?_ (State.showMode_kept _ _)
  with_reducible refine Kept.trans ?_ (State.setLands_kept _ _)
  with_reducible refine Kept.trans ?_ (State.wr_kept _ _ _)
  with_reducible refine Kept.trans ?_ (State.wr_kept _ _ _)
  with_reducible exact Kept.refl _
  with_reducible refine Kept.mk_same ?_ rfl rfl rfl rfl rfl
  with_reducible refine Kept.trans ?_ (State.post_kept _ _ _ _ _)
  with_reducible refine Kept.trans ?_ (State.incSat_kept _ _)
  with_reducible refine Kept.trans ?_ (State.showMode_kept _ _)
  with_reducible refine Kept.trans ?_ (State.setLands_kept _ _)
  with_reducible refine Kept.trans ?_ (State.wr_kept _ _ _)
  with_reducible refine Kept.trans ?_ (State.wr_kept _ _ _)
  with_reducible exact Kept.refl _

end Sys2Proof.Machine
end

