-- ==== Sys2Proof/Laws/KeptCaller.lean ====
section
/-! SUPPORT. `Kept` for the functions of Machine/Caller.lean. -/

namespace Sys2Proof.Machine

open Sys2Proof

theorem State.setRef_kept (s : State) (slot : Nat) (r : RefState) : Kept s (State.setRef s slot r) := by
  unfold State.setRef
  with_reducible refine Kept.mk_same ?_ rfl rfl rfl rfl rfl
  with_reducible exact Kept.refl _

theorem State.updateTod_kept (s : State) : Kept s (State.updateTod s) := by
  unfold State.updateTod
  with_reducible refine Kept.ite (fun _ => ?_) (fun _ => ?_)
  with_reducible refine Kept.trans ?_ (State.wr_kept _ _ _)
  with_reducible exact Kept.refl _
  with_reducible exact Kept.refl _

theorem State.updateUpstream_kept (s : State) : Kept s (State.updateUpstream s) := by
  unfold State.updateUpstream
  with_reducible refine Kept.ite (fun _ => ?_) (fun _ => ?_)
  with_reducible exact Kept.refl _
  with_reducible refine Kept.trans ?_ (State.wr_kept _ _ _)
  with_reducible exact Kept.refl _

theorem State.logFreq_kept (s : State) : Kept s (State.logFreq s) := by
  unfold State.logFreq
  with_reducible refine Kept.mk_same ?_ rfl rfl rfl rfl rfl
  with_reducible exact Kept.refl _

theorem State.setLock_kept (s : State) (n : Nat) : Kept s (State.setLock s n) := by
  unfold State.setLock
  dsimp only
  with_reducible refine Kept.ite (fun _ => ?_) (fun _ => ?_)
  with_reducible exact Kept.refl _
  with_reducible refine Kept.ite (fun _ => ?_) (fun _ => ?_)
  with_reducible refine Kept.trans ?_ (State.wr_kept _ _ _)
  with_reducible refine Kept.mk_same ?_ rfl rfl rfl rfl rfl
  with_reducible refine Kept.trans ?_ (State.post_kept _ _ _ _ _)
  with_reducible refine Kept.trans ?_ (State.wr_kept _ _ _)
  with_reducible exact Kept.refl _
  with_reducible refine Kept.ite (fun _ => ?_) (fun _ => ?_)
  with_reducible refine Kept.trans ?_ (State.logFreq_kept _)
  with_reducible refine Kept.mk_same ?_ rfl rfl rfl rfl rfl
  with_reducible refine Kept.trans ?_ (State.post_kept _ _ _ _ _)
  with_reducible refine Kept.trans ?_ (State.wr_kept _ _ _)
  with_reducible exact Kept.refl _
  with_reducible refine Kept.mk_same ?_ rfl rfl rfl rfl rfl
  with_reducible refine Kept.trans ?_ (State.post_kept _ _ _ _ _)
  with_reducible refine Kept.trans ?_ (State.wr_kept _ _ _)
  with_reducible exact Kept.refl _

theorem State.toFreerun_kept (s : State) (keepTod : Bool) : Kept s (State.toFreerun s keepTod) := by
  unfold State.toFreerun
  dsimp only
  with_reducible refine Kept.ite (fun _ => ?_) (fun _ => ?_)
  with_reducible refine Kept.trans ?_ (State.updateUpstream_kept _)
  with_reducible refine Kept.trans ?_ (State.wr_kept _ _ _)
  with_reducible refine Kept.trans ?_ (State.setLock_kept _ _)
  with_reducible exact Kept.refl _
  with_reducible refine Kept.trans ?_ (State.wr_kept _ _ _)
  with_reducible refine Kept.trans ?_ (State.updateUpstream_kept _)
  with_reducible refine Kept.trans ?_ (State.wr_kept _ _ _)
  with_reducible refine Kept.trans ?_ (State.setLock_kept _ _)
  with_reducible exact Kept.refl _

theorem State.selectRef_kept (s : State) (slot : Nat) : Kept s (State.selectRef s slot) := by
  unfold State.selectRef
  dsimp only
  with_reducible refine Kept.trans ?_ (State.updateUpstream_kept _)
  with_reducible refine Kept.trans ?_ (State.updateTod_kept _)
  with_reducible refine Kept.trans ?_ (State.post_kept _ _ _ _ _)
  with_reducible refine Kept.trans ?_ (State.wr_kept _ _ _)
  with_reducible refine Kept.mk_same ?_ rfl rfl rfl rfl rfl
  with_reducible exact Kept.refl _

theorem State.tryAcquire_kept (s : State) : Kept s (State.tryAcquire s) := by
  unfold State.tryAcquire
  dsimp only
  with_reducible refine Kept.ite (fun _ => ?_) (fun _ => ?_)
  with_reducible exact Kept.refl _
  with_reducible refine Kept.ite (fun _ => ?_) (fun _ => ?_)
  with_reducible refine Kept.trans ?_ (State.selectRef_kept _ _)
  with_reducible refine Kept.trans ?_ (State.setLock_kept _ _)
  with_reducible exact Kept.refl _
  with_reducible exact Kept.refl _

theorem State.leaveRef_kept (s : State) : Kept s (State.leaveRef s) := by
  unfold State.leaveRef
  with_reducible refine Kept.ite (fun _ => ?_) (fun _ => ?_)
  with_reducible refine Kept.trans ?_ (State.selectRef_kept _ _)
  with_reducible refine Kept.ite (fun _ => ?_) (fun _ => ?_)
  with_reducible refine Kept.trans ?_ (State.setLock_kept _ _)
  with_reducible exact Kept.refl _
  with_reducible exact Kept.refl _
  with_reducible refine Kept.ite (fun _ => ?_) (fun _ => ?_)
  with_reducible refine Kept.trans ?_ (State.updateUpstream_kept _)
  with_reducible refine Kept.trans ?_ (State.wr_kept _ _ _)
  with_reducible refine Kept.trans ?_ (State.setLock_kept _ _)
  with_reducible exact Kept.refl _
  with_reducible refine Kept.ite (fun _ => ?_) (fun _ => ?_)
  with_reducible refine Kept.trans ?_ (State.toFreerun_kept _ _)
  with_reducible exact Kept.refl _
  with_reducible refine Kept.trans ?_ (State.wr_kept _ _ _)
  with_reducible exact Kept.refl _

theorem State.markLost_kept (s : State) (slot : Nat) : Kept s (State.markLost s slot) := by
  unfold State.markLost
  with_reducible refine Kept.trans ?_ (State.incSat_kept _ _)
  with_reducible refine Kept.trans ?_ (State.post_kept _ _ _ _ _)
  with_reducible refine Kept.trans ?_ (State.setRef_kept _ _ _)
  with_reducible exact Kept.refl _

theorem State.loseGone_kept (s : State) : Kept s (State.loseGone s) := by
  unfold State.loseGone
  dsimp only
  with_reducible refine Kept.ite (fun _ => ?_) (fun _ => ?_)
  with_reducible refine Kept.trans ?_ (State.leaveRef_kept _)
  with_reducible refine Kept.trans ?_ (Kept.foldl _ _ _ ?_)
  with_reducible exact Kept.refl _
  intro _ _
  with_reducible refine Kept.trans ?_ (State.markLost_kept _ _)
  with_reducible exact Kept.refl _
  with_reducible refine Kept.trans ?_ (Kept.foldl _ _ _ ?_)
  with_reducible exact Kept.refl _
  intro _ _
  with_reducible refine Kept.trans ?_ (State.markLost_kept _ _)
  with_reducible exact Kept.refl _

theorem execReferenceLost_kept (slot : Nat) (s : State) : Kept s (stateOf (execReferenceLost slot s) s) := by
  unfold execReferenceLost
  refine Kept.next ?_
  with_reducible refine Kept.ite (fun _ => ?_) (fun _ => ?_)
  with_reducible refine Kept.trans ?_ (State.loseGone_kept _)
  with_reducible exact Kept.refl _
  with_reducible exact Kept.refl _

theorem execReferenceValid_kept (slot : Nat) (s : State) : Kept s (stateOf (execReferenceValid slot s) s) := by
  unfold execReferenceValid
  refine Kept.next ?_
  with_reducible refine Kept.ite (fun _ => ?_) (fun _ => ?_)
  with_reducible refine Kept.trans ?_ (State.tryAcquire_kept _)
  with_reducible refine Kept.trans ?_ (State.setRef_kept _ _ _)
  with_reducible exact Kept.refl _
  with_reducible exact Kept.refl _

theorem State.refSettle_kept (s : State) : Kept s (State.refSettle s) := by
  unfold State.refSettle
  dsimp only
  with_reducible refine Kept.ite (fun _ => ?_) (fun _ => ?_)
  with_reducible refine Kept.trans ?_ (State.tryAcquire_kept _)
  with_reducible exact Kept.refl _
  with_reducible refine Kept.ite (fun _ => ?_) (fun _ => ?_)
  with_reducible exact Kept.refl _
  with_reducible refine Kept.trans ?_ (State.leaveRef_kept _)
  with_reducible exact Kept.refl _

theorem State.refPrioWrite_kept (s : State) (v : Nat) : Kept s (State.refPrioWrite s v) := by
  unfold State.refPrioWrite
  dsimp only
  with_reducible refine Kept.trans ?_ (State.refSettle_kept _)
  with_reducible refine Kept.trans ?_ (Kept.foldl _ _ _ ?_)
  with_reducible refine Kept.trans ?_ (State.wr_kept _ _ _)
  with_reducible exact Kept.refl _
  intro _ _
  with_reducible refine Kept.ite (fun _ => ?_) (fun _ => ?_)
  with_reducible exact Kept.refl _
  with_reducible refine Kept.trans ?_ (State.setRef_kept _ _ _)
  with_reducible exact Kept.refl _

theorem State.refaWrite_kept (s : State) (v : Nat) : Kept s (State.refaWrite s v) := by
  unfold State.refaWrite
  dsimp only
  with_reducible refine Kept.trans ?_ (State.refSettle_kept _)
  with_reducible refine Kept.trans ?_ (Kept.foldl _ _ _ ?_)
  with_reducible refine Kept.trans ?_ (State.wr_kept _ _ _)
  with_reducible refine Kept.trans ?_ (State.wr_kept _ _ _)
  with_reducible refine Kept.trans ?_ (State.wr_kept _ _ _)
  with_reducible exact Kept.refl _
  intro _ _
  with_reducible refine Kept.ite (fun _ => ?_) (fun _ => ?_)
  with_reducible exact Kept.refl _
  with_reducible refine Kept.trans ?_ (State.setRef_kept _ _ _)
  with_reducible exact Kept.refl _

theorem State.phaseShift_kept (s : State) : Kept s (State.phaseShift s) := by
  unfold State.phaseShift
  with_reducible refine Kept.trans ?_ (State.took_kept _)
  with_reducible refine Kept.mk_same ?_ rfl rfl rfl rfl rfl
  with_reducible exact Kept.refl _

theorem execRefclkLoss_kept (s : State) : Kept s (stateOf (execRefclkLoss s) s) := by
  unfold execRefclkLoss
  refine Kept.next ?_
  with_reducible refine Kept.ite (fun _ => ?_) (fun _ => ?_)
  with_reducible exact Kept.refl _
  with_reducible refine Kept.trans ?_ (State.toFreerun_kept _ _)
  with_reducible refine Kept.trans ?_ (State.post_kept _ _ _ _ _)
  with_reducible refine Kept.trans ?_ (State.phaseShift_kept _)
  with_reducible refine Kept.trans ?_ (State.wr_kept _ _ _)
  with_reducible refine Kept.trans ?_ (State.wr_kept _ _ _)
  with_reducible exact Kept.refl _

theorem execRefclkReturn_kept (s : State) : Kept s (stateOf (execRefclkReturn s) s) := by
  unfold execRefclkReturn
  refine Kept.next ?_
  dsimp only
  with_reducible refine Kept.ite (fun _ => ?_) (fun _ => ?_)
  with_reducible refine Kept.trans ?_ (State.tryAcquire_kept _)
  with_reducible refine Kept.trans ?_ (State.post_kept _ _ _ _ _)
  with_reducible refine Kept.trans ?_ (State.phaseShift_kept _)
  with_reducible refine Kept.trans ?_ (State.wr_kept _ _ _)
  with_reducible refine Kept.trans ?_ (State.wr_kept _ _ _)
  with_reducible exact Kept.refl _
  with_reducible refine Kept.trans ?_ (State.wr_kept _ _ _)
  with_reducible exact Kept.refl _

theorem execReselect_kept (s : State) : Kept s (stateOf (execReselect s) s) := by
  unfold execReselect
  refine Kept.next ?_
  dsimp only
  with_reducible refine Kept.ite (fun _ => ?_) (fun _ => ?_)
  with_reducible refine Kept.trans ?_ (State.selectRef_kept _ _)
  with_reducible refine Kept.ite (fun _ => ?_) (fun _ => ?_)
  with_reducible refine Kept.trans ?_ (State.setLock_kept _ _)
  with_reducible exact Kept.refl _
  with_reducible exact Kept.refl _
  with_reducible exact Kept.refl _

theorem State.forceFreerun_kept (s : State) (v : Nat) : Kept s (State.forceFreerun s v) := by
  unfold State.forceFreerun
  dsimp only
  with_reducible refine Kept.ite (fun _ => ?_) (fun _ => ?_)
  with_reducible refine Kept.ite (fun _ => ?_) (fun _ => ?_)
  with_reducible refine Kept.trans ?_ (State.wr_kept _ _ _)
  with_reducible exact Kept.refl _
  with_reducible refine Kept.trans ?_ (State.toFreerun_kept _ _)
  with_reducible refine Kept.trans ?_ (State.wr_kept _ _ _)
  with_reducible exact Kept.refl _
  with_reducible refine Kept.trans ?_ (State.tryAcquire_kept _)
  with_reducible refine Kept.trans ?_ (State.wr_kept _ _ _)
  with_reducible exact Kept.refl _

theorem execForceFreerun_kept (value : Nat) (s : State) : Kept s (stateOf (execForceFreerun value s) s) := by
  unfold execForceFreerun
  refine Kept.next ?_
  with_reducible refine Kept.trans ?_ (State.forceFreerun_kept _ _)
  with_reducible exact Kept.refl _

theorem execHoldoverExpiry_kept (s : State) : Kept s (stateOf (execHoldoverExpiry s) s) := by
  unfold execHoldoverExpiry
  refine Kept.next ?_
  with_reducible refine Kept.ite (fun _ => ?_) (fun _ => ?_)
  with_reducible refine Kept.trans ?_ (State.toFreerun_kept _ _)
  with_reducible refine Kept.trans ?_ (State.post_kept _ _ _ _ _)
  with_reducible refine Kept.trans ?_ (State.wr_kept _ _ _)
  with_reducible exact Kept.refl _
  with_reducible exact Kept.refl _

theorem State.gridDiscontinuity_kept (s : State) (g : Nat) : Kept s (State.gridDiscontinuity s g) := by
  unfold State.gridDiscontinuity
  with_reducible refine Kept.ite (fun _ => ?_) (fun _ => ?_)
  with_reducible refine Kept.trans ?_ (State.pllRealign_kept _ _)
  with_reducible refine Kept.trans ?_ (State.post_kept _ _ _ _ _)
  with_reducible refine Kept.trans ?_ (State.wrAt_kept _ _ _ _)
  with_reducible exact Kept.refl _
  with_reducible exact Kept.refl _

theorem State.stepTime_kept (s : State) (t1 : Nat) : Kept s (State.stepTime s t1) := by
  unfold State.stepTime
  dsimp only
  with_reducible refine Kept.trans ?_ (Kept.foldl _ _ _ ?_)
  with_reducible refine Kept.trans ?_ (State.post_kept _ _ _ _ _)
  with_reducible refine Kept.trans ?_ (State.incSat_kept _ _)
  with_reducible refine Kept.trans ?_ (State.wr_kept _ _ _)
  with_reducible refine Kept.trans ?_ (State.setTai_kept _ _)
  with_reducible refine Kept.mk_same ?_ rfl rfl rfl rfl rfl
  with_reducible refine Kept.trans ?_ (State.danceStep_kept _ _)
  with_reducible exact Kept.refl _
  intro _ _
  with_reducible refine Kept.trans ?_ (State.gridDiscontinuity_kept _ _)
  with_reducible exact Kept.refl _

theorem State.lockRules_kept (s : State) (x : Int) : Kept s (State.lockRules s x) := by
  unfold State.lockRules
  dsimp only
  with_reducible refine Kept.ite (fun _ => ?_) (fun _ => ?_)
  with_reducible refine Kept.trans ?_ (State.setLock_kept _ _)
  with_reducible refine Kept.mk_same ?_ rfl rfl rfl rfl rfl
  with_reducible exact Kept.refl _
  with_reducible refine Kept.ite (fun _ => ?_) (fun _ => ?_)
  with_reducible refine Kept.trans ?_ (State.setLock_kept _ _)
  with_reducible refine Kept.mk_same ?_ rfl rfl rfl rfl rfl
  with_reducible exact Kept.refl _
  with_reducible refine Kept.mk_same ?_ rfl rfl rfl rfl rfl
  with_reducible exact Kept.refl _

theorem State.filterOffset_kept (s : State) (x : Int) : Kept s (State.filterOffset s x) := by
  unfold State.filterOffset
  dsimp only
  with_reducible refine Kept.trans ?_ (State.wr_kept _ _ _)
  with_reducible refine Kept.mk_same ?_ rfl rfl rfl rfl rfl
  with_reducible exact Kept.refl _

theorem State.steerFreq_kept (s : State) : Kept s (State.steerFreq s) := by
  unfold State.steerFreq
  dsimp only
  with_reducible refine Kept.ite (fun _ => ?_) (fun _ => ?_)
  with_reducible refine Kept.trans ?_ (State.logFreq_kept _)
  with_reducible refine Kept.trans ?_ (State.took_kept _)
  with_reducible refine Kept.trans ?_ (State.wr_kept _ _ _)
  with_reducible exact Kept.refl _
  with_reducible refine Kept.trans ?_ (State.took_kept _)
  with_reducible refine Kept.trans ?_ (State.wr_kept _ _ _)
  with_reducible exact Kept.refl _

theorem execServoUpdate_kept (s : State) : Kept s (stateOf (execServoUpdate s) s) := by
  unfold execServoUpdate
  refine Kept.next ?_
  dsimp only
  split
  with_reducible exact Kept.refl _
  with_reducible refine Kept.ite (fun _ => ?_) (fun _ => ?_)
  with_reducible refine Kept.ite (fun _ => ?_) (fun _ => ?_)
  with_reducible refine Kept.trans ?_ (State.stepTime_kept _ _)
  with_reducible refine Kept.trans ?_ (State.filterOffset_kept _ _)
  with_reducible exact Kept.refl _
  with_reducible refine Kept.trans ?_ (State.lockRules_kept _ _)
  with_reducible refine Kept.trans ?_ (State.steerFreq_kept _)
  with_reducible refine Kept.trans ?_ (State.filterOffset_kept _ _)
  with_reducible exact Kept.refl _
  with_reducible refine Kept.mk_same ?_ rfl rfl rfl rfl rfl
  with_reducible exact Kept.refl _

theorem State.measure_kept (s : State) (kind : Nat) (x : Int) : Kept s (State.measure s kind x) := by
  unfold State.measure
  with_reducible refine Kept.ite (fun _ => ?_) (fun _ => ?_)
  with_reducible refine Kept.mk_same ?_ rfl rfl rfl rfl rfl
  with_reducible exact Kept.refl _
  with_reducible exact Kept.refl _

theorem State.runBmca_kept (s : State) : Kept s (State.runBmca s) := by
  unfold State.runBmca
  with_reducible refine Kept.ite (fun _ => ?_) (fun _ => ?_)
  with_reducible exact Kept.refl _
  split
  with_reducible refine Kept.mk_same ?_ rfl rfl rfl rfl rfl
  with_reducible exact Kept.refl _
  dsimp only
  with_reducible refine Kept.trans ?_ (State.updateTod_kept _)
  with_reducible refine Kept.ite (fun _ => ?_) (fun _ => ?_)
  with_reducible refine Kept.trans ?_ (State.post_kept _ _ _ _ _)
  with_reducible refine Kept.trans ?_ (State.wr_kept _ _ _)
  with_reducible refine Kept.trans ?_ (State.wr_kept _ _ _)
  with_reducible refine Kept.trans ?_ (State.wr_kept _ _ _)
  with_reducible refine Kept.trans ?_ (State.wr_kept _ _ _)
  with_reducible refine Kept.mk_same ?_ rfl rfl rfl rfl rfl
  with_reducible exact Kept.refl _
  with_reducible refine Kept.trans ?_ (State.wr_kept _ _ _)
  with_reducible refine Kept.trans ?_ (State.wr_kept _ _ _)
  with_reducible refine Kept.trans ?_ (State.wr_kept _ _ _)
  with_reducible refine Kept.trans ?_ (State.wr_kept _ _ _)
  with_reducible refine Kept.mk_same ?_ rfl rfl rfl rfl rfl
  with_reducible exact Kept.refl _

theorem State.copyUtc_kept (s : State) (offset : Int) (valid : Bool) : Kept s (State.copyUtc s offset valid) := by
  unfold State.copyUtc
  dsimp only
  with_reducible refine Kept.ite (fun _ => ?_) (fun _ => ?_)
  with_reducible refine Kept.trans ?_ (State.wr_kept _ _ _)
  with_reducible refine Kept.trans ?_ (State.wr_kept _ _ _)
  with_reducible exact Kept.refl _
  with_reducible refine Kept.trans ?_ (State.post_kept _ _ _ _ _)
  with_reducible refine Kept.trans ?_ (State.wr_kept _ _ _)
  with_reducible refine Kept.trans ?_ (State.wr_kept _ _ _)
  with_reducible exact Kept.refl _

theorem State.spadBytes_kept (s : State) (w n : Nat) (bs : List Nat) : Kept s (State.spadBytes s w n bs) := by
  induction n generalizing w bs s with
  | zero =>
    unfold State.spadBytes
    with_reducible exact Kept.refl _
  | succ k ih =>
    unfold State.spadBytes
    with_reducible refine Kept.trans ?_ (ih ..)
    with_reducible refine Kept.trans ?_ (State.spadPut_kept _ _ _)
    with_reducible exact Kept.refl _

theorem State.setPtp_kept (s : State) (port : Nat) (p : PtpPort) : Kept s (State.setPtp s port p) := by
  unfold State.setPtp
  with_reducible refine Kept.mk_same ?_ rfl rfl rfl rfl rfl
  with_reducible exact Kept.refl _

theorem State.ptpAnnounce_kept (s : State) (port : Nat) (h : PtpHeader) (m : PtpMaster) :
    Kept s (State.ptpAnnounce s port h m) := by
  unfold State.ptpAnnounce
  with_reducible refine Kept.ite (fun _ => ?_) (fun _ => ?_)
  with_reducible exact Kept.refl _
  dsimp only
  with_reducible refine Kept.ite (fun _ => ?_) (fun _ => ?_)
  with_reducible refine Kept.trans ?_ (State.copyUtc_kept _ _ _)
  with_reducible refine Kept.trans ?_ (State.runBmca_kept _)
  with_reducible refine Kept.trans ?_ (State.setPtp_kept _ _ _)
  with_reducible exact Kept.refl _
  with_reducible refine Kept.trans ?_ (State.runBmca_kept _)
  with_reducible refine Kept.trans ?_ (State.setPtp_kept _ _ _)
  with_reducible exact Kept.refl _

theorem State.ptpOffset_kept (s : State) (port : Nat) (p : PtpPort) (origin at_ : Int) :
    Kept s (State.ptpOffset s port p origin at_) := by
  unfold State.ptpOffset
  dsimp only
  with_reducible refine Kept.ite (fun _ => ?_) (fun _ => ?_)
  with_reducible refine Kept.trans ?_ (State.measure_kept _ _ _)
  with_reducible refine Kept.trans ?_ (State.setPtp_kept _ _ _)
  with_reducible exact Kept.refl _
  with_reducible refine Kept.trans ?_ (State.setPtp_kept _ _ _)
  with_reducible exact Kept.refl _

theorem execPtpMessage_kept (port : Nat) (message : PtpMessage) (s : State) :
    Kept s (stateOf (execPtpMessage port message s) s) := by
  unfold execPtpMessage
  refine Kept.next ?_
  with_reducible refine Kept.ite (fun _ => ?_) (fun _ => ?_)
  with_reducible exact Kept.refl _
  dsimp only
  split
  with_reducible refine Kept.ite (fun _ => ?_) (fun _ => ?_)
  with_reducible refine Kept.trans ?_ (State.ptpAnnounce_kept _ _ _ _)
  with_reducible exact Kept.refl _
  with_reducible exact Kept.refl _
  with_reducible refine Kept.ite (fun _ => ?_) (fun _ => ?_)
  with_reducible exact Kept.refl _
  with_reducible refine Kept.ite (fun _ => ?_) (fun _ => ?_)
  with_reducible refine Kept.trans ?_ (State.setPtp_kept _ _ _)
  with_reducible exact Kept.refl _
  with_reducible refine Kept.trans ?_ (State.ptpOffset_kept _ _ _ _ _)
  with_reducible exact Kept.refl _
  split
  with_reducible refine Kept.ite (fun _ => ?_) (fun _ => ?_)
  with_reducible refine Kept.trans ?_ (State.ptpOffset_kept _ _ _ _ _)
  with_reducible exact Kept.refl _
  with_reducible exact Kept.refl _
  with_reducible exact Kept.refl _
  split
  with_reducible refine Kept.ite (fun _ => ?_) (fun _ => ?_)
  with_reducible refine Kept.trans ?_ (State.setPtp_kept _ _ _)
  with_reducible exact Kept.refl _
  with_reducible exact Kept.refl _
  with_reducible exact Kept.refl _
  with_reducible refine Kept.ite (fun _ => ?_) (fun _ => ?_)
  with_reducible refine Kept.trans ?_ (State.setPtp_kept _ _ _)
  with_reducible exact Kept.refl _
  with_reducible exact Kept.refl _
  with_reducible refine Kept.ite (fun _ => ?_) (fun _ => ?_)
  with_reducible exact Kept.refl _
  with_reducible refine Kept.ite (fun _ => ?_) (fun _ => ?_)
  with_reducible exact Kept.refl _
  with_reducible refine Kept.trans ?_ (State.post_kept _ _ _ _ _)
  with_reducible refine Kept.trans ?_ (State.spadBytes_kept _ _ _ _)
  with_reducible refine Kept.mk_same ?_ rfl rfl rfl rfl rfl
  with_reducible exact Kept.refl _
  with_reducible exact Kept.refl _

theorem execAnnounceTimeout_kept (port : Nat) (s : State) : Kept s (stateOf (execAnnounceTimeout port s) s) := by
  unfold execAnnounceTimeout
  refine Kept.next ?_
  dsimp only
  split
  with_reducible exact Kept.refl _
  with_reducible refine Kept.ite (fun _ => ?_) (fun _ => ?_)
  with_reducible refine Kept.trans ?_ (State.loseGone_kept _)
  with_reducible refine Kept.trans ?_ (State.runBmca_kept _)
  with_reducible refine Kept.mk_same ?_ rfl rfl rfl rfl rfl
  with_reducible exact Kept.refl _
  with_reducible exact Kept.refl _

theorem execRefaEdge_kept (falling : Bool) (s : State) : Kept s (stateOf (execRefaEdge falling s) s) := by
  unfold execRefaEdge
  refine Kept.next ?_
  with_reducible refine Kept.ite (fun _ => ?_) (fun _ => ?_)
  dsimp only
  with_reducible refine Kept.ite (fun _ => ?_) (fun _ => ?_)
  with_reducible refine Kept.mk_same ?_ rfl rfl rfl rfl rfl
  with_reducible exact Kept.refl _
  with_reducible refine Kept.trans ?_ (State.measure_kept _ _ _)
  with_reducible refine Kept.mk_same ?_ rfl rfl rfl rfl rfl
  with_reducible exact Kept.refl _
  with_reducible exact Kept.refl _

theorem execRefbEdge_kept (falling : Bool) (s : State) : Kept s (stateOf (execRefbEdge falling s) s) := by
  unfold execRefbEdge
  refine Kept.next ?_
  with_reducible refine Kept.ite (fun _ => ?_) (fun _ => ?_)
  with_reducible refine Kept.trans ?_ (State.measure_kept _ _ _)
  with_reducible refine Kept.mk_same ?_ rfl rfl rfl rfl rfl
  with_reducible exact Kept.refl _
  with_reducible exact Kept.refl _

theorem execSetTime_kept (ns delay : Nat) (s : State) : Kept s (stateOf (execSetTime ns delay s) s) := by
  unfold execSetTime
  refine Kept.next ?_
  dsimp only
  with_reducible refine Kept.ite (fun _ => ?_) (fun _ => ?_)
  with_reducible refine Kept.trans ?_ (State.wr_kept _ _ _)
  with_reducible refine Kept.trans ?_ (State.stepTime_kept _ _)
  with_reducible refine Kept.trans ?_ (State.wr_kept _ _ _)
  with_reducible exact Kept.refl _
  with_reducible refine Kept.trans ?_ (State.wr_kept _ _ _)
  with_reducible refine Kept.trans ?_ (State.wr_kept _ _ _)
  with_reducible exact Kept.refl _

theorem execTimeNsRead_kept (s : State) : Kept s (stateOf (execTimeNsRead s) s) := by
  unfold execTimeNsRead
  refine Kept.next ?_
  with_reducible refine Kept.trans ?_ (State.answer_kept _ _)
  with_reducible refine Kept.trans ?_ (State.wr_kept _ _ _)
  with_reducible exact Kept.refl _

theorem execPosTickRead_kept (grid : Nat) (s : State) : Kept s (stateOf (execPosTickRead grid s) s) := by
  unfold execPosTickRead
  refine Kept.next ?_
  with_reducible refine Kept.ite (fun _ => ?_) (fun _ => ?_)
  dsimp only
  with_reducible refine Kept.trans ?_ (State.answer_kept _ _)
  with_reducible refine Kept.trans ?_ (State.wrAt_kept _ _ _ _)
  with_reducible refine Kept.trans ?_ (State.wrAt_kept _ _ _ _)
  with_reducible refine Kept.trans ?_ (State.wrAt_kept _ _ _ _)
  with_reducible exact Kept.refl _
  with_reducible refine Kept.trans ?_ (State.answer_kept _ _)
  with_reducible exact Kept.refl _

theorem State.setPulse_kept (s : State) (n : Nat) (p : PulseState) : Kept s (State.setPulse s n p) := by
  unfold State.setPulse
  with_reducible refine Kept.mk_same ?_ rfl rfl rfl rfl rfl
  with_reducible exact Kept.refl _

theorem State.pulseFields_kept (s : State) (n v : Nat) : Kept s (State.pulseFields s n v) := by
  unfold State.pulseFields
  with_reducible refine Kept.trans ?_ (State.wrAt_kept _ _ _ _)
  with_reducible refine Kept.trans ?_ (State.wrAt_kept _ _ _ _)
  with_reducible refine Kept.trans ?_ (State.wrAt_kept _ _ _ _)
  with_reducible refine Kept.trans ?_ (State.wrAt_kept _ _ _ _)
  with_reducible exact Kept.refl _

theorem State.cutPulse_kept (a : Nat) (s : State) (n : Nat) : Kept s (State.cutPulse a s n) := by
  unfold State.cutPulse
  with_reducible refine Kept.ite (fun _ => ?_) (fun _ => ?_)
  with_reducible refine Kept.trans ?_ (State.setPulse_kept _ _ _)
  with_reducible exact Kept.refl _
  with_reducible exact Kept.refl _

theorem execPulseOutputPulse_kept (output : Nat) (s : State) : Kept s (stateOf (execPulseOutputPulse output s) s) := by
  unfold execPulseOutputPulse
  refine Kept.next ?_
  with_reducible refine Kept.ite (fun _ => ?_) (fun _ => ?_)
  with_reducible refine Kept.trans ?_ (State.setPulse_kept _ _ _)
  with_reducible exact Kept.refl _
  with_reducible exact Kept.refl _

theorem State.alarmArm_kept (s : State) (a : Nat) (past : Bool) : Kept s (State.alarmArm s a past) := by
  unfold State.alarmArm
  with_reducible refine Kept.ite (fun _ => ?_) (fun _ => ?_)
  with_reducible refine Kept.trans ?_ (State.wrAt_kept _ _ _ _)
  with_reducible refine Kept.trans ?_ (State.wrAt_kept _ _ _ _)
  with_reducible exact Kept.refl _
  dsimp only
  with_reducible refine Kept.mk_same ?_ rfl rfl rfl rfl rfl
  with_reducible refine Kept.trans ?_ (Kept.foldl _ _ _ ?_)
  with_reducible refine Kept.trans ?_ (State.wrAt_kept _ _ _ _)
  with_reducible exact Kept.refl _
  intro _ _
  with_reducible refine Kept.trans ?_ (State.cutPulse_kept _ _ _)
  with_reducible exact Kept.refl _

theorem State.alarmRefuse_kept (s : State) (a : Nat) : Kept s (State.alarmRefuse s a) := by
  unfold State.alarmRefuse
  with_reducible refine Kept.trans ?_ (State.resRefuse_kept _ _ _ _ _ _)
  with_reducible exact Kept.refl _

theorem State.alarmFields_kept (s : State) (a v : Nat) : Kept s (State.alarmFields s a v) := by
  unfold State.alarmFields
  with_reducible refine Kept.trans ?_ (State.wrAt_kept _ _ _ _)
  with_reducible refine Kept.trans ?_ (State.wrAt_kept _ _ _ _)
  with_reducible refine Kept.trans ?_ (State.wrAt_kept _ _ _ _)
  with_reducible refine Kept.trans ?_ (State.wrAt_kept _ _ _ _)
  with_reducible exact Kept.refl _

theorem execAlarmArm_kept (comparator value : Nat) (s : State) : Kept s (stateOf (execAlarmArm comparator value s) s) := by
  unfold execAlarmArm
  refine Kept.next ?_
  with_reducible refine Kept.ite (fun _ => ?_) (fun _ => ?_)
  with_reducible exact Kept.refl _
  with_reducible refine Kept.ite (fun _ => ?_) (fun _ => ?_)
  with_reducible refine Kept.trans ?_ (State.alarmRefuse_kept _ _)
  with_reducible exact Kept.refl _
  dsimp only
  with_reducible refine Kept.ite (fun _ => ?_) (fun _ => ?_)
  with_reducible refine Kept.trans ?_ (State.alarmArm_kept _ _ _)
  with_reducible refine Kept.trans ?_ (State.alarmFields_kept _ _ _)
  with_reducible exact Kept.refl _
  with_reducible refine Kept.trans ?_ (State.wrAt_kept _ _ _ _)
  with_reducible refine Kept.trans ?_ (State.alarmFields_kept _ _ _)
  with_reducible exact Kept.refl _

theorem State.alarmRepeat_kept (s : State) (a : Nat) : Kept s (State.alarmRepeat s a) := by
  unfold State.alarmRepeat
  dsimp only
  split
  with_reducible refine Kept.trans ?_ (State.wrAt_kept _ _ _ _)
  with_reducible exact Kept.refl _
  with_reducible refine Kept.ite (fun _ => ?_) (fun _ => ?_)
  with_reducible refine Kept.trans ?_ (State.wrAt_kept _ _ _ _)
  with_reducible refine Kept.trans ?_ (State.wrAt_kept _ _ _ _)
  with_reducible exact Kept.refl _
  with_reducible refine Kept.ite (fun _ => ?_) (fun _ => ?_)
  with_reducible refine Kept.trans ?_ (State.wrAt_kept _ _ _ _)
  with_reducible refine Kept.trans ?_ (State.wrAt_kept _ _ _ _)
  with_reducible exact Kept.refl _
  with_reducible refine Kept.trans ?_ (State.wrAt_kept _ _ _ _)
  with_reducible refine Kept.trans ?_ (State.wrAt_kept _ _ _ _)
  with_reducible exact Kept.refl _
  with_reducible refine Kept.trans ?_ (State.wrAt_kept _ _ _ _)
  with_reducible exact Kept.refl _

theorem State.pulseFrom_kept (a : Nat) (s : State) (n : Nat) : Kept s (State.pulseFrom a s n) := by
  unfold State.pulseFrom
  with_reducible refine Kept.ite (fun _ => ?_) (fun _ => ?_)
  with_reducible refine Kept.trans ?_ (State.setPulse_kept _ _ _)
  with_reducible exact Kept.refl _
  with_reducible exact Kept.refl _

theorem State.alarmFire_kept (s : State) (a : Nat) : Kept s (State.alarmFire s a) := by
  unfold State.alarmFire
  dsimp only
  with_reducible refine Kept.mk_same ?_ rfl rfl rfl rfl rfl
  with_reducible refine Kept.trans ?_ (State.alarmRepeat_kept _ _)
  with_reducible refine Kept.trans ?_ (Kept.foldl _ _ _ ?_)
  with_reducible refine Kept.ite (fun _ => ?_) (fun _ => ?_)
  with_reducible refine Kept.trans ?_ (State.post_kept _ _ _ _ _)
  with_reducible refine Kept.ite (fun _ => ?_) (fun _ => ?_)
  with_reducible refine Kept.trans ?_ (State.wrAt_kept _ _ _ _)
  with_reducible refine Kept.ite (fun _ => ?_) (fun _ => ?_)
  with_reducible refine Kept.trans ?_ (State.wrAt_kept _ _ _ _)
  with_reducible refine Kept.trans ?_ (State.addSatAt_kept _ _ _ _)
  with_reducible refine Kept.trans ?_ (State.wrAt_kept _ _ _ _)
  with_reducible exact Kept.refl _
  with_reducible refine Kept.trans ?_ (State.addSatAt_kept _ _ _ _)
  with_reducible refine Kept.trans ?_ (State.wrAt_kept _ _ _ _)
  with_reducible exact Kept.refl _
  with_reducible refine Kept.ite (fun _ => ?_) (fun _ => ?_)
  with_reducible refine Kept.trans ?_ (State.wrAt_kept _ _ _ _)
  with_reducible refine Kept.trans ?_ (State.addSatAt_kept _ _ _ _)
  with_reducible refine Kept.trans ?_ (State.wrAt_kept _ _ _ _)
  with_reducible exact Kept.refl _
  with_reducible refine Kept.trans ?_ (State.addSatAt_kept _ _ _ _)
  with_reducible refine Kept.trans ?_ (State.wrAt_kept _ _ _ _)
  with_reducible exact Kept.refl _
  with_reducible refine Kept.ite (fun _ => ?_) (fun _ => ?_)
  with_reducible refine Kept.trans ?_ (State.wrAt_kept _ _ _ _)
  with_reducible refine Kept.ite (fun _ => ?_) (fun _ => ?_)
  with_reducible refine Kept.trans ?_ (State.wrAt_kept _ _ _ _)
  with_reducible refine Kept.trans ?_ (State.addSatAt_kept _ _ _ _)
  with_reducible refine Kept.trans ?_ (State.wrAt_kept _ _ _ _)
  with_reducible exact Kept.refl _
  with_reducible refine Kept.trans ?_ (State.addSatAt_kept _ _ _ _)
  with_reducible refine Kept.trans ?_ (State.wrAt_kept _ _ _ _)
  with_reducible exact Kept.refl _
  with_reducible refine Kept.ite (fun _ => ?_) (fun _ => ?_)
  with_reducible refine Kept.trans ?_ (State.wrAt_kept _ _ _ _)
  with_reducible refine Kept.trans ?_ (State.addSatAt_kept _ _ _ _)
  with_reducible refine Kept.trans ?_ (State.wrAt_kept _ _ _ _)
  with_reducible exact Kept.refl _
  with_reducible refine Kept.trans ?_ (State.addSatAt_kept _ _ _ _)
  with_reducible refine Kept.trans ?_ (State.wrAt_kept _ _ _ _)
  with_reducible exact Kept.refl _
  intro _ _
  with_reducible refine Kept.trans ?_ (State.pulseFrom_kept _ _ _)
  with_reducible exact Kept.refl _

end Sys2Proof.Machine
end

