-- ==== Sys2Proof/Laws/KeptDance.lean ====
section
/-! SUPPORT. `Kept` for the functions of Machine/Dance.lean. -/

namespace Sys2Proof.Machine

open Sys2Proof

theorem State.danceStage_kept (s : State) (b e k data : Nat) : Kept s (State.danceStage s b e k data) := by
  unfold State.danceStage
  dsimp only
  with_reducible refine Kept.mk_same ?_ rfl rfl rfl rfl rfl
  with_reducible exact Kept.refl _

theorem execDncEntryWordStage_kept (addr data : Nat) (s : State) :
    Kept s (stateOf (execDncEntryWordStage addr data s) s) := by
  unfold execDncEntryWordStage
  refine Kept.next ?_
  dsimp only
  split
  with_reducible refine Kept.trans ?_ (State.wr_kept _ _ _)
  with_reducible exact Kept.refl _
  with_reducible refine Kept.ite (fun _ => ?_) (fun _ => ?_)
  with_reducible exact Kept.refl _
  with_reducible refine Kept.trans ?_ (State.danceStage_kept _ _ _ _ _)
  with_reducible exact Kept.refl _

theorem State.danceCommit_kept (s : State) (b e top : Nat) : Kept s (State.danceCommit s b e top) := by
  unfold State.danceCommit
  dsimp only
  with_reducible refine Kept.ite (fun _ => ?_) (fun _ => ?_)
  with_reducible refine Kept.mk_same ?_ rfl rfl rfl rfl rfl
  with_reducible refine Kept.trans ?_ (State.setDanceBank_kept _ _ _)
  with_reducible exact Kept.refl _
  with_reducible refine Kept.trans ?_ (State.setDanceBank_kept _ _ _)
  with_reducible exact Kept.refl _

theorem execDncEntryCommit_kept (addr size data : Nat) (s : State) :
    Kept s (stateOf (execDncEntryCommit addr size data s) s) := by
  unfold execDncEntryCommit
  refine Kept.next ?_
  dsimp only
  split
  with_reducible refine Kept.trans ?_ (State.wr_kept _ _ _)
  with_reducible exact Kept.refl _
  with_reducible refine Kept.ite (fun _ => ?_) (fun _ => ?_)
  with_reducible refine Kept.trans ?_ (State.danceCommit_kept _ _ _ _)
  with_reducible refine Kept.trans ?_ (State.danceStage_kept _ _ _ _ _)
  with_reducible exact Kept.refl _
  with_reducible refine Kept.trans ?_ (State.danceCommit_kept _ _ _ _)
  with_reducible exact Kept.refl _

theorem execDncCopy_kept (s : State) : Kept s (stateOf (execDncCopy s) s) := by
  unfold execDncCopy
  refine Kept.next ?_
  with_reducible refine Kept.ite (fun _ => ?_) (fun _ => ?_)
  with_reducible exact Kept.refl _
  with_reducible refine Kept.trans ?_ (State.wr_kept _ _ _)
  with_reducible refine Kept.mk_same ?_ rfl rfl rfl rfl rfl
  with_reducible exact Kept.refl _

theorem execDncCopyDone_kept (s : State) : Kept s (stateOf (execDncCopyDone s) s) := by
  unfold execDncCopyDone
  refine Kept.next ?_
  split
  with_reducible exact Kept.refl _
  with_reducible refine Kept.ite (fun _ => ?_) (fun _ => ?_)
  with_reducible exact Kept.refl _
  with_reducible refine Kept.trans ?_ (State.wr_kept _ _ _)
  with_reducible refine Kept.trans ?_ (State.setDanceBank_kept _ _ _)
  with_reducible refine Kept.mk_same ?_ rfl rfl rfl rfl rfl
  with_reducible exact Kept.refl _

theorem execDncEnable_kept (value : Nat) (s : State) : Kept s (stateOf (execDncEnable value s) s) := by
  unfold execDncEnable
  refine Kept.next ?_
  dsimp only
  with_reducible refine Kept.ite (fun _ => ?_) (fun _ => ?_)
  with_reducible refine Kept.trans ?_ (State.danceDrop_kept _)
  with_reducible refine Kept.trans ?_ (State.wr_kept _ _ _)
  with_reducible refine Kept.trans ?_ (State.wr_kept _ _ _)
  with_reducible exact Kept.refl _
  with_reducible refine Kept.trans ?_ (State.wr_kept _ _ _)
  with_reducible refine Kept.trans ?_ (State.wr_kept _ _ _)
  with_reducible exact Kept.refl _

theorem State.swapFields_kept (s : State) (v : Nat) : Kept s (State.swapFields s v) := by
  unfold State.swapFields
  with_reducible refine Kept.trans ?_ (State.wr_kept _ _ _)
  with_reducible refine Kept.trans ?_ (State.wr_kept _ _ _)
  with_reducible exact Kept.refl _

theorem State.swapRefuse_kept (s : State) (entry code : Nat) : Kept s (State.swapRefuse s entry code) := by
  unfold State.swapRefuse
  with_reducible refine Kept.trans ?_ (State.post_kept _ _ _ _ _)
  with_reducible refine Kept.trans ?_ (State.wr_kept _ _ _)
  with_reducible refine Kept.trans ?_ (State.wr_kept _ _ _)
  with_reducible refine Kept.trans ?_ (State.wr_kept _ _ _)
  with_reducible refine Kept.trans ?_ (State.wr_kept _ _ _)
  with_reducible exact Kept.refl _

theorem State.swapCancel_kept (s : State) : Kept s (State.swapCancel s) := by
  unfold State.swapCancel
  with_reducible refine Kept.ite (fun _ => ?_) (fun _ => ?_)
  with_reducible refine Kept.trans ?_ (State.swapRefuse_kept _ _ _)
  with_reducible exact Kept.refl _
  with_reducible exact Kept.refl _

theorem execDncSwapArm_kept (value : Nat) (s : State) : Kept s (stateOf (execDncSwapArm value s) s) := by
  unfold execDncSwapArm
  refine Kept.next ?_
  dsimp only
  with_reducible refine Kept.ite (fun _ => ?_) (fun _ => ?_)
  with_reducible refine Kept.trans ?_ (State.swapCancel_kept _)
  with_reducible refine Kept.trans ?_ (State.swapFields_kept _ _)
  with_reducible exact Kept.refl _
  with_reducible refine Kept.ite (fun _ => ?_) (fun _ => ?_)
  with_reducible refine Kept.trans ?_ (State.swapFields_kept _ _)
  with_reducible exact Kept.refl _
  with_reducible refine Kept.trans ?_ (State.wr_kept _ _ _)
  with_reducible refine Kept.trans ?_ (State.wr_kept _ _ _)
  with_reducible refine Kept.trans ?_ (State.swapFields_kept _ _)
  with_reducible exact Kept.refl _

theorem execDncSwapCheckDone_kept (s : State) : Kept s (stateOf (execDncSwapCheckDone s) s) := by
  unfold execDncSwapCheckDone
  refine Kept.next ?_
  with_reducible refine Kept.ite (fun _ => ?_) (fun _ => ?_)
  with_reducible exact Kept.refl _
  with_reducible refine Kept.ite (fun _ => ?_) (fun _ => ?_)
  with_reducible refine Kept.trans ?_ (State.swapRefuse_kept _ _ _)
  with_reducible exact Kept.refl _
  split
  with_reducible refine Kept.trans ?_ (State.swapRefuse_kept _ _ _)
  with_reducible exact Kept.refl _
  with_reducible refine Kept.ite (fun _ => ?_) (fun _ => ?_)
  with_reducible refine Kept.trans ?_ (State.swapRefuse_kept _ _ _)
  with_reducible exact Kept.refl _
  dsimp only
  with_reducible refine Kept.mk_same ?_ rfl rfl rfl rfl rfl
  with_reducible refine Kept.trans ?_ (State.wr_kept _ _ _)
  with_reducible exact Kept.refl _

theorem execDncSwapCancel_kept (s : State) : Kept s (stateOf (execDncSwapCancel s) s) := by
  unfold execDncSwapCancel
  refine Kept.next ?_
  with_reducible refine Kept.trans ?_ (State.swapCancel_kept _)
  with_reducible exact Kept.refl _

theorem execDncBankSwap_kept (s : State) : Kept s (stateOf (execDncBankSwap s) s) := by
  unfold execDncBankSwap
  refine Kept.next ?_
  with_reducible refine Kept.ite (fun _ => ?_) (fun _ => ?_)
  dsimp only
  with_reducible refine Kept.trans ?_ (State.post_kept _ _ _ _ _)
  with_reducible refine Kept.trans ?_ (State.wr_kept _ _ _)
  with_reducible refine Kept.trans ?_ (State.wr_kept _ _ _)
  with_reducible refine Kept.trans ?_ (State.wr_kept _ _ _)
  with_reducible refine Kept.trans ?_ (State.wr_kept _ _ _)
  with_reducible refine Kept.trans ?_ (State.wr_kept _ _ _)
  with_reducible refine Kept.mk_same ?_ rfl rfl rfl rfl rfl
  with_reducible exact Kept.refl _
  with_reducible exact Kept.refl _

theorem execDncEntryDue_kept (s : State) : Kept s (stateOf (execDncEntryDue s) s) := by
  unfold execDncEntryDue
  refine Kept.next ?_
  with_reducible refine Kept.ite (fun _ => ?_) (fun _ => ?_)
  dsimp only
  with_reducible refine Kept.mk_same ?_ rfl rfl rfl rfl rfl
  with_reducible exact Kept.refl _
  with_reducible exact Kept.refl _

theorem State.danceLog_kept (s : State) (q : QueuedAction) : Kept s (State.danceLog s q) := by
  unfold State.danceLog
  with_reducible refine Kept.ite (fun _ => ?_) (fun _ => ?_)
  with_reducible refine Kept.ite (fun _ => ?_) (fun _ => ?_)
  with_reducible refine Kept.mk_same ?_ rfl rfl rfl rfl rfl
  with_reducible exact Kept.refl _
  with_reducible refine Kept.trans ?_ (State.postLimited_kept _ _ _ _ _ _)
  with_reducible refine Kept.trans ?_ (State.wr_kept _ _ _)
  with_reducible refine Kept.trans ?_ (State.incSat_kept _ _)
  with_reducible exact Kept.refl _
  with_reducible exact Kept.refl _

theorem State.danceSlip_kept (s : State) (q : QueuedAction) : Kept s (State.danceSlip s q) := by
  unfold State.danceSlip
  with_reducible refine Kept.ite (fun _ => ?_) (fun _ => ?_)
  with_reducible exact Kept.refl _
  dsimp only
  with_reducible refine Kept.ite (fun _ => ?_) (fun _ => ?_)
  with_reducible refine Kept.trans ?_ (State.post_kept _ _ _ _ _)
  with_reducible refine Kept.mk_same ?_ rfl rfl rfl rfl rfl
  with_reducible refine Kept.trans ?_ (State.wr_kept _ _ _)
  with_reducible refine Kept.trans ?_ (State.incSat_kept _ _)
  with_reducible exact Kept.refl _
  with_reducible refine Kept.trans ?_ (State.wr_kept _ _ _)
  with_reducible refine Kept.trans ?_ (State.incSat_kept _ _)
  with_reducible exact Kept.refl _

theorem State.runAction_kept (s : State) (code : Nat) (body : QueuedAction → State → State) (h : ∀ q x, Kept x (body q x)) :
    Kept s (State.runAction s code body) := by
  unfold State.runAction
  split
  · exact Kept.refl s
  · refine Kept.trans ?_ (h _ _)
    refine Kept.trans ?_ (State.danceLog_kept _ _)
    refine Kept.trans ?_ (State.danceSlip_kept _ _)
    refine Kept.trans ?_ (State.incSat_kept _ _)
    exact Kept.of_eq (Kept.refl s) rfl rfl rfl rfl rfl

theorem State.actionFailed_kept (s : State) (q : QueuedAction) (reason : Nat) : Kept s (State.actionFailed s q reason) := by
  unfold State.actionFailed
  with_reducible refine Kept.trans ?_ (State.post_kept _ _ _ _ _)
  with_reducible refine Kept.trans ?_ (State.incSat_kept _ _)
  with_reducible exact Kept.refl _

theorem execDncEvent_kept (s : State) : Kept s (stateOf (execDncEvent s) s) := by
  unfold execDncEvent
  refine Kept.next ?_
  with_reducible refine Kept.trans ?_ (State.runAction_kept _ _ _ ?_)
  with_reducible exact Kept.refl _
  intro _ _
  with_reducible refine Kept.trans ?_ (State.post_kept _ _ _ _ _)
  with_reducible exact Kept.refl _

theorem State.fireDue_kept (s : State) (a : Nat) : Kept s (State.fireDue s a) := by
  unfold State.fireDue
  with_reducible refine Kept.ite (fun _ => ?_) (fun _ => ?_)
  with_reducible exact State.alarmFire_kept _ _
  with_reducible exact Kept.refl _

theorem execDncAlarm_kept (s : State) : Kept s (stateOf (execDncAlarm s) s) := by
  unfold execDncAlarm
  refine Kept.next ?_
  with_reducible refine Kept.trans ?_ (State.runAction_kept _ _ _ ?_)
  with_reducible exact Kept.refl _
  intro _ _
  dsimp only
  with_reducible refine Kept.trans ?_ (State.alarmArm_kept _ _ _)
  with_reducible refine Kept.trans ?_ (State.wrAt_kept _ _ _ _)
  with_reducible refine Kept.trans ?_ (State.wrAt_kept _ _ _ _)
  with_reducible refine Kept.trans ?_ (State.wrAt_kept _ _ _ _)
  with_reducible refine Kept.trans ?_ (State.wrAt_kept _ _ _ _)
  with_reducible refine Kept.trans ?_ (State.wrAt_kept _ _ _ _)
  with_reducible exact State.fireDue_kept _ _

theorem execDncFence_kept (s : State) : Kept s (stateOf (execDncFence s) s) := by
  unfold execDncFence
  refine Kept.next ?_
  with_reducible refine Kept.trans ?_ (State.runAction_kept _ _ _ ?_)
  with_reducible exact Kept.refl _
  intro _ _
  with_reducible exact Kept.refl _

theorem execDncLogWrite_kept (s : State) : Kept s (stateOf (execDncLogWrite s) s) := by
  unfold execDncLogWrite
  refine Kept.next ?_
  split
  with_reducible exact Kept.refl _
  dsimp only
  with_reducible refine Kept.trans ?_ (State.wr_kept _ _ _)
  with_reducible refine Kept.trans ?_ (State.spadPut_kept _ _ _)
  with_reducible refine Kept.mk_same ?_ rfl rfl rfl rfl rfl
  with_reducible exact Kept.refl _

end Sys2Proof.Machine
end

