-- ==== Sys2Proof/Laws/KeptGuardOps.lean ====
section
/-! SUPPORT. `Kept` for the functions of Machine/GuardOps.lean. -/

namespace Sys2Proof.Machine

open Sys2Proof

theorem State.startTest_kept (s : State) (kind index cause : Nat) (cmd : Option Nat) :
    Kept s (State.startTest s kind index cause cmd) := by
  unfold State.startTest
  with_reducible refine Kept.ite (fun _ => ?_) (fun _ => ?_)
  with_reducible exact Kept.refl _
  with_reducible refine Kept.mk_same ?_ rfl rfl rfl rfl rfl
  with_reducible exact Kept.refl _

theorem State.affect_kept (s : State) (f : Nat) : Kept s (State.affect s f) := by
  unfold State.affect
  with_reducible refine Kept.ite (fun _ => ?_) (fun _ => ?_)
  with_reducible exact Kept.refl _
  with_reducible refine Kept.mk_same ?_ rfl rfl rfl rfl rfl
  with_reducible exact Kept.refl _

end Sys2Proof.Machine
end

