-- ==== Sys2Proof/Laws/KeptStoreOps.lean ====
section
/-! SUPPORT. `Kept` for the functions of Machine/StoreOps.lean. -/

namespace Sys2Proof.Machine

open Sys2Proof

theorem State.setFlowRun_kept (s : State) (f : Nat) (r : FlowRun) : Kept s (State.setFlowRun s f r) := by
  unfold State.setFlowRun
  with_reducible refine Kept.mk_same ?_ rfl rfl rfl rfl rfl
  with_reducible exact Kept.refl _

theorem State.flowStat_kept (s : State) (f k n : Nat) : Kept s (State.flowStat s f k n) := by
  unfold State.flowStat
  with_reducible refine Kept.mk_same ?_ rfl rfl rfl rfl rfl
  with_reducible exact Kept.refl _

theorem State.takeSlots_kept (s : State) (far : Bool) (n : Nat) : Kept s (State.takeSlots s far n).2 := by
  unfold State.takeSlots
  dsimp only
  with_reducible refine Kept.ite (fun _ => ?_) (fun _ => ?_)
  with_reducible refine Kept.mk_same ?_ rfl rfl rfl rfl rfl
  with_reducible exact Kept.refl _
  with_reducible refine Kept.mk_same ?_ rfl rfl rfl rfl rfl
  with_reducible exact Kept.refl _

theorem State.storeError_kept (s : State) (a kind syndrome : Nat) : Kept s (State.storeError s a kind syndrome) := by
  unfold State.storeError
  with_reducible refine Kept.trans ?_ (State.wr_kept _ _ _)
  with_reducible refine Kept.trans ?_ (State.wr_kept _ _ _)
  with_reducible refine Kept.trans ?_ (State.wr_kept _ _ _)
  with_reducible refine Kept.trans ?_ (State.wr_kept _ _ _)
  with_reducible refine Kept.trans ?_ (State.wr_kept _ _ _)
  with_reducible exact Kept.refl _

theorem State.storeSense_kept (s : State) (a : Nat) (found : Syndrome) : Kept s (State.storeSense s a found).2 := by
  unfold State.storeSense
  dsimp only
  split
  dsimp only
  with_reducible refine Kept.trans ?_ (State.incSat_kept _ _)
  with_reducible exact Kept.refl _
  split
  dsimp only
  with_reducible exact Kept.refl _
  dsimp only
  with_reducible refine Kept.mk_same ?_ rfl rfl rfl rfl rfl
  with_reducible refine Kept.trans ?_ (State.postLimited_kept _ _ _ _ _ _)
  with_reducible refine Kept.ite (fun _ => ?_) (fun _ => ?_)
  with_reducible refine Kept.trans ?_ (State.incSat_kept _ _)
  with_reducible refine Kept.trans ?_ (State.wr_kept _ _ _)
  with_reducible refine Kept.trans ?_ (State.took_kept _)
  with_reducible refine Kept.trans ?_ (State.storeError_kept _ _ _ _)
  with_reducible exact Kept.refl _
  with_reducible refine Kept.trans ?_ (State.incSat_kept _ _)
  with_reducible refine Kept.trans ?_ (State.wr_kept _ _ _)
  with_reducible refine Kept.trans ?_ (State.took_kept _)
  with_reducible refine Kept.trans ?_ (State.storeError_kept _ _ _ _)
  with_reducible exact Kept.refl _
  dsimp only
  with_reducible refine Kept.trans ?_ (State.post_kept _ _ _ _ _)
  with_reducible refine Kept.trans ?_ (State.incSat_kept _ _)
  with_reducible refine Kept.trans ?_ (State.incSat_kept _ _)
  with_reducible refine Kept.trans ?_ (State.wr_kept _ _ _)
  with_reducible refine Kept.trans ?_ (State.took_kept _)
  with_reducible refine Kept.trans ?_ (State.storeError_kept _ _ _ _)
  with_reducible exact Kept.refl _
  dsimp only
  with_reducible refine Kept.trans ?_ (State.startTest_kept _ _ _ _ _)
  with_reducible refine Kept.trans ?_ (State.post_kept _ _ _ _ _)
  with_reducible refine Kept.ite (fun _ => ?_) (fun _ => ?_)
  with_reducible refine Kept.trans ?_ (State.incSat_kept _ _)
  with_reducible refine Kept.trans ?_ (State.incSat_kept _ _)
  with_reducible refine Kept.trans ?_ (State.wr_kept _ _ _)
  with_reducible refine Kept.trans ?_ (State.storeError_kept _ _ _ _)
  with_reducible exact Kept.refl _
  with_reducible refine Kept.trans ?_ (State.incSat_kept _ _)
  with_reducible refine Kept.trans ?_ (State.incSat_kept _ _)
  with_reducible refine Kept.trans ?_ (State.wr_kept _ _ _)
  with_reducible refine Kept.trans ?_ (State.storeError_kept _ _ _ _)
  with_reducible exact Kept.refl _

theorem State.senseWords_kept (s : State) (found : Found) (as : List Nat) : Kept s (State.senseWords s found as) := by
  unfold State.senseWords
  with_reducible refine Kept.trans ?_ (Kept.foldl _ _ _ ?_)
  with_reducible exact Kept.refl _
  intro _ _
  with_reducible refine Kept.trans ?_ (State.storeSense_kept _ _ _)
  with_reducible exact Kept.refl _

theorem State.addrRefuse_kept (s : State) (a reason : Nat) : Kept s (State.addrRefuse s a reason) := by
  unfold State.addrRefuse
  dsimp only
  with_reducible refine Kept.trans ?_ (State.postLimited_kept _ _ _ _ _ _)
  with_reducible refine Kept.trans ?_ (State.wr_kept _ _ _)
  with_reducible refine Kept.trans ?_ (State.wr_kept _ _ _)
  with_reducible refine Kept.trans ?_ (State.incSat_kept _ _)
  with_reducible refine Kept.mk_same ?_ rfl rfl rfl rfl rfl
  with_reducible exact Kept.refl _

theorem State.copySlot_kept (found : Found) (s : State) (old new : Nat) : Kept s (State.copySlot found s old new) := by
  unfold State.copySlot
  with_reducible refine Kept.trans ?_ (Kept.foldl _ _ _ ?_)
  with_reducible exact Kept.refl _
  intro _ _
  with_reducible refine Kept.trans ?_ (State.storePut_kept _ _ _)
  with_reducible refine Kept.trans ?_ (State.storeSense_kept _ _ _)
  with_reducible exact Kept.refl _

theorem State.rehome_kept (s : State) (far : Bool) (olds : List Nat) (found : Found) :
    Kept s (State.rehome s far olds found) := by
  unfold State.rehome
  dsimp only
  with_reducible refine Kept.mk_same ?_ rfl rfl rfl rfl rfl
  with_reducible refine Kept.trans ?_ (Kept.foldl _ _ _ ?_)
  with_reducible refine Kept.trans ?_ (State.takeSlots_kept _ _ _)
  with_reducible exact Kept.refl _
  intro _ _
  with_reducible refine Kept.trans ?_ (State.copySlot_kept _ _ _ _)
  with_reducible exact Kept.refl _

theorem State.relocateSlots_kept (s : State) (far : Bool) (olds : List Nat) (found : Found) :
    Kept s (State.relocateSlots s far olds found) := by
  unfold State.relocateSlots
  dsimp only
  with_reducible refine Kept.mk_same ?_ rfl rfl rfl rfl rfl
  with_reducible refine Kept.trans ?_ (Kept.foldl _ _ _ ?_)
  with_reducible refine Kept.trans ?_ (State.takeSlots_kept _ _ _)
  with_reducible exact Kept.refl _
  intro _ _
  with_reducible refine Kept.trans ?_ (State.copySlot_kept _ _ _ _)
  with_reducible exact Kept.refl _

theorem State.ticketWrite_kept (s : State) (slots : List Nat) (i : Nat) (ws : List Nat) :
    Kept s (State.ticketWrite s slots i ws) := by
  induction ws generalizing s i with
  | nil =>
    unfold State.ticketWrite
    with_reducible exact Kept.refl _
  | cons a r ih =>
    unfold State.ticketWrite
    with_reducible refine Kept.trans ?_ (ih ..)
    with_reducible refine Kept.trans ?_ (State.storePut_kept _ _ _)
    with_reducible exact Kept.refl _

end Sys2Proof.Machine
end

