-- ==== Sys2Proof/Laws/KeptStore.lean ====
section
/-! SUPPORT. `Kept` for the functions of Machine/Store.lean. -/

namespace Sys2Proof.Machine

open Sys2Proof

theorem execLogRead_kept (id : Nat) (found : Found) (s : State) : Kept s (stateOf (execLogRead id found s) s) := by
  unfold execLogRead
  refine Kept.next ?_
  with_reducible refine Kept.ite (fun _ => ?_) (fun _ => ?_)
  with_reducible exact Kept.refl _
  with_reducible refine Kept.trans ?_ (State.runCmd_kept _ _ _ _ ?_)
  with_reducible exact Kept.refl _
  intro _ _
  dsimp only
  split
  with_reducible exact Kept.refl _
  split
  with_reducible exact Kept.refl _
  dsimp only
  with_reducible refine Kept.trans ?_ (State.tookN_kept _ _)
  with_reducible refine Kept.trans ?_ (State.senseWords_kept _ _ _)
  with_reducible refine Kept.trans ?_ (State.hostWrite_kept _ _ _)
  with_reducible exact Kept.refl _

theorem execStoreCorrectedWriteback_kept (s : State) : Kept s (stateOf (execStoreCorrectedWriteback s) s) := by
  unfold execStoreCorrectedWriteback
  refine Kept.next ?_
  with_reducible refine Kept.mk_same ?_ rfl rfl rfl rfl rfl
  with_reducible exact Kept.refl _

theorem State.setPatrol_kept (s : State) (far : Bool) (p : Patrol) : Kept s (State.setPatrol s far p) := by
  unfold State.setPatrol
  dsimp only
  with_reducible refine Kept.trans ?_ (State.wr_kept _ _ _)
  with_reducible refine Kept.ite (fun _ => ?_) (fun _ => ?_)
  with_reducible refine Kept.mk_same ?_ rfl rfl rfl rfl rfl
  with_reducible exact Kept.refl _
  with_reducible refine Kept.mk_same ?_ rfl rfl rfl rfl rfl
  with_reducible exact Kept.refl _

theorem State.patrolPace_kept (s : State) (far : Bool) (n : Nat) : Kept s (State.patrolPace s far n) := by
  unfold State.patrolPace
  dsimp only
  with_reducible refine Kept.ite (fun _ => ?_) (fun _ => ?_)
  with_reducible refine Kept.ite (fun _ => ?_) (fun _ => ?_)
  with_reducible refine Kept.trans ?_ (State.setPatrol_kept _ _ _)
  with_reducible exact Kept.refl _
  with_reducible refine Kept.trans ?_ (State.post_kept _ _ _ _ _)
  with_reducible refine Kept.trans ?_ (State.setPatrol_kept _ _ _)
  with_reducible exact Kept.refl _
  with_reducible refine Kept.ite (fun _ => ?_) (fun _ => ?_)
  with_reducible refine Kept.trans ?_ (State.setPatrol_kept _ _ _)
  with_reducible exact Kept.refl _
  with_reducible exact Kept.refl _

theorem State.patrolPass_kept (s : State) (far : Bool) : Kept s (State.patrolPass s far) := by
  unfold State.patrolPass
  dsimp only
  with_reducible refine Kept.trans ?_ (State.setPatrol_kept _ _ _)
  with_reducible refine Kept.ite (fun _ => ?_) (fun _ => ?_)
  with_reducible refine Kept.trans ?_ (State.incSat_kept _ _)
  with_reducible refine Kept.ite (fun _ => ?_) (fun _ => ?_)
  with_reducible refine Kept.trans ?_ (State.incSat_kept _ _)
  with_reducible exact Kept.refl _
  with_reducible refine Kept.trans ?_ (State.incSat_kept _ _)
  with_reducible exact Kept.refl _
  with_reducible refine Kept.ite (fun _ => ?_) (fun _ => ?_)
  with_reducible refine Kept.trans ?_ (State.incSat_kept _ _)
  with_reducible exact Kept.refl _
  with_reducible refine Kept.trans ?_ (State.incSat_kept _ _)
  with_reducible exact Kept.refl _

theorem execPatrolRead_kept (far : Bool) (found : Syndrome) (s : State) :
    Kept s (stateOf (execPatrolRead far found s) s) := by
  unfold execPatrolRead
  refine Kept.next ?_
  with_reducible refine Kept.ite (fun _ => ?_) (fun _ => ?_)
  dsimp only
  with_reducible refine Kept.ite (fun _ => ?_) (fun _ => ?_)
  with_reducible refine Kept.trans ?_ (State.patrolPace_kept _ _ _)
  with_reducible refine Kept.ite (fun _ => ?_) (fun _ => ?_)
  with_reducible refine Kept.trans ?_ (State.wr_kept _ _ _)
  with_reducible refine Kept.trans ?_ (State.storeSense_kept _ _ _)
  with_reducible exact Kept.refl _
  with_reducible refine Kept.trans ?_ (State.wr_kept _ _ _)
  with_reducible refine Kept.trans ?_ (State.storeSense_kept _ _ _)
  with_reducible exact Kept.refl _
  with_reducible refine Kept.trans ?_ (State.patrolPass_kept _ _)
  with_reducible refine Kept.ite (fun _ => ?_) (fun _ => ?_)
  with_reducible refine Kept.trans ?_ (State.wr_kept _ _ _)
  with_reducible refine Kept.trans ?_ (State.storeSense_kept _ _ _)
  with_reducible exact Kept.refl _
  with_reducible refine Kept.trans ?_ (State.wr_kept _ _ _)
  with_reducible refine Kept.trans ?_ (State.storeSense_kept _ _ _)
  with_reducible exact Kept.refl _
  with_reducible exact Kept.refl _

theorem execPatrolPeriodElapsed_kept (far : Bool) (s : State) : Kept s (stateOf (execPatrolPeriodElapsed far s) s) := by
  unfold execPatrolPeriodElapsed
  refine Kept.next ?_
  with_reducible refine Kept.ite (fun _ => ?_) (fun _ => ?_)
  with_reducible exact Kept.refl _
  with_reducible refine Kept.ite (fun _ => ?_) (fun _ => ?_)
  with_reducible exact Kept.refl _
  with_reducible refine Kept.trans ?_ (State.setPatrol_kept _ _ _)
  with_reducible refine Kept.trans ?_ (State.incSat_kept _ _)
  with_reducible exact Kept.refl _

theorem State.bufEffect_kept (s : State) (b : Nat) : Kept s (State.bufEffect s b) := by
  unfold State.bufEffect
  with_reducible refine Kept.trans ?_ (State.wrAt_kept _ _ _ _)
  with_reducible refine Kept.trans ?_ (State.relocateSlots_kept _ _ _ _)
  with_reducible exact Kept.refl _

theorem State.bufDefine_kept (s : State) (b len : Nat) : Kept s (State.bufDefine s b len) := by
  unfold State.bufDefine
  with_reducible refine Kept.ite (fun _ => ?_) (fun _ => ?_)
  with_reducible exact Kept.refl _
  dsimp only
  split
  with_reducible refine Kept.trans ?_ (State.wr_kept _ _ _)
  with_reducible refine Kept.trans ?_ (State.wr_kept _ _ _)
  with_reducible refine Kept.trans ?_ (State.wrAt_kept _ _ _ _)
  with_reducible refine Kept.trans ?_ (State.wrAt_kept _ _ _ _)
  with_reducible exact Kept.refl _
  with_reducible refine Kept.ite (fun _ => ?_) (fun _ => ?_)
  with_reducible refine Kept.trans ?_ (State.bufEffect_kept _ _)
  with_reducible refine Kept.trans ?_ (State.wrAt_kept _ _ _ _)
  with_reducible refine Kept.trans ?_ (State.wrAt_kept _ _ _ _)
  with_reducible exact Kept.refl _
  with_reducible refine Kept.mk_same ?_ rfl rfl rfl rfl rfl
  with_reducible refine Kept.trans ?_ (State.wrAt_kept _ _ _ _)
  with_reducible refine Kept.trans ?_ (State.wrAt_kept _ _ _ _)
  with_reducible exact Kept.refl _

theorem State.bufRemove_kept (s : State) (b len : Nat) : Kept s (State.bufRemove s b len) := by
  unfold State.bufRemove
  with_reducible refine Kept.trans ?_ (State.wrAt_kept _ _ _ _)
  with_reducible refine Kept.trans ?_ (State.wrAt_kept _ _ _ _)
  with_reducible refine Kept.mk_same ?_ rfl rfl rfl rfl rfl
  with_reducible exact Kept.refl _

theorem State.bufGuarded_kept (s : State) (b : Nat) (act : State → State) (h : ∀ x, Kept x (act x)) :
    Kept s (State.bufGuarded s b act) := by
  unfold State.bufGuarded
  split
  · exact State.resRefuse_kept _ _ _ _ _ _
  · exact h s

theorem State.bufLenWrite_kept (s : State) (b v : Nat) : Kept s (State.bufLenWrite s b v) := by
  unfold State.bufLenWrite
  with_reducible refine Kept.trans ?_ (State.bufGuarded_kept _ _ _ ?_)
  with_reducible exact Kept.refl _
  intro _
  with_reducible refine Kept.ite (fun _ => ?_) (fun _ => ?_)
  with_reducible refine Kept.trans ?_ (State.bufDefine_kept _ _ _)
  with_reducible exact Kept.refl _
  with_reducible refine Kept.trans ?_ (State.bufRemove_kept _ _ _)
  with_reducible exact Kept.refl _

theorem State.bufBaseWrite_kept (s : State) (b v : Nat) : Kept s (State.bufBaseWrite s b v) := by
  unfold State.bufBaseWrite
  with_reducible refine Kept.trans ?_ (State.bufGuarded_kept _ _ _ ?_)
  with_reducible exact Kept.refl _
  intro _
  with_reducible refine Kept.ite (fun _ => ?_) (fun _ => ?_)
  with_reducible exact Kept.refl _
  with_reducible refine Kept.trans ?_ (State.wrAt_kept _ _ _ _)
  with_reducible exact Kept.refl _

theorem execBufferDefine_kept (buffer value : Nat) (s : State) : Kept s (stateOf (execBufferDefine buffer value s) s) := by
  unfold execBufferDefine
  refine Kept.next ?_
  with_reducible refine Kept.ite (fun _ => ?_) (fun _ => ?_)
  with_reducible refine Kept.trans ?_ (State.bufLenWrite_kept _ _ _)
  with_reducible exact Kept.refl _
  with_reducible exact Kept.refl _

theorem execBufferRemove_kept (buffer value : Nat) (s : State) : Kept s (stateOf (execBufferRemove buffer value s) s) := by
  unfold execBufferRemove
  refine Kept.next ?_
  with_reducible refine Kept.ite (fun _ => ?_) (fun _ => ?_)
  with_reducible refine Kept.trans ?_ (State.bufLenWrite_kept _ _ _)
  with_reducible exact Kept.refl _
  with_reducible exact Kept.refl _

theorem execBufferEffective_kept (buffer : Nat) (found : Found) (s : State) :
    Kept s (stateOf (execBufferEffective buffer found s) s) := by
  unfold execBufferEffective
  refine Kept.next ?_
  with_reducible refine Kept.ite (fun _ => ?_) (fun _ => ?_)
  dsimp only
  with_reducible refine Kept.trans ?_ (State.bufEffect_kept _ _)
  with_reducible refine Kept.mk_same ?_ rfl rfl rfl rfl rfl
  with_reducible refine Kept.trans ?_ (State.rehome_kept _ _ _ _)
  with_reducible exact Kept.refl _
  with_reducible exact Kept.refl _

theorem execStoreInitDone_kept (far : Bool) (s : State) : Kept s (stateOf (execStoreInitDone far s) s) := by
  unfold execStoreInitDone
  refine Kept.next ?_
  dsimp only
  with_reducible refine Kept.ite (fun _ => ?_) (fun _ => ?_)
  with_reducible refine Kept.ite (fun _ => ?_) (fun _ => ?_)
  with_reducible refine Kept.trans ?_ (State.logFlush_kept _)
  with_reducible refine Kept.trans ?_ (State.setPatrol_kept _ _ _)
  with_reducible refine Kept.trans ?_ (State.wr_kept _ _ _)
  with_reducible exact Kept.refl _
  with_reducible refine Kept.trans ?_ (State.setPatrol_kept _ _ _)
  with_reducible refine Kept.trans ?_ (State.wr_kept _ _ _)
  with_reducible exact Kept.refl _
  with_reducible exact Kept.refl _

end Sys2Proof.Machine
end

