-- ==== Sys2Proof/Laws/KeptAdmissionOps.lean ====
section
/-! SUPPORT. `Kept` for the functions of Machine/AdmissionOps.lean. -/

namespace Sys2Proof.Machine

open Sys2Proof

theorem State.setContract_kept (s : State) (f : Nat) (c : Contract) : Kept s (State.setContract s f c) := by
  unfold State.setContract
  with_reducible refine Kept.mk_same ?_ rfl rfl rfl rfl rfl
  with_reducible exact Kept.refl _

theorem State.countCarried_kept (s : State) (f : Nat) (c : Contract) : Kept s (State.countCarried s f c) := by
  unfold State.countCarried
  with_reducible refine Kept.ite (fun _ => ?_) (fun _ => ?_)
  with_reducible refine Kept.mk_same ?_ rfl rfl rfl rfl rfl
  with_reducible exact Kept.refl _
  with_reducible refine Kept.trans ?_ (State.setContract_kept _ _ _)
  with_reducible exact Kept.refl _

theorem State.setTicket_kept (s : State) (i : Nat) (t : Ticket) : Kept s (State.setTicket s i t) := by
  unfold State.setTicket
  with_reducible refine Kept.mk_same ?_ rfl rfl rfl rfl rfl
  with_reducible exact Kept.refl _

theorem State.enterTicket_kept (s : State) (t : Ticket) : Kept s (State.enterTicket s t).2 := by
  unfold State.enterTicket
  dsimp only
  with_reducible refine Kept.trans ?_ (State.setTicket_kept _ _ _)
  split
  with_reducible refine Kept.trans ?_ (State.takeSlots_kept _ _ _)
  with_reducible exact Kept.refl _
  with_reducible exact Kept.refl _

theorem State.stall_kept (s : State) (f : Nat) : Kept s (State.stall s f) := by
  unfold State.stall
  with_reducible refine Kept.ite (fun _ => ?_) (fun _ => ?_)
  with_reducible exact Kept.refl _
  with_reducible refine Kept.trans ?_ (State.postLimited_kept _ _ _ _ _ _)
  with_reducible refine Kept.trans ?_ (State.incSat_kept _ _)
  with_reducible refine Kept.mk_same ?_ rfl rfl rfl rfl rfl
  with_reducible exact Kept.refl _

theorem State.bestEffort_kept (s : State) (t : Ticket) : Kept s (State.bestEffort s t).2 := by
  unfold State.bestEffort
  dsimp only
  split
  dsimp only
  with_reducible refine Kept.trans ?_ (State.incSat_kept _ _)
  with_reducible exact Kept.refl _
  split
  dsimp only
  with_reducible refine Kept.trans ?_ (State.postLimited_kept _ _ _ _ _ _)
  with_reducible refine Kept.trans ?_ (State.incSat_kept _ _)
  with_reducible exact Kept.refl _
  split
  dsimp only
  with_reducible refine Kept.trans ?_ (State.postLimited_kept _ _ _ _ _ _)
  with_reducible refine Kept.trans ?_ (State.incSat_kept _ _)
  with_reducible exact Kept.refl _
  with_reducible refine Kept.trans ?_ (State.enterTicket_kept _ _)
  with_reducible exact Kept.refl _

theorem State.createTicket_kept (s : State) (t : Ticket) : Kept s (State.createTicket s t).2 := by
  unfold State.createTicket
  dsimp only
  split
  with_reducible exact Kept.refl _
  split
  with_reducible refine Kept.trans ?_ (State.bestEffort_kept _ _)
  with_reducible exact Kept.refl _
  split
  with_reducible refine Kept.trans ?_ (State.bestEffort_kept _ _)
  with_reducible exact Kept.refl _
  split
  dsimp only
  with_reducible refine Kept.trans ?_ (State.stall_kept _ _)
  with_reducible exact Kept.refl _
  split
  with_reducible refine Kept.trans ?_ (State.bestEffort_kept _ _)
  with_reducible refine Kept.trans ?_ (State.postLimited_kept _ _ _ _ _ _)
  with_reducible refine Kept.trans ?_ (State.incSat_kept _ _)
  with_reducible exact Kept.refl _
  split
  dsimp only
  with_reducible refine Kept.trans ?_ (State.stall_kept _ _)
  with_reducible exact Kept.refl _
  with_reducible refine Kept.trans ?_ (State.enterTicket_kept _ _)
  with_reducible refine Kept.trans ?_ (State.countCarried_kept _ _ _)
  with_reducible exact Kept.refl _

theorem State.orphan_kept (s : State) (i : Nat) (t : Ticket) : Kept s (State.orphan s i t) := by
  unfold State.orphan
  dsimp only
  with_reducible refine Kept.trans ?_ (State.setFlowRun_kept _ _ _)
  with_reducible exact Kept.refl _

theorem State.releaseTicket_kept (s : State) (i : Nat) : Kept s (State.releaseTicket s i) := by
  unfold State.releaseTicket
  dsimp only
  split
  with_reducible exact Kept.refl _
  with_reducible refine Kept.mk_same ?_ rfl rfl rfl rfl rfl
  with_reducible refine Kept.ite (fun _ => ?_) (fun _ => ?_)
  with_reducible exact Kept.refl _
  with_reducible refine Kept.trans ?_ (State.orphan_kept _ _ _)
  with_reducible exact Kept.refl _

theorem State.countLate_kept (s : State) (f : Nat) : Kept s (State.countLate s f) := by
  unfold State.countLate
  split
  with_reducible exact Kept.refl _
  with_reducible refine Kept.trans ?_ (State.setContract_kept _ _ _)
  with_reducible exact Kept.refl _

theorem State.countDiscarded_kept (s : State) (f : Nat) : Kept s (State.countDiscarded s f) := by
  unfold State.countDiscarded
  split
  with_reducible exact Kept.refl _
  with_reducible refine Kept.trans ?_ (State.setContract_kept _ _ _)
  with_reducible exact Kept.refl _

theorem State.keepHold_kept (s : State) (t : Ticket) : Kept s (State.keepHold s t) := by
  unfold State.keepHold
  dsimp only
  with_reducible refine Kept.ite (fun _ => ?_) (fun _ => ?_)
  with_reducible exact Kept.refl _
  with_reducible refine Kept.ite (fun _ => ?_) (fun _ => ?_)
  with_reducible exact Kept.refl _
  with_reducible refine Kept.trans ?_ (State.setFlowRun_kept _ _ _)
  with_reducible exact Kept.refl _

theorem State.deliverTicket_kept (s : State) (i : Nat) : Kept s (State.deliverTicket s i) := by
  unfold State.deliverTicket
  split
  with_reducible exact Kept.refl _
  dsimp only
  with_reducible refine Kept.trans ?_ (State.releaseTicket_kept _ _)
  with_reducible refine Kept.trans ?_ (State.keepHold_kept _ _)
  with_reducible refine Kept.ite (fun _ => ?_) (fun _ => ?_)
  with_reducible refine Kept.trans ?_ (State.postLimited_kept _ _ _ _ _ _)
  with_reducible refine Kept.trans ?_ (State.flowStat_kept _ _ _ _)
  with_reducible refine Kept.trans ?_ (State.countLate_kept _ _)
  with_reducible refine Kept.trans ?_ (State.incSat_kept _ _)
  with_reducible exact Kept.refl _
  with_reducible refine Kept.ite (fun _ => ?_) (fun _ => ?_)
  with_reducible refine Kept.trans ?_ (State.incSat_kept _ _)
  with_reducible exact Kept.refl _
  with_reducible exact Kept.refl _

theorem State.discardLate_kept (s : State) (i : Nat) (t : Ticket) : Kept s (State.discardLate s i t) := by
  unfold State.discardLate
  with_reducible refine Kept.trans ?_ (State.releaseTicket_kept _ _)
  with_reducible refine Kept.trans ?_ (State.postLimited_kept _ _ _ _ _ _)
  with_reducible refine Kept.trans ?_ (State.flowStat_kept _ _ _ _)
  with_reducible refine Kept.trans ?_ (State.countDiscarded_kept _ _)
  with_reducible refine Kept.trans ?_ (State.incSat_kept _ _)
  with_reducible exact Kept.refl _

theorem State.dropTickets_kept (s : State) : Kept s (State.dropTickets s) := by
  unfold State.dropTickets
  with_reducible refine Kept.mk_same ?_ rfl rfl rfl rfl rfl
  with_reducible exact Kept.refl _

theorem State.loseContract_kept (s : State) (why f : Nat) : Kept s (State.loseContract s why f) := by
  unfold State.loseContract
  split
  with_reducible exact Kept.refl _
  with_reducible refine Kept.ite (fun _ => ?_) (fun _ => ?_)
  with_reducible refine Kept.trans ?_ (State.post_kept _ _ _ _ _)
  with_reducible refine Kept.trans ?_ (State.affect_kept _ _)
  with_reducible refine Kept.trans ?_ (State.setContract_kept _ _ _)
  with_reducible exact Kept.refl _
  with_reducible exact Kept.refl _

theorem State.withdrawEnds_kept (s : State) (ids : List Nat) : Kept s (State.withdrawEnds s ids) := by
  unfold State.withdrawEnds
  with_reducible refine Kept.trans ?_ (Kept.foldl _ _ _ ?_)
  with_reducible exact Kept.refl _
  intro _ _
  with_reducible refine Kept.trans ?_ (State.complete_kept _ _ _)
  with_reducible exact Kept.refl _

theorem State.dropAdmission_kept (s : State) : Kept s (State.dropAdmission s) := by
  unfold State.dropAdmission
  dsimp only
  with_reducible refine Kept.mk_same ?_ rfl rfl rfl rfl rfl
  with_reducible refine Kept.trans ?_ (State.dropTickets_kept _)
  with_reducible refine Kept.trans ?_ (Kept.foldl _ _ _ ?_)
  with_reducible refine Kept.trans ?_ (State.withdrawEnds_kept _ _)
  with_reducible exact Kept.refl _
  intro _ _
  with_reducible refine Kept.trans ?_ (State.complete_kept _ _ _)
  with_reducible exact Kept.refl _

theorem State.beginRecheck_kept (s : State) : Kept s (State.beginRecheck s) := by
  unfold State.beginRecheck
  split
  with_reducible refine Kept.trans ?_ (State.wr_kept _ _ _)
  with_reducible exact Kept.refl _
  with_reducible refine Kept.trans ?_ (State.post_kept _ _ _ _ _)
  with_reducible refine Kept.trans ?_ (State.wr_kept _ _ _)
  with_reducible exact Kept.refl _

theorem State.startRecheck_kept (s : State) (kind inst : Nat) : Kept s (State.startRecheck s kind inst) := by
  unfold State.startRecheck
  dsimp only
  with_reducible refine Kept.ite (fun _ => ?_) (fun _ => ?_)
  with_reducible refine Kept.trans ?_ (State.beginRecheck_kept _)
  with_reducible refine Kept.mk_same ?_ rfl rfl rfl rfl rfl
  with_reducible exact Kept.refl _
  with_reducible refine Kept.mk_same ?_ rfl rfl rfl rfl rfl
  with_reducible exact Kept.refl _

theorem State.demote_kept (s : State) (f kind : Nat) : Kept s (State.demote s f kind) := by
  unfold State.demote
  dsimp only
  split
  with_reducible exact Kept.refl _
  with_reducible refine Kept.trans ?_ (State.withdrawEnds_kept _ _)
  with_reducible refine Kept.trans ?_ (State.post_kept _ _ _ _ _)
  with_reducible refine Kept.trans ?_ (State.affect_kept _ _)
  with_reducible refine Kept.trans ?_ (State.incSat_kept _ _)
  with_reducible refine Kept.mk_same ?_ rfl rfl rfl rfl rfl
  with_reducible refine Kept.trans ?_ (State.setContract_kept _ _ _)
  with_reducible exact Kept.refl _

end Sys2Proof.Machine
end

