-- ==== Sys2Proof/Laws/KeptAdmission.lean ====
section
/-! SUPPORT. `Kept` for the functions of Machine/Admission.lean. -/

namespace Sys2Proof.Machine

open Sys2Proof

theorem execAdmitFlow_kept (id : Nat) (s : State) : Kept s (stateOf (execAdmitFlow id s) s) := by
  unfold execAdmitFlow
  refine Kept.next ?_
  with_reducible refine Kept.trans ?_ (State.startCmd_kept _ _ _ _ ?_)
  with_reducible exact Kept.refl _
  intro _ _
  split
  dsimp only
  with_reducible exact Kept.refl _
  split
  dsimp only
  with_reducible exact Kept.refl _
  dsimp only
  with_reducible refine Kept.mk_same ?_ rfl rfl rfl rfl rfl
  with_reducible exact Kept.refl _

theorem State.admitRefused_kept (s : State) (q : AdmitRequest) (x : AdmitFailure) : Kept s (State.admitRefused s q x) := by
  unfold State.admitRefused
  dsimp only
  with_reducible refine Kept.trans ?_ (State.complete_kept _ _ _)
  with_reducible refine Kept.ite (fun _ => ?_) (fun _ => ?_)
  with_reducible refine Kept.trans ?_ (State.wr_kept _ _ _)
  with_reducible refine Kept.trans ?_ (State.wr_kept _ _ _)
  with_reducible refine Kept.trans ?_ (State.wr_kept _ _ _)
  with_reducible refine Kept.trans ?_ (State.wr_kept _ _ _)
  with_reducible exact Kept.refl _
  with_reducible refine Kept.trans ?_ (State.incSat_kept _ _)
  with_reducible refine Kept.trans ?_ (State.wr_kept _ _ _)
  with_reducible refine Kept.trans ?_ (State.wr_kept _ _ _)
  with_reducible refine Kept.trans ?_ (State.wr_kept _ _ _)
  with_reducible refine Kept.trans ?_ (State.wr_kept _ _ _)
  with_reducible exact Kept.refl _

theorem State.contractTakes_kept (s : State) (f : Nat) (c : Contract) : Kept s (State.contractTakes s f c) := by
  unfold State.contractTakes
  dsimp only
  with_reducible refine Kept.mk_same ?_ rfl rfl rfl rfl rfl
  with_reducible refine Kept.trans ?_ (State.setContract_kept _ _ _)
  with_reducible exact Kept.refl _

theorem State.admitted_kept (s : State) (q : AdmitRequest) (c : Contract) : Kept s (State.admitted s q c) := by
  unfold State.admitted
  dsimp only
  with_reducible refine Kept.ite (fun _ => ?_) (fun _ => ?_)
  with_reducible refine Kept.trans ?_ (State.complete_kept _ _ _)
  with_reducible exact Kept.refl _
  with_reducible refine Kept.trans ?_ (State.withdrawEnds_kept _ _)
  with_reducible refine Kept.trans ?_ (State.complete_kept _ _ _)
  with_reducible refine Kept.trans ?_ (State.contractTakes_kept _ _ _)
  with_reducible exact Kept.refl _

theorem execAdmissionCheckDone_kept (s : State) : Kept s (stateOf (execAdmissionCheckDone s) s) := by
  unfold execAdmissionCheckDone
  refine Kept.next ?_
  dsimp only
  split
  with_reducible exact Kept.refl _
  with_reducible refine Kept.ite (fun _ => ?_) (fun _ => ?_)
  with_reducible exact Kept.refl _
  with_reducible refine Kept.ite (fun _ => ?_) (fun _ => ?_)
  with_reducible refine Kept.trans ?_ (State.complete_kept _ _ _)
  with_reducible refine Kept.mk_same ?_ rfl rfl rfl rfl rfl
  with_reducible exact Kept.refl _
  split
  with_reducible refine Kept.trans ?_ (State.admitRefused_kept _ _ _)
  with_reducible refine Kept.mk_same ?_ rfl rfl rfl rfl rfl
  with_reducible exact Kept.refl _
  with_reducible refine Kept.trans ?_ (State.admitted_kept _ _ _)
  with_reducible refine Kept.mk_same ?_ rfl rfl rfl rfl rfl
  with_reducible exact Kept.refl _

theorem State.withdraw_kept (s : State) (f : Nat) (ids : List Nat) : Kept s (State.withdraw s f ids) := by
  unfold State.withdraw
  split
  with_reducible exact Kept.refl _
  with_reducible refine Kept.trans ?_ (State.setContract_kept _ _ _)
  with_reducible exact Kept.refl _

theorem execWithdraw_kept (id : Nat) (s : State) : Kept s (stateOf (execWithdraw id s) s) := by
  unfold execWithdraw
  refine Kept.next ?_
  with_reducible refine Kept.trans ?_ (State.startCmd_kept _ _ _ _ ?_)
  with_reducible exact Kept.refl _
  intro _ _
  dsimp only
  split
  dsimp only
  with_reducible exact Kept.refl _
  split
  dsimp only
  with_reducible exact Kept.refl _
  split
  dsimp only
  with_reducible exact Kept.refl _
  dsimp only
  with_reducible refine Kept.trans ?_ (State.withdraw_kept _ _ _)
  with_reducible exact Kept.refl _

theorem execWithdrawDone_kept (flow : Nat) (s : State) : Kept s (stateOf (execWithdrawDone flow s) s) := by
  unfold execWithdrawDone
  refine Kept.next ?_
  split
  with_reducible exact Kept.refl _
  with_reducible refine Kept.ite (fun _ => ?_) (fun _ => ?_)
  with_reducible refine Kept.trans ?_ (Kept.foldl _ _ _ ?_)
  with_reducible refine Kept.mk_same ?_ rfl rfl rfl rfl rfl
  with_reducible exact Kept.refl _
  intro _ _
  with_reducible refine Kept.trans ?_ (State.complete_kept _ _ _)
  with_reducible exact Kept.refl _
  with_reducible exact Kept.refl _

theorem execContractQuery_kept (id : Nat) (s : State) : Kept s (stateOf (execContractQuery id s) s) := by
  unfold execContractQuery
  refine Kept.next ?_
  with_reducible refine Kept.trans ?_ (State.runCmd_kept _ _ _ _ ?_)
  with_reducible exact Kept.refl _
  intro _ _
  dsimp only
  split
  dsimp only
  with_reducible exact Kept.refl _
  split
  dsimp only
  with_reducible exact Kept.refl _
  dsimp only
  with_reducible exact Kept.refl _

theorem execTicketCreate_kept (flow words : Nat) (s : State) : Kept s (stateOf (execTicketCreate flow words s) s) := by
  unfold execTicketCreate
  refine Kept.next ?_
  with_reducible refine Kept.ite (fun _ => ?_) (fun _ => ?_)
  with_reducible refine Kept.trans ?_ (State.createTicket_kept _ _)
  with_reducible exact Kept.refl _
  with_reducible exact Kept.refl _

theorem execRecheckDone_kept (s : State) : Kept s (stateOf (execRecheckDone s) s) := by
  unfold execRecheckDone
  refine Kept.next ?_
  split
  with_reducible exact Kept.refl _
  dsimp only
  with_reducible refine Kept.trans ?_ (State.beginRecheck_kept _)
  with_reducible refine Kept.trans ?_ (State.post_kept _ _ _ _ _)
  with_reducible refine Kept.trans ?_ (State.incSat_kept _ _)
  with_reducible refine Kept.mk_same ?_ rfl rfl rfl rfl rfl
  with_reducible refine Kept.trans ?_ (Kept.foldl _ _ _ ?_)
  with_reducible exact Kept.refl _
  intro _ _
  with_reducible refine Kept.trans ?_ (State.demote_kept _ _ _)
  with_reducible exact Kept.refl _

theorem State.discardFor_kept (s : State) (far : Bool) (u : Nat) (l : List Nat) : Kept s (State.discardFor s far u l).2 := by
  induction l generalizing s with
  | nil =>
    unfold State.discardFor
    dsimp only
    with_reducible exact Kept.refl _
  | cons a r ih =>
    unfold State.discardFor
    split
    dsimp only
    with_reducible exact Kept.refl _
    dsimp only
    with_reducible refine Kept.trans ?_ (ih ..)
    with_reducible refine Kept.trans ?_ (State.releaseTicket_kept _ _)
    with_reducible refine Kept.trans ?_ (State.incSat_kept _ _)
    with_reducible exact Kept.refl _

theorem State.markRelocated_kept (far : Bool) (u : Nat) (s : State) (b : Nat) : Kept s (State.markRelocated far u s b) := by
  unfold State.markRelocated
  dsimp only
  with_reducible refine Kept.ite (fun _ => ?_) (fun _ => ?_)
  with_reducible refine Kept.trans ?_ (State.wrAt_kept _ _ _ _)
  with_reducible exact Kept.refl _
  with_reducible exact Kept.refl _

theorem execRelocationDone_kept (far : Bool) (unit : Nat) (found : Found) (s : State) :
    Kept s (stateOf (execRelocationDone far unit found s) s) := by
  unfold execRelocationDone
  refine Kept.next ?_
  with_reducible refine Kept.ite (fun _ => ?_) (fun _ => ?_)
  dsimp only
  with_reducible refine Kept.trans ?_ (State.startRecheck_kept _ _ _)
  with_reducible refine Kept.trans ?_ (State.post_kept _ _ _ _ _)
  with_reducible refine Kept.ite (fun _ => ?_) (fun _ => ?_)
  with_reducible refine Kept.trans ?_ (State.wrAt_kept _ _ _ _)
  with_reducible refine Kept.trans ?_ (State.wr_kept _ _ _)
  with_reducible refine Kept.trans ?_ (State.wrBit_kept _ _ _ _)
  with_reducible refine Kept.mk_same ?_ rfl rfl rfl rfl rfl
  with_reducible refine Kept.trans ?_ (Kept.foldl _ _ _ ?_)
  with_reducible refine Kept.trans ?_ (State.rehome_kept _ _ _ _)
  with_reducible refine Kept.trans ?_ (State.relocateSlots_kept _ _ _ _)
  with_reducible refine Kept.ite (fun _ => ?_) (fun _ => ?_)
  with_reducible refine Kept.trans ?_ (State.discardFor_kept _ _ _ _)
  with_reducible exact Kept.refl _
  with_reducible refine Kept.trans ?_ (State.post_kept _ _ _ _ _)
  with_reducible refine Kept.trans ?_ (State.discardFor_kept _ _ _ _)
  with_reducible exact Kept.refl _
  intro _ _
  with_reducible refine Kept.trans ?_ (State.markRelocated_kept _ _ _ _)
  with_reducible exact Kept.refl _
  with_reducible refine Kept.trans ?_ (State.wrAt_kept _ _ _ _)
  with_reducible refine Kept.trans ?_ (State.wr_kept _ _ _)
  with_reducible refine Kept.trans ?_ (State.wrBit_kept _ _ _ _)
  with_reducible refine Kept.mk_same ?_ rfl rfl rfl rfl rfl
  with_reducible refine Kept.trans ?_ (Kept.foldl _ _ _ ?_)
  with_reducible refine Kept.trans ?_ (State.rehome_kept _ _ _ _)
  with_reducible refine Kept.trans ?_ (State.relocateSlots_kept _ _ _ _)
  with_reducible refine Kept.ite (fun _ => ?_) (fun _ => ?_)
  with_reducible refine Kept.trans ?_ (State.discardFor_kept _ _ _ _)
  with_reducible exact Kept.refl _
  with_reducible refine Kept.trans ?_ (State.post_kept _ _ _ _ _)
  with_reducible refine Kept.trans ?_ (State.discardFor_kept _ _ _ _)
  with_reducible exact Kept.refl _
  intro _ _
  with_reducible refine Kept.trans ?_ (State.markRelocated_kept _ _ _ _)
  with_reducible exact Kept.refl _
  with_reducible exact Kept.refl _

end Sys2Proof.Machine
end

