-- ==== Sys2Proof/Laws/KeptAccess.lean ====
section
/-! SUPPORT. `Kept` for the functions of Machine/Access.lean. -/

namespace Sys2Proof.Machine

open Sys2Proof

theorem State.ticketFilled_kept (s : State) (i : Nat) (t : Ticket) (left : List Nat) :
    Kept s (State.ticketFilled s i t left) := by
  unfold State.ticketFilled
  dsimp only
  with_reducible refine Kept.ite (fun _ => ?_) (fun _ => ?_)
  with_reducible refine Kept.trans ?_ (State.incSat_kept _ _)
  with_reducible refine Kept.trans ?_ (State.setTicket_kept _ _ _)
  with_reducible exact Kept.refl _
  with_reducible refine Kept.trans ?_ (State.setTicket_kept _ _ _)
  with_reducible exact Kept.refl _

theorem State.wordWritten_kept (s : State) (a : Nat) : Kept s (State.wordWritten s a) := by
  unfold State.wordWritten
  split
  with_reducible exact Kept.refl _
  with_reducible refine Kept.trans ?_ (State.ticketFilled_kept _ _ _ _)
  with_reducible exact Kept.refl _

theorem State.serveAccess_kept (s : State) (x : StoreAccess) : Kept s (State.serveAccess s x) := by
  unfold State.serveAccess
  dsimp only
  split
  with_reducible refine Kept.trans ?_ (State.wordWritten_kept _ _)
  with_reducible refine Kept.trans ?_ (State.storePut_kept _ _ _)
  with_reducible exact Kept.refl _
  with_reducible refine Kept.mk_same ?_ rfl rfl rfl rfl rfl
  with_reducible refine Kept.trans ?_ (State.storeSense_kept _ _ _)
  with_reducible exact Kept.refl _

theorem State.serveUnit_kept (s : State) (far : Bool) (u : Nat) : Kept s (State.serveUnit s far u) := by
  unfold State.serveUnit
  with_reducible refine Kept.ite (fun _ => ?_) (fun _ => ?_)
  with_reducible exact Kept.refl _
  dsimp only
  split
  with_reducible exact Kept.refl _
  with_reducible refine Kept.trans ?_ (State.serveAccess_kept _ _)
  with_reducible refine Kept.mk_same ?_ rfl rfl rfl rfl rfl
  with_reducible exact Kept.refl _

theorem State.serveUnits_kept (s : State) : Kept s (State.serveUnits s) := by
  unfold State.serveUnits
  with_reducible refine Kept.trans ?_ (Kept.foldl _ _ _ ?_)
  with_reducible exact Kept.refl _
  intro _ _
  with_reducible refine Kept.trans ?_ (State.serveUnit_kept _ _ _)
  with_reducible exact Kept.refl _

theorem State.present_kept (s : State) (x : StoreAccess) : Kept s (State.present s x) := by
  unfold State.present
  with_reducible refine Kept.ite (fun _ => ?_) (fun _ => ?_)
  with_reducible refine Kept.trans ?_ (State.serveUnit_kept _ _ _)
  with_reducible refine Kept.mk_same ?_ rfl rfl rfl rfl rfl
  with_reducible exact Kept.refl _
  with_reducible exact Kept.refl _

theorem execStoreWrite_kept (requester : Requester) (number addr data : Nat) (poison : Bool) (s : State) :
    Kept s (stateOf (execStoreWrite requester number addr data poison s) s) := by
  unfold execStoreWrite
  refine Kept.next ?_
  split
  with_reducible refine Kept.trans ?_ (State.addrRefuse_kept _ _ _)
  with_reducible exact Kept.refl _
  with_reducible refine Kept.trans ?_ (State.present_kept _ _)
  with_reducible exact Kept.refl _

theorem execStoreRead_kept (requester : Requester) (number addr : Nat) (found : Syndrome) (s : State) :
    Kept s (stateOf (execStoreRead requester number addr found s) s) := by
  unfold execStoreRead
  refine Kept.next ?_
  dsimp only
  split
  with_reducible refine Kept.mk_same ?_ rfl rfl rfl rfl rfl
  with_reducible refine Kept.trans ?_ (State.took_kept _)
  with_reducible refine Kept.trans ?_ (State.addrRefuse_kept _ _ _)
  with_reducible exact Kept.refl _
  with_reducible refine Kept.trans ?_ (State.present_kept _ _)
  with_reducible exact Kept.refl _

end Sys2Proof.Machine
end

