-- ==== Sys2Proof/Laws/KeptPackets.lean ====
section
/-! SUPPORT. `Kept` for the functions of Machine/Packets.lean. -/

namespace Sys2Proof.Machine

open Sys2Proof

end Sys2Proof.Machine
end

