-- ==== Sys2Proof/Laws/KeptBlocks.lean ====
section
/-! SUPPORT. `Kept` for the functions of Machine/Blocks.lean. -/

namespace Sys2Proof.Machine

open Sys2Proof

theorem State.setBondRun_kept (s : State) (b : Nat) (r : BondRun) : Kept s (State.setBondRun s b r) := by
  unfold State.setBondRun
  with_reducible refine Kept.mk_same ?_ rfl rfl rfl rfl rfl
  with_reducible exact Kept.refl _

theorem State.sendBlock_kept (s : State) (b p slot : Nat) (x : LinkBlock) : Kept s (State.sendBlock s b p slot x).2 := by
  unfold State.sendBlock
  dsimp only
  with_reducible refine Kept.trans ?_ (State.setBondRun_kept _ _ _)
  with_reducible exact Kept.refl _

theorem State.sendFrom_kept (s : State) (b k slot : Nat) (bs : List LinkBlock) : Kept s (State.sendFrom s b k slot bs).2 := by
  induction bs generalizing s b k slot with
  | nil =>
    unfold State.sendFrom
    with_reducible exact Kept.refl _
  | cons a r ih =>
    unfold State.sendFrom
    dsimp only
    with_reducible refine Kept.trans ?_ (ih ..)
    with_reducible refine Kept.trans ?_ (State.sendBlock_kept _ _ _ _ _)
    with_reducible exact Kept.refl _

theorem State.fillIdle_kept (s : State) (b : Nat) : Kept s (State.fillIdle s b) := by
  unfold State.fillIdle
  dsimp only
  with_reducible refine Kept.ite (fun _ => ?_) (fun _ => ?_)
  with_reducible refine Kept.trans ?_ (State.tookN_kept _ _)
  with_reducible refine Kept.trans ?_ (State.setBondRun_kept _ _ _)
  with_reducible exact Kept.refl _
  with_reducible exact Kept.refl _

theorem State.sendBlocks_kept (s : State) (b : Nat) (bs : List LinkBlock) : Kept s (State.sendBlocks s b bs).2 := by
  unfold State.sendBlocks
  dsimp only
  with_reducible refine Kept.trans ?_ (State.setBondRun_kept _ _ _)
  with_reducible refine Kept.trans ?_ (State.sendFrom_kept _ _ _ _ _)
  with_reducible refine Kept.trans ?_ (State.fillIdle_kept _ _)
  with_reducible exact Kept.refl _

theorem State.takeBlock_kept (s : State) (b p v : Nat) : Kept s (State.takeBlock s b p v).2 := by
  unfold State.takeBlock
  dsimp only
  with_reducible refine Kept.ite (fun _ => ?_) (fun _ => ?_)
  with_reducible refine Kept.trans ?_ (State.addSatAt_kept _ _ _ _)
  with_reducible refine Kept.trans ?_ (State.setBondRun_kept _ _ _)
  with_reducible exact Kept.refl _
  with_reducible refine Kept.trans ?_ (State.setBondRun_kept _ _ _)
  with_reducible exact Kept.refl _

theorem State.takeBlocks_kept (s : State) (b p : Nat) (vs : List Nat) : Kept s (State.takeBlocks s b p vs).2 := by
  induction vs generalizing s b p with
  | nil =>
    unfold State.takeBlocks
    with_reducible exact Kept.refl _
  | cons a r ih =>
    unfold State.takeBlocks
    dsimp only
    with_reducible refine Kept.trans ?_ (ih ..)
    with_reducible refine Kept.trans ?_ (State.takeBlock_kept _ _ _ _)
    with_reducible exact Kept.refl _

theorem State.takeReleased_kept (s : State) (b : Nat) (vs : List (Nat × Nat)) : Kept s (State.takeReleased s b vs).2 := by
  induction vs generalizing s b with
  | nil =>
    unfold State.takeReleased
    with_reducible exact Kept.refl _
  | cons a r ih =>
    unfold State.takeReleased
    dsimp only
    with_reducible refine Kept.trans ?_ (ih ..)
    with_reducible refine Kept.trans ?_ (State.takeBlock_kept _ _ _ _)
    with_reducible exact Kept.refl _

theorem State.receiveBlocks_kept (s : State) (b : Nat) (arrived : List (List Nat)) :
    Kept s (State.receiveBlocks s b arrived).2 := by
  unfold State.receiveBlocks
  dsimp only
  with_reducible refine Kept.trans ?_ (State.takeReleased_kept _ _ _)
  with_reducible refine Kept.trans ?_ (State.setBondRun_kept _ _ _)
  with_reducible exact Kept.refl _

end Sys2Proof.Machine
end

