-- ==== Sys2Proof/Laws/KeptFlowOps.lean ====
section
/-! SUPPORT. `Kept` for the functions of Machine/FlowOps.lean. -/

namespace Sys2Proof.Machine

open Sys2Proof

theorem State.setFlowWord_kept (s : State) (f n v : Nat) : Kept s (State.setFlowWord s f n v) := by
  unfold State.setFlowWord
  with_reducible refine Kept.mk_same ?_ rfl rfl rfl rfl rfl
  with_reducible exact Kept.refl _

theorem State.setFlowEn_kept (s : State) (f : Nat) (b : Bool) : Kept s (State.setFlowEn s f b) := by
  unfold State.setFlowEn
  with_reducible refine Kept.trans ?_ (State.setFlowWord_kept _ _ _ _)
  with_reducible exact Kept.refl _

theorem State.flowEvent_kept (s : State) (code f severity bits n : Nat) (counted : Bool) :
    Kept s (State.flowEvent s code f severity bits n counted) := by
  unfold State.flowEvent
  with_reducible refine Kept.trans ?_ (State.postLimitedN_kept _ _ _ _ _ _ _)
  with_reducible exact Kept.refl _

theorem State.writeSegment_kept (s : State) (f : Nat) (g : Segment) (all : Bool) : Kept s (State.writeSegment s f g all) := by
  unfold State.writeSegment
  dsimp only
  split
  with_reducible exact Kept.refl _
  split
  with_reducible exact Kept.refl _
  with_reducible refine Kept.ite (fun _ => ?_) (fun _ => ?_)
  with_reducible exact Kept.refl _
  with_reducible refine Kept.trans ?_ (State.ticketFilled_kept _ _ _ _)
  with_reducible refine Kept.trans ?_ (Kept.foldl _ _ _ ?_)
  with_reducible exact Kept.refl _
  intro _ _
  with_reducible refine Kept.trans ?_ (State.storePut_kept _ _ _)
  with_reducible exact Kept.refl _

theorem State.noteReceived_kept (s : State) (f k : Nat) : Kept s (State.noteReceived s f k) := by
  unfold State.noteReceived
  dsimp only
  with_reducible refine Kept.ite (fun _ => ?_) (fun _ => ?_)
  with_reducible exact Kept.refl _
  with_reducible refine Kept.trans ?_ (State.setFlowRun_kept _ _ _)
  with_reducible exact Kept.refl _

theorem State.closeSegment_kept (f : Nat) (s : State) (g : Segment) : Kept s (State.closeSegment f s g) := by
  unfold State.closeSegment
  dsimp only
  with_reducible refine Kept.trans ?_ (State.noteReceived_kept _ _ _)
  with_reducible refine Kept.trans ?_ (State.setFlowRun_kept _ _ _)
  with_reducible refine Kept.trans ?_ (State.flowStat_kept _ _ _ _)
  with_reducible refine Kept.trans ?_ (State.flowStat_kept _ _ _ _)
  with_reducible refine Kept.trans ?_ (State.writeSegment_kept _ _ _ _)
  with_reducible exact Kept.refl _

theorem State.closeSegments_kept (s : State) (f : Nat) (p : Segment → Bool) : Kept s (State.closeSegments s f p) := by
  unfold State.closeSegments
  with_reducible refine Kept.trans ?_ (Kept.foldl _ _ _ ?_)
  with_reducible exact Kept.refl _
  intro _ _
  with_reducible refine Kept.trans ?_ (State.closeSegment_kept _ _ _)
  with_reducible exact Kept.refl _

theorem State.deviceDisable_kept (s : State) (why f : Nat) : Kept s (State.deviceDisable s why f) := by
  unfold State.deviceDisable
  with_reducible refine Kept.ite (fun _ => ?_) (fun _ => ?_)
  with_reducible exact Kept.refl _
  dsimp only
  with_reducible refine Kept.ite (fun _ => ?_) (fun _ => ?_)
  with_reducible refine Kept.trans ?_ (State.setFlowRun_kept _ _ _)
  with_reducible refine Kept.trans ?_ (State.setFlowEn_kept _ _ _)
  with_reducible refine Kept.trans ?_ (State.flowEvent_kept _ _ _ _ _ _ _)
  with_reducible refine Kept.trans ?_ (State.closeSegments_kept _ _ _)
  with_reducible exact Kept.refl _
  with_reducible refine Kept.ite (fun _ => ?_) (fun _ => ?_)
  with_reducible refine Kept.trans ?_ (State.loseContract_kept _ _ _)
  with_reducible refine Kept.trans ?_ (State.affect_kept _ _)
  with_reducible refine Kept.trans ?_ (State.loseContract_kept _ _ _)
  with_reducible refine Kept.trans ?_ (State.setFlowRun_kept _ _ _)
  with_reducible refine Kept.trans ?_ (State.setFlowEn_kept _ _ _)
  with_reducible refine Kept.trans ?_ (State.flowEvent_kept _ _ _ _ _ _ _)
  with_reducible refine Kept.trans ?_ (State.closeSegments_kept _ _ _)
  with_reducible exact Kept.refl _
  with_reducible refine Kept.trans ?_ (State.affect_kept _ _)
  with_reducible refine Kept.trans ?_ (State.loseContract_kept _ _ _)
  with_reducible refine Kept.trans ?_ (State.setFlowRun_kept _ _ _)
  with_reducible refine Kept.trans ?_ (State.setFlowEn_kept _ _ _)
  with_reducible refine Kept.trans ?_ (State.flowEvent_kept _ _ _ _ _ _ _)
  with_reducible refine Kept.trans ?_ (State.closeSegments_kept _ _ _)
  with_reducible exact Kept.refl _

theorem State.segmentTicket_kept (s : State) (f words segment valid arrived : Nat) :
    Kept s (State.segmentTicket s f words segment valid arrived).2 := by
  unfold State.segmentTicket
  with_reducible refine Kept.trans ?_ (State.createTicket_kept _ _)
  with_reducible exact Kept.refl _

theorem State.addSamples_kept (s : State) (f k : Nat) (l : RowPart) : Kept s (State.addSamples s f k l) := by
  unfold State.addSamples
  dsimp only
  split
  with_reducible exact Kept.refl _
  with_reducible refine Kept.ite (fun _ => ?_) (fun _ => ?_)
  with_reducible refine Kept.trans ?_ (State.closeSegments_kept _ _ _)
  with_reducible refine Kept.trans ?_ (State.setFlowRun_kept _ _ _)
  with_reducible exact Kept.refl _
  with_reducible refine Kept.trans ?_ (State.writeSegment_kept _ _ _ _)
  with_reducible refine Kept.trans ?_ (State.setFlowRun_kept _ _ _)
  with_reducible exact Kept.refl _

theorem State.openSegment_kept (s : State) (f k : Nat) (ticket : Option Nat) : Kept s (State.openSegment s f k ticket) := by
  unfold State.openSegment
  dsimp only
  with_reducible refine Kept.ite (fun _ => ?_) (fun _ => ?_)
  with_reducible refine Kept.trans ?_ (State.flowStat_kept _ _ _ _)
  with_reducible refine Kept.trans ?_ (State.setFlowRun_kept _ _ _)
  with_reducible exact Kept.refl _
  with_reducible refine Kept.trans ?_ (State.setFlowRun_kept _ _ _)
  with_reducible exact Kept.refl _

theorem State.rowArrive_kept (s : State) (f arrived : Nat) (l : RowPart) : Kept s (State.rowArrive s f arrived l).2 := by
  unfold State.rowArrive
  dsimp only
  split
  dsimp only
  with_reducible refine Kept.trans ?_ (State.addSamples_kept _ _ _ _)
  with_reducible refine Kept.trans ?_ (State.closeSegments_kept _ _ _)
  with_reducible exact Kept.refl _
  split
  dsimp only
  with_reducible refine Kept.trans ?_ (State.segmentTicket_kept _ _ _ _ _ _)
  with_reducible refine Kept.trans ?_ (State.closeSegments_kept _ _ _)
  with_reducible exact Kept.refl _
  dsimp only
  with_reducible refine Kept.trans ?_ (State.addSamples_kept _ _ _ _)
  with_reducible refine Kept.trans ?_ (State.openSegment_kept _ _ _ _)
  with_reducible refine Kept.trans ?_ (State.segmentTicket_kept _ _ _ _ _ _)
  with_reducible refine Kept.trans ?_ (State.closeSegments_kept _ _ _)
  with_reducible exact Kept.refl _
  dsimp only
  with_reducible refine Kept.trans ?_ (State.addSamples_kept _ _ _ _)
  with_reducible refine Kept.trans ?_ (State.openSegment_kept _ _ _ _)
  with_reducible refine Kept.trans ?_ (State.segmentTicket_kept _ _ _ _ _ _)
  with_reducible refine Kept.trans ?_ (State.closeSegments_kept _ _ _)
  with_reducible exact Kept.refl _

theorem State.rowsArrive_kept (s : State) (f arrived : Nat) (ls : List RowPart) :
    Kept s (State.rowsArrive s f arrived ls).2 := by
  induction ls generalizing s f arrived with
  | nil =>
    unfold State.rowsArrive
    with_reducible exact Kept.refl _
  | cons a r ih =>
    unfold State.rowsArrive
    dsimp only
    split
    dsimp only
    with_reducible refine Kept.trans ?_ (State.rowArrive_kept _ _ _ _)
    with_reducible exact Kept.refl _
    with_reducible refine Kept.trans ?_ (ih ..)
    with_reducible refine Kept.trans ?_ (State.rowArrive_kept _ _ _ _)
    with_reducible exact Kept.refl _

theorem State.endInError_kept (s : State) (e : Nat × Ticket) : Kept s (State.endInError s e) := by
  unfold State.endInError
  dsimp only
  with_reducible refine Kept.ite (fun _ => ?_) (fun _ => ?_)
  with_reducible refine Kept.trans ?_ (State.post_kept _ _ _ _ _)
  with_reducible refine Kept.trans ?_ (State.incSat_kept _ _)
  with_reducible refine Kept.trans ?_ (State.setTicket_kept _ _ _)
  with_reducible exact Kept.refl _
  with_reducible refine Kept.trans ?_ (State.setTicket_kept _ _ _)
  with_reducible exact Kept.refl _

theorem State.lineArrive_kept (s : State) (f : Nat) (x : Packet) : Kept s (State.lineArrive s f x).2 := by
  unfold State.lineArrive
  dsimp only
  split
  dsimp only
  with_reducible refine Kept.ite (fun _ => ?_) (fun _ => ?_)
  with_reducible refine Kept.trans ?_ (State.closeSegments_kept _ _ _)
  with_reducible refine Kept.ite (fun _ => ?_) (fun _ => ?_)
  with_reducible refine Kept.trans ?_ (Kept.foldl _ _ _ ?_)
  with_reducible refine Kept.trans ?_ (State.flowStat_kept _ _ _ _)
  with_reducible refine Kept.trans ?_ (State.rowsArrive_kept _ _ _ _)
  with_reducible exact Kept.refl _
  intro _ _
  with_reducible refine Kept.trans ?_ (State.endInError_kept _ _)
  with_reducible exact Kept.refl _
  with_reducible refine Kept.trans ?_ (State.flowStat_kept _ _ _ _)
  with_reducible refine Kept.trans ?_ (State.rowsArrive_kept _ _ _ _)
  with_reducible exact Kept.refl _
  with_reducible refine Kept.ite (fun _ => ?_) (fun _ => ?_)
  with_reducible refine Kept.trans ?_ (Kept.foldl _ _ _ ?_)
  with_reducible refine Kept.trans ?_ (State.flowStat_kept _ _ _ _)
  with_reducible refine Kept.trans ?_ (State.rowsArrive_kept _ _ _ _)
  with_reducible exact Kept.refl _
  intro _ _
  with_reducible refine Kept.trans ?_ (State.endInError_kept _ _)
  with_reducible exact Kept.refl _
  with_reducible refine Kept.trans ?_ (State.flowStat_kept _ _ _ _)
  with_reducible refine Kept.trans ?_ (State.rowsArrive_kept _ _ _ _)
  with_reducible exact Kept.refl _
  dsimp only
  with_reducible refine Kept.trans ?_ (State.rowsArrive_kept _ _ _ _)
  with_reducible exact Kept.refl _

theorem State.countAnc_kept (s : State) (f : Nat) (ws : List Nat) : Kept s (State.countAnc s f ws) := by
  unfold State.countAnc
  with_reducible refine Kept.ite (fun _ => ?_) (fun _ => ?_)
  with_reducible refine Kept.trans ?_ (State.flowStat_kept _ _ _ _)
  with_reducible exact Kept.refl _
  with_reducible exact Kept.refl _

theorem State.packetArrive_kept (s : State) (f : Nat) (x : Packet) : Kept s (State.packetArrive s f x).2 := by
  unfold State.packetArrive
  dsimp only
  split
  dsimp only
  with_reducible refine Kept.trans ?_ (State.flowEvent_kept _ _ _ _ _ _ _)
  with_reducible refine Kept.trans ?_ (State.flowStat_kept _ _ _ _)
  with_reducible exact Kept.refl _
  split
  dsimp only
  with_reducible refine Kept.trans ?_ (State.segmentTicket_kept _ _ _ _ _ _)
  with_reducible exact Kept.refl _
  dsimp only
  with_reducible refine Kept.trans ?_ (State.segmentTicket_kept _ _ _ _ _ _)
  with_reducible exact Kept.refl _
  split
  dsimp only
  with_reducible refine Kept.trans ?_ (State.segmentTicket_kept _ _ _ _ _ _)
  with_reducible exact Kept.refl _
  split
  dsimp only
  with_reducible refine Kept.ite (fun _ => ?_) (fun _ => ?_)
  with_reducible refine Kept.trans ?_ (State.endInError_kept _ _)
  with_reducible refine Kept.trans ?_ (State.flowStat_kept _ _ _ _)
  with_reducible refine Kept.trans ?_ (State.flowStat_kept _ _ _ _)
  with_reducible refine Kept.trans ?_ (State.noteReceived_kept _ _ _)
  with_reducible refine Kept.ite (fun _ => ?_) (fun _ => ?_)
  with_reducible refine Kept.trans ?_ (State.flowStat_kept _ _ _ _)
  with_reducible refine Kept.trans ?_ (State.countAnc_kept _ _ _)
  with_reducible refine Kept.trans ?_ (State.ticketFilled_kept _ _ _ _)
  with_reducible refine Kept.trans ?_ (State.ticketWrite_kept _ _ _ _)
  with_reducible refine Kept.trans ?_ (State.segmentTicket_kept _ _ _ _ _ _)
  with_reducible exact Kept.refl _
  with_reducible refine Kept.trans ?_ (State.countAnc_kept _ _ _)
  with_reducible refine Kept.trans ?_ (State.ticketFilled_kept _ _ _ _)
  with_reducible refine Kept.trans ?_ (State.ticketWrite_kept _ _ _ _)
  with_reducible refine Kept.trans ?_ (State.segmentTicket_kept _ _ _ _ _ _)
  with_reducible exact Kept.refl _
  with_reducible refine Kept.trans ?_ (State.flowStat_kept _ _ _ _)
  with_reducible refine Kept.trans ?_ (State.flowStat_kept _ _ _ _)
  with_reducible refine Kept.trans ?_ (State.noteReceived_kept _ _ _)
  with_reducible refine Kept.ite (fun _ => ?_) (fun _ => ?_)
  with_reducible refine Kept.trans ?_ (State.flowStat_kept _ _ _ _)
  with_reducible refine Kept.trans ?_ (State.countAnc_kept _ _ _)
  with_reducible refine Kept.trans ?_ (State.ticketFilled_kept _ _ _ _)
  with_reducible refine Kept.trans ?_ (State.ticketWrite_kept _ _ _ _)
  with_reducible refine Kept.trans ?_ (State.segmentTicket_kept _ _ _ _ _ _)
  with_reducible exact Kept.refl _
  with_reducible refine Kept.trans ?_ (State.countAnc_kept _ _ _)
  with_reducible refine Kept.trans ?_ (State.ticketFilled_kept _ _ _ _)
  with_reducible refine Kept.trans ?_ (State.ticketWrite_kept _ _ _ _)
  with_reducible refine Kept.trans ?_ (State.segmentTicket_kept _ _ _ _ _ _)
  with_reducible exact Kept.refl _
  dsimp only
  with_reducible refine Kept.trans ?_ (State.flowStat_kept _ _ _ _)
  with_reducible refine Kept.trans ?_ (State.flowStat_kept _ _ _ _)
  with_reducible refine Kept.trans ?_ (State.noteReceived_kept _ _ _)
  with_reducible refine Kept.ite (fun _ => ?_) (fun _ => ?_)
  with_reducible refine Kept.trans ?_ (State.flowStat_kept _ _ _ _)
  with_reducible refine Kept.trans ?_ (State.countAnc_kept _ _ _)
  with_reducible refine Kept.trans ?_ (State.ticketFilled_kept _ _ _ _)
  with_reducible refine Kept.trans ?_ (State.ticketWrite_kept _ _ _ _)
  with_reducible refine Kept.trans ?_ (State.segmentTicket_kept _ _ _ _ _ _)
  with_reducible exact Kept.refl _
  with_reducible refine Kept.trans ?_ (State.countAnc_kept _ _ _)
  with_reducible refine Kept.trans ?_ (State.ticketFilled_kept _ _ _ _)
  with_reducible refine Kept.trans ?_ (State.ticketWrite_kept _ _ _ _)
  with_reducible refine Kept.trans ?_ (State.segmentTicket_kept _ _ _ _ _ _)
  with_reducible exact Kept.refl _

theorem State.settleWindow_kept (s : State) (f : Nat) : Kept s (State.settleWindow s f) := by
  unfold State.settleWindow
  dsimp only
  with_reducible refine Kept.ite (fun _ => ?_) (fun _ => ?_)
  with_reducible refine Kept.trans ?_ (State.closeSegments_kept _ _ _)
  with_reducible exact Kept.refl _
  with_reducible exact Kept.refl _

theorem State.segmentArrive_kept (s : State) (f : Nat) (x : Packet) : Kept s (State.segmentArrive s f x).2 := by
  unfold State.segmentArrive
  dsimp only
  split
  dsimp only
  with_reducible refine Kept.trans ?_ (State.settleWindow_kept _ _)
  with_reducible exact Kept.refl _
  split
  with_reducible refine Kept.trans ?_ (State.lineArrive_kept _ _ _)
  with_reducible refine Kept.trans ?_ (State.settleWindow_kept _ _)
  with_reducible exact Kept.refl _
  with_reducible refine Kept.trans ?_ (State.packetArrive_kept _ _ _)
  with_reducible refine Kept.trans ?_ (State.settleWindow_kept _ _)
  with_reducible exact Kept.refl _

theorem State.bufferPacket_kept (s : State) (f : Nat) (x : Packet) : Kept s (State.bufferPacket s f x) := by
  unfold State.bufferPacket
  dsimp only
  with_reducible refine Kept.ite (fun _ => ?_) (fun _ => ?_)
  with_reducible refine Kept.trans ?_ (State.flowEvent_kept _ _ _ _ _ _ _)
  with_reducible refine Kept.trans ?_ (State.flowStat_kept _ _ _ _)
  with_reducible exact Kept.refl _
  with_reducible refine Kept.ite (fun _ => ?_) (fun _ => ?_)
  with_reducible refine Kept.trans ?_ (State.flowEvent_kept _ _ _ _ _ _ _)
  with_reducible refine Kept.trans ?_ (State.flowStat_kept _ _ _ _)
  with_reducible refine Kept.trans ?_ (State.addSatAt_kept _ _ _ _)
  with_reducible exact Kept.refl _
  with_reducible refine Kept.trans ?_ (State.wrAt_kept _ _ _ _)
  with_reducible refine Kept.trans ?_ (State.setFlowRun_kept _ _ _)
  with_reducible exact Kept.refl _

theorem State.setWaiting_kept (s : State) (f : Nat) (l : List Packet) : Kept s (State.setWaiting s f l) := by
  unfold State.setWaiting
  with_reducible refine Kept.trans ?_ (State.setFlowRun_kept _ _ _)
  with_reducible exact Kept.refl _

theorem State.drain_kept (s : State) (f : Nat) (fuel : Nat) : Kept s (State.drain s f fuel) := by
  induction fuel generalizing s f with
  | zero =>
    unfold State.drain
    with_reducible exact Kept.refl _
  | succ k ih =>
    unfold State.drain
    dsimp only
    split
    with_reducible exact Kept.refl _
    split
    with_reducible refine Kept.trans ?_ (State.setWaiting_kept _ _ _)
    with_reducible refine Kept.trans ?_ (State.segmentArrive_kept _ _ _)
    with_reducible exact Kept.refl _
    with_reducible refine Kept.trans ?_ (ih ..)
    with_reducible refine Kept.trans ?_ (State.setWaiting_kept _ _ _)
    with_reducible refine Kept.trans ?_ (State.segmentArrive_kept _ _ _)
    with_reducible exact Kept.refl _

theorem State.drainAll_kept (s : State) (f : Nat) : Kept s (State.drainAll s f) := by
  unfold State.drainAll
  with_reducible refine Kept.trans ?_ (State.drain_kept _ _ _)
  with_reducible exact Kept.refl _

theorem State.drainFlows_kept (s : State) : Kept s (State.drainFlows s) := by
  unfold State.drainFlows
  with_reducible refine Kept.trans ?_ (Kept.foldl _ _ _ ?_)
  with_reducible exact Kept.refl _
  intro _ _
  with_reducible refine Kept.trans ?_ (State.drainAll_kept _ _)
  with_reducible exact Kept.refl _

theorem State.passPacket_kept (s : State) (f : Nat) (x : Packet) : Kept s (State.passPacket s f x) := by
  unfold State.passPacket
  dsimp only
  with_reducible refine Kept.ite (fun _ => ?_) (fun _ => ?_)
  with_reducible refine Kept.trans ?_ (State.flowStat_kept _ _ _ _)
  with_reducible exact Kept.refl _
  with_reducible refine Kept.ite (fun _ => ?_) (fun _ => ?_)
  with_reducible refine Kept.trans ?_ (State.bufferPacket_kept _ _ _)
  with_reducible refine Kept.ite (fun _ => ?_) (fun _ => ?_)
  with_reducible refine Kept.ite (fun _ => ?_) (fun _ => ?_)
  with_reducible refine Kept.trans ?_ (State.incSat_kept _ _)
  with_reducible refine Kept.trans ?_ (State.setFlowRun_kept _ _ _)
  with_reducible exact Kept.refl _
  with_reducible refine Kept.trans ?_ (State.setFlowRun_kept _ _ _)
  with_reducible exact Kept.refl _
  with_reducible refine Kept.trans ?_ (State.flowEvent_kept _ _ _ _ _ _ _)
  with_reducible refine Kept.trans ?_ (State.flowStat_kept _ _ _ _)
  with_reducible refine Kept.ite (fun _ => ?_) (fun _ => ?_)
  with_reducible refine Kept.trans ?_ (State.incSat_kept _ _)
  with_reducible refine Kept.trans ?_ (State.setFlowRun_kept _ _ _)
  with_reducible exact Kept.refl _
  with_reducible refine Kept.trans ?_ (State.setFlowRun_kept _ _ _)
  with_reducible exact Kept.refl _
  split
  with_reducible refine Kept.trans ?_ (State.segmentArrive_kept _ _ _)
  with_reducible refine Kept.ite (fun _ => ?_) (fun _ => ?_)
  with_reducible refine Kept.ite (fun _ => ?_) (fun _ => ?_)
  with_reducible refine Kept.trans ?_ (State.incSat_kept _ _)
  with_reducible refine Kept.trans ?_ (State.setFlowRun_kept _ _ _)
  with_reducible exact Kept.refl _
  with_reducible refine Kept.trans ?_ (State.setFlowRun_kept _ _ _)
  with_reducible exact Kept.refl _
  with_reducible refine Kept.trans ?_ (State.flowEvent_kept _ _ _ _ _ _ _)
  with_reducible refine Kept.trans ?_ (State.flowStat_kept _ _ _ _)
  with_reducible refine Kept.ite (fun _ => ?_) (fun _ => ?_)
  with_reducible refine Kept.trans ?_ (State.incSat_kept _ _)
  with_reducible refine Kept.trans ?_ (State.setFlowRun_kept _ _ _)
  with_reducible exact Kept.refl _
  with_reducible refine Kept.trans ?_ (State.setFlowRun_kept _ _ _)
  with_reducible exact Kept.refl _
  with_reducible refine Kept.trans ?_ (State.bufferPacket_kept _ _ _)
  with_reducible refine Kept.trans ?_ (State.segmentArrive_kept _ _ _)
  with_reducible refine Kept.ite (fun _ => ?_) (fun _ => ?_)
  with_reducible refine Kept.ite (fun _ => ?_) (fun _ => ?_)
  with_reducible refine Kept.trans ?_ (State.incSat_kept _ _)
  with_reducible refine Kept.trans ?_ (State.setFlowRun_kept _ _ _)
  with_reducible exact Kept.refl _
  with_reducible refine Kept.trans ?_ (State.setFlowRun_kept _ _ _)
  with_reducible exact Kept.refl _
  with_reducible refine Kept.trans ?_ (State.flowEvent_kept _ _ _ _ _ _ _)
  with_reducible refine Kept.trans ?_ (State.flowStat_kept _ _ _ _)
  with_reducible refine Kept.ite (fun _ => ?_) (fun _ => ?_)
  with_reducible refine Kept.trans ?_ (State.incSat_kept _ _)
  with_reducible refine Kept.trans ?_ (State.setFlowRun_kept _ _ _)
  with_reducible exact Kept.refl _
  with_reducible refine Kept.trans ?_ (State.setFlowRun_kept _ _ _)
  with_reducible exact Kept.refl _

theorem State.setPairRun_kept (s : State) (p : Nat) (r : PairRun) : Kept s (State.setPairRun s p r) := by
  unfold State.setPairRun
  with_reducible refine Kept.mk_same ?_ rfl rfl rfl rfl rfl
  with_reducible exact Kept.refl _

theorem State.addressedWrite_kept (s : State) (a w : Nat) : Kept s (State.addressedWrite s a w) := by
  unfold State.addressedWrite
  with_reducible refine Kept.ite (fun _ => ?_) (fun _ => ?_)
  with_reducible refine Kept.trans ?_ (State.storePut_kept _ _ _)
  with_reducible exact Kept.refl _
  with_reducible refine Kept.trans ?_ (State.addrRefuse_kept _ _ _)
  with_reducible exact Kept.refl _

theorem State.addressedRead_kept (s : State) (a : Nat) : Kept s (State.addressedRead s a).2 := by
  unfold State.addressedRead
  split
  dsimp only
  with_reducible refine Kept.trans ?_ (State.storeSense_kept _ _ _)
  with_reducible exact Kept.refl _
  dsimp only
  with_reducible refine Kept.trans ?_ (State.took_kept _)
  with_reducible refine Kept.trans ?_ (State.addrRefuse_kept _ _ _)
  with_reducible exact Kept.refl _

theorem State.mergeWrite_kept (s : State) (p i : Nat) (ws : List Nat) : Kept s (State.mergeWrite s p i ws) := by
  induction ws generalizing s p i with
  | nil =>
    unfold State.mergeWrite
    with_reducible exact Kept.refl _
  | cons a r ih =>
    unfold State.mergeWrite
    with_reducible refine Kept.trans ?_ (ih ..)
    with_reducible refine Kept.trans ?_ (State.addressedWrite_kept _ _ _)
    with_reducible exact Kept.refl _

theorem State.mergeRead_kept (s : State) (p i n : Nat) : Kept s (State.mergeRead s p i n).2 := by
  induction n generalizing s p i with
  | zero =>
    unfold State.mergeRead
    with_reducible exact Kept.refl _
  | succ k ih =>
    unfold State.mergeRead
    dsimp only
    with_reducible refine Kept.trans ?_ (ih ..)
    with_reducible refine Kept.trans ?_ (State.addressedRead_kept _ _)
    with_reducible exact Kept.refl _

theorem State.mergeRelease_kept (s : State) (p f : Nat) (h : HeldPacket) : Kept s (State.mergeRelease s p f h) := by
  unfold State.mergeRelease
  dsimp only
  with_reducible refine Kept.trans ?_ (State.passPacket_kept _ _ _)
  with_reducible refine Kept.trans ?_ (State.mergeRead_kept _ _ _ _)
  with_reducible exact Kept.refl _

theorem State.mergePass_kept (s : State) (p f fuel : Nat) : Kept s (State.mergePass s p f fuel) := by
  induction fuel generalizing s p f with
  | zero =>
    unfold State.mergePass
    with_reducible exact Kept.refl _
  | succ k ih =>
    unfold State.mergePass
    dsimp only
    split
    with_reducible exact Kept.refl _
    split
    with_reducible exact Kept.refl _
    with_reducible refine Kept.trans ?_ (ih ..)
    with_reducible refine Kept.trans ?_ (State.mergeRelease_kept _ _ _ _)
    with_reducible refine Kept.trans ?_ (State.setPairRun_kept _ _ _)
    with_reducible exact Kept.refl _

theorem State.mergeSkip_kept (s : State) (p f : Nat) : Kept s (State.mergeSkip s p f) := by
  unfold State.mergeSkip
  dsimp only
  split
  with_reducible exact Kept.refl _
  with_reducible refine Kept.trans ?_ (State.mergePass_kept _ _ _ _)
  with_reducible refine Kept.trans ?_ (State.setPairRun_kept _ _ _)
  with_reducible exact Kept.refl _

theorem State.mergeHold_kept (s : State) (p n : Nat) (x : Packet) : Kept s (State.mergeHold s p n x) := by
  unfold State.mergeHold
  dsimp only
  with_reducible refine Kept.trans ?_ (State.mergeWrite_kept _ _ _ _)
  with_reducible refine Kept.trans ?_ (State.setPairRun_kept _ _ _)
  with_reducible exact Kept.refl _

theorem State.duplicate_kept (s : State) (p n : Nat) (pathB : Bool) : Kept s (State.duplicate s p n pathB) := by
  unfold State.duplicate
  dsimp only
  with_reducible refine Kept.ite (fun _ => ?_) (fun _ => ?_)
  with_reducible refine Kept.trans ?_ (State.setPairRun_kept _ _ _)
  with_reducible exact Kept.refl _
  with_reducible refine Kept.trans ?_ (State.setPairRun_kept _ _ _)
  with_reducible exact Kept.refl _

theorem State.mergeIn_kept (s : State) (p f n fuel : Nat) (pathB : Bool) (x : Packet) :
    Kept s (State.mergeIn s p f n fuel pathB x) := by
  induction fuel generalizing s p f n pathB x with
  | zero =>
    unfold State.mergeIn
    with_reducible exact Kept.refl _
  | succ k ih =>
    unfold State.mergeIn
    dsimp only
    split
    with_reducible refine Kept.trans ?_ (State.passPacket_kept _ _ _)
    with_reducible refine Kept.trans ?_ (State.setPairRun_kept _ _ _)
    with_reducible exact Kept.refl _
    with_reducible refine Kept.ite (fun _ => ?_) (fun _ => ?_)
    with_reducible refine Kept.trans ?_ (State.duplicate_kept _ _ _ _)
    with_reducible exact Kept.refl _
    with_reducible refine Kept.ite (fun _ => ?_) (fun _ => ?_)
    with_reducible refine Kept.trans ?_ (State.mergePass_kept _ _ _ _)
    with_reducible refine Kept.trans ?_ (State.passPacket_kept _ _ _)
    with_reducible refine Kept.trans ?_ (State.setPairRun_kept _ _ _)
    with_reducible exact Kept.refl _
    with_reducible refine Kept.ite (fun _ => ?_) (fun _ => ?_)
    with_reducible refine Kept.trans ?_ (ih ..)
    with_reducible refine Kept.ite (fun _ => ?_) (fun _ => ?_)
    with_reducible refine Kept.trans ?_ (State.mergeSkip_kept _ _ _)
    with_reducible refine Kept.trans ?_ (State.flowEvent_kept _ _ _ _ _ _ _)
    with_reducible exact Kept.refl _
    with_reducible refine Kept.trans ?_ (State.setPairRun_kept _ _ _)
    with_reducible refine Kept.trans ?_ (State.flowEvent_kept _ _ _ _ _ _ _)
    with_reducible exact Kept.refl _
    with_reducible refine Kept.trans ?_ (State.mergeHold_kept _ _ _ _)
    with_reducible refine Kept.trans ?_ (State.setPairRun_kept _ _ _)
    with_reducible exact Kept.refl _

theorem State.mergeArrive_kept (s : State) (p f : Nat) (pathB : Bool) (x : Packet) :
    Kept s (State.mergeArrive s p f pathB x) := by
  unfold State.mergeArrive
  dsimp only
  with_reducible refine Kept.trans ?_ (State.mergeIn_kept _ _ _ _ _ _ _)
  with_reducible exact Kept.refl _

theorem State.pathSeen_kept (s : State) (p f : Nat) (pathB : Bool) : Kept s (State.pathSeen s p f pathB) := by
  unfold State.pathSeen
  dsimp only
  with_reducible refine Kept.ite (fun _ => ?_) (fun _ => ?_)
  with_reducible refine Kept.ite (fun _ => ?_) (fun _ => ?_)
  with_reducible refine Kept.trans ?_ (State.incSat_kept _ _)
  with_reducible refine Kept.trans ?_ (State.setPairRun_kept _ _ _)
  with_reducible exact Kept.refl _
  with_reducible refine Kept.trans ?_ (State.setPairRun_kept _ _ _)
  with_reducible exact Kept.refl _
  with_reducible refine Kept.trans ?_ (State.flowEvent_kept _ _ _ _ _ _ _)
  with_reducible refine Kept.trans ?_ (State.wrAt_kept _ _ _ _)
  with_reducible refine Kept.trans ?_ (State.setPairRun_kept _ _ _)
  with_reducible exact Kept.refl _

end Sys2Proof.Machine
end

