-- ==== Sys2Proof/Laws/KeptFlows.lean ====
section
/-! SUPPORT. `Kept` for the functions of Machine/Flows.lean. -/

namespace Sys2Proof.Machine

open Sys2Proof

theorem State.flowTableWrite_kept (s : State) (f n v : Nat) : Kept s (State.flowTableWrite s f n v) := by
  unfold State.flowTableWrite
  with_reducible refine Kept.ite (fun _ => ?_) (fun _ => ?_)
  with_reducible refine Kept.trans ?_ (State.wr_kept _ _ _)
  with_reducible exact Kept.refl _
  with_reducible refine Kept.ite (fun _ => ?_) (fun _ => ?_)
  with_reducible refine Kept.trans ?_ (State.setFlowWord_kept _ _ _ _)
  with_reducible exact Kept.refl _
  with_reducible refine Kept.trans ?_ (State.setFlowWord_kept _ _ _ _)
  with_reducible exact Kept.refl _

theorem execFlowTableWrite_kept (addr data : Nat) (s : State) : Kept s (stateOf (execFlowTableWrite addr data s) s) := by
  unfold execFlowTableWrite
  refine Kept.next ?_
  with_reducible refine Kept.ite (fun _ => ?_) (fun _ => ?_)
  with_reducible refine Kept.trans ?_ (State.flowTableWrite_kept _ _ _ _)
  with_reducible exact Kept.refl _
  with_reducible exact Kept.refl _

theorem State.pairWord_kept (s : State) (p n v : Nat) : Kept s (State.pairWord s p n v) := by
  unfold State.pairWord
  split
  with_reducible refine Kept.trans ?_ (State.wrAt_kept _ _ _ _)
  with_reducible refine Kept.trans ?_ (State.wrAt_kept _ _ _ _)
  with_reducible refine Kept.trans ?_ (State.wrAt_kept _ _ _ _)
  with_reducible exact Kept.refl _
  with_reducible refine Kept.trans ?_ (State.wrAt_kept _ _ _ _)
  with_reducible exact Kept.refl _
  with_reducible refine Kept.trans ?_ (State.wrAt_kept _ _ _ _)
  with_reducible refine Kept.trans ?_ (State.wrAt_kept _ _ _ _)
  with_reducible refine Kept.trans ?_ (State.wrAt_kept _ _ _ _)
  with_reducible refine Kept.trans ?_ (State.wrAt_kept _ _ _ _)
  with_reducible exact Kept.refl _
  with_reducible refine Kept.trans ?_ (State.wrAt_kept _ _ _ _)
  with_reducible exact Kept.refl _
  with_reducible refine Kept.trans ?_ (State.wrAt_kept _ _ _ _)
  with_reducible exact Kept.refl _
  with_reducible refine Kept.trans ?_ (State.wrAt_kept _ _ _ _)
  with_reducible exact Kept.refl _
  with_reducible refine Kept.trans ?_ (State.wrAt_kept _ _ _ _)
  with_reducible exact Kept.refl _
  with_reducible refine Kept.trans ?_ (State.wrAt_kept _ _ _ _)
  with_reducible exact Kept.refl _
  with_reducible refine Kept.trans ?_ (State.wrAt_kept _ _ _ _)
  with_reducible exact Kept.refl _
  with_reducible refine Kept.trans ?_ (State.wrAt_kept _ _ _ _)
  with_reducible exact Kept.refl _
  with_reducible refine Kept.trans ?_ (State.wrAt_kept _ _ _ _)
  with_reducible exact Kept.refl _
  with_reducible refine Kept.trans ?_ (State.wrAt_kept _ _ _ _)
  with_reducible exact Kept.refl _
  with_reducible exact Kept.refl _

theorem State.pairRecordWrite_kept (s : State) (p n v : Nat) : Kept s (State.pairRecordWrite s p n v) := by
  unfold State.pairRecordWrite
  with_reducible refine Kept.ite (fun _ => ?_) (fun _ => ?_)
  with_reducible refine Kept.trans ?_ (State.wr_kept _ _ _)
  with_reducible exact Kept.refl _
  with_reducible refine Kept.trans ?_ (State.pairWord_kept _ _ _ _)
  with_reducible exact Kept.refl _

theorem execPairRecordWrite_kept (addr data : Nat) (s : State) : Kept s (stateOf (execPairRecordWrite addr data s) s) := by
  unfold execPairRecordWrite
  refine Kept.next ?_
  with_reducible refine Kept.ite (fun _ => ?_) (fun _ => ?_)
  with_reducible refine Kept.trans ?_ (State.pairRecordWrite_kept _ _ _ _)
  with_reducible exact Kept.refl _
  with_reducible exact Kept.refl _

theorem execFlowEnable_kept (id : Nat) (s : State) : Kept s (stateOf (execFlowEnable id s) s) := by
  unfold execFlowEnable
  refine Kept.next ?_
  with_reducible refine Kept.trans ?_ (State.runCmd_kept _ _ _ _ ?_)
  with_reducible exact Kept.refl _
  intro _ _
  dsimp only
  split
  dsimp only
  with_reducible exact Kept.refl _
  split
  dsimp only
  with_reducible exact Kept.refl _
  split
  dsimp only
  with_reducible refine Kept.trans ?_ (State.setPairRun_kept _ _ _)
  with_reducible refine Kept.trans ?_ (State.setFlowRun_kept _ _ _)
  with_reducible refine Kept.trans ?_ (State.setFlowEn_kept _ _ _)
  with_reducible exact Kept.refl _
  dsimp only
  with_reducible refine Kept.trans ?_ (State.setFlowRun_kept _ _ _)
  with_reducible refine Kept.trans ?_ (State.setFlowEn_kept _ _ _)
  with_reducible exact Kept.refl _

theorem State.dropArrivals_kept (s : State) (f : Nat) : Kept s (State.dropArrivals s f) := by
  unfold State.dropArrivals
  dsimp only
  with_reducible refine Kept.trans ?_ (Kept.foldl _ _ _ ?_)
  with_reducible refine Kept.trans ?_ (State.flowStat_kept _ _ _ _)
  with_reducible refine Kept.trans ?_ (State.setWaiting_kept _ _ _)
  with_reducible exact Kept.refl _
  intro _ _
  with_reducible refine Kept.trans ?_ (State.flowStat_kept _ _ _ _)
  with_reducible refine Kept.trans ?_ (State.releaseTicket_kept _ _)
  with_reducible exact Kept.refl _

theorem State.dropPacks_kept (s : State) (f : Nat) : Kept s (State.dropPacks s f) := by
  unfold State.dropPacks
  with_reducible refine Kept.mk_same ?_ rfl rfl rfl rfl rfl
  with_reducible exact Kept.refl _

theorem State.stopFlow_kept (s : State) (f id : Nat) : Kept s (State.stopFlow s f id) := by
  unfold State.stopFlow
  dsimp only
  with_reducible refine Kept.trans ?_ (State.closeSegments_kept _ _ _)
  with_reducible refine Kept.trans ?_ (State.dropPacks_kept _ _)
  with_reducible refine Kept.trans ?_ (State.dropArrivals_kept _ _)
  with_reducible refine Kept.trans ?_ (State.setFlowRun_kept _ _ _)
  with_reducible exact Kept.refl _

theorem execFlowDisable_kept (id : Nat) (s : State) : Kept s (stateOf (execFlowDisable id s) s) := by
  unfold execFlowDisable
  refine Kept.next ?_
  with_reducible refine Kept.trans ?_ (State.startCmd_kept _ _ _ _ ?_)
  with_reducible exact Kept.refl _
  intro _ _
  dsimp only
  split
  with_reducible exact Kept.refl _
  split
  with_reducible exact Kept.refl _
  split
  with_reducible exact Kept.refl _
  split
  dsimp only
  with_reducible refine Kept.ite (fun _ => ?_) (fun _ => ?_)
  with_reducible refine Kept.trans ?_ (State.withdraw_kept _ _ _)
  with_reducible refine Kept.trans ?_ (State.stopFlow_kept _ _ _)
  with_reducible exact Kept.refl _
  with_reducible refine Kept.trans ?_ (State.stopFlow_kept _ _ _)
  with_reducible exact Kept.refl _
  dsimp only
  with_reducible refine Kept.trans ?_ (State.stopFlow_kept _ _ _)
  with_reducible exact Kept.refl _

theorem execFlowDisableDone_kept (flow : Nat) (s : State) : Kept s (stateOf (execFlowDisableDone flow s) s) := by
  unfold execFlowDisableDone
  refine Kept.next ?_
  dsimp only
  with_reducible refine Kept.ite (fun _ => ?_) (fun _ => ?_)
  with_reducible exact Kept.refl _
  with_reducible refine Kept.trans ?_ (Kept.foldl _ _ _ ?_)
  with_reducible refine Kept.trans ?_ (State.setFlowRun_kept _ _ _)
  with_reducible refine Kept.trans ?_ (State.setFlowEn_kept _ _ _)
  with_reducible exact Kept.refl _
  intro _ _
  with_reducible refine Kept.trans ?_ (State.complete_kept _ _ _)
  with_reducible exact Kept.refl _

theorem State.flowStatClear_kept (s : State) (f : Nat) : Kept s (State.flowStatClear s f) := by
  unfold State.flowStatClear
  with_reducible refine Kept.mk_same ?_ rfl rfl rfl rfl rfl
  with_reducible exact Kept.refl _

theorem execFlowStats_kept (id : Nat) (s : State) : Kept s (stateOf (execFlowStats id s) s) := by
  unfold execFlowStats
  refine Kept.next ?_
  with_reducible refine Kept.trans ?_ (State.runCmd_kept _ _ _ _ ?_)
  with_reducible exact Kept.refl _
  intro _ _
  dsimp only
  split
  dsimp only
  with_reducible exact Kept.refl _
  dsimp only
  with_reducible refine Kept.ite (fun _ => ?_) (fun _ => ?_)
  with_reducible refine Kept.trans ?_ (State.flowStatClear_kept _ _)
  with_reducible refine Kept.trans ?_ (State.hostWrite_kept _ _ _)
  with_reducible exact Kept.refl _
  with_reducible refine Kept.trans ?_ (State.hostWrite_kept _ _ _)
  with_reducible exact Kept.refl _

theorem execInject_kept (id : Nat) (s : State) : Kept s (stateOf (execInject id s) s) := by
  unfold execInject
  refine Kept.next ?_
  with_reducible refine Kept.ite (fun _ => ?_) (fun _ => ?_)
  with_reducible exact Kept.refl _
  with_reducible refine Kept.trans ?_ (State.runCmd_kept _ _ _ _ ?_)
  with_reducible exact Kept.refl _
  intro _ _
  dsimp only
  split
  dsimp only
  with_reducible exact Kept.refl _
  split
  dsimp only
  with_reducible exact Kept.refl _
  split
  dsimp only
  with_reducible refine Kept.trans ?_ (State.incSat_kept _ _)
  with_reducible exact Kept.refl _
  dsimp only
  with_reducible refine Kept.trans ?_ (State.wr_kept _ _ _)
  with_reducible refine Kept.mk_same ?_ rfl rfl rfl rfl rfl
  with_reducible exact Kept.refl _

theorem execInjectTokenRefill_kept (s : State) : Kept s (stateOf (execInjectTokenRefill s) s) := by
  unfold execInjectTokenRefill
  refine Kept.next ?_
  with_reducible refine Kept.ite (fun _ => ?_) (fun _ => ?_)
  with_reducible exact Kept.refl _
  with_reducible refine Kept.trans ?_ (State.wr_kept _ _ _)
  with_reducible refine Kept.mk_same ?_ rfl rfl rfl rfl rfl
  with_reducible exact Kept.refl _

theorem State.receiveFrame_kept (s : State) (lane : Nat) (x : Frame) : Kept s (State.receiveFrame s lane x) := by
  unfold State.receiveFrame
  with_reducible refine Kept.ite (fun _ => ?_) (fun _ => ?_)
  with_reducible refine Kept.trans ?_ (State.addSatAt_kept _ _ _ _)
  with_reducible exact Kept.refl _
  with_reducible refine Kept.ite (fun _ => ?_) (fun _ => ?_)
  with_reducible exact Kept.refl _
  with_reducible refine Kept.ite (fun _ => ?_) (fun _ => ?_)
  with_reducible refine Kept.trans ?_ (State.addSatAt_kept _ _ _ _)
  with_reducible exact Kept.refl _
  split
  with_reducible refine Kept.trans ?_ (State.addSatAt_kept _ _ _ _)
  with_reducible exact Kept.refl _
  with_reducible refine Kept.ite (fun _ => ?_) (fun _ => ?_)
  split
  dsimp only
  with_reducible refine Kept.trans ?_ (State.mergeArrive_kept _ _ _ _ _)
  with_reducible refine Kept.trans ?_ (State.pathSeen_kept _ _ _ _)
  with_reducible exact Kept.refl _
  with_reducible exact Kept.refl _
  with_reducible refine Kept.trans ?_ (State.passPacket_kept _ _ _)
  with_reducible exact Kept.refl _

theorem execIngressFrame_kept (lane : Nat) (frame : Frame) (s : State) :
    Kept s (stateOf (execIngressFrame lane frame s) s) := by
  unfold execIngressFrame
  refine Kept.next ?_
  with_reducible refine Kept.ite (fun _ => ?_) (fun _ => ?_)
  with_reducible refine Kept.trans ?_ (State.receiveFrame_kept _ _ _)
  with_reducible exact Kept.refl _
  with_reducible exact Kept.refl _

theorem execMergeSkewExpiry_kept (record : Nat) (s : State) : Kept s (stateOf (execMergeSkewExpiry record s) s) := by
  unfold execMergeSkewExpiry
  refine Kept.next ?_
  dsimp only
  split
  with_reducible exact Kept.refl _
  with_reducible refine Kept.ite (fun _ => ?_) (fun _ => ?_)
  with_reducible exact Kept.refl _
  with_reducible refine Kept.trans ?_ (State.mergeSkip_kept _ _ _)
  with_reducible exact Kept.refl _

theorem execPathLossTimeout_kept (record : Nat) (pathB : Bool) (s : State) :
    Kept s (stateOf (execPathLossTimeout record pathB s) s) := by
  unfold execPathLossTimeout
  refine Kept.next ?_
  dsimp only
  with_reducible refine Kept.ite (fun _ => ?_) (fun _ => ?_)
  with_reducible refine Kept.trans ?_ (State.flowEvent_kept _ _ _ _ _ _ _)
  with_reducible refine Kept.trans ?_ (State.wrAt_kept _ _ _ _)
  with_reducible exact Kept.refl _
  with_reducible exact Kept.refl _

theorem State.setSdiLock_kept (s : State) (n : Nat) (x : SdiLock) : Kept s (State.setSdiLock s n x) := by
  unfold State.setSdiLock
  with_reducible refine Kept.mk_same ?_ rfl rfl rfl rfl rfl
  with_reducible exact Kept.refl _

theorem State.sdiTrs_kept (s : State) (n f : Nat) (ok : Bool) : Kept s (State.sdiTrs s n f ok) := by
  unfold State.sdiTrs
  dsimp only
  with_reducible refine Kept.ite (fun _ => ?_) (fun _ => ?_)
  with_reducible refine Kept.trans ?_ (State.flowEvent_kept _ _ _ _ _ _ _)
  with_reducible refine Kept.trans ?_ (State.setSdiLock_kept _ _ _)
  with_reducible exact Kept.refl _
  with_reducible refine Kept.ite (fun _ => ?_) (fun _ => ?_)
  with_reducible refine Kept.trans ?_ (State.flowEvent_kept _ _ _ _ _ _ _)
  with_reducible refine Kept.trans ?_ (State.setSdiLock_kept _ _ _)
  with_reducible exact Kept.refl _
  with_reducible refine Kept.trans ?_ (State.setSdiLock_kept _ _ _)
  with_reducible exact Kept.refl _

theorem State.lineReceived_kept (s : State) (f : Nat) (x : SdiLine) : Kept s (State.lineReceived s f x) := by
  unfold State.lineReceived
  dsimp only
  split
  with_reducible refine Kept.ite (fun _ => ?_) (fun _ => ?_)
  with_reducible refine Kept.trans ?_ (State.passPacket_kept _ _ _)
  with_reducible refine Kept.ite (fun _ => ?_) (fun _ => ?_)
  with_reducible refine Kept.ite (fun _ => ?_) (fun _ => ?_)
  with_reducible refine Kept.trans ?_ (State.sdiTrs_kept _ _ _ _)
  with_reducible exact Kept.refl _
  with_reducible exact Kept.refl _
  with_reducible refine Kept.trans ?_ (State.flowEvent_kept _ _ _ _ _ _ _)
  with_reducible refine Kept.trans ?_ (State.flowStat_kept _ _ _ _)
  with_reducible refine Kept.ite (fun _ => ?_) (fun _ => ?_)
  with_reducible refine Kept.trans ?_ (State.sdiTrs_kept _ _ _ _)
  with_reducible exact Kept.refl _
  with_reducible exact Kept.refl _
  with_reducible refine Kept.ite (fun _ => ?_) (fun _ => ?_)
  with_reducible refine Kept.ite (fun _ => ?_) (fun _ => ?_)
  with_reducible refine Kept.trans ?_ (State.sdiTrs_kept _ _ _ _)
  with_reducible exact Kept.refl _
  with_reducible exact Kept.refl _
  with_reducible refine Kept.trans ?_ (State.flowEvent_kept _ _ _ _ _ _ _)
  with_reducible refine Kept.trans ?_ (State.flowStat_kept _ _ _ _)
  with_reducible refine Kept.ite (fun _ => ?_) (fun _ => ?_)
  with_reducible refine Kept.trans ?_ (State.sdiTrs_kept _ _ _ _)
  with_reducible exact Kept.refl _
  with_reducible exact Kept.refl _
  with_reducible refine Kept.ite (fun _ => ?_) (fun _ => ?_)
  with_reducible refine Kept.ite (fun _ => ?_) (fun _ => ?_)
  with_reducible refine Kept.trans ?_ (State.sdiTrs_kept _ _ _ _)
  with_reducible exact Kept.refl _
  with_reducible exact Kept.refl _
  with_reducible refine Kept.trans ?_ (State.flowEvent_kept _ _ _ _ _ _ _)
  with_reducible refine Kept.trans ?_ (State.flowStat_kept _ _ _ _)
  with_reducible refine Kept.ite (fun _ => ?_) (fun _ => ?_)
  with_reducible refine Kept.trans ?_ (State.sdiTrs_kept _ _ _ _)
  with_reducible exact Kept.refl _
  with_reducible exact Kept.refl _

theorem execSdiLine_kept (flow : Nat) (line : SdiLine) (s : State) : Kept s (stateOf (execSdiLine flow line s) s) := by
  unfold execSdiLine
  refine Kept.next ?_
  dsimp only
  with_reducible refine Kept.ite (fun _ => ?_) (fun _ => ?_)
  split
  with_reducible refine Kept.trans ?_ (State.lineReceived_kept _ _ _)
  with_reducible exact Kept.refl _
  with_reducible refine Kept.ite (fun _ => ?_) (fun _ => ?_)
  with_reducible refine Kept.trans ?_ (State.passPacket_kept _ _ _)
  with_reducible exact Kept.refl _
  with_reducible exact Kept.refl _
  with_reducible exact Kept.refl _

theorem State.windowIgnored_kept (s : State) : Kept s (State.windowIgnored s) := by
  unfold State.windowIgnored
  with_reducible refine Kept.trans ?_ (State.incSat_kept _ _)
  with_reducible exact Kept.refl _

theorem State.openWindow_kept (s : State) (f : Nat) : Kept s (State.openWindow s f) := by
  unfold State.openWindow
  with_reducible refine Kept.ite (fun _ => ?_) (fun _ => ?_)
  with_reducible refine Kept.trans ?_ (State.windowIgnored_kept _)
  with_reducible exact Kept.refl _
  dsimp only
  with_reducible refine Kept.trans ?_ (State.drainAll_kept _ _)
  with_reducible refine Kept.trans ?_ (State.setFlowRun_kept _ _ _)
  with_reducible refine Kept.trans ?_ (State.settleWindow_kept _ _)
  with_reducible exact Kept.refl _

theorem State.closeWindow_kept (s : State) (f : Nat) : Kept s (State.closeWindow s f) := by
  unfold State.closeWindow
  with_reducible refine Kept.ite (fun _ => ?_) (fun _ => ?_)
  with_reducible refine Kept.trans ?_ (State.windowIgnored_kept _)
  with_reducible exact Kept.refl _
  dsimp only
  with_reducible refine Kept.ite (fun _ => ?_) (fun _ => ?_)
  with_reducible refine Kept.trans ?_ (State.setFlowRun_kept _ _ _)
  with_reducible refine Kept.trans ?_ (State.closeSegments_kept _ _ _)
  with_reducible refine Kept.ite (fun _ => ?_) (fun _ => ?_)
  with_reducible refine Kept.trans ?_ (State.incSat_kept _ _)
  with_reducible exact Kept.refl _
  with_reducible exact Kept.refl _
  with_reducible refine Kept.trans ?_ (State.flowEvent_kept _ _ _ _ _ _ _)
  with_reducible refine Kept.trans ?_ (State.setFlowRun_kept _ _ _)
  with_reducible refine Kept.trans ?_ (State.closeSegments_kept _ _ _)
  with_reducible refine Kept.ite (fun _ => ?_) (fun _ => ?_)
  with_reducible refine Kept.trans ?_ (State.incSat_kept _ _)
  with_reducible exact Kept.refl _
  with_reducible exact Kept.refl _

theorem execDncWindow_kept (s : State) : Kept s (stateOf (execDncWindow s) s) := by
  unfold execDncWindow
  refine Kept.next ?_
  with_reducible refine Kept.trans ?_ (State.runAction_kept _ _ _ ?_)
  with_reducible exact Kept.refl _
  intro _ _
  with_reducible refine Kept.ite (fun _ => ?_) (fun _ => ?_)
  with_reducible refine Kept.trans ?_ (State.openWindow_kept _ _)
  with_reducible exact Kept.refl _
  with_reducible refine Kept.trans ?_ (State.actionFailed_kept _ _ _)
  with_reducible exact Kept.refl _

theorem execDncDeadline_kept (s : State) : Kept s (stateOf (execDncDeadline s) s) := by
  unfold execDncDeadline
  refine Kept.next ?_
  with_reducible refine Kept.trans ?_ (State.runAction_kept _ _ _ ?_)
  with_reducible exact Kept.refl _
  intro _ _
  with_reducible refine Kept.ite (fun _ => ?_) (fun _ => ?_)
  with_reducible refine Kept.trans ?_ (State.closeWindow_kept _ _)
  with_reducible exact Kept.refl _
  with_reducible refine Kept.trans ?_ (State.actionFailed_kept _ _ _)
  with_reducible exact Kept.refl _

theorem execDncRelease_kept (s : State) : Kept s (stateOf (execDncRelease s) s) := by
  unfold execDncRelease
  refine Kept.next ?_
  with_reducible refine Kept.trans ?_ (State.runAction_kept _ _ _ ?_)
  with_reducible exact Kept.refl _
  intro _ _
  with_reducible refine Kept.ite (fun _ => ?_) (fun _ => ?_)
  dsimp only
  with_reducible refine Kept.trans ?_ (State.setFlowRun_kept _ _ _)
  with_reducible exact Kept.refl _
  with_reducible refine Kept.trans ?_ (State.actionFailed_kept _ _ _)
  with_reducible exact Kept.refl _

theorem State.holdTicket_kept (s : State) (f k : Nat) (h : HoldCopy) (deadline : Nat) :
    Kept s (State.holdTicket s f k h deadline).2 := by
  unfold State.holdTicket
  dsimp only
  split
  with_reducible exact Kept.refl _
  split
  dsimp only
  with_reducible refine Kept.trans ?_ (State.incSat_kept _ _)
  with_reducible exact Kept.refl _
  split
  dsimp only
  with_reducible refine Kept.trans ?_ (State.postLimited_kept _ _ _ _ _ _)
  with_reducible refine Kept.trans ?_ (State.incSat_kept _ _)
  with_reducible exact Kept.refl _
  dsimp only
  with_reducible refine Kept.mk_same ?_ rfl rfl rfl rfl rfl
  with_reducible exact Kept.refl _

theorem State.substituteOne_kept (s : State) (f k : Nat) : Kept s (State.substituteOne s f k).2 := by
  unfold State.substituteOne
  dsimp only
  split
  with_reducible refine Kept.trans ?_ (State.holdTicket_kept _ _ _ _ _)
  with_reducible exact Kept.refl _
  split
  split
  with_reducible refine Kept.trans ?_ (State.createTicket_kept _ _)
  with_reducible exact Kept.refl _
  dsimp only
  with_reducible refine Kept.trans ?_ (State.ticketWrite_kept _ _ _ _)
  with_reducible refine Kept.trans ?_ (State.setTicket_kept _ _ _)
  with_reducible refine Kept.trans ?_ (State.createTicket_kept _ _)
  with_reducible exact Kept.refl _
  with_reducible refine Kept.trans ?_ (State.createTicket_kept _ _)
  with_reducible exact Kept.refl _

theorem State.substitute_kept (s : State) (f n : Nat) : Kept s (State.substitute s f n) := by
  induction n generalizing s f with
  | zero =>
    unfold State.substitute
    with_reducible exact Kept.refl _
  | succ k ih =>
    unfold State.substitute
    dsimp only
    split
    with_reducible exact Kept.refl _
    split
    with_reducible refine Kept.trans ?_ (State.substituteOne_kept _ _ _)
    with_reducible exact Kept.refl _
    with_reducible refine Kept.trans ?_ (ih ..)
    with_reducible refine Kept.trans ?_ (State.flowStat_kept _ _ _ _)
    with_reducible refine Kept.trans ?_ (State.setFlowRun_kept _ _ _)
    with_reducible refine Kept.trans ?_ (State.substituteOne_kept _ _ _)
    with_reducible exact Kept.refl _
    with_reducible refine Kept.trans ?_ (ih ..)
    with_reducible refine Kept.trans ?_ (State.setFlowRun_kept _ _ _)
    with_reducible refine Kept.trans ?_ (State.substituteOne_kept _ _ _)
    with_reducible exact Kept.refl _

theorem execSubstituteTicketCreate_kept (flow : Nat) (s : State) :
    Kept s (stateOf (execSubstituteTicketCreate flow s) s) := by
  unfold execSubstituteTicketCreate
  refine Kept.next ?_
  with_reducible refine Kept.ite (fun _ => ?_) (fun _ => ?_)
  with_reducible refine Kept.trans ?_ (State.substitute_kept _ _ _)
  with_reducible refine Kept.trans ?_ (State.setFlowRun_kept _ _ _)
  with_reducible exact Kept.refl _
  with_reducible exact Kept.refl _

theorem State.gateCount_kept (s : State) (g : Nat) : Kept s (State.gateCount s g) := by
  unfold State.gateCount
  dsimp only
  with_reducible refine Kept.trans ?_ (State.setFlowRun_kept _ _ _)
  with_reducible exact Kept.refl _

theorem State.occupyLanes_kept (s : State) (g words : Nat) : Kept s (State.occupyLanes s g words) := by
  unfold State.occupyLanes
  with_reducible refine Kept.trans ?_ (Kept.foldl _ _ _ ?_)
  with_reducible exact Kept.refl _
  intro _ _
  dsimp only
  with_reducible refine Kept.mk_same ?_ rfl rfl rfl rfl rfl
  with_reducible exact Kept.refl _

theorem State.sendTicketBlocks_kept (s : State) (g : Nat) (t : Ticket) (ws : List StoreWord) :
    Kept s (State.sendTicketBlocks s g t ws).2 := by
  unfold State.sendTicketBlocks
  split
  with_reducible refine Kept.trans ?_ (State.sendBlocks_kept _ _ _)
  with_reducible exact Kept.refl _
  with_reducible exact Kept.refl _

theorem State.sendPacket_kept (s0 : State) (g i : Nat) (t : Ticket) (j m : Nat) (found : Found) :
    Kept s0 (State.sendPacket s0 g i t j m found) := by
  unfold State.sendPacket
  dsimp only
  with_reducible refine Kept.ite (fun _ => ?_) (fun _ => ?_)
  with_reducible refine Kept.trans ?_ (State.deliverTicket_kept _ _)
  with_reducible refine Kept.trans ?_ (State.gateCount_kept _ _)
  with_reducible refine Kept.trans ?_ (State.flowStat_kept _ _ _ _)
  with_reducible refine Kept.ite (fun _ => ?_) (fun _ => ?_)
  with_reducible refine Kept.trans ?_ (State.flowEvent_kept _ _ _ _ _ _ _)
  with_reducible refine Kept.trans ?_ (State.flowStat_kept _ _ _ _)
  with_reducible refine Kept.trans ?_ (State.flowStat_kept _ _ _ _)
  with_reducible refine Kept.trans ?_ (State.setFlowRun_kept _ _ _)
  with_reducible refine Kept.trans ?_ (State.occupyLanes_kept _ _ _)
  with_reducible refine Kept.trans ?_ (State.took_kept _)
  with_reducible refine Kept.mk_same ?_ rfl rfl rfl rfl rfl
  with_reducible refine Kept.trans ?_ (State.sendTicketBlocks_kept _ _ _ _)
  with_reducible refine Kept.trans ?_ (State.senseWords_kept _ _ _)
  with_reducible exact Kept.refl _
  with_reducible refine Kept.trans ?_ (State.flowStat_kept _ _ _ _)
  with_reducible refine Kept.trans ?_ (State.setFlowRun_kept _ _ _)
  with_reducible refine Kept.trans ?_ (State.occupyLanes_kept _ _ _)
  with_reducible refine Kept.trans ?_ (State.took_kept _)
  with_reducible refine Kept.mk_same ?_ rfl rfl rfl rfl rfl
  with_reducible refine Kept.trans ?_ (State.sendTicketBlocks_kept _ _ _ _)
  with_reducible refine Kept.trans ?_ (State.senseWords_kept _ _ _)
  with_reducible exact Kept.refl _
  with_reducible refine Kept.trans ?_ (State.setTicket_kept _ _ _)
  with_reducible refine Kept.ite (fun _ => ?_) (fun _ => ?_)
  with_reducible refine Kept.trans ?_ (State.flowStat_kept _ _ _ _)
  with_reducible refine Kept.ite (fun _ => ?_) (fun _ => ?_)
  with_reducible refine Kept.trans ?_ (State.flowEvent_kept _ _ _ _ _ _ _)
  with_reducible refine Kept.trans ?_ (State.flowStat_kept _ _ _ _)
  with_reducible refine Kept.trans ?_ (State.flowStat_kept _ _ _ _)
  with_reducible refine Kept.trans ?_ (State.setFlowRun_kept _ _ _)
  with_reducible refine Kept.trans ?_ (State.occupyLanes_kept _ _ _)
  with_reducible refine Kept.trans ?_ (State.took_kept _)
  with_reducible refine Kept.mk_same ?_ rfl rfl rfl rfl rfl
  with_reducible refine Kept.trans ?_ (State.sendTicketBlocks_kept _ _ _ _)
  with_reducible refine Kept.trans ?_ (State.senseWords_kept _ _ _)
  with_reducible exact Kept.refl _
  with_reducible refine Kept.trans ?_ (State.flowStat_kept _ _ _ _)
  with_reducible refine Kept.trans ?_ (State.setFlowRun_kept _ _ _)
  with_reducible refine Kept.trans ?_ (State.occupyLanes_kept _ _ _)
  with_reducible refine Kept.trans ?_ (State.took_kept _)
  with_reducible refine Kept.mk_same ?_ rfl rfl rfl rfl rfl
  with_reducible refine Kept.trans ?_ (State.sendTicketBlocks_kept _ _ _ _)
  with_reducible refine Kept.trans ?_ (State.senseWords_kept _ _ _)
  with_reducible exact Kept.refl _
  with_reducible refine Kept.ite (fun _ => ?_) (fun _ => ?_)
  with_reducible refine Kept.trans ?_ (State.flowEvent_kept _ _ _ _ _ _ _)
  with_reducible refine Kept.trans ?_ (State.flowStat_kept _ _ _ _)
  with_reducible refine Kept.trans ?_ (State.flowStat_kept _ _ _ _)
  with_reducible refine Kept.trans ?_ (State.setFlowRun_kept _ _ _)
  with_reducible refine Kept.trans ?_ (State.occupyLanes_kept _ _ _)
  with_reducible refine Kept.trans ?_ (State.took_kept _)
  with_reducible refine Kept.mk_same ?_ rfl rfl rfl rfl rfl
  with_reducible refine Kept.trans ?_ (State.sendTicketBlocks_kept _ _ _ _)
  with_reducible refine Kept.trans ?_ (State.senseWords_kept _ _ _)
  with_reducible exact Kept.refl _
  with_reducible refine Kept.trans ?_ (State.flowStat_kept _ _ _ _)
  with_reducible refine Kept.trans ?_ (State.setFlowRun_kept _ _ _)
  with_reducible refine Kept.trans ?_ (State.occupyLanes_kept _ _ _)
  with_reducible refine Kept.trans ?_ (State.took_kept _)
  with_reducible refine Kept.mk_same ?_ rfl rfl rfl rfl rfl
  with_reducible refine Kept.trans ?_ (State.sendTicketBlocks_kept _ _ _ _)
  with_reducible refine Kept.trans ?_ (State.senseWords_kept _ _ _)
  with_reducible exact Kept.refl _

theorem execEgressPacketSend_kept (flow : Nat) (found : Found) (s : State) :
    Kept s (stateOf (execEgressPacketSend flow found s) s) := by
  unfold execEgressPacketSend
  refine Kept.next ?_
  with_reducible refine Kept.ite (fun _ => ?_) (fun _ => ?_)
  dsimp only
  split
  with_reducible exact Kept.refl _
  with_reducible refine Kept.ite (fun _ => ?_) (fun _ => ?_)
  with_reducible exact Kept.refl _
  with_reducible refine Kept.ite (fun _ => ?_) (fun _ => ?_)
  with_reducible refine Kept.ite (fun _ => ?_) (fun _ => ?_)
  with_reducible refine Kept.trans ?_ (State.drainFlows_kept _)
  with_reducible refine Kept.trans ?_ (State.sendPacket_kept _ _ _ _ _ _ _)
  with_reducible exact Kept.refl _
  with_reducible exact Kept.refl _
  with_reducible refine Kept.ite (fun _ => ?_) (fun _ => ?_)
  with_reducible refine Kept.trans ?_ (State.setFlowRun_kept _ _ _)
  with_reducible exact Kept.refl _
  with_reducible refine Kept.trans ?_ (State.drainFlows_kept _)
  with_reducible refine Kept.trans ?_ (State.sendPacket_kept _ _ _ _ _ _ _)
  with_reducible refine Kept.trans ?_ (State.setFlowRun_kept _ _ _)
  with_reducible exact Kept.refl _
  with_reducible exact Kept.refl _

theorem execInjectFrameSend_kept (lane : Nat) (s : State) : Kept s (stateOf (execInjectFrameSend lane s) s) := by
  unfold execInjectFrameSend
  refine Kept.next ?_
  split
  with_reducible exact Kept.refl _
  with_reducible refine Kept.ite (fun _ => ?_) (fun _ => ?_)
  with_reducible refine Kept.trans ?_ (State.incSat_kept _ _)
  with_reducible refine Kept.mk_same ?_ rfl rfl rfl rfl rfl
  with_reducible exact Kept.refl _
  with_reducible exact Kept.refl _

theorem State.sendAnc_kept (g room : Nat) (found : Found) (q : AncRoom × State) (e : Nat × Ticket) :
    Kept q.2 (State.sendAnc g room found q e).2 := by
  unfold State.sendAnc
  dsimp only
  split
  dsimp only
  with_reducible refine Kept.trans ?_ (State.deliverTicket_kept _ _)
  with_reducible refine Kept.trans ?_ (State.flowStat_kept _ _ _ _)
  with_reducible refine Kept.ite (fun _ => ?_) (fun _ => ?_)
  with_reducible refine Kept.trans ?_ (State.flowEvent_kept _ _ _ _ _ _ _)
  with_reducible refine Kept.trans ?_ (State.flowStat_kept _ _ _ _)
  with_reducible refine Kept.trans ?_ (State.senseWords_kept _ _ _)
  with_reducible exact Kept.refl _
  with_reducible refine Kept.trans ?_ (State.senseWords_kept _ _ _)
  with_reducible exact Kept.refl _
  split
  split
  dsimp only
  with_reducible refine Kept.trans ?_ (State.deliverTicket_kept _ _)
  with_reducible refine Kept.trans ?_ (State.flowStat_kept _ _ _ _)
  with_reducible refine Kept.ite (fun _ => ?_) (fun _ => ?_)
  with_reducible refine Kept.trans ?_ (State.flowEvent_kept _ _ _ _ _ _ _)
  with_reducible refine Kept.trans ?_ (State.flowStat_kept _ _ _ _)
  with_reducible refine Kept.trans ?_ (State.senseWords_kept _ _ _)
  with_reducible exact Kept.refl _
  with_reducible refine Kept.trans ?_ (State.senseWords_kept _ _ _)
  with_reducible exact Kept.refl _
  dsimp only
  with_reducible refine Kept.trans ?_ (State.deliverTicket_kept _ _)
  with_reducible refine Kept.trans ?_ (State.flowStat_kept _ _ _ _)
  with_reducible refine Kept.trans ?_ (State.flowStat_kept _ _ _ _)
  with_reducible refine Kept.ite (fun _ => ?_) (fun _ => ?_)
  with_reducible refine Kept.trans ?_ (State.flowEvent_kept _ _ _ _ _ _ _)
  with_reducible refine Kept.trans ?_ (State.flowStat_kept _ _ _ _)
  with_reducible refine Kept.trans ?_ (State.senseWords_kept _ _ _)
  with_reducible exact Kept.refl _
  with_reducible refine Kept.trans ?_ (State.senseWords_kept _ _ _)
  with_reducible exact Kept.refl _
  split
  dsimp only
  with_reducible refine Kept.trans ?_ (State.deliverTicket_kept _ _)
  with_reducible refine Kept.trans ?_ (State.flowStat_kept _ _ _ _)
  with_reducible refine Kept.ite (fun _ => ?_) (fun _ => ?_)
  with_reducible refine Kept.trans ?_ (State.flowEvent_kept _ _ _ _ _ _ _)
  with_reducible refine Kept.trans ?_ (State.flowStat_kept _ _ _ _)
  with_reducible refine Kept.trans ?_ (State.senseWords_kept _ _ _)
  with_reducible exact Kept.refl _
  with_reducible refine Kept.trans ?_ (State.senseWords_kept _ _ _)
  with_reducible exact Kept.refl _
  dsimp only
  with_reducible refine Kept.trans ?_ (State.deliverTicket_kept _ _)
  with_reducible refine Kept.trans ?_ (State.flowStat_kept _ _ _ _)
  with_reducible refine Kept.trans ?_ (State.flowStat_kept _ _ _ _)
  with_reducible refine Kept.ite (fun _ => ?_) (fun _ => ?_)
  with_reducible refine Kept.trans ?_ (State.flowEvent_kept _ _ _ _ _ _ _)
  with_reducible refine Kept.trans ?_ (State.flowStat_kept _ _ _ _)
  with_reducible refine Kept.trans ?_ (State.senseWords_kept _ _ _)
  with_reducible exact Kept.refl _
  with_reducible refine Kept.trans ?_ (State.senseWords_kept _ _ _)
  with_reducible exact Kept.refl _

theorem State.sendAncFold_kept (g room : Nat) (found : Found) (l : List (Nat × Ticket)) (q : AncRoom × State) :
    Kept q.2 (l.foldl (State.sendAnc g room found) q).2 := by
  induction l generalizing q with
  | nil => exact Kept.refl _
  | cons a r ih => exact (State.sendAnc_kept g room found q a).trans (ih _)

theorem State.sendAncs_kept (s : State) (g room : Nat) (found : Found) (l : List (Nat × Ticket)) :
    Kept s (State.sendAncs s g room found l).2 :=
  State.sendAncFold_kept g room found l ({}, s)

theorem State.dropLateLines_kept (s : State) (g fuel : Nat) : Kept s (State.dropLateLines s g fuel) := by
  induction fuel generalizing s with
  | zero =>
    unfold State.dropLateLines
    with_reducible exact Kept.refl _
  | succ k ih =>
    unfold State.dropLateLines
    dsimp only
    split
    with_reducible exact Kept.refl _
    with_reducible refine Kept.ite (fun _ => ?_) (fun _ => ?_)
    with_reducible exact Kept.refl _
    with_reducible refine Kept.trans ?_ (ih ..)
    with_reducible refine Kept.trans ?_ (State.releaseTicket_kept _ _)
    with_reducible refine Kept.trans ?_ (State.flowStat_kept _ _ _ _)
    with_reducible refine Kept.trans ?_ (State.setFlowRun_kept _ _ _)
    with_reducible exact Kept.refl _

theorem State.takeLine_kept (s : State) (g : Nat) (found : Found) : Kept s (State.takeLine s g found).2 := by
  unfold State.takeLine
  dsimp only
  split
  dsimp only
  with_reducible refine Kept.trans ?_ (State.deliverTicket_kept _ _)
  with_reducible refine Kept.trans ?_ (State.gateCount_kept _ _)
  with_reducible refine Kept.trans ?_ (State.flowStat_kept _ _ _ _)
  with_reducible refine Kept.trans ?_ (State.flowStat_kept _ _ _ _)
  with_reducible refine Kept.ite (fun _ => ?_) (fun _ => ?_)
  with_reducible refine Kept.trans ?_ (State.flowEvent_kept _ _ _ _ _ _ _)
  with_reducible refine Kept.ite (fun _ => ?_) (fun _ => ?_)
  with_reducible refine Kept.trans ?_ (State.flowEvent_kept _ _ _ _ _ _ _)
  with_reducible refine Kept.trans ?_ (State.flowStat_kept _ _ _ _)
  with_reducible refine Kept.trans ?_ (State.senseWords_kept _ _ _)
  with_reducible refine Kept.trans ?_ (State.dropLateLines_kept _ _ _)
  with_reducible exact Kept.refl _
  with_reducible refine Kept.trans ?_ (State.senseWords_kept _ _ _)
  with_reducible refine Kept.trans ?_ (State.dropLateLines_kept _ _ _)
  with_reducible exact Kept.refl _
  with_reducible refine Kept.ite (fun _ => ?_) (fun _ => ?_)
  with_reducible refine Kept.trans ?_ (State.flowEvent_kept _ _ _ _ _ _ _)
  with_reducible refine Kept.trans ?_ (State.flowStat_kept _ _ _ _)
  with_reducible refine Kept.trans ?_ (State.senseWords_kept _ _ _)
  with_reducible refine Kept.trans ?_ (State.dropLateLines_kept _ _ _)
  with_reducible exact Kept.refl _
  with_reducible refine Kept.trans ?_ (State.senseWords_kept _ _ _)
  with_reducible refine Kept.trans ?_ (State.dropLateLines_kept _ _ _)
  with_reducible exact Kept.refl _
  dsimp only
  with_reducible refine Kept.trans ?_ (State.flowEvent_kept _ _ _ _ _ _ _)
  with_reducible refine Kept.trans ?_ (State.setFlowRun_kept _ _ _)
  with_reducible refine Kept.trans ?_ (State.dropLateLines_kept _ _ _)
  with_reducible exact Kept.refl _

theorem State.sendLine_kept (s : State) (g number room : Nat) (anc : AncRoom) (active : List Nat) (blanking : Bool) :
    Kept s (State.sendLine s g number room anc active blanking) := by
  unfold State.sendLine
  dsimp only
  with_reducible refine Kept.trans ?_ (State.setFlowRun_kept _ _ _)
  with_reducible refine Kept.mk_same ?_ rfl rfl rfl rfl rfl
  with_reducible exact Kept.refl _

theorem execEgressSdiLine_kept (flow : Nat) (found : Found) (s : State) :
    Kept s (stateOf (execEgressSdiLine flow found s) s) := by
  unfold execEgressSdiLine
  refine Kept.next ?_
  dsimp only
  with_reducible refine Kept.ite (fun _ => ?_) (fun _ => ?_)
  with_reducible refine Kept.trans ?_ (State.drainFlows_kept _)
  with_reducible refine Kept.trans ?_ (State.sendLine_kept _ _ _ _ _ _ _)
  split
  with_reducible refine Kept.trans ?_ (State.takeLine_kept _ _ _)
  with_reducible refine Kept.trans ?_ (State.sendAncs_kept _ _ _ _ _)
  with_reducible exact Kept.refl _
  dsimp only
  with_reducible refine Kept.trans ?_ (State.sendAncs_kept _ _ _ _ _)
  with_reducible exact Kept.refl _
  with_reducible exact Kept.refl _

theorem execTicketDelivered_kept (ticket : Nat) (s : State) : Kept s (stateOf (execTicketDelivered ticket s) s) := by
  unfold execTicketDelivered
  refine Kept.next ?_
  split
  with_reducible exact Kept.refl _
  with_reducible refine Kept.ite (fun _ => ?_) (fun _ => ?_)
  with_reducible refine Kept.trans ?_ (State.drainFlows_kept _)
  with_reducible refine Kept.trans ?_ (State.deliverTicket_kept _ _)
  with_reducible exact Kept.refl _
  with_reducible exact Kept.refl _

theorem execTicketDeadline_kept (ticket : Nat) (s : State) : Kept s (stateOf (execTicketDeadline ticket s) s) := by
  unfold execTicketDeadline
  refine Kept.next ?_
  split
  with_reducible exact Kept.refl _
  split
  with_reducible exact Kept.refl _
  with_reducible refine Kept.ite (fun _ => ?_) (fun _ => ?_)
  with_reducible refine Kept.trans ?_ (State.drainFlows_kept _)
  with_reducible refine Kept.trans ?_ (State.discardLate_kept _ _ _)
  with_reducible exact Kept.refl _
  with_reducible exact Kept.refl _

end Sys2Proof.Machine
end

