-- ==== Sys2Proof/Laws/KeptLaneOps.lean ====
section
/-! SUPPORT. `Kept` for the functions of Machine/LaneOps.lean. -/

namespace Sys2Proof.Machine

open Sys2Proof

theorem State.laneDown_kept (s : State) (n next why : Nat) : Kept s (State.laneDown s n next why) := by
  unfold State.laneDown
  dsimp only
  with_reducible refine Kept.ite (fun _ => ?_) (fun _ => ?_)
  with_reducible refine Kept.trans ?_ (State.took_kept _)
  with_reducible refine Kept.mk_same ?_ rfl rfl rfl rfl rfl
  with_reducible refine Kept.trans ?_ (State.post_kept _ _ _ _ _)
  with_reducible refine Kept.trans ?_ (State.addSatAt_kept _ _ _ _)
  with_reducible refine Kept.trans ?_ (State.wrAt_kept _ _ _ _)
  with_reducible refine Kept.trans ?_ (State.wrAt_kept _ _ _ _)
  with_reducible refine Kept.trans ?_ (State.wrAt_kept _ _ _ _)
  with_reducible exact Kept.refl _
  with_reducible refine Kept.trans ?_ (State.post_kept _ _ _ _ _)
  with_reducible refine Kept.trans ?_ (State.addSatAt_kept _ _ _ _)
  with_reducible refine Kept.trans ?_ (State.wrAt_kept _ _ _ _)
  with_reducible refine Kept.trans ?_ (State.wrAt_kept _ _ _ _)
  with_reducible refine Kept.trans ?_ (State.wrAt_kept _ _ _ _)
  with_reducible exact Kept.refl _

theorem State.laneTo_kept (s : State) (n next why : Nat) : Kept s (State.laneTo s n next why) := by
  unfold State.laneTo
  with_reducible refine Kept.ite (fun _ => ?_) (fun _ => ?_)
  with_reducible refine Kept.trans ?_ (State.laneDown_kept _ _ _ _)
  with_reducible exact Kept.refl _
  with_reducible refine Kept.trans ?_ (State.wrAt_kept _ _ _ _)
  with_reducible exact Kept.refl _

theorem State.laneRefuse_kept (s : State) (err : Field) (source index why : Nat) :
    Kept s (State.laneRefuse s err source index why) := by
  unfold State.laneRefuse
  dsimp only
  with_reducible refine Kept.trans ?_ (State.post_kept _ _ _ _ _)
  with_reducible refine Kept.ite (fun _ => ?_) (fun _ => ?_)
  with_reducible refine Kept.trans ?_ (State.wr_kept _ _ _)
  with_reducible refine Kept.trans ?_ (State.wr_kept _ _ _)
  with_reducible refine Kept.trans ?_ (State.wr_kept _ _ _)
  with_reducible refine Kept.trans ?_ (State.wr_kept _ _ _)
  with_reducible exact Kept.refl _
  with_reducible refine Kept.trans ?_ (State.wr_kept _ _ _)
  with_reducible refine Kept.trans ?_ (State.wr_kept _ _ _)
  with_reducible refine Kept.trans ?_ (State.wr_kept _ _ _)
  with_reducible exact Kept.refl _

theorem State.laneSettle_kept (s : State) (n : Nat) : Kept s (State.laneSettle s n) := by
  unfold State.laneSettle
  dsimp only
  with_reducible refine Kept.ite (fun _ => ?_) (fun _ => ?_)
  with_reducible exact Kept.refl _
  with_reducible refine Kept.ite (fun _ => ?_) (fun _ => ?_)
  with_reducible refine Kept.trans ?_ (State.laneTo_kept _ _ _ _)
  with_reducible exact Kept.refl _
  with_reducible refine Kept.ite (fun _ => ?_) (fun _ => ?_)
  with_reducible refine Kept.trans ?_ (State.laneTo_kept _ _ _ _)
  with_reducible exact Kept.refl _
  with_reducible refine Kept.ite (fun _ => ?_) (fun _ => ?_)
  with_reducible refine Kept.ite (fun _ => ?_) (fun _ => ?_)
  with_reducible exact Kept.refl _
  with_reducible refine Kept.trans ?_ (State.laneTo_kept _ _ _ _)
  with_reducible exact Kept.refl _
  with_reducible refine Kept.ite (fun _ => ?_) (fun _ => ?_)
  with_reducible refine Kept.trans ?_ (State.wrAt_kept _ _ _ _)
  with_reducible exact Kept.refl _
  with_reducible exact Kept.refl _

theorem State.lanesSettle_kept (s : State) : Kept s (State.lanesSettle s) := by
  unfold State.lanesSettle
  with_reducible refine Kept.trans ?_ (Kept.foldl _ _ _ ?_)
  with_reducible exact Kept.refl _
  intro _ _
  with_reducible refine Kept.trans ?_ (State.laneSettle_kept _ _)
  with_reducible exact Kept.refl _

theorem State.dropRouteBonds_kept (s : State) : Kept s (State.dropRouteBonds s) := by
  unfold State.dropRouteBonds
  with_reducible refine Kept.mk_same ?_ rfl rfl rfl rfl rfl
  with_reducible exact Kept.refl _

theorem State.handBack_kept (s : State) : Kept s (State.handBack s) := by
  unfold State.handBack
  with_reducible refine Kept.trans ?_ (Kept.foldl _ _ _ ?_)
  with_reducible refine Kept.trans ?_ (State.dropRouteBonds_kept _)
  with_reducible exact Kept.refl _
  intro _ _
  with_reducible refine Kept.ite (fun _ => ?_) (fun _ => ?_)
  with_reducible refine Kept.trans ?_ (State.laneSettle_kept _ _)
  with_reducible refine Kept.trans ?_ (State.wrAt_kept _ _ _ _)
  with_reducible exact Kept.refl _
  with_reducible exact Kept.refl _

theorem State.laneFollowers_kept (s : State) (n was : Nat) : Kept s (State.laneFollowers s n was) := by
  unfold State.laneFollowers
  dsimp only
  with_reducible refine Kept.ite (fun _ => ?_) (fun _ => ?_)
  with_reducible refine Kept.trans ?_ (Kept.foldl _ _ _ ?_)
  with_reducible exact Kept.refl _
  intro _ _
  with_reducible refine Kept.trans ?_ (State.laneSettle_kept _ _)
  with_reducible refine Kept.trans ?_ (State.wrAt_kept _ _ _ _)
  with_reducible refine Kept.trans ?_ (State.wrAt_kept _ _ _ _)
  with_reducible refine Kept.trans ?_ (State.wrAt_kept _ _ _ _)
  with_reducible exact Kept.refl _
  with_reducible refine Kept.ite (fun _ => ?_) (fun _ => ?_)
  with_reducible refine Kept.trans ?_ (Kept.foldl _ _ _ ?_)
  with_reducible exact Kept.refl _
  intro _ _
  with_reducible refine Kept.trans ?_ (State.laneSettle_kept _ _)
  with_reducible refine Kept.trans ?_ (State.wrAt_kept _ _ _ _)
  with_reducible refine Kept.trans ?_ (State.wrAt_kept _ _ _ _)
  with_reducible refine Kept.trans ?_ (State.wrAt_kept _ _ _ _)
  with_reducible exact Kept.refl _
  with_reducible exact Kept.refl _

theorem State.noteLane_kept (s : State) (n : Nat) : Kept s (State.noteLane s n) := by
  unfold State.noteLane
  dsimp only
  split
  with_reducible refine Kept.ite (fun _ => ?_) (fun _ => ?_)
  with_reducible exact Kept.refl _
  with_reducible refine Kept.mk_same ?_ rfl rfl rfl rfl rfl
  with_reducible exact Kept.refl _
  with_reducible refine Kept.mk_same ?_ rfl rfl rfl rfl rfl
  with_reducible exact Kept.refl _

theorem State.putFields_kept (s : State) (n : Nat) (fs : List Field) (vs : List Nat) : Kept s (State.putFields s n fs vs) := by
  induction fs generalizing s vs with
  | nil => exact Kept.refl s
  | cons f r ih =>
    cases vs with
    | nil => exact Kept.refl s
    | cons v q => exact (s.wrAt_kept f n v).trans (ih _ q)

theorem State.undoWrites_kept (s : State) (n : Nat) : Kept s (State.undoWrites s n) := by
  unfold State.undoWrites
  split
  with_reducible refine Kept.ite (fun _ => ?_) (fun _ => ?_)
  with_reducible refine Kept.trans ?_ (State.wr_kept _ _ _)
  with_reducible refine Kept.trans ?_ (State.putFields_kept _ _ _ _)
  with_reducible exact Kept.refl _
  with_reducible exact Kept.refl _
  with_reducible exact Kept.refl _

theorem State.laneCtrlWrite_kept (s : State) (n v : Nat) : Kept s (State.laneCtrlWrite s n v) := by
  unfold State.laneCtrlWrite
  split
  with_reducible refine Kept.trans ?_ (State.laneRefuse_kept _ _ _ _ _)
  with_reducible exact Kept.refl _
  dsimp only
  with_reducible refine Kept.trans ?_ (State.laneSettle_kept _ _)
  with_reducible refine Kept.trans ?_ (State.laneFollowers_kept _ _ _)
  with_reducible refine Kept.trans ?_ (State.wrAt_kept _ _ _ _)
  with_reducible refine Kept.trans ?_ (State.wrAt_kept _ _ _ _)
  with_reducible refine Kept.trans ?_ (State.wrAt_kept _ _ _ _)
  with_reducible refine Kept.trans ?_ (State.wrAt_kept _ _ _ _)
  with_reducible refine Kept.trans ?_ (State.wrAt_kept _ _ _ _)
  with_reducible refine Kept.trans ?_ (State.wrAt_kept _ _ _ _)
  with_reducible refine Kept.trans ?_ (State.wrAt_kept _ _ _ _)
  with_reducible refine Kept.trans ?_ (State.wrAt_kept _ _ _ _)
  with_reducible exact Kept.refl _

theorem State.lanePrbsWrite_kept (s : State) (n v : Nat) : Kept s (State.lanePrbsWrite s n v) := by
  unfold State.lanePrbsWrite
  with_reducible refine Kept.ite (fun _ => ?_) (fun _ => ?_)
  with_reducible refine Kept.trans ?_ (State.wr_kept _ _ _)
  with_reducible exact Kept.refl _
  with_reducible refine Kept.trans ?_ (State.laneSettle_kept _ _)
  with_reducible refine Kept.trans ?_ (State.wrAt_kept _ _ _ _)
  with_reducible refine Kept.trans ?_ (State.wrAt_kept _ _ _ _)
  with_reducible refine Kept.trans ?_ (State.wrAt_kept _ _ _ _)
  with_reducible exact Kept.refl _

theorem State.setBond_kept (s : State) (b st why : Nat) : Kept s (State.setBond s b st why) := by
  unfold State.setBond
  with_reducible refine Kept.ite (fun _ => ?_) (fun _ => ?_)
  with_reducible refine Kept.trans ?_ (State.setBondRun_kept _ _ _)
  with_reducible exact Kept.refl _
  with_reducible refine Kept.trans ?_ (State.post_kept _ _ _ _ _)
  with_reducible refine Kept.trans ?_ (State.wrAt_kept _ _ _ _)
  with_reducible refine Kept.trans ?_ (State.wrAt_kept _ _ _ _)
  with_reducible exact Kept.refl _

theorem State.bondDown_kept (s : State) (b : Nat) : Kept s (State.bondDown s b) := by
  unfold State.bondDown
  with_reducible refine Kept.trans ?_ (Kept.foldl _ _ _ ?_)
  with_reducible refine Kept.trans ?_ (State.setBond_kept _ _ _ _)
  with_reducible exact Kept.refl _
  intro _ _
  with_reducible refine Kept.trans ?_ (State.deviceDisable_kept _ _ _)
  with_reducible exact Kept.refl _

theorem State.bondLose_kept (s : State) (b n : Nat) : Kept s (State.bondLose s b n) := by
  unfold State.bondLose
  dsimp only
  split
  with_reducible refine Kept.ite (fun _ => ?_) (fun _ => ?_)
  with_reducible refine Kept.trans ?_ (State.setBondRun_kept _ _ _)
  with_reducible exact Kept.refl _
  with_reducible refine Kept.ite (fun _ => ?_) (fun _ => ?_)
  with_reducible refine Kept.trans ?_ (State.bondDown_kept _ _)
  with_reducible exact Kept.refl _
  with_reducible exact Kept.refl _
  with_reducible refine Kept.ite (fun _ => ?_) (fun _ => ?_)
  with_reducible refine Kept.ite (fun _ => ?_) (fun _ => ?_)
  with_reducible refine Kept.trans ?_ (State.bondDown_kept _ _)
  with_reducible refine Kept.trans ?_ (State.setBondRun_kept _ _ _)
  with_reducible exact Kept.refl _
  with_reducible refine Kept.trans ?_ (State.setBondRun_kept _ _ _)
  with_reducible exact Kept.refl _
  with_reducible exact Kept.refl _

theorem State.bondFault_kept (s : State) (n : Nat) : Kept s (State.bondFault s n) := by
  unfold State.bondFault
  split
  with_reducible exact Kept.refl _
  with_reducible refine Kept.trans ?_ (State.bondLose_kept _ _ _)
  with_reducible exact Kept.refl _

theorem State.laneFault_kept (s : State) (n trigger : Nat) : Kept s (State.laneFault s n trigger) := by
  unfold State.laneFault
  with_reducible refine Kept.ite (fun _ => ?_) (fun _ => ?_)
  with_reducible refine Kept.trans ?_ (State.bondFault_kept _ _)
  with_reducible refine Kept.trans ?_ (State.startTest_kept _ _ _ _ _)
  with_reducible refine Kept.trans ?_ (State.laneDown_kept _ _ _ _)
  with_reducible refine Kept.trans ?_ (State.post_kept _ _ _ _ _)
  with_reducible exact Kept.refl _
  split
  with_reducible refine Kept.trans ?_ (State.bondLose_kept _ _ _)
  with_reducible exact Kept.refl _
  with_reducible exact Kept.refl _

theorem State.keepLevels_kept (s : State) : Kept s (State.keepLevels s) := by
  unfold State.keepLevels
  with_reducible refine Kept.trans ?_ (Kept.foldl _ _ _ ?_)
  with_reducible exact Kept.refl _
  intro _ _
  dsimp only
  split
  with_reducible refine Kept.mk_same ?_ rfl rfl rfl rfl rfl
  with_reducible exact Kept.refl _
  with_reducible exact Kept.refl _

theorem State.danceDrive_kept (s : State) (p : Nat) (level : Bool) : Kept s (State.danceDrive s p level) := by
  unfold State.danceDrive
  with_reducible refine Kept.mk_same ?_ rfl rfl rfl rfl rfl
  with_reducible exact Kept.refl _

end Sys2Proof.Machine
end

