-- ==== Sys2Proof/Laws/KeptLanes.lean ====
section
/-! SUPPORT. `Kept` for the functions of Machine/Lanes.lean. -/

namespace Sys2Proof.Machine

open Sys2Proof

theorem execLaneCtrlWrite_kept (lane value : Nat) (s : State) : Kept s (stateOf (execLaneCtrlWrite lane value s) s) := by
  unfold execLaneCtrlWrite
  refine Kept.next ?_
  with_reducible refine Kept.ite (fun _ => ?_) (fun _ => ?_)
  with_reducible refine Kept.trans ?_ (State.laneCtrlWrite_kept _ _ _)
  with_reducible refine Kept.trans ?_ (State.noteLane_kept _ _)
  with_reducible exact Kept.refl _
  with_reducible exact Kept.refl _

theorem execLanePrbsWrite_kept (lane value : Nat) (s : State) : Kept s (stateOf (execLanePrbsWrite lane value s) s) := by
  unfold execLanePrbsWrite
  refine Kept.next ?_
  with_reducible refine Kept.ite (fun _ => ?_) (fun _ => ?_)
  with_reducible refine Kept.trans ?_ (State.lanePrbsWrite_kept _ _ _)
  with_reducible refine Kept.trans ?_ (State.noteLane_kept _ _)
  with_reducible exact Kept.refl _
  with_reducible exact Kept.refl _

theorem execQuadPllLockChange_kept (quad pll : Nat) (lock : Bool) (s : State) :
    Kept s (stateOf (execQuadPllLockChange quad pll lock s) s) := by
  unfold execQuadPllLockChange
  refine Kept.next ?_
  with_reducible refine Kept.ite (fun _ => ?_) (fun _ => ?_)
  with_reducible exact Kept.refl _
  with_reducible refine Kept.ite (fun _ => ?_) (fun _ => ?_)
  with_reducible refine Kept.ite (fun _ => ?_) (fun _ => ?_)
  with_reducible refine Kept.trans ?_ (State.wrAt_kept _ _ _ _)
  with_reducible exact Kept.refl _
  with_reducible exact Kept.refl _
  with_reducible refine Kept.trans ?_ (Kept.foldl _ _ _ ?_)
  with_reducible refine Kept.trans ?_ (State.wrAt_kept _ _ _ _)
  with_reducible exact Kept.refl _
  intro _ _
  with_reducible refine Kept.trans ?_ (State.laneDown_kept _ _ _ _)
  with_reducible exact Kept.refl _

theorem execQrefclkPresenceChange_kept (quad kilohertz : Nat) (s : State) :
    Kept s (stateOf (execQrefclkPresenceChange quad kilohertz s) s) := by
  unfold execQrefclkPresenceChange
  refine Kept.next ?_
  with_reducible refine Kept.ite (fun _ => ?_) (fun _ => ?_)
  dsimp only
  with_reducible refine Kept.trans ?_ (State.wrAt_kept _ _ _ _)
  with_reducible exact Kept.refl _
  with_reducible exact Kept.refl _

theorem State.sdiDetected_kept (s : State) (n sdiRate : Nat) (sdiFrac : Bool) :
    Kept s (State.sdiDetected s n sdiRate sdiFrac) := by
  unfold State.sdiDetected
  with_reducible refine Kept.ite (fun _ => ?_) (fun _ => ?_)
  with_reducible exact Kept.refl _
  with_reducible refine Kept.ite (fun _ => ?_) (fun _ => ?_)
  with_reducible refine Kept.trans ?_ (State.post_kept _ _ _ _ _)
  with_reducible refine Kept.trans ?_ (State.wrAt_kept _ _ _ _)
  with_reducible refine Kept.trans ?_ (State.wrAt_kept _ _ _ _)
  with_reducible exact Kept.refl _
  with_reducible refine Kept.trans ?_ (State.wrAt_kept _ _ _ _)
  with_reducible refine Kept.trans ?_ (State.wrAt_kept _ _ _ _)
  with_reducible exact Kept.refl _

theorem execLaneUp_kept (lane : Nat) (sdiRate : Nat) (sdiFrac : Bool) (s : State) :
    Kept s (stateOf (execLaneUp lane sdiRate sdiFrac s) s) := by
  unfold execLaneUp
  refine Kept.next ?_
  with_reducible refine Kept.ite (fun _ => ?_) (fun _ => ?_)
  with_reducible refine Kept.trans ?_ (State.sdiDetected_kept _ _ _ _)
  with_reducible refine Kept.trans ?_ (State.post_kept _ _ _ _ _)
  with_reducible refine Kept.trans ?_ (State.wrAt_kept _ _ _ _)
  with_reducible refine Kept.trans ?_ (State.wrAt_kept _ _ _ _)
  with_reducible refine Kept.trans ?_ (State.wrAt_kept _ _ _ _)
  with_reducible exact Kept.refl _
  with_reducible exact Kept.refl _

theorem execLaneLinkDown_kept (lane : Nat) (remote : Bool) (s : State) :
    Kept s (stateOf (execLaneLinkDown lane remote s) s) := by
  unfold execLaneLinkDown
  refine Kept.next ?_
  with_reducible refine Kept.ite (fun _ => ?_) (fun _ => ?_)
  with_reducible refine Kept.trans ?_ (State.laneDown_kept _ _ _ _)
  with_reducible exact Kept.refl _
  with_reducible exact Kept.refl _

theorem execLaneFault_kept (lane trigger : Nat) (s : State) : Kept s (stateOf (execLaneFault lane trigger s) s) := by
  unfold execLaneFault
  refine Kept.next ?_
  with_reducible refine Kept.ite (fun _ => ?_) (fun _ => ?_)
  with_reducible refine Kept.trans ?_ (State.laneFault_kept _ _ _)
  with_reducible exact Kept.refl _
  with_reducible exact Kept.refl _

theorem State.bondTrain_kept (s : State) (b : Nat) : Kept s (State.bondTrain s b) := by
  unfold State.bondTrain
  dsimp only
  with_reducible refine Kept.trans ?_ (State.setBond_kept _ _ _ _)
  with_reducible refine Kept.ite (fun _ => ?_) (fun _ => ?_)
  with_reducible refine Kept.trans ?_ (State.addSatAt_kept _ _ _ _)
  with_reducible refine Kept.trans ?_ (State.setBondRun_kept _ _ _)
  with_reducible exact Kept.refl _
  with_reducible refine Kept.trans ?_ (State.setBondRun_kept _ _ _)
  with_reducible exact Kept.refl _

theorem State.joinBond_kept (s : State) (b n p : Nat) : Kept s (State.joinBond s b n p) := by
  unfold State.joinBond
  with_reducible refine Kept.trans ?_ (State.wrAt_kept _ _ _ _)
  with_reducible refine Kept.trans ?_ (State.wrAt_kept _ _ _ _)
  with_reducible refine Kept.trans ?_ (State.wrAt_kept _ _ _ _)
  with_reducible exact Kept.refl _

theorem State.leaveBond_kept (s : State) (n : Nat) : Kept s (State.leaveBond s n) := by
  unfold State.leaveBond
  with_reducible refine Kept.trans ?_ (State.wrAt_kept _ _ _ _)
  with_reducible refine Kept.trans ?_ (State.wrAt_kept _ _ _ _)
  with_reducible refine Kept.trans ?_ (State.wrAt_kept _ _ _ _)
  with_reducible exact Kept.refl _

theorem State.bondMembers_kept (s : State) (b : Nat) : Kept s (State.bondMembers s b) := by
  unfold State.bondMembers
  dsimp only
  with_reducible refine Kept.trans ?_ (State.setBondRun_kept _ _ _)
  with_reducible refine Kept.ite (fun _ => ?_) (fun _ => ?_)
  with_reducible refine Kept.trans ?_ (State.joinBond_kept _ _ _ _)
  with_reducible refine Kept.trans ?_ (Kept.foldl _ _ _ ?_)
  with_reducible exact Kept.refl _
  intro _ _
  with_reducible refine Kept.trans ?_ (State.joinBond_kept _ _ _ _)
  with_reducible exact Kept.refl _
  with_reducible refine Kept.trans ?_ (Kept.foldl _ _ _ ?_)
  with_reducible exact Kept.refl _
  intro _ _
  with_reducible refine Kept.trans ?_ (State.joinBond_kept _ _ _ _)
  with_reducible exact Kept.refl _

theorem State.bondStart_kept (s : State) (b : Nat) : Kept s (State.bondStart s b) := by
  unfold State.bondStart
  with_reducible refine Kept.trans ?_ (State.bondTrain_kept _ _)
  with_reducible refine Kept.trans ?_ (State.wrAt_kept _ _ _ _)
  with_reducible refine Kept.trans ?_ (State.bondMembers_kept _ _)
  with_reducible exact Kept.refl _

theorem State.rejoinBonds_kept (s : State) : Kept s (State.rejoinBonds s) := by
  unfold State.rejoinBonds
  with_reducible refine Kept.trans ?_ (Kept.foldl _ _ _ ?_)
  with_reducible exact Kept.refl _
  intro _ _
  with_reducible refine Kept.trans ?_ (State.bondMembers_kept _ _)
  with_reducible exact Kept.refl _

theorem State.bondStop_kept (s : State) (b : Nat) : Kept s (State.bondStop s b) := by
  unfold State.bondStop
  dsimp only
  with_reducible refine Kept.ite (fun _ => ?_) (fun _ => ?_)
  with_reducible refine Kept.trans ?_ (State.wrAt_kept _ _ _ _)
  with_reducible refine Kept.trans ?_ (State.setBondRun_kept _ _ _)
  with_reducible refine Kept.trans ?_ (Kept.foldl _ _ _ ?_)
  with_reducible exact Kept.refl _
  intro _ _
  with_reducible refine Kept.trans ?_ (State.leaveBond_kept _ _)
  with_reducible exact Kept.refl _
  with_reducible refine Kept.trans ?_ (State.setBond_kept _ _ _ _)
  with_reducible refine Kept.trans ?_ (State.wrAt_kept _ _ _ _)
  with_reducible refine Kept.trans ?_ (State.setBondRun_kept _ _ _)
  with_reducible refine Kept.trans ?_ (Kept.foldl _ _ _ ?_)
  with_reducible exact Kept.refl _
  intro _ _
  with_reducible refine Kept.trans ?_ (State.leaveBond_kept _ _)
  with_reducible exact Kept.refl _

theorem State.bondCtrlWrite_kept (s : State) (b v : Nat) : Kept s (State.bondCtrlWrite s b v) := by
  unfold State.bondCtrlWrite
  with_reducible refine Kept.ite (fun _ => ?_) (fun _ => ?_)
  with_reducible refine Kept.ite (fun _ => ?_) (fun _ => ?_)
  with_reducible exact Kept.refl _
  with_reducible refine Kept.trans ?_ (State.bondStop_kept _ _)
  with_reducible refine Kept.trans ?_ (State.wrAt_kept _ _ _ _)
  with_reducible exact Kept.refl _
  dsimp only
  with_reducible refine Kept.ite (fun _ => ?_) (fun _ => ?_)
  with_reducible refine Kept.trans ?_ (State.wrAt_kept _ _ _ _)
  with_reducible refine Kept.trans ?_ (State.wrAt_kept _ _ _ _)
  with_reducible refine Kept.trans ?_ (State.wrAt_kept _ _ _ _)
  with_reducible exact Kept.refl _
  split
  with_reducible refine Kept.trans ?_ (State.laneRefuse_kept _ _ _ _ _)
  with_reducible exact Kept.refl _
  with_reducible refine Kept.trans ?_ (State.bondStart_kept _ _)
  with_reducible refine Kept.trans ?_ (State.wrAt_kept _ _ _ _)
  with_reducible refine Kept.trans ?_ (State.wrAt_kept _ _ _ _)
  with_reducible refine Kept.trans ?_ (State.wrAt_kept _ _ _ _)
  with_reducible refine Kept.trans ?_ (State.wrAt_kept _ _ _ _)
  with_reducible exact Kept.refl _

theorem execBondEnable_kept (bond value : Nat) (s : State) : Kept s (stateOf (execBondEnable bond value s) s) := by
  unfold execBondEnable
  refine Kept.next ?_
  with_reducible refine Kept.ite (fun _ => ?_) (fun _ => ?_)
  with_reducible refine Kept.trans ?_ (State.bondCtrlWrite_kept _ _ _)
  with_reducible exact Kept.refl _
  with_reducible exact Kept.refl _

theorem State.takeLast_kept (s : State) (b p : Nat) (blocks : List Nat) : Kept s (State.takeLast s b p blocks).2 := by
  unfold State.takeLast
  dsimp only
  with_reducible refine Kept.trans ?_ (State.takeBlocks_kept _ _ _ _)
  with_reducible exact Kept.refl _

theorem execHokutuTrainReq_kept (bond position : Nat) (blocks : List Nat) (turnaround : Nat) (s : State) :
    Kept s (stateOf (execHokutuTrainReq bond position blocks turnaround s) s) := by
  unfold execHokutuTrainReq
  refine Kept.next ?_
  with_reducible refine Kept.ite (fun _ => ?_) (fun _ => ?_)
  dsimp only
  split
  with_reducible refine Kept.ite (fun _ => ?_) (fun _ => ?_)
  with_reducible refine Kept.trans ?_ (State.setBondRun_kept _ _ _)
  with_reducible refine Kept.trans ?_ (State.sendBlock_kept _ _ _ _ _)
  with_reducible refine Kept.trans ?_ (State.takeLast_kept _ _ _ _)
  with_reducible exact Kept.refl _
  with_reducible refine Kept.trans ?_ (State.takeLast_kept _ _ _ _)
  with_reducible exact Kept.refl _
  with_reducible refine Kept.trans ?_ (State.takeLast_kept _ _ _ _)
  with_reducible exact Kept.refl _
  with_reducible exact Kept.refl _

theorem State.addExchange_kept (s : State) (b p flight : Nat) : Kept s (State.addExchange s b p flight) := by
  unfold State.addExchange
  dsimp only
  with_reducible refine Kept.ite (fun _ => ?_) (fun _ => ?_)
  with_reducible refine Kept.trans ?_ (State.setBondRun_kept _ _ _)
  with_reducible exact Kept.refl _
  with_reducible exact Kept.refl _

theorem execHokutuTrainAck_kept (bond position : Nat) (blocks : List Nat) (fixedDelay : Nat) (s : State) :
    Kept s (stateOf (execHokutuTrainAck bond position blocks fixedDelay s) s) := by
  unfold execHokutuTrainAck
  refine Kept.next ?_
  with_reducible refine Kept.ite (fun _ => ?_) (fun _ => ?_)
  dsimp only
  split
  with_reducible refine Kept.ite (fun _ => ?_) (fun _ => ?_)
  with_reducible refine Kept.trans ?_ (State.addExchange_kept _ _ _ _)
  with_reducible refine Kept.trans ?_ (State.takeLast_kept _ _ _ _)
  with_reducible exact Kept.refl _
  with_reducible refine Kept.trans ?_ (State.takeLast_kept _ _ _ _)
  with_reducible exact Kept.refl _
  with_reducible refine Kept.trans ?_ (State.takeLast_kept _ _ _ _)
  with_reducible exact Kept.refl _
  with_reducible exact Kept.refl _

theorem State.bondTrained_kept (s : State) (b : Nat) : Kept s (State.bondTrained s b) := by
  unfold State.bondTrained
  dsimp only
  with_reducible refine Kept.trans ?_ (State.setBond_kept _ _ _ _)
  with_reducible refine Kept.ite (fun _ => ?_) (fun _ => ?_)
  with_reducible refine Kept.trans ?_ (State.wrAt_kept _ _ _ _)
  with_reducible refine Kept.trans ?_ (State.wrAt_kept _ _ _ _)
  with_reducible refine Kept.trans ?_ (State.setBondRun_kept _ _ _)
  with_reducible exact Kept.refl _
  with_reducible refine Kept.trans ?_ (State.setBondRun_kept _ _ _)
  with_reducible exact Kept.refl _

theorem execBondTrainingDone_kept (bond : Nat) (farMatches : Bool) (s : State) :
    Kept s (stateOf (execBondTrainingDone bond farMatches s) s) := by
  unfold execBondTrainingDone
  refine Kept.next ?_
  with_reducible refine Kept.ite (fun _ => ?_) (fun _ => ?_)
  with_reducible exact Kept.refl _
  split
  with_reducible refine Kept.trans ?_ (State.bondTrained_kept _ _)
  with_reducible exact Kept.refl _
  with_reducible refine Kept.ite (fun _ => ?_) (fun _ => ?_)
  with_reducible exact Kept.refl _
  with_reducible refine Kept.trans ?_ (State.setBond_kept _ _ _ _)
  with_reducible exact Kept.refl _

theorem execBondRetrain_kept (bond : Nat) (s : State) : Kept s (stateOf (execBondRetrain bond s) s) := by
  unfold execBondRetrain
  refine Kept.next ?_
  with_reducible refine Kept.ite (fun _ => ?_) (fun _ => ?_)
  with_reducible refine Kept.trans ?_ (State.bondTrain_kept _ _)
  with_reducible exact Kept.refl _
  with_reducible exact Kept.refl _

theorem State.moveToSpare_kept (s : State) (b p n m : Nat) : Kept s (State.moveToSpare s b p n m) := by
  unfold State.moveToSpare
  dsimp only
  with_reducible refine Kept.ite (fun _ => ?_) (fun _ => ?_)
  with_reducible refine Kept.trans ?_ (State.setBondRun_kept _ _ _)
  with_reducible exact Kept.refl _
  with_reducible refine Kept.trans ?_ (State.post_kept _ _ _ _ _)
  with_reducible refine Kept.trans ?_ (State.wrAt_kept _ _ _ _)
  with_reducible refine Kept.trans ?_ (State.addSatAt_kept _ _ _ _)
  with_reducible refine Kept.trans ?_ (State.wrAt_kept _ _ _ _)
  with_reducible refine Kept.trans ?_ (State.wrAt_kept _ _ _ _)
  with_reducible refine Kept.trans ?_ (State.setBondRun_kept _ _ _)
  with_reducible exact Kept.refl _

theorem execBondSpareSwitch_kept (bond : Nat) (s : State) : Kept s (stateOf (execBondSpareSwitch bond s) s) := by
  unfold execBondSpareSwitch
  refine Kept.next ?_
  dsimp only
  split
  with_reducible refine Kept.ite (fun _ => ?_) (fun _ => ?_)
  with_reducible refine Kept.trans ?_ (State.moveToSpare_kept _ _ _ _ _)
  with_reducible exact Kept.refl _
  with_reducible exact Kept.refl _
  with_reducible exact Kept.refl _

theorem State.linkTicket_kept (b : Nat) (s : State) (t0 : HokutuTicket) : Kept s (State.linkTicket b s t0) := by
  unfold State.linkTicket
  dsimp only
  split
  with_reducible refine Kept.trans ?_ (State.passPacket_kept _ _ _)
  with_reducible refine Kept.ite (fun _ => ?_) (fun _ => ?_)
  with_reducible refine Kept.trans ?_ (State.post_kept _ _ _ _ _)
  with_reducible refine Kept.trans ?_ (State.addSatAt_kept _ _ _ _)
  with_reducible refine Kept.ite (fun _ => ?_) (fun _ => ?_)
  with_reducible exact Kept.refl _
  with_reducible refine Kept.trans ?_ (State.addSatAt_kept _ _ _ _)
  with_reducible exact Kept.refl _
  with_reducible refine Kept.ite (fun _ => ?_) (fun _ => ?_)
  with_reducible exact Kept.refl _
  with_reducible refine Kept.trans ?_ (State.addSatAt_kept _ _ _ _)
  with_reducible exact Kept.refl _
  with_reducible refine Kept.ite (fun _ => ?_) (fun _ => ?_)
  with_reducible refine Kept.trans ?_ (State.post_kept _ _ _ _ _)
  with_reducible refine Kept.trans ?_ (State.addSatAt_kept _ _ _ _)
  with_reducible refine Kept.ite (fun _ => ?_) (fun _ => ?_)
  with_reducible exact Kept.refl _
  with_reducible refine Kept.trans ?_ (State.addSatAt_kept _ _ _ _)
  with_reducible exact Kept.refl _
  with_reducible refine Kept.ite (fun _ => ?_) (fun _ => ?_)
  with_reducible exact Kept.refl _
  with_reducible refine Kept.trans ?_ (State.addSatAt_kept _ _ _ _)
  with_reducible exact Kept.refl _

theorem State.forwardBlocks_kept (s : State) (b : Nat) (bs : List (Nat × LinkBlock)) : Kept s (State.forwardBlocks s b bs) := by
  unfold State.forwardBlocks
  with_reducible refine Kept.ite (fun _ => ?_) (fun _ => ?_)
  dsimp only
  with_reducible refine Kept.mk_same ?_ rfl rfl rfl rfl rfl
  with_reducible refine Kept.trans ?_ (State.sendBlocks_kept _ _ _)
  with_reducible exact Kept.refl _
  with_reducible exact Kept.refl _

theorem execHokutuTicketReceive_kept (bond : Nat) (arrived : List (List Nat)) (s : State) :
    Kept s (stateOf (execHokutuTicketReceive bond arrived s) s) := by
  unfold execHokutuTicketReceive
  refine Kept.next ?_
  with_reducible refine Kept.ite (fun _ => ?_) (fun _ => ?_)
  dsimp only
  with_reducible refine Kept.ite (fun _ => ?_) (fun _ => ?_)
  with_reducible refine Kept.trans ?_ (Kept.foldl _ _ _ ?_)
  with_reducible refine Kept.trans ?_ (State.setBondRun_kept _ _ _)
  with_reducible refine Kept.trans ?_ (State.receiveBlocks_kept _ _ _)
  with_reducible refine Kept.trans ?_ (State.takeBlocks_kept _ _ _ _)
  with_reducible exact Kept.refl _
  intro _ _
  with_reducible refine Kept.trans ?_ (State.linkTicket_kept _ _ _)
  with_reducible exact Kept.refl _
  with_reducible refine Kept.trans ?_ (State.forwardBlocks_kept _ _ _)
  with_reducible refine Kept.trans ?_ (State.receiveBlocks_kept _ _ _)
  with_reducible refine Kept.trans ?_ (State.takeBlocks_kept _ _ _ _)
  with_reducible exact Kept.refl _
  with_reducible exact Kept.refl _

theorem State.frameMissing_kept (s : State) (b n : Nat) : Kept s (State.frameMissing s b n) := by
  unfold State.frameMissing
  dsimp only
  with_reducible refine Kept.ite (fun _ => ?_) (fun _ => ?_)
  with_reducible refine Kept.trans ?_ (State.post_kept _ _ _ _ _)
  with_reducible exact Kept.refl _
  with_reducible refine Kept.ite (fun _ => ?_) (fun _ => ?_)
  with_reducible refine Kept.trans ?_ (State.loseGone_kept _)
  with_reducible refine Kept.trans ?_ (State.setBondRun_kept _ _ _)
  with_reducible refine Kept.trans ?_ (State.post_kept _ _ _ _ _)
  with_reducible exact Kept.refl _
  with_reducible refine Kept.trans ?_ (State.setBondRun_kept _ _ _)
  with_reducible refine Kept.trans ?_ (State.post_kept _ _ _ _ _)
  with_reducible exact Kept.refl _

theorem State.takeTime_kept (s : State) (b : Nat) (x : TimeFrame) : Kept s (State.takeTime s b x) := by
  unfold State.takeTime
  dsimp only
  with_reducible refine Kept.ite (fun _ => ?_) (fun _ => ?_)
  with_reducible refine Kept.trans ?_ (State.updateTod_kept _)
  with_reducible refine Kept.trans ?_ (State.wr_kept _ _ _)
  with_reducible refine Kept.trans ?_ (State.measure_kept _ _ _)
  with_reducible refine Kept.mk_same ?_ rfl rfl rfl rfl rfl
  with_reducible exact Kept.refl _
  with_reducible exact Kept.refl _

theorem State.frameGood_kept (s : State) (b : Nat) (x : TimeFrame) : Kept s (State.frameGood s b x) := by
  unfold State.frameGood
  dsimp only
  with_reducible refine Kept.trans ?_ (State.takeTime_kept _ _ _)
  with_reducible refine Kept.ite (fun _ => ?_) (fun _ => ?_)
  with_reducible refine Kept.trans ?_ (State.resTie_kept _ _)
  with_reducible refine Kept.trans ?_ (State.setBondRun_kept _ _ _)
  with_reducible exact Kept.refl _
  with_reducible refine Kept.trans ?_ (State.setBondRun_kept _ _ _)
  with_reducible exact Kept.refl _

theorem State.spareAsked_kept (s : State) (b p : Nat) : Kept s (State.spareAsked s b p) := by
  unfold State.spareAsked
  with_reducible refine Kept.ite (fun _ => ?_) (fun _ => ?_)
  with_reducible refine Kept.trans ?_ (State.setBondRun_kept _ _ _)
  with_reducible exact Kept.refl _
  with_reducible exact Kept.refl _

theorem State.alignmentLost_kept (s : State) (b lane : Nat) (alignErr : Int) :
    Kept s (State.alignmentLost s b lane alignErr) := by
  unfold State.alignmentLost
  with_reducible refine Kept.ite (fun _ => ?_) (fun _ => ?_)
  with_reducible refine Kept.trans ?_ (State.laneFault_kept _ _ _)
  with_reducible refine Kept.ite (fun _ => ?_) (fun _ => ?_)
  with_reducible refine Kept.trans ?_ (State.post_kept _ _ _ _ _)
  with_reducible exact Kept.refl _
  with_reducible exact Kept.refl _
  with_reducible exact Kept.refl _

theorem execHokutuTimeMessage_kept (bond lane frame : Nat) (alignErr : Int) (s : State) :
    Kept s (stateOf (execHokutuTimeMessage bond lane frame alignErr s) s) := by
  unfold execHokutuTimeMessage
  refine Kept.next ?_
  dsimp only
  with_reducible refine Kept.ite (fun _ => ?_) (fun _ => ?_)
  with_reducible exact Kept.refl _
  with_reducible refine Kept.ite (fun _ => ?_) (fun _ => ?_)
  with_reducible refine Kept.trans ?_ (State.alignmentLost_kept _ _ _ _)
  with_reducible refine Kept.ite (fun _ => ?_) (fun _ => ?_)
  with_reducible refine Kept.trans ?_ (State.spareAsked_kept _ _ _)
  with_reducible exact Kept.refl _
  with_reducible exact Kept.refl _
  with_reducible refine Kept.ite (fun _ => ?_) (fun _ => ?_)
  with_reducible refine Kept.trans ?_ (State.frameMissing_kept _ _ _)
  with_reducible exact Kept.refl _
  with_reducible refine Kept.trans ?_ (State.alignmentLost_kept _ _ _ _)
  with_reducible refine Kept.trans ?_ (State.spareAsked_kept _ _ _)
  with_reducible refine Kept.ite (fun _ => ?_) (fun _ => ?_)
  with_reducible refine Kept.trans ?_ (State.frameGood_kept _ _ _)
  with_reducible exact Kept.refl _
  with_reducible exact Kept.refl _

theorem State.sendTime_kept (s : State) (b : Nat) : Kept s (State.sendTime s b) := by
  unfold State.sendTime
  dsimp only
  with_reducible refine Kept.ite (fun _ => ?_) (fun _ => ?_)
  with_reducible refine Kept.trans ?_ (State.setBondRun_kept _ _ _)
  with_reducible refine Kept.mk_same ?_ rfl rfl rfl rfl rfl
  with_reducible exact Kept.refl _
  with_reducible exact Kept.refl _

theorem execTimeMessageSend_kept (s : State) : Kept s (stateOf (execTimeMessageSend s) s) := by
  unfold execTimeMessageSend
  refine Kept.next ?_
  with_reducible refine Kept.trans ?_ (Kept.foldl _ _ _ ?_)
  with_reducible exact Kept.refl _
  intro _ _
  with_reducible refine Kept.trans ?_ (State.sendTime_kept _ _)
  with_reducible exact Kept.refl _

theorem State.keeperOn_kept (s : State) (p was : Nat) : Kept s (State.keeperOn s p was) := by
  unfold State.keeperOn
  with_reducible refine Kept.ite (fun _ => ?_) (fun _ => ?_)
  dsimp only
  split
  with_reducible refine Kept.mk_same ?_ rfl rfl rfl rfl rfl
  with_reducible exact Kept.refl _
  with_reducible refine Kept.trans ?_ (State.took_kept _)
  with_reducible refine Kept.mk_same ?_ rfl rfl rfl rfl rfl
  with_reducible exact Kept.refl _
  with_reducible exact Kept.refl _

theorem State.gpioWrite_kept (s : State) (p v : Nat) : Kept s (State.gpioWrite s p v) := by
  unfold State.gpioWrite
  with_reducible refine Kept.ite (fun _ => ?_) (fun _ => ?_)
  with_reducible refine Kept.trans ?_ (State.wr_kept _ _ _)
  with_reducible exact Kept.refl _
  dsimp only
  with_reducible refine Kept.trans ?_ (State.keeperOn_kept _ _ _)
  with_reducible refine Kept.trans ?_ (State.wrAt_kept _ _ _ _)
  with_reducible refine Kept.trans ?_ (State.wrAt_kept _ _ _ _)
  with_reducible refine Kept.trans ?_ (State.wrAt_kept _ _ _ _)
  with_reducible refine Kept.trans ?_ (State.wrAt_kept _ _ _ _)
  with_reducible refine Kept.trans ?_ (State.wrAt_kept _ _ _ _)
  with_reducible refine Kept.trans ?_ (State.wrAt_kept _ _ _ _)
  with_reducible refine Kept.trans ?_ (State.wrAt_kept _ _ _ _)
  with_reducible refine Kept.trans ?_ (State.wrAt_kept _ _ _ _)
  with_reducible refine Kept.trans ?_ (State.wrAt_kept _ _ _ _)
  with_reducible exact Kept.refl _

theorem execGpioWrite_kept (land value : Nat) (s : State) : Kept s (stateOf (execGpioWrite land value s) s) := by
  unfold execGpioWrite
  refine Kept.next ?_
  with_reducible refine Kept.ite (fun _ => ?_) (fun _ => ?_)
  with_reducible refine Kept.trans ?_ (State.gpioWrite_kept _ _ _)
  with_reducible exact Kept.refl _
  with_reducible exact Kept.refl _

theorem execDncGpioSet_kept (s : State) : Kept s (stateOf (execDncGpioSet s) s) := by
  unfold execDncGpioSet
  refine Kept.next ?_
  with_reducible refine Kept.trans ?_ (State.runAction_kept _ _ _ ?_)
  with_reducible exact Kept.refl _
  intro _ _
  with_reducible refine Kept.ite (fun _ => ?_) (fun _ => ?_)
  with_reducible refine Kept.trans ?_ (State.danceDrive_kept _ _ _)
  with_reducible exact Kept.refl _
  with_reducible refine Kept.trans ?_ (State.actionFailed_kept _ _ _)
  with_reducible exact Kept.refl _

theorem execDncGpioClear_kept (s : State) : Kept s (stateOf (execDncGpioClear s) s) := by
  unfold execDncGpioClear
  refine Kept.next ?_
  with_reducible refine Kept.trans ?_ (State.runAction_kept _ _ _ ?_)
  with_reducible exact Kept.refl _
  intro _ _
  with_reducible refine Kept.ite (fun _ => ?_) (fun _ => ?_)
  with_reducible refine Kept.trans ?_ (State.danceDrive_kept _ _ _)
  with_reducible exact Kept.refl _
  with_reducible refine Kept.trans ?_ (State.actionFailed_kept _ _ _)
  with_reducible exact Kept.refl _

theorem execDncGpioPulse_kept (s : State) : Kept s (stateOf (execDncGpioPulse s) s) := by
  unfold execDncGpioPulse
  refine Kept.next ?_
  with_reducible refine Kept.trans ?_ (State.runAction_kept _ _ _ ?_)
  with_reducible exact Kept.refl _
  intro _ _
  with_reducible refine Kept.ite (fun _ => ?_) (fun _ => ?_)
  dsimp only
  with_reducible refine Kept.mk_same ?_ rfl rfl rfl rfl rfl
  with_reducible refine Kept.trans ?_ (State.danceDrive_kept _ _ _)
  with_reducible exact Kept.refl _
  with_reducible refine Kept.trans ?_ (State.actionFailed_kept _ _ _)
  with_reducible exact Kept.refl _

theorem execGpioPulseEnd_kept (land : Nat) (s : State) : Kept s (stateOf (execGpioPulseEnd land s) s) := by
  unfold execGpioPulseEnd
  refine Kept.next ?_
  split
  with_reducible exact Kept.refl _
  with_reducible refine Kept.ite (fun _ => ?_) (fun _ => ?_)
  with_reducible exact Kept.refl _
  with_reducible refine Kept.trans ?_ (State.danceDrive_kept _ _ _)
  with_reducible exact Kept.refl _

theorem execViobFault_kept (bank millivolts : Nat) (s : State) : Kept s (stateOf (execViobFault bank millivolts s) s) := by
  unfold execViobFault
  refine Kept.next ?_
  with_reducible refine Kept.ite (fun _ => ?_) (fun _ => ?_)
  dsimp only
  with_reducible refine Kept.trans ?_ (State.post_kept _ _ _ _ _)
  with_reducible refine Kept.mk_same ?_ rfl rfl rfl rfl rfl
  with_reducible refine Kept.trans ?_ (State.wrAt_kept _ _ _ _)
  with_reducible refine Kept.trans ?_ (State.wrAt_kept _ _ _ _)
  with_reducible refine Kept.trans ?_ (State.wrAt_kept _ _ _ _)
  with_reducible exact Kept.refl _
  with_reducible exact Kept.refl _

theorem execViobRestore_kept (bank millivolts : Nat) (s : State) :
    Kept s (stateOf (execViobRestore bank millivolts s) s) := by
  unfold execViobRestore
  refine Kept.next ?_
  with_reducible refine Kept.ite (fun _ => ?_) (fun _ => ?_)
  dsimp only
  with_reducible refine Kept.ite (fun _ => ?_) (fun _ => ?_)
  with_reducible refine Kept.trans ?_ (State.wrAt_kept _ _ _ _)
  with_reducible refine Kept.trans ?_ (State.wrAt_kept _ _ _ _)
  with_reducible refine Kept.trans ?_ (State.wrAt_kept _ _ _ _)
  with_reducible exact Kept.refl _
  with_reducible refine Kept.mk_same ?_ rfl rfl rfl rfl rfl
  with_reducible refine Kept.trans ?_ (State.wrAt_kept _ _ _ _)
  with_reducible refine Kept.trans ?_ (State.wrAt_kept _ _ _ _)
  with_reducible refine Kept.trans ?_ (State.wrAt_kept _ _ _ _)
  with_reducible exact Kept.refl _
  with_reducible exact Kept.refl _

theorem State.setJtag_kept (s : State) (i : JtagInstr) : Kept s (State.setJtag s i) := by
  unfold State.setJtag
  with_reducible refine Kept.mk_same ?_ rfl rfl rfl rfl rfl
  with_reducible exact Kept.refl _

theorem execBypass_kept (s : State) : Kept s (stateOf (execBypass s) s) := by
  unfold execBypass
  refine Kept.next ?_
  with_reducible refine Kept.trans ?_ (State.setJtag_kept _ _)
  with_reducible exact Kept.refl _

theorem execIdcode_kept (s : State) : Kept s (stateOf (execIdcode s) s) := by
  unfold execIdcode
  refine Kept.next ?_
  with_reducible refine Kept.trans ?_ (State.answer_kept _ _)
  with_reducible refine Kept.trans ?_ (State.setJtag_kept _ _)
  with_reducible exact Kept.refl _

theorem execSamplePreload_kept (cells : List (Nat × Bool)) (s : State) : Kept s (stateOf (execSamplePreload cells s) s) := by
  unfold execSamplePreload
  refine Kept.next ?_
  with_reducible refine Kept.ite (fun _ => ?_) (fun _ => ?_)
  with_reducible refine Kept.trans ?_ (State.setJtag_kept _ _)
  with_reducible exact Kept.refl _
  dsimp only
  with_reducible refine Kept.mk_same ?_ rfl rfl rfl rfl rfl
  with_reducible refine Kept.trans ?_ (State.setJtag_kept _ _)
  with_reducible exact Kept.refl _

theorem State.scan_kept (s : State) (i : JtagInstr) : Kept s (State.scan s i) := by
  unfold State.scan
  with_reducible refine Kept.ite (fun _ => ?_) (fun _ => ?_)
  with_reducible refine Kept.trans ?_ (State.setJtag_kept _ _)
  with_reducible exact Kept.refl _
  with_reducible refine Kept.ite (fun _ => ?_) (fun _ => ?_)
  with_reducible refine Kept.trans ?_ (State.setJtag_kept _ _)
  with_reducible exact Kept.refl _
  with_reducible refine Kept.trans ?_ (State.wr_kept _ _ _)
  with_reducible refine Kept.trans ?_ (State.setJtag_kept _ _)
  with_reducible exact Kept.refl _

theorem execExtest_kept (s : State) : Kept s (stateOf (execExtest s) s) := by
  unfold execExtest
  refine Kept.next ?_
  with_reducible refine Kept.trans ?_ (State.scan_kept _ _)
  with_reducible exact Kept.refl _

theorem execExtestPulse_kept (s : State) : Kept s (stateOf (execExtestPulse s) s) := by
  unfold execExtestPulse
  refine Kept.next ?_
  with_reducible refine Kept.trans ?_ (State.scan_kept _ _)
  with_reducible exact Kept.refl _

theorem execExtestTrain_kept (s : State) : Kept s (stateOf (execExtestTrain s) s) := by
  unfold execExtestTrain
  refine Kept.next ?_
  with_reducible refine Kept.trans ?_ (State.scan_kept _ _)
  with_reducible exact Kept.refl _

theorem execClamp_kept (s : State) : Kept s (stateOf (execClamp s) s) := by
  unfold execClamp
  refine Kept.next ?_
  with_reducible refine Kept.trans ?_ (State.scan_kept _ _)
  with_reducible exact Kept.refl _

theorem execHighz_kept (s : State) : Kept s (stateOf (execHighz s) s) := by
  unfold execHighz
  refine Kept.next ?_
  with_reducible refine Kept.trans ?_ (State.scan_kept _ _)
  with_reducible exact Kept.refl _

theorem execJtagTrst_kept (s : State) : Kept s (stateOf (execJtagTrst s) s) := by
  unfold execJtagTrst
  refine Kept.next ?_
  with_reducible refine Kept.trans ?_ (State.setJtag_kept _ _)
  with_reducible exact Kept.refl _

end Sys2Proof.Machine
end

