-- ==== Sys2Proof/Laws/KeptModeOps.lean ====
section
/-! SUPPORT. `Kept` for the functions of Machine/ModeOps.lean. -/

namespace Sys2Proof.Machine

open Sys2Proof

theorem State.followDegraded_kept (s : State) : Kept s (State.followDegraded s) := by
  unfold State.followDegraded
  with_reducible refine Kept.ite (fun _ => ?_) (fun _ => ?_)
  with_reducible refine Kept.trans ?_ (State.setMode_kept _ _)
  with_reducible exact Kept.refl _
  with_reducible exact Kept.refl _

theorem State.gateRegion_kept (s : State) (on : Bool) (r : Nat) : Kept s (State.gateRegion s on r) := by
  unfold State.gateRegion
  with_reducible refine Kept.trans ?_ (State.wrAt_kept _ _ _ _)
  with_reducible exact Kept.refl _

theorem State.gateAll_kept (s : State) (on : Bool) : Kept s (State.gateAll s on) := by
  unfold State.gateAll
  with_reducible refine Kept.trans ?_ (Kept.foldl _ _ _ ?_)
  with_reducible exact Kept.refl _
  intro _ _
  with_reducible refine Kept.trans ?_ (State.gateRegion_kept _ _ _)
  with_reducible exact Kept.refl _

end Sys2Proof.Machine
end

