-- ==== Sys2Proof/Laws/KeptPlanes.lean ====
section
/-! SUPPORT. `Kept` for the functions of Machine/Planes.lean. -/

namespace Sys2Proof.Machine

open Sys2Proof

theorem State.writePlane_kept (s : State) (k index : Nat) (x : PlaneFrame) : Kept s (State.writePlane s k index x) := by
  unfold State.writePlane
  with_reducible refine Kept.mk_same ?_ rfl rfl rfl rfl rfl
  with_reducible exact Kept.refl _

theorem State.setActive_kept (s : State) (r k : Nat) : Kept s (State.setActive s r k) := by
  unfold State.setActive
  with_reducible refine Kept.trans ?_ (State.wr_kept _ _ _)
  with_reducible exact Kept.refl _

theorem State.writeMirror_kept (s : State) (k index : Nat) (x : PlaneFrame) : Kept s (State.writeMirror s k index x) := by
  unfold State.writeMirror
  with_reducible refine Kept.trans ?_ (State.storePut_kept _ _ _)
  with_reducible refine Kept.trans ?_ (Kept.foldl _ _ _ ?_)
  with_reducible exact Kept.refl _
  intro _ _
  with_reducible refine Kept.trans ?_ (State.storePut_kept _ _ _)
  with_reducible exact Kept.refl _

theorem execExpressConflict_kept (column row tap : Nat) (s : State) :
    Kept s (stateOf (execExpressConflict column row tap s) s) := by
  unfold execExpressConflict
  refine Kept.next ?_
  dsimp only
  split
  with_reducible exact Kept.refl _
  with_reducible refine Kept.trans ?_ (State.post_kept _ _ _ _ _)
  with_reducible refine Kept.trans ?_ (State.incSat_kept _ _)
  with_reducible refine Kept.trans ?_ (State.wr_kept _ _ _)
  with_reducible refine Kept.trans ?_ (State.wr_kept _ _ _)
  with_reducible refine Kept.trans ?_ (State.wr_kept _ _ _)
  with_reducible exact Kept.refl _

end Sys2Proof.Machine
end

