-- ==== Sys2Proof/Laws/KeptHard.lean ====
section
/-! SUPPORT. `Kept` for the functions of Machine/Hard.lean. -/

namespace Sys2Proof.Machine

open Sys2Proof

theorem State.tileRow_kept (s : State) (r m row : Nat) : Kept s (State.tileRow s r m row).2 := by
  unfold State.tileRow
  dsimp only
  split
  dsimp only
  with_reducible exact Kept.refl _
  dsimp only
  with_reducible refine Kept.mk_same ?_ rfl rfl rfl rfl rfl
  with_reducible refine Kept.trans ?_ (State.took_kept _)
  with_reducible exact Kept.refl _

theorem State.setTileRow_kept (s : State) (r m row v : Nat) : Kept s (State.setTileRow s r m row v) := by
  unfold State.setTileRow
  with_reducible refine Kept.mk_same ?_ rfl rfl rfl rfl rfl
  with_reducible exact Kept.refl _

theorem State.setTilePort_kept (s : State) (r m : Nat) (b : Bool) (p : TilePort) : Kept s (State.setTilePort s r m b p) := by
  unfold State.setTilePort
  with_reducible refine Kept.mk_same ?_ rfl rfl rfl rfl rfl
  with_reducible exact Kept.refl _

theorem State.cancelWriteback_kept (s : State) (r m row : Nat) : Kept s (State.cancelWriteback s r m row) := by
  unfold State.cancelWriteback
  with_reducible refine Kept.trans ?_ (Kept.foldl _ _ _ ?_)
  with_reducible exact Kept.refl _
  intro _ _
  dsimp only
  with_reducible refine Kept.ite (fun _ => ?_) (fun _ => ?_)
  with_reducible refine Kept.trans ?_ (State.setTilePort_kept _ _ _ _ _)
  with_reducible exact Kept.refl _
  with_reducible exact Kept.refl _

theorem State.tileCorrected_kept (s : State) (r m : Nat) : Kept s (State.tileCorrected s r m) := by
  unfold State.tileCorrected
  with_reducible refine Kept.trans ?_ (State.postLimited_kept _ _ _ _ _ _)
  with_reducible refine Kept.trans ?_ (State.wr_kept _ _ _)
  with_reducible refine Kept.trans ?_ (State.addSatAt_kept _ _ _ _)
  with_reducible exact Kept.refl _

theorem State.tileUncorrectable_kept (s : State) (r m row : Nat) : Kept s (State.tileUncorrectable s r m row) := by
  unfold State.tileUncorrectable
  with_reducible refine Kept.trans ?_ (State.post_kept _ _ _ _ _)
  with_reducible refine Kept.trans ?_ (State.wr_kept _ _ _)
  with_reducible refine Kept.trans ?_ (State.wr_kept _ _ _)
  with_reducible refine Kept.trans ?_ (State.wr_kept _ _ _)
  with_reducible refine Kept.trans ?_ (State.wr_kept _ _ _)
  with_reducible refine Kept.trans ?_ (State.addSatAt_kept _ _ _ _)
  with_reducible exact Kept.refl _

theorem State.tileSense_kept (s : State) (r m aspect : Nat) (ecc : Bool) (addr : Nat) (found : SpadRead) :
    Kept s (State.tileSense s r m aspect ecc addr found).2.2 := by
  unfold State.tileSense
  dsimp only
  split
  dsimp only
  with_reducible refine Kept.trans ?_ (State.tileRow_kept _ _ _ _)
  with_reducible exact Kept.refl _
  split
  dsimp only
  with_reducible refine Kept.trans ?_ (State.tileRow_kept _ _ _ _)
  with_reducible exact Kept.refl _
  dsimp only
  with_reducible refine Kept.trans ?_ (State.tileCorrected_kept _ _ _)
  with_reducible refine Kept.trans ?_ (State.tileRow_kept _ _ _ _)
  with_reducible exact Kept.refl _
  dsimp only
  with_reducible refine Kept.trans ?_ (State.tileUncorrectable_kept _ _ _ _)
  with_reducible refine Kept.trans ?_ (State.took_kept _)
  with_reducible refine Kept.trans ?_ (State.tileRow_kept _ _ _ _)
  with_reducible exact Kept.refl _

theorem State.tileAccess_kept (s : State) (r m : Nat) (b : Bool) (x : TileAccess) (found : SpadRead) (lost busy blind : Bool) :
    Kept s (State.tileAccess s r m b x found lost busy blind) := by
  unfold State.tileAccess
  dsimp only
  with_reducible refine Kept.ite (fun _ => ?_) (fun _ => ?_)
  with_reducible refine Kept.trans ?_ (State.setTilePort_kept _ _ _ _ _)
  with_reducible exact Kept.refl _
  with_reducible refine Kept.ite (fun _ => ?_) (fun _ => ?_)
  with_reducible refine Kept.trans ?_ (State.setTilePort_kept _ _ _ _ _)
  with_reducible refine Kept.ite (fun _ => ?_) (fun _ => ?_)
  with_reducible refine Kept.trans ?_ (State.cancelWriteback_kept _ _ _ _)
  with_reducible refine Kept.trans ?_ (State.setTileRow_kept _ _ _ _ _)
  with_reducible refine Kept.trans ?_ (State.tileRow_kept _ _ _ _)
  with_reducible refine Kept.ite (fun _ => ?_) (fun _ => ?_)
  with_reducible refine Kept.trans ?_ (State.addSatAt_kept _ _ _ _)
  with_reducible exact Kept.refl _
  with_reducible exact Kept.refl _
  with_reducible refine Kept.ite (fun _ => ?_) (fun _ => ?_)
  with_reducible refine Kept.trans ?_ (State.addSatAt_kept _ _ _ _)
  with_reducible exact Kept.refl _
  with_reducible exact Kept.refl _
  with_reducible refine Kept.ite (fun _ => ?_) (fun _ => ?_)
  with_reducible refine Kept.trans ?_ (State.setTilePort_kept _ _ _ _ _)
  with_reducible refine Kept.ite (fun _ => ?_) (fun _ => ?_)
  with_reducible refine Kept.trans ?_ (State.addSatAt_kept _ _ _ _)
  with_reducible exact Kept.refl _
  with_reducible exact Kept.refl _
  with_reducible refine Kept.ite (fun _ => ?_) (fun _ => ?_)
  with_reducible refine Kept.trans ?_ (State.setTilePort_kept _ _ _ _ _)
  with_reducible refine Kept.trans ?_ (State.cancelWriteback_kept _ _ _ _)
  with_reducible refine Kept.trans ?_ (State.took_kept _)
  with_reducible refine Kept.ite (fun _ => ?_) (fun _ => ?_)
  with_reducible refine Kept.trans ?_ (State.addSatAt_kept _ _ _ _)
  with_reducible exact Kept.refl _
  with_reducible exact Kept.refl _
  with_reducible refine Kept.trans ?_ (State.setTilePort_kept _ _ _ _ _)
  with_reducible refine Kept.trans ?_ (State.tileSense_kept _ _ _ _ _ _ _)
  with_reducible refine Kept.trans ?_ (State.cancelWriteback_kept _ _ _ _)
  with_reducible refine Kept.ite (fun _ => ?_) (fun _ => ?_)
  with_reducible refine Kept.trans ?_ (State.addSatAt_kept _ _ _ _)
  with_reducible exact Kept.refl _
  with_reducible exact Kept.refl _

theorem execTileMemoryAccess_kept (region tile : Nat) (a b : TileAccess) (sameCycle bLater : Bool) (foundA foundB : SpadRead) (s : State) :
    Kept s (stateOf (execTileMemoryAccess region tile a b sameCycle bLater foundA foundB s) s) := by
  unfold execTileMemoryAccess
  refine Kept.next ?_
  with_reducible refine Kept.ite (fun _ => ?_) (fun _ => ?_)
  dsimp only
  with_reducible refine Kept.ite (fun _ => ?_) (fun _ => ?_)
  with_reducible refine Kept.trans ?_ (State.tileAccess_kept _ _ _ _ _ _ _ _ _)
  with_reducible refine Kept.trans ?_ (State.tileAccess_kept _ _ _ _ _ _ _ _ _)
  with_reducible exact Kept.refl _
  with_reducible refine Kept.ite (fun _ => ?_) (fun _ => ?_)
  with_reducible refine Kept.trans ?_ (State.tileAccess_kept _ _ _ _ _ _ _ _ _)
  with_reducible refine Kept.trans ?_ (State.tileAccess_kept _ _ _ _ _ _ _ _ _)
  with_reducible exact Kept.refl _
  with_reducible refine Kept.ite (fun _ => ?_) (fun _ => ?_)
  with_reducible refine Kept.trans ?_ (State.tileAccess_kept _ _ _ _ _ _ _ _ _)
  with_reducible refine Kept.trans ?_ (State.tileAccess_kept _ _ _ _ _ _ _ _ _)
  with_reducible exact Kept.refl _
  with_reducible refine Kept.trans ?_ (State.tileAccess_kept _ _ _ _ _ _ _ _ _)
  with_reducible refine Kept.trans ?_ (State.tileAccess_kept _ _ _ _ _ _ _ _ _)
  with_reducible exact Kept.refl _
  with_reducible exact Kept.refl _

theorem execTileEccWriteback_kept (region tile : Nat) (portB : Bool) (s : State) :
    Kept s (stateOf (execTileEccWriteback region tile portB s) s) := by
  unfold execTileEccWriteback
  refine Kept.next ?_
  with_reducible refine Kept.ite (fun _ => ?_) (fun _ => ?_)
  with_reducible refine Kept.trans ?_ (State.setTilePort_kept _ _ _ _ _)
  with_reducible exact Kept.refl _
  with_reducible exact Kept.refl _

theorem execMixSliceEdge_kept (column slice : Nat) (input : MixInput) (s : State) :
    Kept s (stateOf (execMixSliceEdge column slice input s) s) := by
  unfold execMixSliceEdge
  refine Kept.next ?_
  with_reducible refine Kept.ite (fun _ => ?_) (fun _ => ?_)
  dsimp only
  with_reducible refine Kept.mk_same ?_ rfl rfl rfl rfl rfl
  with_reducible exact Kept.refl _
  with_reducible exact Kept.refl _

theorem State.resetHard_kept (s : State) (r : Nat) : Kept s (State.resetHard s r) := by
  unfold State.resetHard
  with_reducible refine Kept.mk_same ?_ rfl rfl rfl rfl rfl
  with_reducible exact Kept.refl _

theorem State.setPack_kept (s : State) (p : Nat) (x : PackFifo) : Kept s (State.setPack s p x) := by
  unfold State.setPack
  dsimp only
  with_reducible refine Kept.trans ?_ (State.wrAt_kept _ _ _ _)
  with_reducible refine Kept.trans ?_ (State.wrAt_kept _ _ _ _)
  with_reducible refine Kept.trans ?_ (State.wrAt_kept _ _ _ _)
  with_reducible refine Kept.mk_same ?_ rfl rfl rfl rfl rfl
  with_reducible exact Kept.refl _

theorem execPackFifoWrite_kept (port data : Nat) (wend : Bool) (wbytes : Nat) (s : State) :
    Kept s (stateOf (execPackFifoWrite port data wend wbytes s) s) := by
  unfold execPackFifoWrite
  refine Kept.next ?_
  with_reducible refine Kept.ite (fun _ => ?_) (fun _ => ?_)
  dsimp only
  with_reducible refine Kept.ite (fun _ => ?_) (fun _ => ?_)
  with_reducible refine Kept.trans ?_ (State.setPack_kept _ _ _)
  with_reducible refine Kept.trans ?_ (State.wrAt_kept _ _ _ _)
  with_reducible exact Kept.refl _
  with_reducible refine Kept.trans ?_ (State.setPack_kept _ _ _)
  with_reducible exact Kept.refl _
  with_reducible exact Kept.refl _

theorem State.takePacketWord_kept (s : State) (port g w : Nat) (y : PackFifo) : Kept s (State.takePacketWord s port g w y) := by
  unfold State.takePacketWord
  dsimp only
  with_reducible refine Kept.ite (fun _ => ?_) (fun _ => ?_)
  with_reducible refine Kept.trans ?_ (State.setPack_kept _ _ _)
  with_reducible exact Kept.refl _
  with_reducible refine Kept.ite (fun _ => ?_) (fun _ => ?_)
  with_reducible refine Kept.ite (fun _ => ?_) (fun _ => ?_)
  with_reducible refine Kept.trans ?_ (State.setPack_kept _ _ _)
  with_reducible refine Kept.trans ?_ (State.storePut_kept _ _ _)
  with_reducible exact Kept.refl _
  with_reducible refine Kept.trans ?_ (State.setPack_kept _ _ _)
  with_reducible refine Kept.trans ?_ (State.storePut_kept _ _ _)
  with_reducible refine Kept.trans ?_ (State.takeSlots_kept _ _ _)
  with_reducible exact Kept.refl _
  split
  with_reducible refine Kept.ite (fun _ => ?_) (fun _ => ?_)
  with_reducible refine Kept.trans ?_ (State.stall_kept _ _)
  with_reducible exact Kept.refl _
  with_reducible exact Kept.refl _
  with_reducible exact Kept.refl _

theorem execPackFifoReaderTake_kept (port : Nat) (s : State) : Kept s (stateOf (execPackFifoReaderTake port s) s) := by
  unfold execPackFifoReaderTake
  refine Kept.next ?_
  dsimp only
  with_reducible refine Kept.ite (fun _ => ?_) (fun _ => ?_)
  with_reducible exact Kept.refl _
  split
  with_reducible refine Kept.trans ?_ (State.takePacketWord_kept _ _ _ _ _)
  with_reducible exact Kept.refl _
  with_reducible refine Kept.ite (fun _ => ?_) (fun _ => ?_)
  with_reducible refine Kept.mk_same ?_ rfl rfl rfl rfl rfl
  with_reducible refine Kept.trans ?_ (State.setPack_kept _ _ _)
  with_reducible exact Kept.refl _
  with_reducible exact Kept.refl _
  with_reducible refine Kept.ite (fun _ => ?_) (fun _ => ?_)
  with_reducible refine Kept.trans ?_ (State.setPack_kept _ _ _)
  with_reducible refine Kept.trans ?_ (State.storePut_kept _ _ _)
  with_reducible exact Kept.refl _
  with_reducible refine Kept.trans ?_ (State.setPack_kept _ _ _)
  with_reducible refine Kept.trans ?_ (State.addrRefuse_kept _ _ _)
  with_reducible exact Kept.refl _
  with_reducible refine Kept.trans ?_ (State.setPack_kept _ _ _)
  with_reducible exact Kept.refl _

theorem State.packTicket_kept (s : State) (g : Nat) (slots : List Nat) (c : PackClosed) :
    Kept s (State.packTicket s g slots c).2 := by
  unfold State.packTicket
  dsimp only
  with_reducible refine Kept.trans ?_ (State.createTicket_kept _ _)
  with_reducible exact Kept.refl _

theorem State.packCount_kept (s : State) (p : Nat) (c : PackClosed) : Kept s (State.packCount s p c) := by
  unfold State.packCount
  dsimp only
  with_reducible refine Kept.ite (fun _ => ?_) (fun _ => ?_)
  with_reducible refine Kept.trans ?_ (State.addSatAt_kept _ _ _ _)
  with_reducible exact Kept.refl _
  with_reducible refine Kept.trans ?_ (State.postLimited_kept _ _ _ _ _ _)
  with_reducible refine Kept.trans ?_ (State.wr_kept _ _ _)
  with_reducible refine Kept.trans ?_ (State.addSatAt_kept _ _ _ _)
  with_reducible refine Kept.trans ?_ (State.addSatAt_kept _ _ _ _)
  with_reducible exact Kept.refl _

theorem execPackFifoNotice_kept (port : Nat) (s : State) : Kept s (stateOf (execPackFifoNotice port s) s) := by
  unfold execPackFifoNotice
  refine Kept.next ?_
  dsimp only
  split
  with_reducible exact Kept.refl _
  with_reducible refine Kept.ite (fun _ => ?_) (fun _ => ?_)
  with_reducible exact Kept.refl _
  with_reducible refine Kept.ite (fun _ => ?_) (fun _ => ?_)
  with_reducible refine Kept.trans ?_ (State.packCount_kept _ _ _)
  with_reducible refine Kept.trans ?_ (State.setPack_kept _ _ _)
  with_reducible exact Kept.refl _
  with_reducible refine Kept.ite (fun _ => ?_) (fun _ => ?_)
  with_reducible refine Kept.trans ?_ (State.packCount_kept _ _ _)
  with_reducible refine Kept.trans ?_ (State.flowStat_kept _ _ _ _)
  with_reducible refine Kept.trans ?_ (State.setPack_kept _ _ _)
  with_reducible exact Kept.refl _
  split
  with_reducible refine Kept.trans ?_ (State.stall_kept _ _)
  with_reducible exact Kept.refl _
  with_reducible refine Kept.trans ?_ (State.packCount_kept _ _ _)
  with_reducible refine Kept.trans ?_ (State.packTicket_kept _ _ _ _)
  with_reducible refine Kept.trans ?_ (State.setPack_kept _ _ _)
  with_reducible exact Kept.refl _

theorem State.setPort_kept (s : State) (p : Nat) (x : DeliveryPort) : Kept s (State.setPort s p x) := by
  unfold State.setPort
  with_reducible refine Kept.trans ?_ (State.wrAt_kept _ _ _ _)
  with_reducible refine Kept.trans ?_ (State.wrAt_kept _ _ _ _)
  with_reducible refine Kept.trans ?_ (State.wrAt_kept _ _ _ _)
  with_reducible refine Kept.mk_same ?_ rfl rfl rfl rfl rfl
  with_reducible exact Kept.refl _

theorem State.portPlace_kept (s : State) (p : Nat) (w : DeliveryWord) : Kept s (State.portPlace s p w) := by
  unfold State.portPlace
  dsimp only
  with_reducible refine Kept.ite (fun _ => ?_) (fun _ => ?_)
  with_reducible refine Kept.trans ?_ (State.addSatAt_kept _ _ _ _)
  with_reducible refine Kept.trans ?_ (State.setPort_kept _ _ _)
  with_reducible exact Kept.refl _
  with_reducible refine Kept.trans ?_ (State.setPort_kept _ _ _)
  with_reducible exact Kept.refl _

theorem State.placeTicket_kept (s : State) (p i : Nat) (t : Ticket) (found : Syndrome) :
    Kept s (State.placeTicket s p i t found) := by
  unfold State.placeTicket
  dsimp only
  with_reducible refine Kept.ite (fun _ => ?_) (fun _ => ?_)
  with_reducible refine Kept.trans ?_ (State.drainFlows_kept _)
  with_reducible refine Kept.trans ?_ (State.deliverTicket_kept _ _)
  with_reducible refine Kept.mk_same ?_ rfl rfl rfl rfl rfl
  with_reducible refine Kept.ite (fun _ => ?_) (fun _ => ?_)
  with_reducible refine Kept.trans ?_ (State.flowStat_kept _ _ _ _)
  with_reducible refine Kept.ite (fun _ => ?_) (fun _ => ?_)
  with_reducible refine Kept.trans ?_ (State.flowStat_kept _ _ _ _)
  with_reducible refine Kept.trans ?_ (State.portPlace_kept _ _ _)
  with_reducible refine Kept.trans ?_ (State.storeSense_kept _ _ _)
  with_reducible exact Kept.refl _
  with_reducible refine Kept.trans ?_ (State.portPlace_kept _ _ _)
  with_reducible refine Kept.trans ?_ (State.storeSense_kept _ _ _)
  with_reducible exact Kept.refl _
  with_reducible refine Kept.ite (fun _ => ?_) (fun _ => ?_)
  with_reducible refine Kept.trans ?_ (State.flowStat_kept _ _ _ _)
  with_reducible refine Kept.trans ?_ (State.portPlace_kept _ _ _)
  with_reducible refine Kept.trans ?_ (State.storeSense_kept _ _ _)
  with_reducible exact Kept.refl _
  with_reducible refine Kept.trans ?_ (State.portPlace_kept _ _ _)
  with_reducible refine Kept.trans ?_ (State.storeSense_kept _ _ _)
  with_reducible exact Kept.refl _
  with_reducible refine Kept.mk_same ?_ rfl rfl rfl rfl rfl
  with_reducible refine Kept.ite (fun _ => ?_) (fun _ => ?_)
  with_reducible refine Kept.trans ?_ (State.flowStat_kept _ _ _ _)
  with_reducible refine Kept.ite (fun _ => ?_) (fun _ => ?_)
  with_reducible refine Kept.trans ?_ (State.flowStat_kept _ _ _ _)
  with_reducible refine Kept.trans ?_ (State.portPlace_kept _ _ _)
  with_reducible refine Kept.trans ?_ (State.storeSense_kept _ _ _)
  with_reducible exact Kept.refl _
  with_reducible refine Kept.trans ?_ (State.portPlace_kept _ _ _)
  with_reducible refine Kept.trans ?_ (State.storeSense_kept _ _ _)
  with_reducible exact Kept.refl _
  with_reducible refine Kept.ite (fun _ => ?_) (fun _ => ?_)
  with_reducible refine Kept.trans ?_ (State.flowStat_kept _ _ _ _)
  with_reducible refine Kept.trans ?_ (State.portPlace_kept _ _ _)
  with_reducible refine Kept.trans ?_ (State.storeSense_kept _ _ _)
  with_reducible exact Kept.refl _
  with_reducible refine Kept.trans ?_ (State.portPlace_kept _ _ _)
  with_reducible refine Kept.trans ?_ (State.storeSense_kept _ _ _)
  with_reducible exact Kept.refl _

theorem State.placeRead_kept (s : State) (p : Nat) (q : BufferRead) (rest : List BufferRead) (found : Syndrome) :
    Kept s (State.placeRead s p q rest found) := by
  unfold State.placeRead
  dsimp only
  with_reducible refine Kept.trans ?_ (State.portPlace_kept _ _ _)
  with_reducible refine Kept.trans ?_ (State.setPort_kept _ _ _)
  split
  with_reducible refine Kept.trans ?_ (State.storeSense_kept _ _ _)
  with_reducible exact Kept.refl _
  dsimp only
  with_reducible refine Kept.trans ?_ (State.took_kept _)
  with_reducible refine Kept.trans ?_ (State.addrRefuse_kept _ _ _)
  with_reducible exact Kept.refl _

theorem execDeliveryPortPlace_kept (port ticket : Nat) (found : Syndrome) (s : State) :
    Kept s (stateOf (execDeliveryPortPlace port ticket found s) s) := by
  unfold execDeliveryPortPlace
  refine Kept.next ?_
  with_reducible refine Kept.ite (fun _ => ?_) (fun _ => ?_)
  split
  split
  with_reducible refine Kept.ite (fun _ => ?_) (fun _ => ?_)
  with_reducible refine Kept.trans ?_ (State.placeTicket_kept _ _ _ _ _)
  with_reducible exact Kept.refl _
  with_reducible exact Kept.refl _
  with_reducible exact Kept.refl _
  split
  with_reducible refine Kept.trans ?_ (State.placeRead_kept _ _ _ _ _)
  with_reducible exact Kept.refl _
  with_reducible exact Kept.refl _
  with_reducible exact Kept.refl _
  with_reducible exact Kept.refl _

theorem execDeliveryPortRead_kept (port : Nat) (s : State) : Kept s (stateOf (execDeliveryPortRead port s) s) := by
  unfold execDeliveryPortRead
  refine Kept.next ?_
  with_reducible refine Kept.ite (fun _ => ?_) (fun _ => ?_)
  split
  with_reducible exact Kept.refl _
  dsimp only
  with_reducible refine Kept.mk_same ?_ rfl rfl rfl rfl rfl
  with_reducible refine Kept.trans ?_ (State.addSatAt_kept _ _ _ _)
  with_reducible refine Kept.trans ?_ (State.setPort_kept _ _ _)
  with_reducible exact Kept.refl _
  with_reducible exact Kept.refl _

theorem execBufferReadRequest_kept (port offset words : Nat) (s : State) :
    Kept s (stateOf (execBufferReadRequest port offset words s) s) := by
  unfold execBufferReadRequest
  refine Kept.next ?_
  dsimp only
  with_reducible refine Kept.ite (fun _ => ?_) (fun _ => ?_)
  with_reducible refine Kept.trans ?_ (State.setPort_kept _ _ _)
  with_reducible exact Kept.refl _
  with_reducible exact Kept.refl _

theorem execRawPcsReceive_kept (lane word : Nat) (s : State) : Kept s (stateOf (execRawPcsReceive lane word s) s) := by
  unfold execRawPcsReceive
  refine Kept.next ?_
  with_reducible refine Kept.ite (fun _ => ?_) (fun _ => ?_)
  dsimp only
  with_reducible refine Kept.ite (fun _ => ?_) (fun _ => ?_)
  with_reducible refine Kept.trans ?_ (State.portPlace_kept _ _ _)
  with_reducible exact Kept.refl _
  with_reducible refine Kept.mk_same ?_ rfl rfl rfl rfl rfl
  with_reducible refine Kept.trans ?_ (State.addSatAt_kept _ _ _ _)
  with_reducible exact Kept.refl _
  dsimp only
  split
  with_reducible refine Kept.mk_same ?_ rfl rfl rfl rfl rfl
  with_reducible exact Kept.refl _
  with_reducible exact Kept.refl _

theorem State.retirePorts_kept (s : State) (r : Nat) : Kept s (State.retirePorts s r) := by
  unfold State.retirePorts
  with_reducible refine Kept.trans ?_ (Kept.foldl _ _ _ ?_)
  with_reducible exact Kept.refl _
  intro _ _
  dsimp only
  with_reducible refine Kept.trans ?_ (State.setPort_kept _ _ _)
  with_reducible refine Kept.ite (fun _ => ?_) (fun _ => ?_)
  with_reducible refine Kept.trans ?_ (State.setPack_kept _ _ _)
  with_reducible exact Kept.refl _
  with_reducible exact Kept.refl _

theorem State.emptyPorts_kept (s : State) : Kept s (State.emptyPorts s) := by
  unfold State.emptyPorts
  dsimp only
  with_reducible refine Kept.trans ?_ (Kept.foldl _ _ _ ?_)
  with_reducible refine Kept.trans ?_ (Kept.foldl _ _ _ ?_)
  with_reducible exact Kept.refl _
  intro _ _
  with_reducible refine Kept.trans ?_ (State.setPack_kept _ _ _)
  with_reducible exact Kept.refl _
  intro _ _
  with_reducible refine Kept.trans ?_ (State.setPort_kept _ _ _)
  with_reducible exact Kept.refl _

theorem State.loseFabric_kept (s : State) : Kept s (State.loseFabric s) := by
  unfold State.loseFabric
  dsimp only
  with_reducible refine Kept.mk_same ?_ rfl rfl rfl rfl rfl
  with_reducible refine Kept.trans ?_ (State.emptyPorts_kept _)
  with_reducible exact Kept.refl _

end Sys2Proof.Machine
end

