-- ==== Sys2Proof/Laws/KeptContexts.lean ====
section
/-! SUPPORT. `Kept` for the functions of Machine/Contexts.lean. -/

namespace Sys2Proof.Machine

open Sys2Proof

theorem State.setRequests_kept (s : State) (r : Nat) (qs : List RegionRequest) : Kept s (State.setRequests s r qs) := by
  unfold State.setRequests
  with_reducible refine Kept.trans ?_ (State.wrMask_kept _ _ _ _)
  with_reducible refine Kept.mk_same ?_ rfl rfl rfl rfl rfl
  with_reducible exact Kept.refl _

theorem State.settle_kept (s : State) (cmd : Option Nat) (r : Nat) (why : Option Nat) :
    Kept s (State.settle s cmd r why) := by
  unfold State.settle
  split
  with_reducible exact Kept.refl _
  split
  with_reducible exact Kept.refl _
  dsimp only
  with_reducible refine Kept.ite (fun _ => ?_) (fun _ => ?_)
  with_reducible refine Kept.trans ?_ (State.complete_kept _ _ _)
  with_reducible refine Kept.mk_same ?_ rfl rfl rfl rfl rfl
  with_reducible exact Kept.refl _
  with_reducible refine Kept.mk_same ?_ rfl rfl rfl rfl rfl
  with_reducible exact Kept.refl _

theorem State.turnRefused_kept (s : State) (r : Nat) (q : RegionRequest) (st : Nat) :
    Kept s (State.turnRefused s r q st) := by
  unfold State.turnRefused
  with_reducible refine Kept.trans ?_ (State.settle_kept _ _ _ _)
  with_reducible refine Kept.trans ?_ (State.postLimited_kept _ _ _ _ _ _)
  with_reducible refine Kept.trans ?_ (State.addSatAt_kept _ _ _ _)
  with_reducible refine Kept.trans ?_ (State.wr_kept _ _ _)
  with_reducible exact Kept.refl _

theorem State.refuseRequest_kept (s : State) (r : Nat) (q : RegionRequest) (st : Nat) :
    Kept s (State.refuseRequest s r q st) := by
  unfold State.refuseRequest
  with_reducible refine Kept.ite (fun _ => ?_) (fun _ => ?_)
  with_reducible refine Kept.trans ?_ (State.turnRefused_kept _ _ _ _)
  with_reducible exact Kept.refl _
  with_reducible refine Kept.trans ?_ (State.settle_kept _ _ _ _)
  with_reducible exact Kept.refl _

theorem State.refuseRequests_kept (s : State) (st r : Nat) : Kept s (State.refuseRequests s st r) := by
  unfold State.refuseRequests
  with_reducible refine Kept.trans ?_ (Kept.foldl _ _ _ ?_)
  with_reducible refine Kept.trans ?_ (State.setRequests_kept _ _ _)
  with_reducible exact Kept.refl _
  intro _ _
  with_reducible refine Kept.trans ?_ (State.refuseRequest_kept _ _ _ _)
  with_reducible exact Kept.refl _

theorem State.moveColumns_kept (s : State) (r : Nat) : Kept s (State.moveColumns s r) := by
  unfold State.moveColumns
  split
  with_reducible exact Kept.refl _
  with_reducible refine Kept.ite (fun _ => ?_) (fun _ => ?_)
  with_reducible exact Kept.refl _
  with_reducible refine Kept.mk_same ?_ rfl rfl rfl rfl rfl
  with_reducible exact Kept.refl _

theorem State.parkRegion_kept (s : State) (r : Nat) (forced : Bool) : Kept s (State.parkRegion s r forced) := by
  unfold State.parkRegion
  with_reducible refine Kept.trans ?_ (State.post_kept _ _ _ _ _)
  with_reducible refine Kept.trans ?_ (State.moveColumns_kept _ _)
  with_reducible refine Kept.trans ?_ (State.resetHard_kept _ _)
  with_reducible refine Kept.trans ?_ (State.wrAt_kept _ _ _ _)
  with_reducible refine Kept.trans ?_ (State.wrMask_kept _ _ _ _)
  with_reducible exact Kept.refl _

theorem State.unparkRegion_kept (s : State) (r : Nat) : Kept s (State.unparkRegion s r) := by
  unfold State.unparkRegion
  dsimp only
  with_reducible refine Kept.trans ?_ (State.post_kept _ _ _ _ _)
  with_reducible refine Kept.trans ?_ (State.gateRegion_kept _ _ _)
  with_reducible refine Kept.mk_same ?_ rfl rfl rfl rfl rfl
  with_reducible refine Kept.trans ?_ (State.wrMask_kept _ _ _ _)
  with_reducible exact Kept.refl _

theorem State.resetCycle_kept (s : State) (r : Nat) : Kept s (State.resetCycle s r) := by
  unfold State.resetCycle
  dsimp only
  with_reducible refine Kept.mk_same ?_ rfl rfl rfl rfl rfl
  with_reducible refine Kept.trans ?_ (State.took_kept _)
  with_reducible refine Kept.trans ?_ (State.resetHard_kept _ _)
  with_reducible exact Kept.refl _

theorem State.waitEdge_kept (s : State) (r : Nat) (q : RegionRequest) : Kept s (State.waitEdge s r q) := by
  unfold State.waitEdge
  with_reducible refine Kept.ite (fun _ => ?_) (fun _ => ?_)
  dsimp only
  with_reducible refine Kept.trans ?_ (State.setRequests_kept _ _ _)
  with_reducible exact Kept.refl _
  with_reducible refine Kept.trans ?_ (State.setRequests_kept _ _ _)
  with_reducible exact Kept.refl _

theorem State.turnTo_kept (s : State) (r k : Nat) : Kept s (State.turnTo s r k) := by
  unfold State.turnTo
  with_reducible refine Kept.trans ?_ (State.setActive_kept _ _ _)
  with_reducible refine Kept.mk_same ?_ rfl rfl rfl rfl rfl
  with_reducible exact Kept.refl _

theorem State.turnArrives_kept (s : State) (r : Nat) (q : RegionRequest) : Kept s (State.turnArrives s r q) := by
  unfold State.turnArrives
  split
  with_reducible refine Kept.trans ?_ (State.turnRefused_kept _ _ _ _)
  with_reducible exact Kept.refl _
  with_reducible refine Kept.ite (fun _ => ?_) (fun _ => ?_)
  with_reducible refine Kept.trans ?_ (State.settle_kept _ _ _ _)
  with_reducible refine Kept.trans ?_ (State.resetHard_kept _ _)
  with_reducible refine Kept.trans ?_ (State.addSatAt_kept _ _ _ _)
  with_reducible refine Kept.trans ?_ (State.turnTo_kept _ _ _)
  with_reducible exact Kept.refl _
  with_reducible refine Kept.trans ?_ (State.waitEdge_kept _ _ _)
  with_reducible exact Kept.refl _

theorem State.parkArrives_kept (s : State) (r : Nat) (q : RegionRequest) : Kept s (State.parkArrives s r q) := by
  unfold State.parkArrives
  with_reducible refine Kept.ite (fun _ => ?_) (fun _ => ?_)
  with_reducible refine Kept.trans ?_ (State.settle_kept _ _ _ _)
  with_reducible exact Kept.refl _
  with_reducible refine Kept.ite (fun _ => ?_) (fun _ => ?_)
  with_reducible refine Kept.trans ?_ (State.settle_kept _ _ _ _)
  with_reducible exact Kept.refl _
  with_reducible refine Kept.ite (fun _ => ?_) (fun _ => ?_)
  with_reducible refine Kept.trans ?_ (State.settle_kept _ _ _ _)
  with_reducible refine Kept.trans ?_ (State.parkRegion_kept _ _ _)
  with_reducible exact Kept.refl _
  with_reducible refine Kept.trans ?_ (State.waitEdge_kept _ _ _)
  with_reducible exact Kept.refl _

theorem State.unparkArrives_kept (s : State) (r : Nat) (q : RegionRequest) : Kept s (State.unparkArrives s r q) := by
  unfold State.unparkArrives
  with_reducible refine Kept.ite (fun _ => ?_) (fun _ => ?_)
  with_reducible refine Kept.trans ?_ (State.settle_kept _ _ _ _)
  with_reducible exact Kept.refl _
  with_reducible refine Kept.ite (fun _ => ?_) (fun _ => ?_)
  with_reducible refine Kept.trans ?_ (State.settle_kept _ _ _ _)
  with_reducible exact Kept.refl _
  split
  with_reducible refine Kept.trans ?_ (State.settle_kept _ _ _ _)
  with_reducible exact Kept.refl _
  with_reducible refine Kept.trans ?_ (State.waitEdge_kept _ _ _)
  with_reducible exact Kept.refl _

theorem State.arrives_kept (q : RegionRequest) (s : State) (r : Nat) : Kept s (State.arrives q s r) := by
  unfold State.arrives
  split
  with_reducible refine Kept.trans ?_ (State.turnArrives_kept _ _ _)
  with_reducible exact Kept.refl _
  with_reducible refine Kept.trans ?_ (State.parkArrives_kept _ _ _)
  with_reducible exact Kept.refl _
  with_reducible refine Kept.trans ?_ (State.unparkArrives_kept _ _ _)
  with_reducible exact Kept.refl _

theorem State.noteHost_kept (s : State) (r : Nat) (q : RegionRequest) : Kept s (State.noteHost s r q) := by
  unfold State.noteHost
  dsimp only
  with_reducible refine Kept.mk_same ?_ rfl rfl rfl rfl rfl
  with_reducible exact Kept.refl _

theorem State.hostAgain_kept (s : State) (r : Nat) (q : RegionRequest) : Kept s (State.hostAgain s r q) := by
  unfold State.hostAgain
  with_reducible refine Kept.ite (fun _ => ?_) (fun _ => ?_)
  with_reducible refine Kept.ite (fun _ => ?_) (fun _ => ?_)
  with_reducible refine Kept.trans ?_ (State.resetHard_kept _ _)
  with_reducible refine Kept.trans ?_ (State.turnTo_kept _ _ _)
  with_reducible exact Kept.refl _
  with_reducible exact Kept.refl _
  with_reducible refine Kept.trans ?_ (State.arrives_kept _ _ _)
  with_reducible exact Kept.refl _

theorem State.requestArrives_kept (q : RegionRequest) (s : State) (r : Nat) : Kept s (State.requestArrives q s r) := by
  unfold State.requestArrives
  dsimp only
  with_reducible refine Kept.ite (fun _ => ?_) (fun _ => ?_)
  with_reducible refine Kept.trans ?_ (Kept.foldl _ _ _ ?_)
  with_reducible refine Kept.trans ?_ (State.arrives_kept _ _ _)
  with_reducible exact Kept.refl _
  intro _ _
  with_reducible refine Kept.trans ?_ (State.hostAgain_kept _ _ _)
  with_reducible exact Kept.refl _
  with_reducible refine Kept.ite (fun _ => ?_) (fun _ => ?_)
  with_reducible refine Kept.trans ?_ (State.noteHost_kept _ _ _)
  with_reducible refine Kept.trans ?_ (State.arrives_kept _ _ _)
  with_reducible exact Kept.refl _
  with_reducible refine Kept.trans ?_ (State.arrives_kept _ _ _)
  with_reducible exact Kept.refl _

theorem State.requestAll_kept (s : State) (mask : Nat) (q : RegionRequest) : Kept s (State.requestAll s mask q) := by
  unfold State.requestAll
  with_reducible refine Kept.trans ?_ (Kept.foldl _ _ _ ?_)
  with_reducible exact Kept.refl _
  intro _ _
  with_reducible refine Kept.trans ?_ (State.requestArrives_kept _ _ _)
  with_reducible exact Kept.refl _

theorem State.settleAll_kept (s : State) (r : Nat) (qs : List RegionRequest) : Kept s (State.settleAll s r qs) := by
  unfold State.settleAll
  with_reducible refine Kept.trans ?_ (Kept.foldl _ _ _ ?_)
  with_reducible exact Kept.refl _
  intro _ _
  with_reducible refine Kept.trans ?_ (State.settle_kept _ _ _ _)
  with_reducible exact Kept.refl _

theorem State.turnsApply_kept (s : State) (r : Nat) (turns : List RegionRequest) : Kept s (State.turnsApply s r turns) := by
  unfold State.turnsApply
  split
  with_reducible exact Kept.refl _
  dsimp only
  with_reducible refine Kept.ite (fun _ => ?_) (fun _ => ?_)
  with_reducible refine Kept.trans ?_ (State.resetCycle_kept _ _)
  with_reducible refine Kept.trans ?_ (State.wrAt_kept _ _ _ _)
  with_reducible refine Kept.trans ?_ (State.addSatAt_kept _ _ _ _)
  with_reducible refine Kept.trans ?_ (State.turnTo_kept _ _ _)
  with_reducible exact Kept.refl _
  with_reducible refine Kept.trans ?_ (State.wrAt_kept _ _ _ _)
  with_reducible refine Kept.trans ?_ (State.addSatAt_kept _ _ _ _)
  with_reducible refine Kept.trans ?_ (State.turnTo_kept _ _ _)
  with_reducible exact Kept.refl _

theorem State.regionEdge_kept (s : State) (r : Nat) : Kept s (State.regionEdge s r) := by
  unfold State.regionEdge
  dsimp only
  with_reducible refine Kept.trans ?_ (State.settleAll_kept _ _ _)
  with_reducible refine Kept.ite (fun _ => ?_) (fun _ => ?_)
  with_reducible refine Kept.trans ?_ (State.parkRegion_kept _ _ _)
  with_reducible refine Kept.trans ?_ (State.turnsApply_kept _ _ _)
  with_reducible refine Kept.trans ?_ (State.setRequests_kept _ _ _)
  with_reducible exact Kept.refl _
  with_reducible refine Kept.trans ?_ (State.turnsApply_kept _ _ _)
  with_reducible refine Kept.trans ?_ (State.setRequests_kept _ _ _)
  with_reducible exact Kept.refl _

theorem State.noClock_kept (s : State) (r ns : Nat) : Kept s (State.noClock s r ns) := by
  unfold State.noClock
  dsimp only
  with_reducible refine Kept.trans ?_ (Kept.foldl _ _ _ ?_)
  with_reducible refine Kept.ite (fun _ => ?_) (fun _ => ?_)
  with_reducible refine Kept.trans ?_ (Kept.foldl _ _ _ ?_)
  with_reducible refine Kept.ite (fun _ => ?_) (fun _ => ?_)
  with_reducible exact Kept.refl _
  with_reducible refine Kept.trans ?_ (State.setRequests_kept _ _ _)
  with_reducible exact Kept.refl _
  intro _ _
  with_reducible refine Kept.trans ?_ (State.refuseRequest_kept _ _ _ _)
  with_reducible exact Kept.refl _
  with_reducible refine Kept.trans ?_ (State.setRequests_kept _ _ _)
  with_reducible refine Kept.trans ?_ (Kept.foldl _ _ _ ?_)
  with_reducible refine Kept.ite (fun _ => ?_) (fun _ => ?_)
  with_reducible exact Kept.refl _
  with_reducible refine Kept.trans ?_ (State.setRequests_kept _ _ _)
  with_reducible exact Kept.refl _
  intro _ _
  with_reducible refine Kept.trans ?_ (State.refuseRequest_kept _ _ _ _)
  with_reducible exact Kept.refl _
  intro _ _
  with_reducible refine Kept.trans ?_ (State.refuseRequest_kept _ _ _ _)
  with_reducible exact Kept.refl _

theorem execTurnEffect_kept (region : Nat) (s : State) : Kept s (stateOf (execTurnEffect region s) s) := by
  unfold execTurnEffect
  refine Kept.next ?_
  with_reducible refine Kept.ite (fun _ => ?_) (fun _ => ?_)
  with_reducible refine Kept.trans ?_ (State.regionEdge_kept _ _)
  with_reducible refine Kept.trans ?_ (State.noClock_kept _ _ _)
  with_reducible exact Kept.refl _
  with_reducible exact Kept.refl _

theorem execTurnNoClock_kept (region : Nat) (s : State) : Kept s (stateOf (execTurnNoClock region s) s) := by
  unfold execTurnNoClock
  refine Kept.next ?_
  with_reducible refine Kept.ite (fun _ => ?_) (fun _ => ?_)
  with_reducible refine Kept.trans ?_ (State.noClock_kept _ _ _)
  with_reducible exact Kept.refl _
  with_reducible exact Kept.refl _

theorem execParkEffect_kept (region : Nat) (s : State) : Kept s (stateOf (execParkEffect region s) s) := by
  unfold execParkEffect
  refine Kept.next ?_
  with_reducible refine Kept.ite (fun _ => ?_) (fun _ => ?_)
  with_reducible refine Kept.trans ?_ (State.regionEdge_kept _ _)
  with_reducible refine Kept.trans ?_ (State.noClock_kept _ _ _)
  with_reducible exact Kept.refl _
  with_reducible exact Kept.refl _

theorem execParkForced_kept (region : Nat) (s : State) : Kept s (stateOf (execParkForced region s) s) := by
  unfold execParkForced
  refine Kept.next ?_
  dsimp only
  with_reducible refine Kept.ite (fun _ => ?_) (fun _ => ?_)
  with_reducible refine Kept.trans ?_ (State.settleAll_kept _ _ _)
  with_reducible refine Kept.trans ?_ (State.parkRegion_kept _ _ _)
  with_reducible refine Kept.trans ?_ (State.setRequests_kept _ _ _)
  with_reducible exact Kept.refl _
  with_reducible exact Kept.refl _

theorem execUnparkRelease_kept (region : Nat) (s0 : State) : Kept s0 (stateOf (execUnparkRelease region s0) s0) := by
  unfold execUnparkRelease
  refine Kept.next ?_
  dsimp only
  with_reducible refine Kept.ite (fun _ => ?_) (fun _ => ?_)
  with_reducible refine Kept.trans ?_ (State.settleAll_kept _ _ _)
  with_reducible refine Kept.ite (fun _ => ?_) (fun _ => ?_)
  with_reducible refine Kept.trans ?_ (State.unparkRegion_kept _ _)
  with_reducible refine Kept.trans ?_ (State.turnsApply_kept _ _ _)
  with_reducible refine Kept.trans ?_ (State.setRequests_kept _ _ _)
  with_reducible refine Kept.ite (fun _ => ?_) (fun _ => ?_)
  with_reducible refine Kept.trans ?_ (State.noClock_kept _ _ _)
  with_reducible exact Kept.refl _
  with_reducible exact Kept.refl _
  with_reducible refine Kept.trans ?_ (State.turnsApply_kept _ _ _)
  with_reducible refine Kept.trans ?_ (State.setRequests_kept _ _ _)
  with_reducible refine Kept.ite (fun _ => ?_) (fun _ => ?_)
  with_reducible refine Kept.trans ?_ (State.noClock_kept _ _ _)
  with_reducible exact Kept.refl _
  with_reducible exact Kept.refl _
  with_reducible refine Kept.ite (fun _ => ?_) (fun _ => ?_)
  with_reducible refine Kept.trans ?_ (State.noClock_kept _ _ _)
  with_reducible exact Kept.refl _
  with_reducible exact Kept.refl _

theorem State.regionCommand_kept (s : State) (id mask : Nat) (q : RegionRequest) :
    Kept s (State.regionCommand s id mask q).2 := by
  unfold State.regionCommand
  split
  dsimp only
  with_reducible exact Kept.refl _
  dsimp only
  with_reducible refine Kept.trans ?_ (State.requestAll_kept _ _ _)
  with_reducible refine Kept.mk_same ?_ rfl rfl rfl rfl rfl
  with_reducible exact Kept.refl _

theorem execCtxTurn_kept (id : Nat) (s : State) : Kept s (stateOf (execCtxTurn id s) s) := by
  unfold execCtxTurn
  refine Kept.next ?_
  with_reducible refine Kept.trans ?_ (State.startCmd_kept _ _ _ _ ?_)
  with_reducible exact Kept.refl _
  intro _ _
  with_reducible refine Kept.trans ?_ (State.regionCommand_kept _ _ _ _)
  with_reducible exact Kept.refl _

theorem execCtxPark_kept (id : Nat) (s : State) : Kept s (stateOf (execCtxPark id s) s) := by
  unfold execCtxPark
  refine Kept.next ?_
  with_reducible refine Kept.trans ?_ (State.startCmd_kept _ _ _ _ ?_)
  with_reducible exact Kept.refl _
  intro _ _
  with_reducible refine Kept.trans ?_ (State.regionCommand_kept _ _ _ _)
  with_reducible exact Kept.refl _

theorem execCtxUnpark_kept (id : Nat) (s : State) : Kept s (stateOf (execCtxUnpark id s) s) := by
  unfold execCtxUnpark
  refine Kept.next ?_
  with_reducible refine Kept.trans ?_ (State.startCmd_kept _ _ _ _ ?_)
  with_reducible exact Kept.refl _
  intro _ _
  with_reducible refine Kept.trans ?_ (State.regionCommand_kept _ _ _ _)
  with_reducible exact Kept.refl _

theorem execDncTurn_kept (s : State) : Kept s (stateOf (execDncTurn s) s) := by
  unfold execDncTurn
  refine Kept.next ?_
  with_reducible refine Kept.trans ?_ (State.runAction_kept _ _ _ ?_)
  with_reducible exact Kept.refl _
  intro _ _
  dsimp only
  with_reducible refine Kept.trans ?_ (State.requestAll_kept _ _ _)
  with_reducible exact Kept.refl _

theorem execDncPark_kept (s : State) : Kept s (stateOf (execDncPark s) s) := by
  unfold execDncPark
  refine Kept.next ?_
  with_reducible refine Kept.trans ?_ (State.runAction_kept _ _ _ ?_)
  with_reducible exact Kept.refl _
  intro _ _
  with_reducible refine Kept.trans ?_ (State.requestAll_kept _ _ _)
  with_reducible exact Kept.refl _

theorem execDncUnpark_kept (s : State) : Kept s (stateOf (execDncUnpark s) s) := by
  unfold execDncUnpark
  refine Kept.next ?_
  with_reducible refine Kept.trans ?_ (State.runAction_kept _ _ _ ?_)
  with_reducible exact Kept.refl _
  intro _ _
  with_reducible refine Kept.trans ?_ (State.requestAll_kept _ _ _)
  with_reducible exact Kept.refl _

theorem State.captureRefused_kept (s : State) (why : Nat) : Kept s (State.captureRefused s why) := by
  unfold State.captureRefused
  with_reducible refine Kept.trans ?_ (State.post_kept _ _ _ _ _)
  with_reducible refine Kept.trans ?_ (State.incSat_kept _ _)
  with_reducible refine Kept.trans ?_ (State.wr_kept _ _ _)
  with_reducible exact Kept.refl _

theorem State.captureArm_kept (s : State) (x : CaptureRun) : Kept s (State.captureArm s x) := by
  unfold State.captureArm
  with_reducible refine Kept.trans ?_ (State.wr_kept _ _ _)
  with_reducible refine Kept.mk_same ?_ rfl rfl rfl rfl rfl
  with_reducible exact Kept.refl _

theorem State.captureCancel_kept (s : State) : Kept s (State.captureCancel s) := by
  unfold State.captureCancel
  with_reducible refine Kept.trans ?_ (State.wr_kept _ _ _)
  with_reducible refine Kept.mk_same ?_ rfl rfl rfl rfl rfl
  with_reducible exact Kept.refl _

theorem execCtxCapture_kept (id : Nat) (s : State) : Kept s (stateOf (execCtxCapture id s) s) := by
  unfold execCtxCapture
  refine Kept.next ?_
  with_reducible refine Kept.trans ?_ (State.startCmd_kept _ _ _ _ ?_)
  with_reducible exact Kept.refl _
  intro _ _
  dsimp only
  split
  split
  dsimp only
  with_reducible exact Kept.refl _
  dsimp only
  split
  with_reducible refine Kept.trans ?_ (State.complete_kept _ _ _)
  with_reducible refine Kept.trans ?_ (State.captureCancel_kept _)
  with_reducible exact Kept.refl _
  with_reducible refine Kept.trans ?_ (State.captureCancel_kept _)
  with_reducible exact Kept.refl _
  split
  dsimp only
  with_reducible refine Kept.trans ?_ (State.captureRefused_kept _ _)
  with_reducible exact Kept.refl _
  dsimp only
  with_reducible refine Kept.trans ?_ (State.captureRefused_kept _ _)
  with_reducible exact Kept.refl _
  dsimp only
  with_reducible refine Kept.trans ?_ (State.captureArm_kept _ _)
  with_reducible exact Kept.refl _

theorem execDncCapture_kept (s : State) : Kept s (stateOf (execDncCapture s) s) := by
  unfold execDncCapture
  refine Kept.next ?_
  with_reducible refine Kept.trans ?_ (State.runAction_kept _ _ _ ?_)
  with_reducible exact Kept.refl _
  intro _ _
  dsimp only
  split
  with_reducible refine Kept.trans ?_ (State.captureRefused_kept _ _)
  with_reducible exact Kept.refl _
  with_reducible refine Kept.trans ?_ (State.captureArm_kept _ _)
  with_reducible exact Kept.refl _

theorem State.enterHalted_kept (s : State) : Kept s (State.enterHalted s) := by
  unfold State.enterHalted
  dsimp only
  with_reducible refine Kept.trans ?_ (State.post_kept _ _ _ _ _)
  with_reducible refine Kept.trans ?_ (Kept.foldl _ _ _ ?_)
  with_reducible refine Kept.trans ?_ (State.setMode_kept _ _)
  with_reducible refine Kept.trans ?_ (State.gateAll_kept _ _)
  with_reducible refine Kept.trans ?_ (State.wr_kept _ _ _)
  with_reducible exact Kept.refl _
  intro _ _
  with_reducible refine Kept.ite (fun _ => ?_) (fun _ => ?_)
  with_reducible refine Kept.trans ?_ (Kept.foldl _ _ _ ?_)
  with_reducible refine Kept.trans ?_ (State.setRequests_kept _ _ _)
  with_reducible exact Kept.refl _
  intro _ _
  with_reducible refine Kept.trans ?_ (State.refuseRequest_kept _ _ _ _)
  with_reducible exact Kept.refl _
  with_reducible refine Kept.trans ?_ (State.settleAll_kept _ _ _)
  with_reducible refine Kept.ite (fun _ => ?_) (fun _ => ?_)
  with_reducible refine Kept.trans ?_ (Kept.foldl _ _ _ ?_)
  with_reducible refine Kept.trans ?_ (State.setRequests_kept _ _ _)
  with_reducible exact Kept.refl _
  intro _ _
  with_reducible refine Kept.trans ?_ (State.refuseRequest_kept _ _ _ _)
  with_reducible exact Kept.refl _
  with_reducible refine Kept.trans ?_ (State.parkRegion_kept _ _ _)
  with_reducible refine Kept.trans ?_ (Kept.foldl _ _ _ ?_)
  with_reducible refine Kept.trans ?_ (State.setRequests_kept _ _ _)
  with_reducible exact Kept.refl _
  intro _ _
  with_reducible refine Kept.trans ?_ (State.refuseRequest_kept _ _ _ _)
  with_reducible exact Kept.refl _

theorem State.beforeTurns_kept (s : State) (x : CaptureRun) : Kept s (State.beforeTurns s x) := by
  unfold State.beforeTurns
  with_reducible refine Kept.trans ?_ (Kept.foldl _ _ _ ?_)
  with_reducible exact Kept.refl _
  intro _ _
  with_reducible refine Kept.trans ?_ (State.setActive_kept _ _ _)
  with_reducible exact Kept.refl _

theorem execCaptureTaken_kept (s : State) : Kept s (stateOf (execCaptureTaken s) s) := by
  unfold execCaptureTaken
  refine Kept.next ?_
  split
  with_reducible exact Kept.refl _
  with_reducible refine Kept.ite (fun _ => ?_) (fun _ => ?_)
  dsimp only
  split
  with_reducible refine Kept.trans ?_ (State.complete_kept _ _ _)
  with_reducible refine Kept.ite (fun _ => ?_) (fun _ => ?_)
  with_reducible refine Kept.trans ?_ (State.enterHalted_kept _)
  with_reducible refine Kept.trans ?_ (State.post_kept _ _ _ _ _)
  with_reducible refine Kept.trans ?_ (State.incSat_kept _ _)
  with_reducible refine Kept.trans ?_ (State.wr_kept _ _ _)
  with_reducible refine Kept.trans ?_ (State.wr_kept _ _ _)
  with_reducible refine Kept.trans ?_ (State.wr_kept _ _ _)
  with_reducible refine Kept.trans ?_ (State.wr_kept _ _ _)
  with_reducible refine Kept.mk_same ?_ rfl rfl rfl rfl rfl
  with_reducible refine Kept.trans ?_ (State.tookN_kept _ _)
  with_reducible exact Kept.refl _
  with_reducible refine Kept.trans ?_ (State.post_kept _ _ _ _ _)
  with_reducible refine Kept.trans ?_ (State.incSat_kept _ _)
  with_reducible refine Kept.trans ?_ (State.wr_kept _ _ _)
  with_reducible refine Kept.trans ?_ (State.wr_kept _ _ _)
  with_reducible refine Kept.trans ?_ (State.wr_kept _ _ _)
  with_reducible refine Kept.trans ?_ (State.wr_kept _ _ _)
  with_reducible refine Kept.mk_same ?_ rfl rfl rfl rfl rfl
  with_reducible refine Kept.trans ?_ (State.tookN_kept _ _)
  with_reducible exact Kept.refl _
  with_reducible refine Kept.ite (fun _ => ?_) (fun _ => ?_)
  with_reducible refine Kept.trans ?_ (State.enterHalted_kept _)
  with_reducible refine Kept.trans ?_ (State.post_kept _ _ _ _ _)
  with_reducible refine Kept.trans ?_ (State.incSat_kept _ _)
  with_reducible refine Kept.trans ?_ (State.wr_kept _ _ _)
  with_reducible refine Kept.trans ?_ (State.wr_kept _ _ _)
  with_reducible refine Kept.trans ?_ (State.wr_kept _ _ _)
  with_reducible refine Kept.trans ?_ (State.wr_kept _ _ _)
  with_reducible refine Kept.mk_same ?_ rfl rfl rfl rfl rfl
  with_reducible refine Kept.trans ?_ (State.tookN_kept _ _)
  with_reducible exact Kept.refl _
  with_reducible refine Kept.trans ?_ (State.post_kept _ _ _ _ _)
  with_reducible refine Kept.trans ?_ (State.incSat_kept _ _)
  with_reducible refine Kept.trans ?_ (State.wr_kept _ _ _)
  with_reducible refine Kept.trans ?_ (State.wr_kept _ _ _)
  with_reducible refine Kept.trans ?_ (State.wr_kept _ _ _)
  with_reducible refine Kept.trans ?_ (State.wr_kept _ _ _)
  with_reducible refine Kept.mk_same ?_ rfl rfl rfl rfl rfl
  with_reducible refine Kept.trans ?_ (State.tookN_kept _ _)
  with_reducible exact Kept.refl _
  with_reducible exact Kept.refl _

theorem State.resumeRun_kept (s : State) : Kept s (State.resumeRun s) := by
  unfold State.resumeRun
  with_reducible refine Kept.trans ?_ (State.post_kept _ _ _ _ _)
  with_reducible refine Kept.trans ?_ (State.followDegraded_kept _)
  with_reducible refine Kept.trans ?_ (State.setMode_kept _ _)
  with_reducible refine Kept.trans ?_ (State.gateAll_kept _ _)
  with_reducible exact Kept.refl _

theorem execCtxResume_kept (id : Nat) (s : State) : Kept s (stateOf (execCtxResume id s) s) := by
  unfold execCtxResume
  refine Kept.next ?_
  with_reducible refine Kept.trans ?_ (State.runCmd_kept _ _ _ _ ?_)
  with_reducible exact Kept.refl _
  intro _ _
  split
  dsimp only
  with_reducible refine Kept.trans ?_ (State.resumeRun_kept _)
  with_reducible exact Kept.refl _
  dsimp only
  with_reducible exact Kept.refl _

theorem State.readRows_kept (s : State) (r m row n : Nat) : Kept s (State.readRows s r m row n).2 := by
  induction n generalizing s row with
  | zero =>
    unfold State.readRows
    dsimp only
    with_reducible exact Kept.refl _
  | succ k ih =>
    unfold State.readRows
    dsimp only
    with_reducible refine Kept.trans ?_ (ih ..)
    with_reducible refine Kept.trans ?_ (State.tileRow_kept _ _ _ _)
    with_reducible exact Kept.refl _

theorem State.readbackRefused_kept (s : State) (st : Nat) : Kept s (State.readbackRefused s st).2 := by
  unfold State.readbackRefused
  dsimp only
  with_reducible refine Kept.trans ?_ (State.wr_kept _ _ _)
  with_reducible exact Kept.refl _

theorem State.readCapture_kept (s : State) (host r : Nat) (release : Bool) :
    Kept s (State.readCapture s host r release).2 := by
  unfold State.readCapture
  split
  with_reducible refine Kept.trans ?_ (State.readbackRefused_kept _ _)
  with_reducible exact Kept.refl _
  split
  with_reducible refine Kept.trans ?_ (State.readbackRefused_kept _ _)
  with_reducible exact Kept.refl _
  dsimp only
  with_reducible refine Kept.ite (fun _ => ?_) (fun _ => ?_)
  with_reducible refine Kept.trans ?_ (State.wr_kept _ _ _)
  split
  with_reducible refine Kept.trans ?_ (State.hostWrite_kept _ _ _)
  with_reducible exact Kept.refl _
  with_reducible refine Kept.trans ?_ (State.hostUndefined_kept _ _ _)
  with_reducible exact Kept.refl _
  split
  with_reducible refine Kept.trans ?_ (State.hostWrite_kept _ _ _)
  with_reducible exact Kept.refl _
  with_reducible refine Kept.trans ?_ (State.hostUndefined_kept _ _ _)
  with_reducible exact Kept.refl _

theorem State.readFrames_kept (s : State) (host far n : Nat) : Kept s (State.readFrames s host far n).2 := by
  unfold State.readFrames
  split
  dsimp only
  with_reducible exact Kept.refl _
  split
  dsimp only
  with_reducible exact Kept.refl _
  dsimp only
  split
  with_reducible refine Kept.trans ?_ (State.readbackRefused_kept _ _)
  with_reducible exact Kept.refl _
  split
  with_reducible refine Kept.trans ?_ (State.readbackRefused_kept _ _)
  with_reducible exact Kept.refl _
  dsimp only
  with_reducible refine Kept.trans ?_ (State.hostWrite_kept _ _ _)
  with_reducible exact Kept.refl _

theorem State.readTile_kept (s : State) (host r m row n : Nat) : Kept s (State.readTile s host r m row n).2 := by
  unfold State.readTile
  split
  dsimp only
  with_reducible exact Kept.refl _
  split
  dsimp only
  with_reducible exact Kept.refl _
  split
  with_reducible refine Kept.trans ?_ (State.readbackRefused_kept _ _)
  with_reducible exact Kept.refl _
  split
  with_reducible refine Kept.trans ?_ (State.readbackRefused_kept _ _)
  with_reducible exact Kept.refl _
  dsimp only
  with_reducible refine Kept.trans ?_ (State.hostWrite_kept _ _ _)
  with_reducible refine Kept.trans ?_ (State.readRows_kept _ _ _ _ _)
  with_reducible exact Kept.refl _

theorem execCtxReadback_kept (id : Nat) (s : State) : Kept s (stateOf (execCtxReadback id s) s) := by
  unfold execCtxReadback
  refine Kept.next ?_
  with_reducible refine Kept.trans ?_ (State.runCmd_kept _ _ _ _ ?_)
  with_reducible exact Kept.refl _
  intro _ _
  dsimp only
  split
  dsimp only
  with_reducible exact Kept.refl _
  split
  with_reducible refine Kept.trans ?_ (State.readCapture_kept _ _ _ _)
  with_reducible exact Kept.refl _
  with_reducible refine Kept.trans ?_ (State.readFrames_kept _ _ _ _)
  with_reducible exact Kept.refl _
  with_reducible refine Kept.trans ?_ (State.readTile_kept _ _ _ _ _ _)
  with_reducible exact Kept.refl _
  dsimp only
  with_reducible exact Kept.refl _

end Sys2Proof.Machine
end

