-- ==== Sys2Proof/Laws/KeptFlash.lean ====
section
/-! SUPPORT. `Kept` for the functions of Machine/Flash.lean. -/

namespace Sys2Proof.Machine

open Sys2Proof

theorem State.setSector_kept (s : State) (b n st : Nat) : Kept s (State.setSector s b n st) := by
  unfold State.setSector
  with_reducible refine Kept.trans ?_ (State.wrAt_kept _ _ _ _)
  with_reducible exact Kept.refl _

theorem State.putCode_kept (s : State) (key : Nat) (x : CodeWord) : Kept s (State.putCode s key x) := by
  unfold State.putCode
  with_reducible refine Kept.mk_same ?_ rfl rfl rfl rfl rfl
  with_reducible exact Kept.refl _

theorem State.flashError_kept (s : State) (b n w st : Nat) : Kept s (State.flashError s b n w st) := by
  unfold State.flashError
  with_reducible refine Kept.trans ?_ (State.wr_kept _ _ _)
  with_reducible refine Kept.trans ?_ (State.wr_kept _ _ _)
  with_reducible refine Kept.trans ?_ (State.wr_kept _ _ _)
  with_reducible refine Kept.trans ?_ (State.wr_kept _ _ _)
  with_reducible exact Kept.refl _

theorem State.flashSense_kept (s : State) (b n w : Nat) (found : FlashRead) : Kept s (State.flashSense s b n w found).2 := by
  unfold State.flashSense
  dsimp only
  split
  dsimp only
  with_reducible refine Kept.ite (fun _ => ?_) (fun _ => ?_)
  with_reducible refine Kept.trans ?_ (State.took_kept _)
  with_reducible exact Kept.refl _
  with_reducible exact Kept.refl _
  split
  dsimp only
  with_reducible refine Kept.ite (fun _ => ?_) (fun _ => ?_)
  with_reducible refine Kept.trans ?_ (State.took_kept _)
  with_reducible exact Kept.refl _
  with_reducible exact Kept.refl _
  dsimp only
  with_reducible refine Kept.trans ?_ (State.postLimited_kept _ _ _ _ _ _)
  with_reducible refine Kept.trans ?_ (State.incSat_kept _ _)
  with_reducible refine Kept.ite (fun _ => ?_) (fun _ => ?_)
  with_reducible refine Kept.trans ?_ (State.took_kept _)
  with_reducible exact Kept.refl _
  with_reducible exact Kept.refl _
  dsimp only
  with_reducible refine Kept.trans ?_ (State.post_kept _ _ _ _ _)
  with_reducible refine Kept.trans ?_ (State.flashError_kept _ _ _ _ _)
  with_reducible refine Kept.trans ?_ (State.wr_kept _ _ _)
  with_reducible refine Kept.trans ?_ (State.incSat_kept _ _)
  with_reducible refine Kept.ite (fun _ => ?_) (fun _ => ?_)
  with_reducible refine Kept.trans ?_ (State.took_kept _)
  with_reducible exact Kept.refl _
  with_reducible exact Kept.refl _

theorem State.senseCodes_kept (s : State) (found : Found) (reads : Nat → Bool) : Kept s (State.senseCodes s found reads) := by
  unfold State.senseCodes
  with_reducible refine Kept.trans ?_ (Kept.foldl _ _ _ ?_)
  with_reducible exact Kept.refl _
  intro _ _
  with_reducible refine Kept.ite (fun _ => ?_) (fun _ => ?_)
  with_reducible refine Kept.trans ?_ (State.flashSense_kept _ _ _ _ _)
  with_reducible exact Kept.refl _
  with_reducible exact Kept.refl _

theorem State.showBank_kept (s : State) (b : Nat) : Kept s (State.showBank s b) := by
  unfold State.showBank
  split
  with_reducible refine Kept.trans ?_ (State.wrAt_kept _ _ _ _)
  with_reducible refine Kept.trans ?_ (State.wrAt_kept _ _ _ _)
  with_reducible refine Kept.trans ?_ (State.wrAt_kept _ _ _ _)
  with_reducible refine Kept.trans ?_ (State.wrAt_kept _ _ _ _)
  with_reducible refine Kept.trans ?_ (State.wrAt_kept _ _ _ _)
  with_reducible exact Kept.refl _
  with_reducible refine Kept.trans ?_ (State.wrAt_kept _ _ _ _)
  with_reducible refine Kept.trans ?_ (State.wrAt_kept _ _ _ _)
  with_reducible refine Kept.trans ?_ (State.wrAt_kept _ _ _ _)
  with_reducible refine Kept.trans ?_ (State.wrAt_kept _ _ _ _)
  with_reducible refine Kept.trans ?_ (State.wrAt_kept _ _ _ _)
  with_reducible exact Kept.refl _

theorem State.setFlashOp_kept (s : State) (b : Nat) (x : FlashOp) : Kept s (State.setFlashOp s b x) := by
  unfold State.setFlashOp
  with_reducible refine Kept.trans ?_ (State.showBank_kept _ _)
  with_reducible refine Kept.mk_same ?_ rfl rfl rfl rfl rfl
  with_reducible exact Kept.refl _

theorem State.markSector_kept (s : State) (b : Nat) (x : FlashOp) : Kept s (State.markSector s b x) := by
  unfold State.markSector
  with_reducible refine Kept.ite (fun _ => ?_) (fun _ => ?_)
  with_reducible exact Kept.refl _
  with_reducible refine Kept.ite (fun _ => ?_) (fun _ => ?_)
  with_reducible refine Kept.trans ?_ (State.setSector_kept _ _ _ _)
  with_reducible exact Kept.refl _
  with_reducible refine Kept.ite (fun _ => ?_) (fun _ => ?_)
  with_reducible exact Kept.refl _
  with_reducible refine Kept.trans ?_ (State.wrAt_kept _ _ _ _)
  with_reducible refine Kept.trans ?_ (State.setSector_kept _ _ _ _)
  with_reducible exact Kept.refl _

theorem State.unmarkSector_kept (s : State) (b : Nat) (x : FlashOp) : Kept s (State.unmarkSector s b x) := by
  unfold State.unmarkSector
  with_reducible refine Kept.ite (fun _ => ?_) (fun _ => ?_)
  with_reducible exact Kept.refl _
  with_reducible refine Kept.trans ?_ (State.wrAt_kept _ _ _ _)
  with_reducible refine Kept.trans ?_ (State.setSector_kept _ _ _ _)
  with_reducible exact Kept.refl _

theorem State.beginOp_kept (s : State) (b : Nat) (x : FlashOp) : Kept s (State.beginOp s b x) := by
  unfold State.beginOp
  with_reducible refine Kept.trans ?_ (State.markSector_kept _ _ _)
  with_reducible refine Kept.trans ?_ (State.setFlashOp_kept _ _ _)
  with_reducible exact Kept.refl _

theorem State.flashStart_kept (s : State) (b : Nat) (x : FlashOp) : Kept s (State.flashStart s b x) := by
  unfold State.flashStart
  with_reducible refine Kept.ite (fun _ => ?_) (fun _ => ?_)
  with_reducible refine Kept.trans ?_ (State.wrAt_kept _ _ _ _)
  with_reducible refine Kept.trans ?_ (State.wr_kept _ _ _)
  with_reducible refine Kept.trans ?_ (State.setFlashOp_kept _ _ _)
  with_reducible exact Kept.refl _
  with_reducible refine Kept.trans ?_ (State.beginOp_kept _ _ _)
  with_reducible exact Kept.refl _

theorem State.flashGo_kept (s : State) (b : Nat) : Kept s (State.flashGo s b) := by
  unfold State.flashGo
  split
  with_reducible exact Kept.refl _
  with_reducible refine Kept.ite (fun _ => ?_) (fun _ => ?_)
  with_reducible exact Kept.refl _
  with_reducible refine Kept.ite (fun _ => ?_) (fun _ => ?_)
  with_reducible refine Kept.trans ?_ (State.setFlashOp_kept _ _ _)
  with_reducible exact Kept.refl _
  with_reducible refine Kept.trans ?_ (State.beginOp_kept _ _ _)
  with_reducible exact Kept.refl _

theorem State.flashEnd_kept (s : State) (b : Nat) : Kept s (State.flashEnd s b) := by
  unfold State.flashEnd
  dsimp only
  with_reducible refine Kept.ite (fun _ => ?_) (fun _ => ?_)
  with_reducible refine Kept.trans ?_ (State.wr_kept _ _ _)
  with_reducible refine Kept.trans ?_ (State.wr_kept _ _ _)
  with_reducible refine Kept.trans ?_ (State.wrAt_kept _ _ _ _)
  with_reducible refine Kept.trans ?_ (State.showBank_kept _ _)
  with_reducible refine Kept.mk_same ?_ rfl rfl rfl rfl rfl
  with_reducible exact Kept.refl _
  with_reducible refine Kept.trans ?_ (State.showBank_kept _ _)
  with_reducible refine Kept.mk_same ?_ rfl rfl rfl rfl rfl
  with_reducible exact Kept.refl _

theorem State.flashComplete_kept (s : State) (id : Nat) (c : Completion) : Kept s (State.flashComplete s id c) := by
  unfold State.flashComplete
  split
  with_reducible exact Kept.refl _
  with_reducible refine Kept.trans ?_ (State.complete_kept _ _ _)
  with_reducible refine Kept.ite (fun _ => ?_) (fun _ => ?_)
  with_reducible refine Kept.trans ?_ (State.incSat_kept _ _)
  with_reducible exact Kept.refl _
  with_reducible exact Kept.refl _

theorem State.flashAnswer_kept (s : State) (x : FlashOp) (c : Completion) : Kept s (State.flashAnswer s x c) := by
  unfold State.flashAnswer
  with_reducible refine Kept.trans ?_ (Kept.foldl _ _ _ ?_)
  with_reducible exact Kept.refl _
  intro _ _
  with_reducible refine Kept.trans ?_ (State.flashComplete_kept _ _ _)
  with_reducible exact Kept.refl _

theorem execFlashErase_kept (id : Nat) (s : State) : Kept s (stateOf (execFlashErase id s) s) := by
  unfold execFlashErase
  refine Kept.next ?_
  with_reducible refine Kept.trans ?_ (State.startCmd_kept _ _ _ _ ?_)
  with_reducible exact Kept.refl _
  intro _ _
  split
  dsimp only
  with_reducible exact Kept.refl _
  dsimp only
  with_reducible refine Kept.trans ?_ (State.flashStart_kept _ _ _)
  with_reducible exact Kept.refl _

theorem State.sectorErased_kept (s : State) (b n : Nat) (verified : Bool) : Kept s (State.sectorErased s b n verified) := by
  unfold State.sectorErased
  dsimp only
  with_reducible refine Kept.ite (fun _ => ?_) (fun _ => ?_)
  with_reducible refine Kept.trans ?_ (State.post_kept _ _ _ _ _)
  with_reducible refine Kept.trans ?_ (State.addSatAt_kept _ _ _ _)
  with_reducible refine Kept.trans ?_ (State.wrAt_kept _ _ _ _)
  with_reducible refine Kept.trans ?_ (State.setSector_kept _ _ _ _)
  with_reducible refine Kept.mk_same ?_ rfl rfl rfl rfl rfl
  with_reducible exact Kept.refl _
  with_reducible refine Kept.trans ?_ (State.addSatAt_kept _ _ _ _)
  with_reducible refine Kept.trans ?_ (State.wrAt_kept _ _ _ _)
  with_reducible refine Kept.trans ?_ (State.setSector_kept _ _ _ _)
  with_reducible refine Kept.mk_same ?_ rfl rfl rfl rfl rfl
  with_reducible exact Kept.refl _

theorem execFlashEraseDone_kept (bank : Nat) (verified : Bool) (s : State) :
    Kept s (stateOf (execFlashEraseDone bank verified s) s) := by
  unfold execFlashEraseDone
  refine Kept.next ?_
  split
  with_reducible exact Kept.refl _
  with_reducible refine Kept.ite (fun _ => ?_) (fun _ => ?_)
  dsimp only
  with_reducible refine Kept.ite (fun _ => ?_) (fun _ => ?_)
  with_reducible refine Kept.trans ?_ (State.flashAnswer_kept _ _ _)
  with_reducible refine Kept.trans ?_ (State.flashEnd_kept _ _)
  with_reducible refine Kept.trans ?_ (State.sectorErased_kept _ _ _ _)
  with_reducible exact Kept.refl _
  with_reducible refine Kept.trans ?_ (State.flashAnswer_kept _ _ _)
  with_reducible refine Kept.trans ?_ (State.flashError_kept _ _ _ _ _)
  with_reducible refine Kept.trans ?_ (State.wr_kept _ _ _)
  with_reducible refine Kept.trans ?_ (State.flashEnd_kept _ _)
  with_reducible refine Kept.trans ?_ (State.sectorErased_kept _ _ _ _)
  with_reducible exact Kept.refl _
  with_reducible exact Kept.refl _

theorem execFlashProgram_kept (id : Nat) (s : State) : Kept s (stateOf (execFlashProgram id s) s) := by
  unfold execFlashProgram
  refine Kept.next ?_
  with_reducible refine Kept.trans ?_ (State.startCmd_kept _ _ _ _ ?_)
  with_reducible exact Kept.refl _
  intro _ _
  dsimp only
  split
  dsimp only
  with_reducible exact Kept.refl _
  split
  dsimp only
  with_reducible exact Kept.refl _
  split
  dsimp only
  with_reducible exact Kept.refl _
  split
  dsimp only
  with_reducible exact Kept.refl _
  dsimp only
  with_reducible refine Kept.trans ?_ (State.flashStart_kept _ _ _)
  with_reducible exact Kept.refl _

theorem State.programWord_kept (s : State) (b n w v : Nat) (fails : Bool) : Kept s (State.programWord s b n w v fails).2 := by
  unfold State.programWord
  dsimp only
  split
  dsimp only
  with_reducible refine Kept.ite (fun _ => ?_) (fun _ => ?_)
  with_reducible refine Kept.trans ?_ (State.took_kept _)
  with_reducible exact Kept.refl _
  with_reducible exact Kept.refl _
  split
  dsimp only
  with_reducible refine Kept.trans ?_ (State.wr_kept _ _ _)
  with_reducible refine Kept.trans ?_ (State.wrAt_kept _ _ _ _)
  with_reducible refine Kept.trans ?_ (State.setSector_kept _ _ _ _)
  with_reducible refine Kept.trans ?_ (State.putCode_kept _ _ _)
  with_reducible exact Kept.refl _
  dsimp only
  with_reducible refine Kept.ite (fun _ => ?_) (fun _ => ?_)
  with_reducible refine Kept.trans ?_ (State.setSector_kept _ _ _ _)
  with_reducible refine Kept.trans ?_ (State.putCode_kept _ _ _)
  with_reducible exact Kept.refl _
  with_reducible refine Kept.trans ?_ (State.putCode_kept _ _ _)
  with_reducible exact Kept.refl _

theorem State.programWords_kept (s : State) (b n w : Nat) (vs : List Nat) (failed : Option Nat) (count : Nat) :
    Kept s (State.programWords s b n w vs failed count).2.2 := by
  induction vs generalizing s w n failed count with
  | nil =>
    unfold State.programWords
    dsimp only
    with_reducible exact Kept.refl _
  | cons a r ih =>
    unfold State.programWords
    dsimp only
    split
    dsimp only
    with_reducible refine Kept.trans ?_ (State.programWord_kept _ _ _ _ _ _)
    with_reducible exact Kept.refl _
    with_reducible refine Kept.trans ?_ (ih ..)
    with_reducible refine Kept.trans ?_ (State.programWord_kept _ _ _ _ _ _)
    with_reducible exact Kept.refl _

theorem execFlashProgramDone_kept (bank : Nat) (failedWord : Option Nat) (s : State) :
    Kept s (stateOf (execFlashProgramDone bank failedWord s) s) := by
  unfold execFlashProgramDone
  refine Kept.next ?_
  dsimp only
  split
  with_reducible exact Kept.refl _
  with_reducible refine Kept.ite (fun _ => ?_) (fun _ => ?_)
  split
  with_reducible refine Kept.trans ?_ (State.flashAnswer_kept _ _ _)
  with_reducible refine Kept.trans ?_ (State.flashEnd_kept _ _)
  with_reducible refine Kept.trans ?_ (State.programWords_kept _ _ _ _ _ _ _)
  with_reducible refine Kept.trans ?_ (State.unmarkSector_kept _ _ _)
  with_reducible exact Kept.refl _
  with_reducible refine Kept.trans ?_ (State.flashAnswer_kept _ _ _)
  with_reducible refine Kept.ite (fun _ => ?_) (fun _ => ?_)
  with_reducible refine Kept.trans ?_ (State.post_kept _ _ _ _ _)
  with_reducible refine Kept.trans ?_ (State.flashError_kept _ _ _ _ _)
  with_reducible refine Kept.trans ?_ (State.flashEnd_kept _ _)
  with_reducible refine Kept.trans ?_ (State.programWords_kept _ _ _ _ _ _ _)
  with_reducible refine Kept.trans ?_ (State.unmarkSector_kept _ _ _)
  with_reducible exact Kept.refl _
  with_reducible refine Kept.trans ?_ (State.flashError_kept _ _ _ _ _)
  with_reducible refine Kept.trans ?_ (State.flashEnd_kept _ _)
  with_reducible refine Kept.trans ?_ (State.programWords_kept _ _ _ _ _ _ _)
  with_reducible refine Kept.trans ?_ (State.unmarkSector_kept _ _ _)
  with_reducible exact Kept.refl _
  with_reducible exact Kept.refl _

theorem execFlashSuspend_kept (id : Nat) (s : State) : Kept s (stateOf (execFlashSuspend id s) s) := by
  unfold execFlashSuspend
  refine Kept.next ?_
  with_reducible refine Kept.trans ?_ (State.runCmd_kept _ _ _ _ ?_)
  with_reducible exact Kept.refl _
  intro _ _
  dsimp only
  split
  dsimp only
  with_reducible exact Kept.refl _
  split
  dsimp only
  with_reducible exact Kept.refl _
  split
  dsimp only
  with_reducible exact Kept.refl _
  split
  dsimp only
  with_reducible refine Kept.trans ?_ (State.setSector_kept _ _ _ _)
  with_reducible refine Kept.trans ?_ (State.setFlashOp_kept _ _ _)
  with_reducible exact Kept.refl _
  dsimp only
  with_reducible exact Kept.refl _

theorem execFlashResume_kept (id : Nat) (s : State) : Kept s (stateOf (execFlashResume id s) s) := by
  unfold execFlashResume
  refine Kept.next ?_
  with_reducible refine Kept.trans ?_ (State.startCmd_kept _ _ _ _ ?_)
  with_reducible exact Kept.refl _
  intro _ _
  dsimp only
  split
  dsimp only
  with_reducible exact Kept.refl _
  split
  dsimp only
  with_reducible exact Kept.refl _
  split
  dsimp only
  with_reducible exact Kept.refl _
  split
  dsimp only
  with_reducible refine Kept.trans ?_ (State.flashStart_kept _ _ _)
  with_reducible exact Kept.refl _
  dsimp only
  with_reducible exact Kept.refl _

theorem execStewardOffBank_kept (s : State) : Kept s (stateOf (execStewardOffBank s) s) := by
  unfold execStewardOffBank
  refine Kept.next ?_
  with_reducible refine Kept.ite (fun _ => ?_) (fun _ => ?_)
  with_reducible refine Kept.trans ?_ (State.flashGo_kept _ _)
  with_reducible refine Kept.trans ?_ (State.stewardRewrites_kept _)
  with_reducible refine Kept.trans ?_ (State.wr_kept _ _ _)
  with_reducible exact Kept.refl _
  with_reducible exact Kept.refl _

theorem execFlashSectorInfo_kept (id : Nat) (s : State) : Kept s (stateOf (execFlashSectorInfo id s) s) := by
  unfold execFlashSectorInfo
  refine Kept.next ?_
  with_reducible refine Kept.trans ?_ (State.runCmd_kept _ _ _ _ ?_)
  with_reducible exact Kept.refl _
  intro _ _
  split
  dsimp only
  with_reducible exact Kept.refl _
  split
  dsimp only
  with_reducible exact Kept.refl _
  split
  dsimp only
  with_reducible exact Kept.refl _
  dsimp only
  with_reducible exact Kept.refl _

theorem execFlashCalRead_kept (id : Nat) (s : State) : Kept s (stateOf (execFlashCalRead id s) s) := by
  unfold execFlashCalRead
  refine Kept.next ?_
  with_reducible refine Kept.trans ?_ (State.runCmd_kept _ _ _ _ ?_)
  with_reducible exact Kept.refl _
  intro _ _
  split
  dsimp only
  with_reducible refine Kept.trans ?_ (State.hostWrite_kept _ _ _)
  with_reducible exact Kept.refl _
  dsimp only
  with_reducible exact Kept.refl _

theorem execRecordSectorEraseDone_kept (sector : Nat) (s : State) :
    Kept s (stateOf (execRecordSectorEraseDone sector s) s) := by
  unfold execRecordSectorEraseDone
  refine Kept.next ?_
  split
  with_reducible exact Kept.refl _
  with_reducible refine Kept.ite (fun _ => ?_) (fun _ => ?_)
  with_reducible refine Kept.trans ?_ (State.post_kept _ _ _ _ _)
  with_reducible refine Kept.trans ?_ (State.flashEnd_kept _ _)
  with_reducible refine Kept.trans ?_ (State.sectorErased_kept _ _ _ _)
  with_reducible exact Kept.refl _
  with_reducible exact Kept.refl _

theorem State.setGolden_kept (s : State) (k mask : Nat) : Kept s (State.setGolden s k mask) := by
  unfold State.setGolden
  with_reducible refine Kept.trans ?_ (Kept.foldl _ _ _ ?_)
  with_reducible exact Kept.refl _
  intro _ _
  with_reducible refine Kept.trans ?_ (State.wrMask_kept _ _ _ _)
  with_reducible exact Kept.refl _

theorem State.directoryAppend_kept (s : State) (k mask : Nat) : Kept s (State.directoryAppend s k mask) := by
  unfold State.directoryAppend
  split
  with_reducible exact Kept.refl _
  dsimp only
  with_reducible refine Kept.trans ?_ (State.setGolden_kept _ _ _)
  with_reducible refine Kept.trans ?_ (State.wrAt_kept _ _ _ _)
  with_reducible refine Kept.trans ?_ (State.putCode_kept _ _ _)
  with_reducible exact Kept.refl _

theorem State.goldenClear_kept (s : State) (k mask : Nat) : Kept s (State.goldenClear s k mask) := by
  unfold State.goldenClear
  dsimp only
  with_reducible refine Kept.ite (fun _ => ?_) (fun _ => ?_)
  with_reducible exact Kept.refl _
  with_reducible refine Kept.trans ?_ (State.directoryAppend_kept _ _ _)
  with_reducible exact Kept.refl _

end Sys2Proof.Machine
end

