-- ==== Sys2Proof/Laws/KeptStreamOps.lean ====
section
/-! SUPPORT. `Kept` for the functions of Machine/StreamOps.lean. -/

namespace Sys2Proof.Machine

open Sys2Proof

theorem State.readStaged_kept (s : State) (l : LoadRun) : Kept s (State.readStaged s l) := by
  unfold State.readStaged
  with_reducible refine Kept.ite (fun _ => ?_) (fun _ => ?_)
  with_reducible refine Kept.trans ?_ (State.senseCodes_kept _ _ _)
  with_reducible exact Kept.refl _
  with_reducible refine Kept.trans ?_ (State.senseWords_kept _ _ _)
  with_reducible exact Kept.refl _

theorem State.putSetting_kept (s : State) (p : Nat × Nat) : Kept s (State.putSetting s p) := by
  unfold State.putSetting
  with_reducible refine Kept.trans ?_ (Kept.foldl _ _ _ ?_)
  with_reducible exact Kept.refl _
  intro _ _
  with_reducible refine Kept.trans ?_ (State.wrAt_kept _ _ _ _)
  with_reducible exact Kept.refl _

theorem State.settled_kept (s : State) (m : StreamImage) : Kept s (State.settled s m) := by
  unfold State.settled
  dsimp only
  with_reducible refine Kept.trans ?_ (Kept.foldl _ _ _ ?_)
  with_reducible refine Kept.ite (fun _ => ?_) (fun _ => ?_)
  with_reducible refine Kept.trans ?_ (Kept.foldl _ _ _ ?_)
  with_reducible exact Kept.refl _
  intro _ _
  with_reducible refine Kept.trans ?_ (Kept.foldl _ _ _ ?_)
  with_reducible exact Kept.refl _
  intro _ _
  with_reducible refine Kept.trans ?_ (State.wrAt_kept _ _ _ _)
  with_reducible exact Kept.refl _
  with_reducible exact Kept.refl _
  intro _ _
  with_reducible refine Kept.trans ?_ (State.putSetting_kept _ _)
  with_reducible exact Kept.refl _

end Sys2Proof.Machine
end

