-- ==== Sys2Proof/Laws/KeptStreams.lean ====
section
/-! SUPPORT. `Kept` for the functions of Machine/Streams.lean. -/

namespace Sys2Proof.Machine

open Sys2Proof

theorem State.discardStaging_kept (s : State) (byDevice : Bool) : Kept s (State.discardStaging s byDevice) := by
  unfold State.discardStaging
  with_reducible refine Kept.ite (fun _ => ?_) (fun _ => ?_)
  with_reducible refine Kept.trans ?_ (State.post_kept _ _ _ _ _)
  with_reducible refine Kept.trans ?_ (State.wr_kept _ _ _)
  with_reducible refine Kept.trans ?_ (State.wr_kept _ _ _)
  with_reducible exact Kept.refl _
  with_reducible exact Kept.refl _

theorem State.stageWord_kept (s : State) (i : Nat) (bs : List Nat) : Kept s (State.stageWord s i bs) := by
  unfold State.stageWord
  dsimp only
  with_reducible refine Kept.trans ?_ (State.storePut_kept _ _ _)
  with_reducible exact Kept.refl _

theorem State.stageBytes_kept (fuel : Nat) (s : State) (i : Nat) (bs : List Nat) : Kept s (State.stageBytes fuel s i bs) := by
  induction fuel generalizing s i bs with
  | zero =>
    unfold State.stageBytes
    with_reducible exact Kept.refl _
  | succ k ih =>
    unfold State.stageBytes
    with_reducible refine Kept.ite (fun _ => ?_) (fun _ => ?_)
    with_reducible exact Kept.refl _
    with_reducible refine Kept.trans ?_ (ih ..)
    with_reducible refine Kept.trans ?_ (State.stageWord_kept _ _ _)
    with_reducible exact Kept.refl _

theorem execStreamStage_kept (id : Nat) (s : State) : Kept s (stateOf (execStreamStage id s) s) := by
  unfold execStreamStage
  refine Kept.next ?_
  with_reducible refine Kept.ite (fun _ => ?_) (fun _ => ?_)
  with_reducible exact Kept.refl _
  with_reducible refine Kept.trans ?_ (State.runCmd_kept _ _ _ _ ?_)
  with_reducible exact Kept.refl _
  intro _ _
  dsimp only
  split
  with_reducible exact Kept.refl _
  split
  with_reducible exact Kept.refl _
  split
  with_reducible exact Kept.refl _
  split
  with_reducible exact Kept.refl _
  dsimp only
  with_reducible refine Kept.trans ?_ (State.wr_kept _ _ _)
  with_reducible refine Kept.trans ?_ (State.wr_kept _ _ _)
  with_reducible refine Kept.trans ?_ (State.stageBytes_kept _ _ _ _)
  with_reducible exact Kept.refl _

theorem execStreamDiscard_kept (id : Nat) (s : State) : Kept s (stateOf (execStreamDiscard id s) s) := by
  unfold execStreamDiscard
  refine Kept.next ?_
  with_reducible refine Kept.trans ?_ (State.runCmd_kept _ _ _ _ ?_)
  with_reducible exact Kept.refl _
  intro _ _
  split
  dsimp only
  with_reducible exact Kept.refl _
  dsimp only
  with_reducible refine Kept.trans ?_ (State.discardStaging_kept _ _)
  with_reducible exact Kept.refl _

theorem execCfgDiscardWrite_kept (value : Nat) (s : State) : Kept s (stateOf (execCfgDiscardWrite value s) s) := by
  unfold execCfgDiscardWrite
  refine Kept.next ?_
  with_reducible refine Kept.ite (fun _ => ?_) (fun _ => ?_)
  with_reducible refine Kept.trans ?_ (State.discardStaging_kept _ _)
  with_reducible exact Kept.refl _
  with_reducible exact Kept.refl _

theorem State.installClaim_kept (s : State) (e : Nat) : Kept s (State.installClaim s e) := by
  unfold State.installClaim
  dsimp only
  split
  with_reducible refine Kept.trans ?_ (State.claimLand_kept _ _ _ _)
  with_reducible exact Kept.refl _
  with_reducible refine Kept.trans ?_ (State.laneSettle_kept _ _)
  with_reducible refine Kept.trans ?_ (State.wrAt_kept _ _ _ _)
  with_reducible exact Kept.refl _
  with_reducible refine Kept.trans ?_ (State.wrBit_kept _ _ _ _)
  with_reducible exact Kept.refl _
  with_reducible refine Kept.trans ?_ (State.wrBit_kept _ _ _ _)
  with_reducible exact Kept.refl _

theorem State.installClaims_kept (s : State) (table bufs : List Nat) : Kept s (State.installClaims s table bufs) := by
  unfold State.installClaims
  dsimp only
  with_reducible refine Kept.trans ?_ (Kept.foldl _ _ _ ?_)
  with_reducible refine Kept.trans ?_ (Kept.foldl _ _ _ ?_)
  with_reducible exact Kept.refl _
  intro _ _
  with_reducible refine Kept.trans ?_ (State.installClaim_kept _ _)
  with_reducible exact Kept.refl _
  intro _ _
  with_reducible refine Kept.trans ?_ (State.wrBit_kept _ _ _ _)
  with_reducible exact Kept.refl _

theorem State.designLand_kept (s : State) (e : Nat) : Kept s (State.designLand s e) := by
  unfold State.designLand
  with_reducible refine Kept.ite (fun _ => ?_) (fun _ => ?_)
  with_reducible refine Kept.trans ?_ (State.tookN_kept _ _)
  with_reducible refine Kept.trans ?_ (State.putFields_kept _ _ _ _)
  with_reducible exact Kept.refl _
  with_reducible exact Kept.refl _

theorem State.installDesign_kept (s : State) (table bufs : List Nat) : Kept s (State.installDesign s table bufs) := by
  unfold State.installDesign
  with_reducible refine Kept.trans ?_ (Kept.foldl _ _ _ ?_)
  with_reducible refine Kept.trans ?_ (State.installClaims_kept _ _ _)
  with_reducible exact Kept.refl _
  intro _ _
  with_reducible refine Kept.trans ?_ (State.designLand_kept _ _)
  with_reducible exact Kept.refl _

theorem State.releaseClaims_kept (s : State) : Kept s (State.releaseClaims s) := by
  unfold State.releaseClaims
  dsimp only
  with_reducible refine Kept.mk_same ?_ rfl rfl rfl rfl rfl
  with_reducible refine Kept.trans ?_ (Kept.foldl _ _ _ ?_)
  with_reducible refine Kept.trans ?_ (Kept.foldl _ _ _ ?_)
  with_reducible refine Kept.trans ?_ (Kept.foldl _ _ _ ?_)
  with_reducible exact Kept.refl _
  intro _ _
  with_reducible refine Kept.ite (fun _ => ?_) (fun _ => ?_)
  with_reducible exact Kept.refl _
  with_reducible refine Kept.trans ?_ (State.releaseLand_kept _ _)
  with_reducible exact Kept.refl _
  intro _ _
  with_reducible refine Kept.ite (fun _ => ?_) (fun _ => ?_)
  with_reducible refine Kept.trans ?_ (State.laneSettle_kept _ _)
  with_reducible refine Kept.trans ?_ (State.wrAt_kept _ _ _ _)
  with_reducible exact Kept.refl _
  with_reducible exact Kept.refl _
  intro _ _
  with_reducible refine Kept.trans ?_ (State.wrAt_kept _ _ _ _)
  with_reducible refine Kept.trans ?_ (State.wrAt_kept _ _ _ _)
  with_reducible refine Kept.trans ?_ (State.wrAt_kept _ _ _ _)
  with_reducible exact Kept.refl _

theorem State.goldenStop_kept (s : State) : Kept s (State.goldenStop s) := by
  unfold State.goldenStop
  dsimp only
  with_reducible refine Kept.trans ?_ (Kept.foldl _ _ _ ?_)
  with_reducible refine Kept.trans ?_ (State.wr_kept _ _ _)
  with_reducible refine Kept.mk_same ?_ rfl rfl rfl rfl rfl
  with_reducible exact Kept.refl _
  intro _ _
  split
  with_reducible refine Kept.ite (fun _ => ?_) (fun _ => ?_)
  with_reducible refine Kept.trans ?_ (State.flashEnd_kept _ _)
  with_reducible exact Kept.refl _
  with_reducible exact Kept.refl _
  with_reducible exact Kept.refl _

theorem State.goldenFail_kept (s : State) (status : Nat) : Kept s (State.goldenFail s status) := by
  unfold State.goldenFail
  split
  with_reducible exact Kept.refl _
  with_reducible refine Kept.trans ?_ (State.complete_kept _ _ _)
  with_reducible refine Kept.trans ?_ (State.post_kept _ _ _ _ _)
  with_reducible refine Kept.trans ?_ (State.wr_kept _ _ _)
  with_reducible refine Kept.trans ?_ (State.goldenStop_kept _)
  with_reducible exact Kept.refl _

theorem State.holdAll_kept (s : State) : Kept s (State.holdAll s) := by
  unfold State.holdAll
  with_reducible refine Kept.trans ?_ (Kept.foldl _ _ _ ?_)
  with_reducible exact Kept.refl _
  intro _ _
  with_reducible refine Kept.trans ?_ (State.resetHard_kept _ _)
  with_reducible refine Kept.trans ?_ (State.wrAt_kept _ _ _ _)
  with_reducible refine Kept.trans ?_ (State.wrAt_kept _ _ _ _)
  with_reducible refine Kept.trans ?_ (State.wrAt_kept _ _ _ _)
  with_reducible refine Kept.trans ?_ (State.wrAt_kept _ _ _ _)
  with_reducible exact Kept.refl _

theorem State.dropDesign_kept (s : State) : Kept s (State.dropDesign s) := by
  unfold State.dropDesign
  dsimp only
  with_reducible refine Kept.mk_same ?_ rfl rfl rfl rfl rfl
  with_reducible refine Kept.trans ?_ (State.releaseClaims_kept _)
  with_reducible refine Kept.trans ?_ (Kept.foldl _ _ _ ?_)
  with_reducible refine Kept.ite (fun _ => ?_) (fun _ => ?_)
  with_reducible refine Kept.trans ?_ (State.captureCancel_kept _)
  with_reducible refine Kept.trans ?_ (Kept.foldl _ _ _ ?_)
  with_reducible refine Kept.trans ?_ (State.emptyPorts_kept _)
  with_reducible refine Kept.trans ?_ (State.dropAdmission_kept _)
  with_reducible refine Kept.trans ?_ (Kept.foldl _ _ _ ?_)
  with_reducible exact Kept.refl _
  intro _ _
  with_reducible refine Kept.trans ?_ (State.deviceDisable_kept _ _ _)
  with_reducible exact Kept.refl _
  intro _ _
  with_reducible refine Kept.trans ?_ (State.refuseRequests_kept _ _ _)
  with_reducible exact Kept.refl _
  with_reducible refine Kept.trans ?_ (Kept.foldl _ _ _ ?_)
  with_reducible refine Kept.trans ?_ (State.emptyPorts_kept _)
  with_reducible refine Kept.trans ?_ (State.dropAdmission_kept _)
  with_reducible refine Kept.trans ?_ (Kept.foldl _ _ _ ?_)
  with_reducible exact Kept.refl _
  intro _ _
  with_reducible refine Kept.trans ?_ (State.deviceDisable_kept _ _ _)
  with_reducible exact Kept.refl _
  intro _ _
  with_reducible refine Kept.trans ?_ (State.refuseRequests_kept _ _ _)
  with_reducible exact Kept.refl _
  intro _ _
  with_reducible refine Kept.ite (fun _ => ?_) (fun _ => ?_)
  with_reducible exact Kept.refl _
  with_reducible refine Kept.trans ?_ (State.setBond_kept _ _ _ _)
  with_reducible exact Kept.refl _

theorem State.enterLoad_kept (s : State) : Kept s (State.enterLoad s) := by
  unfold State.enterLoad
  with_reducible refine Kept.trans ?_ (State.setMode_kept _ _)
  with_reducible refine Kept.trans ?_ (State.holdAll_kept _)
  with_reducible refine Kept.trans ?_ (State.dropDesign_kept _)
  with_reducible refine Kept.trans ?_ (State.goldenFail_kept _ _)
  with_reducible exact Kept.refl _

theorem State.lockFirst_kept (s : State) (r : Nat) : Kept s (State.lockFirst s r) := by
  unfold State.lockFirst
  dsimp only
  with_reducible refine Kept.trans ?_ (Kept.foldl _ _ _ ?_)
  with_reducible refine Kept.ite (fun _ => ?_) (fun _ => ?_)
  with_reducible exact Kept.refl _
  with_reducible refine Kept.trans ?_ (State.setRequests_kept _ _ _)
  with_reducible exact Kept.refl _
  intro _ _
  with_reducible refine Kept.trans ?_ (State.refuseRequest_kept _ _ _ _)
  with_reducible exact Kept.refl _

theorem State.loadBegin_kept (s : State) (l : LoadRun) : Kept s (State.loadBegin s l) := by
  unfold State.loadBegin
  dsimp only
  with_reducible refine Kept.ite (fun _ => ?_) (fun _ => ?_)
  with_reducible refine Kept.trans ?_ (State.wrAt_kept _ _ _ _)
  with_reducible refine Kept.trans ?_ (Kept.foldl _ _ _ ?_)
  with_reducible refine Kept.trans ?_ (State.wr_kept _ _ _)
  with_reducible refine Kept.trans ?_ (State.wr_kept _ _ _)
  with_reducible refine Kept.trans ?_ (State.wr_kept _ _ _)
  with_reducible refine Kept.trans ?_ (State.wr_kept _ _ _)
  with_reducible refine Kept.mk_same ?_ rfl rfl rfl rfl rfl
  with_reducible refine Kept.ite (fun _ => ?_) (fun _ => ?_)
  with_reducible refine Kept.trans ?_ (State.post_kept _ _ _ _ _)
  with_reducible exact Kept.refl _
  with_reducible refine Kept.trans ?_ (State.enterLoad_kept _)
  with_reducible refine Kept.trans ?_ (State.post_kept _ _ _ _ _)
  with_reducible exact Kept.refl _
  intro _ _
  with_reducible refine Kept.trans ?_ (State.lockFirst_kept _ _)
  with_reducible exact Kept.refl _
  with_reducible refine Kept.trans ?_ (Kept.foldl _ _ _ ?_)
  with_reducible refine Kept.trans ?_ (State.wr_kept _ _ _)
  with_reducible refine Kept.trans ?_ (State.wr_kept _ _ _)
  with_reducible refine Kept.trans ?_ (State.wr_kept _ _ _)
  with_reducible refine Kept.trans ?_ (State.wr_kept _ _ _)
  with_reducible refine Kept.mk_same ?_ rfl rfl rfl rfl rfl
  with_reducible refine Kept.ite (fun _ => ?_) (fun _ => ?_)
  with_reducible refine Kept.trans ?_ (State.post_kept _ _ _ _ _)
  with_reducible exact Kept.refl _
  with_reducible refine Kept.trans ?_ (State.enterLoad_kept _)
  with_reducible refine Kept.trans ?_ (State.post_kept _ _ _ _ _)
  with_reducible exact Kept.refl _
  intro _ _
  with_reducible refine Kept.trans ?_ (State.lockFirst_kept _ _)
  with_reducible exact Kept.refl _

theorem execStreamLoad_kept (id : Nat) (s : State) : Kept s (stateOf (execStreamLoad id s) s) := by
  unfold execStreamLoad
  refine Kept.next ?_
  with_reducible refine Kept.trans ?_ (State.startCmd_kept _ _ _ _ ?_)
  with_reducible exact Kept.refl _
  intro _ _
  dsimp only
  split
  with_reducible exact Kept.refl _
  split
  with_reducible exact Kept.refl _
  dsimp only
  with_reducible refine Kept.trans ?_ (State.loadBegin_kept _ _)
  with_reducible exact Kept.refl _

theorem State.loadEnd_kept (s : State) (l : LoadRun) : Kept s (State.loadEnd s l) := by
  unfold State.loadEnd
  dsimp only
  with_reducible refine Kept.ite (fun _ => ?_) (fun _ => ?_)
  with_reducible refine Kept.trans ?_ (State.wrAt_kept _ _ _ _)
  with_reducible refine Kept.trans ?_ (State.wr_kept _ _ _)
  with_reducible refine Kept.trans ?_ (State.wr_kept _ _ _)
  with_reducible refine Kept.trans ?_ (State.wr_kept _ _ _)
  with_reducible refine Kept.trans ?_ (State.wr_kept _ _ _)
  with_reducible refine Kept.mk_same ?_ rfl rfl rfl rfl rfl
  with_reducible exact Kept.refl _
  with_reducible refine Kept.trans ?_ (State.wr_kept _ _ _)
  with_reducible refine Kept.trans ?_ (State.wr_kept _ _ _)
  with_reducible refine Kept.trans ?_ (State.wr_kept _ _ _)
  with_reducible refine Kept.trans ?_ (State.wr_kept _ _ _)
  with_reducible refine Kept.mk_same ?_ rfl rfl rfl rfl rfl
  with_reducible exact Kept.refl _

theorem State.invalidatePairs_kept (s : State) (pairs : Nat) : Kept s (State.invalidatePairs s pairs) := by
  unfold State.invalidatePairs
  dsimp only
  with_reducible refine Kept.trans ?_ (State.post_kept _ _ _ _ _)
  with_reducible refine Kept.trans ?_ (Kept.foldl _ _ _ ?_)
  with_reducible exact Kept.refl _
  intro _ _
  with_reducible refine Kept.ite (fun _ => ?_) (fun _ => ?_)
  with_reducible refine Kept.trans ?_ (State.wrMask_kept _ _ _ _)
  with_reducible exact Kept.refl _
  with_reducible exact Kept.refl _

theorem State.failLoad_kept (s : State) (l : LoadRun) (x : StreamFailure) (inCommit : Bool) :
    Kept s (State.failLoad s l x inCommit) := by
  unfold State.failLoad
  dsimp only
  with_reducible refine Kept.trans ?_ (State.complete_kept _ _ _)
  with_reducible refine Kept.ite (fun _ => ?_) (fun _ => ?_)
  with_reducible refine Kept.trans ?_ (State.discardStaging_kept _ _)
  with_reducible refine Kept.trans ?_ (State.post_kept _ _ _ _ _)
  with_reducible refine Kept.trans ?_ (State.incSat_kept _ _)
  with_reducible refine Kept.trans ?_ (State.wr_kept _ _ _)
  with_reducible refine Kept.trans ?_ (State.wr_kept _ _ _)
  with_reducible refine Kept.trans ?_ (State.wr_kept _ _ _)
  with_reducible refine Kept.trans ?_ (State.wr_kept _ _ _)
  with_reducible refine Kept.trans ?_ (State.wr_kept _ _ _)
  with_reducible refine Kept.ite (fun _ => ?_) (fun _ => ?_)
  with_reducible refine Kept.trans ?_ (State.invalidatePairs_kept _ _)
  with_reducible refine Kept.trans ?_ (State.loadEnd_kept _ _)
  with_reducible exact Kept.refl _
  with_reducible refine Kept.trans ?_ (State.loadEnd_kept _ _)
  with_reducible exact Kept.refl _
  with_reducible refine Kept.ite (fun _ => ?_) (fun _ => ?_)
  with_reducible refine Kept.trans ?_ (State.post_kept _ _ _ _ _)
  with_reducible refine Kept.trans ?_ (State.incSat_kept _ _)
  with_reducible refine Kept.trans ?_ (State.wr_kept _ _ _)
  with_reducible refine Kept.trans ?_ (State.wr_kept _ _ _)
  with_reducible refine Kept.trans ?_ (State.wr_kept _ _ _)
  with_reducible refine Kept.trans ?_ (State.wr_kept _ _ _)
  with_reducible refine Kept.trans ?_ (State.wr_kept _ _ _)
  with_reducible refine Kept.ite (fun _ => ?_) (fun _ => ?_)
  with_reducible refine Kept.trans ?_ (State.invalidatePairs_kept _ _)
  with_reducible refine Kept.trans ?_ (State.loadEnd_kept _ _)
  with_reducible exact Kept.refl _
  with_reducible refine Kept.trans ?_ (State.loadEnd_kept _ _)
  with_reducible exact Kept.refl _
  with_reducible refine Kept.trans ?_ (State.setMode_kept _ _)
  with_reducible refine Kept.trans ?_ (State.post_kept _ _ _ _ _)
  with_reducible refine Kept.trans ?_ (State.incSat_kept _ _)
  with_reducible refine Kept.trans ?_ (State.wr_kept _ _ _)
  with_reducible refine Kept.trans ?_ (State.wr_kept _ _ _)
  with_reducible refine Kept.trans ?_ (State.wr_kept _ _ _)
  with_reducible refine Kept.trans ?_ (State.wr_kept _ _ _)
  with_reducible refine Kept.trans ?_ (State.wr_kept _ _ _)
  with_reducible refine Kept.ite (fun _ => ?_) (fun _ => ?_)
  with_reducible refine Kept.trans ?_ (State.invalidatePairs_kept _ _)
  with_reducible refine Kept.trans ?_ (State.loadEnd_kept _ _)
  with_reducible exact Kept.refl _
  with_reducible refine Kept.trans ?_ (State.loadEnd_kept _ _)
  with_reducible exact Kept.refl _

theorem execLoadChecksDone_kept (found : Found) (s0 : State) : Kept s0 (stateOf (execLoadChecksDone found s0) s0) := by
  unfold execLoadChecksDone
  refine Kept.next ?_
  dsimp only
  split
  with_reducible exact Kept.refl _
  with_reducible refine Kept.ite (fun _ => ?_) (fun _ => ?_)
  with_reducible exact Kept.refl _
  split
  with_reducible refine Kept.trans ?_ (State.failLoad_kept _ _ _ _)
  with_reducible refine Kept.trans ?_ (State.readStaged_kept _ _)
  with_reducible exact Kept.refl _
  split
  with_reducible refine Kept.trans ?_ (State.failLoad_kept _ _ _ _)
  with_reducible refine Kept.trans ?_ (State.readStaged_kept _ _)
  with_reducible exact Kept.refl _
  split
  with_reducible refine Kept.trans ?_ (State.failLoad_kept _ _ _ _)
  with_reducible refine Kept.trans ?_ (State.readStaged_kept _ _)
  with_reducible exact Kept.refl _
  with_reducible refine Kept.trans ?_ (State.wr_kept _ _ _)
  with_reducible refine Kept.mk_same ?_ rfl rfl rfl rfl rfl
  with_reducible refine Kept.trans ?_ (State.readStaged_kept _ _)
  with_reducible exact Kept.refl _

theorem State.placeFrames_kept (s : State) (fs : SMap PlaneFrame) : Kept s (State.placeFrames s fs) := by
  unfold State.placeFrames
  with_reducible refine Kept.trans ?_ (Kept.foldl _ _ _ ?_)
  with_reducible exact Kept.refl _
  intro _ _
  with_reducible refine Kept.ite (fun _ => ?_) (fun _ => ?_)
  with_reducible exact Kept.refl _
  dsimp only
  with_reducible refine Kept.trans ?_ (State.writeMirror_kept _ _ _ _)
  with_reducible refine Kept.trans ?_ (State.writePlane_kept _ _ _ _)
  with_reducible exact Kept.refl _

theorem State.placeRows_kept (s : State) (r m row : Nat) (vs : List Nat) : Kept s (State.placeRows s r m row vs) := by
  induction vs generalizing s row with
  | nil =>
    unfold State.placeRows
    with_reducible exact Kept.refl _
  | cons a r ih =>
    unfold State.placeRows
    with_reducible refine Kept.trans ?_ (ih ..)
    with_reducible refine Kept.trans ?_ (State.setTileRow_kept _ _ _ _ _)
    with_reducible exact Kept.refl _

theorem State.placeMemory_kept (s : State) (ms : List MemLoad) : Kept s (State.placeMemory s ms) := by
  unfold State.placeMemory
  with_reducible refine Kept.trans ?_ (Kept.foldl _ _ _ ?_)
  with_reducible exact Kept.refl _
  intro _ _
  with_reducible refine Kept.trans ?_ (State.placeRows_kept _ _ _ _ _)
  with_reducible exact Kept.refl _

theorem State.clearPlanes_kept (s : State) : Kept s (State.clearPlanes s) :=
  (Kept.filterStore _ (Kept.refl s)).trans ⟨rfl, le_rfl, id⟩

theorem State.recordPeaks_kept (s : State) (m : StreamImage) : Kept s (State.recordPeaks s m) := by
  unfold State.recordPeaks
  with_reducible refine Kept.trans ?_ (Kept.foldl _ _ _ ?_)
  with_reducible refine Kept.trans ?_ (State.wr_kept _ _ _)
  with_reducible exact Kept.refl _
  intro _ _
  with_reducible refine Kept.trans ?_ (State.wrAt_kept _ _ _ _)
  with_reducible exact Kept.refl _

theorem State.placeBefore_kept (s : State) (l : LoadRun) (m : StreamImage) (a : Nat) : Kept s (State.placeBefore s l m a) := by
  unfold State.placeBefore
  dsimp only
  with_reducible refine Kept.ite (fun _ => ?_) (fun _ => ?_)
  with_reducible refine Kept.trans ?_ (State.placeMemory_kept _ _)
  with_reducible refine Kept.trans ?_ (State.placeFrames_kept _ _)
  with_reducible exact Kept.refl _
  with_reducible refine Kept.trans ?_ (State.placeFrames_kept _ _)
  with_reducible exact Kept.refl _

theorem State.goldenWritten_kept (s : State) (pairs : Nat) : Kept s (State.goldenWritten s pairs) := by
  unfold State.goldenWritten
  with_reducible refine Kept.trans ?_ (Kept.foldl _ _ _ ?_)
  with_reducible exact Kept.refl _
  intro _ _
  with_reducible refine Kept.trans ?_ (State.goldenClear_kept _ _ _)
  with_reducible exact Kept.refl _

theorem State.loadDone_kept (s : State) (l : LoadRun) (m : StreamImage) : Kept s (State.loadDone s l m) := by
  unfold State.loadDone
  dsimp only
  with_reducible refine Kept.trans ?_ (State.complete_kept _ _ _)
  with_reducible refine Kept.trans ?_ (State.discardStaging_kept _ _)
  with_reducible refine Kept.trans ?_ (State.post_kept _ _ _ _ _)
  with_reducible refine Kept.trans ?_ (State.wr_kept _ _ _)
  with_reducible refine Kept.trans ?_ (State.incSat_kept _ _)
  with_reducible refine Kept.trans ?_ (State.loadEnd_kept _ _)
  with_reducible exact Kept.refl _

theorem State.commitTie_kept (s : State) (l : LoadRun) : Kept s (State.commitTie s l) := by
  unfold State.commitTie
  split
  with_reducible refine Kept.ite (fun _ => ?_) (fun _ => ?_)
  with_reducible refine Kept.trans ?_ (State.incSat_kept _ _)
  with_reducible exact Kept.refl _
  with_reducible exact Kept.refl _
  with_reducible exact Kept.refl _

theorem State.startRegion_kept (k park : Nat) (s : State) (r : Nat) : Kept s (State.startRegion k park s r) := by
  unfold State.startRegion
  dsimp only
  with_reducible refine Kept.ite (fun _ => ?_) (fun _ => ?_)
  with_reducible refine Kept.trans ?_ (State.wrAt_kept _ _ _ _)
  with_reducible refine Kept.trans ?_ (State.wrMask_kept _ _ _ _)
  with_reducible refine Kept.trans ?_ (State.setActive_kept _ _ _)
  with_reducible exact Kept.refl _
  with_reducible refine Kept.trans ?_ (State.releaseStart_kept _ _)
  with_reducible refine Kept.mk_same ?_ rfl rfl rfl rfl rfl
  with_reducible refine Kept.trans ?_ (State.wrMask_kept _ _ _ _)
  with_reducible refine Kept.trans ?_ (State.setActive_kept _ _ _)
  with_reducible exact Kept.refl _

theorem State.startDesign_kept (s : State) (mask park k : Nat) : Kept s (State.startDesign s mask park k) := by
  unfold State.startDesign
  with_reducible refine Kept.trans ?_ (Kept.foldl _ _ _ ?_)
  with_reducible exact Kept.refl _
  intro _ _
  with_reducible refine Kept.ite (fun _ => ?_) (fun _ => ?_)
  with_reducible refine Kept.trans ?_ (State.startRegion_kept _ _ _ _)
  with_reducible exact Kept.refl _
  with_reducible refine Kept.trans ?_ (State.wrAt_kept _ _ _ _)
  with_reducible refine Kept.trans ?_ (State.wrMask_kept _ _ _ _)
  with_reducible exact Kept.refl _

theorem State.startPlls_kept (s : State) : Kept s (State.startPlls s) := by
  unfold State.startPlls
  with_reducible refine Kept.trans ?_ (Kept.foldl _ _ _ ?_)
  with_reducible exact Kept.refl _
  intro _ _
  with_reducible refine Kept.trans ?_ (State.pllStart_kept _ _)
  with_reducible exact Kept.refl _

theorem State.recordDesign_kept (s : State) (m : StreamImage) : Kept s (State.recordDesign s m) := by
  unfold State.recordDesign
  with_reducible refine Kept.mk_same ?_ rfl rfl rfl rfl rfl
  with_reducible exact Kept.refl _

theorem State.fullCommit_kept (s : State) (l : LoadRun) (m : StreamImage) : Kept s (State.fullCommit s l m) := by
  unfold State.fullCommit
  dsimp only
  with_reducible refine Kept.trans ?_ (State.loadDone_kept _ _ _)
  with_reducible refine Kept.trans ?_ (State.handBack_kept _)
  with_reducible refine Kept.trans ?_ (State.lanesSettle_kept _)
  with_reducible refine Kept.trans ?_ (State.setMode_kept _ _)
  with_reducible refine Kept.trans ?_ (State.startDesign_kept _ _ _ _)
  with_reducible refine Kept.trans ?_ (State.startPlls_kept _)
  with_reducible refine Kept.trans ?_ (State.wr_kept _ _ _)
  with_reducible refine Kept.trans ?_ (State.wr_kept _ _ _)
  with_reducible refine Kept.trans ?_ (State.wr_kept _ _ _)
  with_reducible refine Kept.trans ?_ (State.recordDesign_kept _ _)
  with_reducible refine Kept.trans ?_ (State.recordPeaks_kept _ _)
  with_reducible refine Kept.trans ?_ (State.installDesign_kept _ _ _)
  with_reducible refine Kept.trans ?_ (State.goldenWritten_kept _ _)
  with_reducible refine Kept.trans ?_ (State.placeMemory_kept _ _)
  with_reducible refine Kept.trans ?_ (State.placeFrames_kept _ _)
  with_reducible refine Kept.trans ?_ (State.settled_kept _ _)
  with_reducible refine Kept.trans ?_ (State.wr_kept _ _ _)
  with_reducible refine Kept.trans ?_ (State.clearPlanes_kept _)
  with_reducible exact Kept.refl _

theorem execFullLoadCommit_kept (found : Found) (s1 : State) : Kept s1 (stateOf (execFullLoadCommit found s1) s1) := by
  unfold execFullLoadCommit
  refine Kept.next ?_
  dsimp only
  split
  with_reducible exact Kept.refl _
  split
  with_reducible exact Kept.refl _
  with_reducible refine Kept.ite (fun _ => ?_) (fun _ => ?_)
  with_reducible exact Kept.refl _
  with_reducible refine Kept.ite (fun _ => ?_) (fun _ => ?_)
  with_reducible refine Kept.trans ?_ (State.failLoad_kept _ _ _ _)
  with_reducible refine Kept.trans ?_ (State.commitTie_kept _ _)
  with_reducible refine Kept.trans ?_ (State.readStaged_kept _ _)
  with_reducible exact Kept.refl _
  split
  with_reducible refine Kept.trans ?_ (State.failLoad_kept _ _ _ _)
  with_reducible refine Kept.trans ?_ (State.placeBefore_kept _ _ _ _)
  with_reducible refine Kept.trans ?_ (State.settled_kept _ _)
  with_reducible refine Kept.trans ?_ (State.wr_kept _ _ _)
  with_reducible refine Kept.trans ?_ (State.clearPlanes_kept _)
  with_reducible refine Kept.trans ?_ (State.commitTie_kept _ _)
  with_reducible refine Kept.trans ?_ (State.readStaged_kept _ _)
  with_reducible exact Kept.refl _
  with_reducible refine Kept.trans ?_ (State.fullCommit_kept _ _ _)
  with_reducible refine Kept.trans ?_ (State.commitTie_kept _ _)
  with_reducible refine Kept.trans ?_ (State.readStaged_kept _ _)
  with_reducible exact Kept.refl _

theorem State.loadParks_kept (s : State) (m : StreamImage) : Kept s (State.loadParks s m) := by
  unfold State.loadParks
  with_reducible refine Kept.trans ?_ (Kept.foldl _ _ _ ?_)
  with_reducible exact Kept.refl _
  intro _ _
  with_reducible refine Kept.ite (fun _ => ?_) (fun _ => ?_)
  with_reducible exact Kept.refl _
  with_reducible refine Kept.trans ?_ (State.parkRegion_kept _ _ _)
  with_reducible exact Kept.refl _

theorem State.loadRequests_kept (s : State) (m : StreamImage) : Kept s (State.loadRequests s m) := by
  unfold State.loadRequests
  dsimp only
  split
  with_reducible refine Kept.trans ?_ (State.requestAll_kept _ _ _)
  with_reducible refine Kept.trans ?_ (State.requestAll_kept _ _ _)
  with_reducible exact Kept.refl _
  with_reducible refine Kept.trans ?_ (State.requestAll_kept _ _ _)
  with_reducible exact Kept.refl _

theorem State.backgroundCommit_kept (s : State) (l : LoadRun) (m : StreamImage) : Kept s (State.backgroundCommit s l m) := by
  unfold State.backgroundCommit
  dsimp only
  with_reducible refine Kept.trans ?_ (State.loadDone_kept _ _ _)
  with_reducible refine Kept.trans ?_ (State.loadRequests_kept _ _)
  with_reducible refine Kept.trans ?_ (State.wr_kept _ _ _)
  with_reducible refine Kept.trans ?_ (State.wr_kept _ _ _)
  with_reducible refine Kept.trans ?_ (State.recordPeaks_kept _ _)
  with_reducible refine Kept.trans ?_ (State.goldenWritten_kept _ _)
  with_reducible refine Kept.trans ?_ (State.placeMemory_kept _ _)
  with_reducible refine Kept.trans ?_ (State.placeFrames_kept _ _)
  with_reducible exact Kept.refl _

theorem execBackgroundLoadCommit_kept (found : Found) (s2 : State) :
    Kept s2 (stateOf (execBackgroundLoadCommit found s2) s2) := by
  unfold execBackgroundLoadCommit
  refine Kept.next ?_
  dsimp only
  split
  with_reducible exact Kept.refl _
  split
  with_reducible exact Kept.refl _
  with_reducible refine Kept.ite (fun _ => ?_) (fun _ => ?_)
  with_reducible exact Kept.refl _
  with_reducible refine Kept.ite (fun _ => ?_) (fun _ => ?_)
  with_reducible refine Kept.trans ?_ (State.failLoad_kept _ _ _ _)
  with_reducible refine Kept.trans ?_ (State.commitTie_kept _ _)
  with_reducible refine Kept.trans ?_ (State.readStaged_kept _ _)
  with_reducible exact Kept.refl _
  split
  with_reducible refine Kept.trans ?_ (State.failLoad_kept _ _ _ _)
  with_reducible refine Kept.trans ?_ (State.placeBefore_kept _ _ _ _)
  with_reducible refine Kept.trans ?_ (State.loadParks_kept _ _)
  with_reducible refine Kept.trans ?_ (State.commitTie_kept _ _)
  with_reducible refine Kept.trans ?_ (State.readStaged_kept _ _)
  with_reducible exact Kept.refl _
  with_reducible refine Kept.trans ?_ (State.backgroundCommit_kept _ _ _)
  with_reducible refine Kept.trans ?_ (State.loadParks_kept _ _)
  with_reducible refine Kept.trans ?_ (State.commitTie_kept _ _)
  with_reducible refine Kept.trans ?_ (State.readStaged_kept _ _)
  with_reducible exact Kept.refl _

end Sys2Proof.Machine
end

