-- ==== Sys2Proof/Laws/KeptShared.lean ====
section
/-! SUPPORT. `Kept` for the functions of Machine/Shared.lean. -/

namespace Sys2Proof.Machine

open Sys2Proof

theorem execResClaim_kept (id : Nat) (s : State) : Kept s (stateOf (execResClaim id s) s) := by
  unfold execResClaim
  refine Kept.next ?_
  with_reducible refine Kept.trans ?_ (State.runCmd_kept _ _ _ _ ?_)
  with_reducible exact Kept.refl _
  intro _ _
  dsimp only
  split
  with_reducible exact Kept.refl _
  split
  with_reducible exact Kept.refl _
  split
  with_reducible exact Kept.refl _
  split
  with_reducible exact Kept.refl _
  split
  with_reducible exact Kept.refl _
  split
  with_reducible exact Kept.refl _
  dsimp only
  with_reducible refine Kept.trans ?_ (State.postClaim_kept _ _ _ _)
  with_reducible refine Kept.trans ?_ (State.claimLand_kept _ _ _ _)
  with_reducible exact Kept.refl _

theorem execResRelease_kept (id : Nat) (s : State) : Kept s (stateOf (execResRelease id s) s) := by
  unfold execResRelease
  refine Kept.next ?_
  with_reducible refine Kept.trans ?_ (State.runCmd_kept _ _ _ _ ?_)
  with_reducible exact Kept.refl _
  intro _ _
  dsimp only
  split
  with_reducible exact Kept.refl _
  split
  with_reducible exact Kept.refl _
  split
  dsimp only
  with_reducible refine Kept.trans ?_ (State.postClaim_kept _ _ _ _)
  with_reducible refine Kept.trans ?_ (State.releaseLand_kept _ _)
  with_reducible exact Kept.refl _
  with_reducible exact Kept.refl _

theorem execPulseEnable_kept (output value : Nat) (s : State) : Kept s (stateOf (execPulseEnable output value s) s) := by
  unfold execPulseEnable
  refine Kept.next ?_
  with_reducible refine Kept.ite (fun _ => ?_) (fun _ => ?_)
  with_reducible exact Kept.refl _
  dsimp only
  with_reducible refine Kept.ite (fun _ => ?_) (fun _ => ?_)
  with_reducible refine Kept.trans ?_ (State.wrAt_kept _ _ _ _)
  with_reducible refine Kept.trans ?_ (State.pulseFields_kept _ _ _)
  with_reducible exact Kept.refl _
  with_reducible refine Kept.ite (fun _ => ?_) (fun _ => ?_)
  with_reducible refine Kept.trans ?_ (State.resRefuse_kept _ _ _ _ _ _)
  with_reducible refine Kept.trans ?_ (State.wrAt_kept _ _ _ _)
  with_reducible refine Kept.trans ?_ (State.pulseFields_kept _ _ _)
  with_reducible exact Kept.refl _
  with_reducible refine Kept.ite (fun _ => ?_) (fun _ => ?_)
  with_reducible refine Kept.trans ?_ (State.wrAt_kept _ _ _ _)
  with_reducible refine Kept.trans ?_ (State.postClaim_kept _ _ _ _)
  with_reducible refine Kept.trans ?_ (State.claimLand_kept _ _ _ _)
  with_reducible refine Kept.trans ?_ (State.pulseFields_kept _ _ _)
  with_reducible exact Kept.refl _
  with_reducible refine Kept.ite (fun _ => ?_) (fun _ => ?_)
  with_reducible refine Kept.trans ?_ (State.wrAt_kept _ _ _ _)
  with_reducible refine Kept.trans ?_ (State.pulseFields_kept _ _ _)
  with_reducible exact Kept.refl _
  with_reducible refine Kept.trans ?_ (State.resRefuse_kept _ _ _ _ _ _)
  with_reducible refine Kept.trans ?_ (State.wrAt_kept _ _ _ _)
  with_reducible refine Kept.trans ?_ (State.pulseFields_kept _ _ _)
  with_reducible exact Kept.refl _

end Sys2Proof.Machine
end

