-- ==== Sys2Proof/Laws/KeptResetOps.lean ====
section
/-! SUPPORT. `Kept` for the functions of Machine/ResetOps.lean. -/

namespace Sys2Proof.Machine

open Sys2Proof

theorem State.flashCut_kept (s : State) (b : Nat) : Kept s (State.flashCut s b) := by
  unfold State.flashCut
  dsimp only
  split
  with_reducible exact Kept.refl _
  with_reducible refine Kept.ite (fun _ => ?_) (fun _ => ?_)
  with_reducible refine Kept.mk_same ?_ rfl rfl rfl rfl rfl
  with_reducible exact Kept.refl _
  split
  with_reducible refine Kept.trans ?_ (State.programWords_kept _ _ _ _ _ _ _)
  with_reducible refine Kept.trans ?_ (State.took_kept _)
  with_reducible refine Kept.trans ?_ (State.unmarkSector_kept _ _ _)
  with_reducible refine Kept.mk_same ?_ rfl rfl rfl rfl rfl
  with_reducible exact Kept.refl _
  with_reducible refine Kept.trans ?_ (State.programWord_kept _ _ _ _ _ _)
  with_reducible refine Kept.trans ?_ (State.programWords_kept _ _ _ _ _ _ _)
  with_reducible refine Kept.trans ?_ (State.took_kept _)
  with_reducible refine Kept.trans ?_ (State.unmarkSector_kept _ _ _)
  with_reducible refine Kept.mk_same ?_ rfl rfl rfl rfl rfl
  with_reducible exact Kept.refl _

theorem State.flashInterrupt_kept (s : State) : Kept s (State.flashInterrupt s) := by
  unfold State.flashInterrupt
  with_reducible refine Kept.trans ?_ (Kept.foldl _ _ _ ?_)
  with_reducible exact Kept.refl _
  intro _ _
  with_reducible refine Kept.trans ?_ (State.flashCut_kept _ _)
  with_reducible exact Kept.refl _

theorem State.pulseCut_kept (s : State) : Kept s (State.pulseCut s) := by
  unfold State.pulseCut
  split
  with_reducible exact Kept.refl _
  dsimp only
  with_reducible refine Kept.ite (fun _ => ?_) (fun _ => ?_)
  split
  with_reducible refine Kept.mk_same ?_ rfl rfl rfl rfl rfl
  with_reducible exact Kept.refl _
  with_reducible refine Kept.mk_same ?_ rfl rfl rfl rfl rfl
  with_reducible exact Kept.refl _
  with_reducible refine Kept.mk_same ?_ rfl rfl rfl rfl rfl
  with_reducible exact Kept.refl _

theorem State.bare_kept (s : State) : Kept s (State.bare s) :=
  ⟨rfl, le_rfl, fun h => ⟨SMap.wf_filter _ _ _ h.1, rfl, h.2.2⟩⟩

theorem State.coldState_kept (s : State) : Kept s (State.coldState s) := by
  unfold State.coldState
  with_reducible refine Kept.trans ?_ (State.bare_kept _)
  with_reducible refine Kept.trans ?_ (State.pulseCut_kept _)
  with_reducible refine Kept.trans ?_ (State.flashInterrupt_kept _)
  with_reducible exact Kept.refl _

theorem State.keepPowerGood_kept (old s : State) : Kept s (State.keepPowerGood old s) := by
  unfold State.keepPowerGood
  exact State.wr_kept _ _ _

theorem State.keepRetired_kept (old s : State) : Kept s (State.keepRetired old s) := by
  unfold State.keepRetired
  refine Kept.foldl _ _ _ fun x n => ?_
  exact Kept.ite (fun _ => State.wrAt_kept _ _ _ _) (fun _ => Kept.refl _)

theorem State.keepClaims_kept (old s : State) : Kept s (State.keepClaims old s) := by
  unfold State.keepClaims
  refine Kept.foldl _ _ _ fun x n => ?_
  exact Kept.ite (fun _ => State.claimLand_kept _ _ _ _) (fun _ => Kept.refl _)

theorem State.warmState_kept (s0 : State) : Kept s0 (State.warmState s0) := by
  unfold State.warmState
  dsimp only
  refine Kept.trans ?_ (State.keepPowerGood_kept _ _)
  refine Kept.trans ?_ (State.wr_kept _ _ _)
  refine Kept.trans ?_ (State.wr_kept _ _ _)
  refine Kept.trans ?_ (State.keepClaims_kept _ _)
  refine Kept.trans ?_ (State.keepRetired_kept _ _)
  refine Kept.trans (State.flashInterrupt_kept s0) (Kept.trans (State.pulseCut_kept _) ?_)
  generalize s0.flashInterrupt.pulseCut = w
  exact ⟨rfl, le_rfl, fun h => ⟨SMap.wf_filter _ _ _ h.1, h.2.1, h.2.2⟩⟩

theorem State.deepState_kept (s : State) : Kept s (State.deepState s) := by
  unfold State.deepState
  dsimp only
  refine Kept.trans ?_ (State.keepClaims_kept _ _)
  refine Kept.trans (State.warmState_kept s) ?_
  generalize s.warmState = w
  exact ⟨rfl, le_rfl, fun h => ⟨SMap.wf_filter _ _ _ h.1, SMap.wf_filter _ _ _ h.2.1, h.2.2⟩⟩

theorem State.enterOff_kept (s : State) : Kept s (State.enterOff s) := by
  unfold State.enterOff
  dsimp only
  refine Kept.trans ?_ (State.setLands_kept _ _)
  refine Kept.trans ?_ (State.wr_kept _ _ _)
  refine Kept.trans ?_ (State.wr_kept _ _ _)
  refine Kept.trans ((State.setMode_kept s modeOff).trans (State.lanesSettle_kept _)) ?_
  generalize (State.setMode s modeOff).lanesSettle = a
  refine Kept.trans (State.coldState_kept a) ?_
  generalize a.coldState = c
  generalize a.keepFields offFields = keep
  refine ⟨rfl, le_rfl, fun h => ⟨?_, h.2⟩⟩
  have := h.1
  show SMap.wf (keep.foldl _ c.regs) 0 = true
  generalize c.regs = m at this
  induction keep generalizing m with
  | nil => exact this
  | cons e r ih => exact ih _ (SMap.wf_store _ _ _ _ this)

theorem State.hardShutdown_kept (s : State) (cause : Nat) : Kept s (State.hardShutdown s cause) := by
  unfold State.hardShutdown
  with_reducible refine Kept.trans ?_ (State.enterOff_kept _)
  with_reducible refine Kept.trans ?_ (State.wr_kept _ _ _)
  with_reducible refine Kept.trans ?_ (State.wr_kept _ _ _)
  with_reducible refine Kept.trans ?_ (State.wr_kept _ _ _)
  with_reducible exact Kept.refl _

end Sys2Proof.Machine
end

