-- ==== Sys2Proof/Laws/KeptGolden.lean ====
section
/-! SUPPORT. `Kept` for the functions of Machine/Golden.lean. -/

namespace Sys2Proof.Machine

open Sys2Proof

theorem State.goldenStart_kept (s : State) (id k : Nat) : Kept s (State.goldenStart s id k) := by
  unfold State.goldenStart
  dsimp only
  with_reducible refine Kept.trans ?_ (Kept.foldl _ _ _ ?_)
  with_reducible refine Kept.trans ?_ (Kept.foldl _ _ _ ?_)
  with_reducible refine Kept.trans ?_ (State.setGolden_kept _ _ _)
  with_reducible refine Kept.trans ?_ (State.wr_kept _ _ _)
  with_reducible refine Kept.mk_same ?_ rfl rfl rfl rfl rfl
  with_reducible exact Kept.refl _
  intro _ _
  with_reducible refine Kept.trans ?_ (State.setSector_kept _ _ _ _)
  with_reducible exact Kept.refl _
  intro _ _
  with_reducible refine Kept.trans ?_ (State.flashStart_kept _ _ _)
  with_reducible exact Kept.refl _

theorem execCtxGoldenSave_kept (id : Nat) (s : State) : Kept s (stateOf (execCtxGoldenSave id s) s) := by
  unfold execCtxGoldenSave
  refine Kept.next ?_
  with_reducible refine Kept.ite (fun _ => ?_) (fun _ => ?_)
  with_reducible refine Kept.trans ?_ (State.startCmd_kept _ _ _ _ ?_)
  with_reducible exact Kept.refl _
  intro _ _
  dsimp only
  split
  dsimp only
  with_reducible exact Kept.refl _
  dsimp only
  with_reducible refine Kept.trans ?_ (State.goldenStart_kept _ _ _)
  with_reducible exact Kept.refl _
  with_reducible exact Kept.refl _

theorem State.goldenSector_kept (s : State) (p : Nat × Nat) : Kept s (State.goldenSector s p) := by
  unfold State.goldenSector
  with_reducible refine Kept.trans ?_ (State.addSatAt_kept _ _ _ _)
  with_reducible refine Kept.trans ?_ (State.wrAt_kept _ _ _ _)
  with_reducible refine Kept.trans ?_ (State.setSector_kept _ _ _ _)
  with_reducible exact Kept.refl _

theorem State.putWords_kept (s : State) (key : Nat → Nat) (ws : List Nat) : Kept s (State.putWords s key ws) := by
  unfold State.putWords
  with_reducible refine Kept.trans ?_ (Kept.foldl _ _ _ ?_)
  with_reducible exact Kept.refl _
  intro _ _
  with_reducible refine Kept.trans ?_ (State.putCode_kept _ _ _)
  with_reducible exact Kept.refl _

theorem State.goldenWrite_kept (s : State) (k mask : Nat) : Kept s (State.goldenWrite s k mask) := by
  unfold State.goldenWrite
  dsimp only
  with_reducible refine Kept.trans ?_ (State.tookN_kept _ _)
  with_reducible refine Kept.trans ?_ (State.putWords_kept _ _ _)
  with_reducible refine Kept.trans ?_ (State.putWords_kept _ _ _)
  with_reducible refine Kept.trans ?_ (Kept.foldl _ _ _ ?_)
  with_reducible refine Kept.mk_same ?_ rfl rfl rfl rfl rfl
  with_reducible exact Kept.refl _
  intro _ _
  with_reducible refine Kept.trans ?_ (State.goldenSector_kept _ _)
  with_reducible exact Kept.refl _

theorem execGoldenSaveDone_kept (ok : Bool) (s : State) : Kept s (stateOf (execGoldenSaveDone ok s) s) := by
  unfold execGoldenSaveDone
  refine Kept.next ?_
  dsimp only
  split
  with_reducible exact Kept.refl _
  with_reducible refine Kept.ite (fun _ => ?_) (fun _ => ?_)
  with_reducible exact Kept.refl _
  with_reducible refine Kept.ite (fun _ => ?_) (fun _ => ?_)
  with_reducible refine Kept.trans ?_ (State.goldenFail_kept _ _)
  with_reducible refine Kept.trans ?_ (State.took_kept _)
  with_reducible exact Kept.refl _
  with_reducible refine Kept.trans ?_ (State.complete_kept _ _ _)
  with_reducible refine Kept.trans ?_ (State.post_kept _ _ _ _ _)
  with_reducible refine Kept.trans ?_ (State.directoryAppend_kept _ _ _)
  with_reducible refine Kept.trans ?_ (State.goldenStop_kept _)
  with_reducible refine Kept.trans ?_ (State.goldenWrite_kept _ _ _)
  with_reducible exact Kept.refl _

theorem State.showRecords_kept (s : State) (found : Found) : Kept s (State.showRecords s found) := by
  unfold State.showRecords
  dsimp only
  with_reducible refine Kept.trans ?_ (State.wr_kept _ _ _)
  with_reducible refine Kept.trans ?_ (State.wr_kept _ _ _)
  with_reducible refine Kept.trans ?_ (State.wr_kept _ _ _)
  with_reducible refine Kept.trans ?_ (State.wr_kept _ _ _)
  with_reducible exact Kept.refl _

theorem State.eraseRecords_kept (s : State) (n : Nat) : Kept s (State.eraseRecords s n) := by
  unfold State.eraseRecords
  with_reducible refine Kept.trans ?_ (State.flashStart_kept _ _ _)
  with_reducible exact Kept.refl _

theorem State.writeSwap_kept (s : State) (n w seq block : Nat) : Kept s (State.writeSwap s n w seq block) := by
  unfold State.writeSwap
  dsimp only
  with_reducible refine Kept.ite (fun _ => ?_) (fun _ => ?_)
  with_reducible refine Kept.trans ?_ (State.eraseRecords_kept _ _)
  with_reducible refine Kept.ite (fun _ => ?_) (fun _ => ?_)
  with_reducible refine Kept.trans ?_ (State.setSector_kept _ _ _ _)
  with_reducible refine Kept.trans ?_ (State.putCode_kept _ _ _)
  with_reducible exact Kept.refl _
  with_reducible refine Kept.trans ?_ (State.putCode_kept _ _ _)
  with_reducible exact Kept.refl _
  with_reducible refine Kept.ite (fun _ => ?_) (fun _ => ?_)
  with_reducible refine Kept.trans ?_ (State.setSector_kept _ _ _ _)
  with_reducible refine Kept.trans ?_ (State.putCode_kept _ _ _)
  with_reducible exact Kept.refl _
  with_reducible refine Kept.trans ?_ (State.putCode_kept _ _ _)
  with_reducible exact Kept.refl _

theorem State.senseSwap_kept (s : State) (found : Found) (b : Nat) : Kept s (State.senseSwap s found b) := by
  unfold State.senseSwap
  with_reducible refine Kept.trans ?_ (State.senseCodes_kept _ _ _)
  with_reducible exact Kept.refl _

theorem execFlashBootSwap_kept (id : Nat) (found : Found) (s0 : State) :
    Kept s0 (stateOf (execFlashBootSwap id found s0) s0) := by
  unfold execFlashBootSwap
  refine Kept.next ?_
  with_reducible refine Kept.ite (fun _ => ?_) (fun _ => ?_)
  with_reducible refine Kept.trans ?_ (State.runCmd_kept _ _ _ _ ?_)
  with_reducible exact Kept.refl _
  intro _ _
  dsimp only
  split
  with_reducible exact Kept.refl _
  split
  with_reducible exact Kept.refl _
  split
  with_reducible exact Kept.refl _
  split
  dsimp only
  with_reducible refine Kept.trans ?_ (State.senseSwap_kept _ _ _)
  with_reducible exact Kept.refl _
  split
  dsimp only
  with_reducible refine Kept.trans ?_ (State.senseSwap_kept _ _ _)
  with_reducible exact Kept.refl _
  split
  dsimp only
  with_reducible refine Kept.trans ?_ (State.senseSwap_kept _ _ _)
  with_reducible exact Kept.refl _
  split
  dsimp only
  with_reducible refine Kept.trans ?_ (State.senseSwap_kept _ _ _)
  with_reducible exact Kept.refl _
  split
  dsimp only
  with_reducible refine Kept.trans ?_ (State.senseSwap_kept _ _ _)
  with_reducible exact Kept.refl _
  dsimp only
  with_reducible refine Kept.trans ?_ (State.post_kept _ _ _ _ _)
  with_reducible refine Kept.trans ?_ (State.loadLifeline_kept _ _)
  with_reducible refine Kept.trans ?_ (State.showRecords_kept _ _)
  with_reducible refine Kept.trans ?_ (State.writeSwap_kept _ _ _ _ _)
  with_reducible refine Kept.trans ?_ (State.senseSwap_kept _ _ _)
  with_reducible exact Kept.refl _
  with_reducible exact Kept.refl _

end Sys2Proof.Machine
end

