-- ==== Sys2Proof/Laws/KeptGuardActs.lean ====
section
/-! SUPPORT. `Kept` for the functions of Machine/GuardActs.lean. -/

namespace Sys2Proof.Machine

open Sys2Proof

theorem State.showRecordCount_kept (s : State) : Kept s (State.showRecordCount s) := by
  unfold State.showRecordCount
  with_reducible refine Kept.trans ?_ (State.wr_kept _ _ _)
  with_reducible refine Kept.trans ?_ (State.wr_kept _ _ _)
  with_reducible exact Kept.refl _

theorem State.addRecord_kept (s : State) (x : Nat) : Kept s (State.addRecord s x) := by
  unfold State.addRecord
  with_reducible refine Kept.ite (fun _ => ?_) (fun _ => ?_)
  dsimp only
  with_reducible refine Kept.ite (fun _ => ?_) (fun _ => ?_)
  with_reducible refine Kept.trans ?_ (State.post_kept _ _ _ _ _)
  with_reducible refine Kept.trans ?_ (State.wr_kept _ _ _)
  with_reducible refine Kept.trans ?_ (State.showRecordCount_kept _)
  with_reducible refine Kept.mk_same ?_ rfl rfl rfl rfl rfl
  with_reducible exact Kept.refl _
  with_reducible refine Kept.trans ?_ (State.showRecordCount_kept _)
  with_reducible refine Kept.mk_same ?_ rfl rfl rfl rfl rfl
  with_reducible exact Kept.refl _
  with_reducible exact Kept.refl _

theorem State.retireNote_kept (s : State) (kind index cause : Nat) : Kept s (State.retireNote s kind index cause) := by
  unfold State.retireNote
  dsimp only
  with_reducible refine Kept.trans ?_ (State.post_kept _ _ _ _ _)
  with_reducible refine Kept.trans ?_ (State.wr_kept _ _ _)
  with_reducible refine Kept.trans ?_ (State.wr_kept _ _ _)
  with_reducible refine Kept.trans ?_ (State.wr_kept _ _ _)
  with_reducible refine Kept.trans ?_ (State.addRecord_kept _ _)
  with_reducible exact Kept.refl _

theorem State.degrade_kept (s : State) : Kept s (State.degrade s) := by
  unfold State.degrade
  with_reducible refine Kept.trans ?_ (State.followDegraded_kept _)
  with_reducible refine Kept.trans ?_ (State.wr_kept _ _ _)
  with_reducible exact Kept.refl _

theorem State.noteTransient_kept (s : State) (key : Nat) : Kept s (State.noteTransient s key) := by
  unfold State.noteTransient
  dsimp only
  with_reducible refine Kept.mk_same ?_ rfl rfl rfl rfl rfl
  with_reducible exact Kept.refl _

theorem State.endTest_kept (s : State) (kind index : Nat) (pass : Bool) : Kept s (State.endTest s kind index pass).2 := by
  unfold State.endTest
  dsimp only
  split
  dsimp only
  with_reducible refine Kept.trans ?_ (State.complete_kept _ _ _)
  with_reducible refine Kept.trans ?_ (State.post_kept _ _ _ _ _)
  split
  with_reducible refine Kept.trans ?_ (State.incSat_kept _ _)
  with_reducible refine Kept.trans ?_ (State.noteTransient_kept _ _)
  with_reducible refine Kept.mk_same ?_ rfl rfl rfl rfl rfl
  with_reducible exact Kept.refl _
  with_reducible refine Kept.trans ?_ (State.incSat_kept _ _)
  with_reducible refine Kept.mk_same ?_ rfl rfl rfl rfl rfl
  with_reducible exact Kept.refl _
  dsimp only
  with_reducible refine Kept.trans ?_ (State.post_kept _ _ _ _ _)
  split
  with_reducible refine Kept.trans ?_ (State.incSat_kept _ _)
  with_reducible refine Kept.trans ?_ (State.noteTransient_kept _ _)
  with_reducible refine Kept.mk_same ?_ rfl rfl rfl rfl rfl
  with_reducible exact Kept.refl _
  with_reducible refine Kept.trans ?_ (State.incSat_kept _ _)
  with_reducible refine Kept.mk_same ?_ rfl rfl rfl rfl rfl
  with_reducible exact Kept.refl _

theorem State.markRegion_kept (s : State) (r : Nat) : Kept s (State.markRegion s r) := by
  unfold State.markRegion
  dsimp only
  with_reducible refine Kept.trans ?_ (State.wrAt_kept _ _ _ _)
  with_reducible refine Kept.trans ?_ (State.wrAt_kept _ _ _ _)
  with_reducible refine Kept.trans ?_ (State.wrAt_kept _ _ _ _)
  with_reducible refine Kept.trans ?_ (State.wrMask_kept _ _ _ _)
  with_reducible refine Kept.trans ?_ (State.wrMask_kept _ _ _ _)
  with_reducible refine Kept.trans ?_ (State.wrMask_kept _ _ _ _)
  with_reducible refine Kept.trans ?_ (State.wrAt_kept _ _ _ _)
  with_reducible refine Kept.trans ?_ (State.wrAt_kept _ _ _ _)
  with_reducible exact Kept.refl _

theorem State.retireRegion_kept (s : State) (r cause : Nat) : Kept s (State.retireRegion s r cause) := by
  unfold State.retireRegion
  with_reducible refine Kept.ite (fun _ => ?_) (fun _ => ?_)
  with_reducible exact Kept.refl _
  dsimp only
  with_reducible refine Kept.ite (fun _ => ?_) (fun _ => ?_)
  with_reducible refine Kept.trans ?_ (State.promenade_kept _ _)
  with_reducible refine Kept.trans ?_ (State.post_kept _ _ _ _ _)
  with_reducible refine Kept.trans ?_ (State.degrade_kept _)
  with_reducible refine Kept.trans ?_ (Kept.foldl _ _ _ ?_)
  with_reducible refine Kept.trans ?_ (State.retirePorts_kept _ _)
  with_reducible refine Kept.mk_same ?_ rfl rfl rfl rfl rfl
  with_reducible refine Kept.trans ?_ (State.refuseRequests_kept _ _ _)
  with_reducible refine Kept.trans ?_ (State.resetHard_kept _ _)
  with_reducible refine Kept.trans ?_ (State.markRegion_kept _ _)
  with_reducible refine Kept.trans ?_ (State.retireNote_kept _ _ _ _)
  with_reducible exact Kept.refl _
  intro _ _
  with_reducible refine Kept.trans ?_ (State.deviceDisable_kept _ _ _)
  with_reducible exact Kept.refl _
  with_reducible refine Kept.trans ?_ (State.post_kept _ _ _ _ _)
  with_reducible refine Kept.trans ?_ (State.degrade_kept _)
  with_reducible refine Kept.trans ?_ (Kept.foldl _ _ _ ?_)
  with_reducible refine Kept.trans ?_ (State.retirePorts_kept _ _)
  with_reducible refine Kept.mk_same ?_ rfl rfl rfl rfl rfl
  with_reducible refine Kept.trans ?_ (State.refuseRequests_kept _ _ _)
  with_reducible refine Kept.trans ?_ (State.resetHard_kept _ _)
  with_reducible refine Kept.trans ?_ (State.markRegion_kept _ _)
  with_reducible refine Kept.trans ?_ (State.retireNote_kept _ _ _ _)
  with_reducible exact Kept.refl _
  intro _ _
  with_reducible refine Kept.trans ?_ (State.deviceDisable_kept _ _ _)
  with_reducible exact Kept.refl _

theorem State.relocate_kept (s : State) (r p : Nat) (pairs : List Nat) (unpark : Bool) :
    Kept s (State.relocate s r p pairs unpark) := by
  unfold State.relocate
  dsimp only
  with_reducible refine Kept.mk_same ?_ rfl rfl rfl rfl rfl
  with_reducible exact Kept.refl _

theorem State.moveColumn_kept (s : State) (p : Nat) (inactive : Option Nat) : Kept s (State.moveColumn s p inactive) := by
  unfold State.moveColumn
  dsimp only
  split
  with_reducible refine Kept.trans ?_ (State.post_kept _ _ _ _ _)
  with_reducible refine Kept.trans ?_ (State.wrAt_kept _ _ _ _)
  with_reducible refine Kept.trans ?_ (State.relocate_kept _ _ _ _ _)
  with_reducible refine Kept.trans ?_ (State.wrMask_kept _ _ _ _)
  with_reducible refine Kept.trans ?_ (State.post_kept _ _ _ _ _)
  with_reducible exact Kept.refl _
  with_reducible refine Kept.ite (fun _ => ?_) (fun _ => ?_)
  with_reducible refine Kept.trans ?_ (State.requestArrives_kept _ _ _)
  with_reducible refine Kept.trans ?_ (State.relocate_kept _ _ _ _ _)
  with_reducible refine Kept.trans ?_ (State.post_kept _ _ _ _ _)
  with_reducible exact Kept.refl _
  with_reducible refine Kept.ite (fun _ => ?_) (fun _ => ?_)
  with_reducible refine Kept.trans ?_ (State.moveColumns_kept _ _)
  with_reducible refine Kept.trans ?_ (State.relocate_kept _ _ _ _ _)
  with_reducible refine Kept.trans ?_ (State.post_kept _ _ _ _ _)
  with_reducible exact Kept.refl _
  with_reducible refine Kept.trans ?_ (State.parkRegion_kept _ _ _)
  with_reducible refine Kept.trans ?_ (State.relocate_kept _ _ _ _ _)
  with_reducible refine Kept.trans ?_ (State.post_kept _ _ _ _ _)
  with_reducible exact Kept.refl _

theorem State.retireColumn_kept (s : State) (p cause : Nat) (inactive : Option Nat) :
    Kept s (State.retireColumn s p cause inactive) := by
  unfold State.retireColumn
  with_reducible refine Kept.ite (fun _ => ?_) (fun _ => ?_)
  with_reducible exact Kept.refl _
  dsimp only
  with_reducible refine Kept.ite (fun _ => ?_) (fun _ => ?_)
  with_reducible refine Kept.trans ?_ (State.wrBit_kept _ _ _ _)
  with_reducible refine Kept.trans ?_ (State.retireNote_kept _ _ _ _)
  with_reducible exact Kept.refl _
  with_reducible refine Kept.ite (fun _ => ?_) (fun _ => ?_)
  with_reducible refine Kept.trans ?_ (State.retireRegion_kept _ _ _)
  with_reducible refine Kept.trans ?_ (State.wrBit_kept _ _ _ _)
  with_reducible refine Kept.trans ?_ (State.retireNote_kept _ _ _ _)
  with_reducible exact Kept.refl _
  with_reducible refine Kept.ite (fun _ => ?_) (fun _ => ?_)
  with_reducible refine Kept.trans ?_ (State.retireRegion_kept _ _ _)
  with_reducible refine Kept.trans ?_ (State.wrBit_kept _ _ _ _)
  with_reducible refine Kept.trans ?_ (State.retireNote_kept _ _ _ _)
  with_reducible exact Kept.refl _
  with_reducible refine Kept.ite (fun _ => ?_) (fun _ => ?_)
  with_reducible refine Kept.trans ?_ (State.wrBit_kept _ _ _ _)
  with_reducible refine Kept.trans ?_ (State.retireNote_kept _ _ _ _)
  with_reducible exact Kept.refl _
  with_reducible refine Kept.trans ?_ (State.moveColumn_kept _ _ _)
  with_reducible refine Kept.trans ?_ (State.wrBit_kept _ _ _ _)
  with_reducible refine Kept.trans ?_ (State.retireNote_kept _ _ _ _)
  with_reducible exact Kept.refl _

theorem State.unrepairable_kept (s : State) (r k index action : Nat) : Kept s (State.unrepairable s r k index action) := by
  unfold State.unrepairable
  dsimp only
  with_reducible refine Kept.ite (fun _ => ?_) (fun _ => ?_)
  with_reducible refine Kept.ite (fun _ => ?_) (fun _ => ?_)
  with_reducible refine Kept.trans ?_ (State.promenade_kept _ _)
  with_reducible refine Kept.trans ?_ (State.requestArrives_kept _ _ _)
  with_reducible refine Kept.trans ?_ (State.wr_kept _ _ _)
  with_reducible refine Kept.trans ?_ (State.post_kept _ _ _ _ _)
  with_reducible refine Kept.trans ?_ (State.wr_kept _ _ _)
  with_reducible refine Kept.trans ?_ (State.wrMask_kept _ _ _ _)
  with_reducible exact Kept.refl _
  with_reducible refine Kept.trans ?_ (State.requestArrives_kept _ _ _)
  with_reducible refine Kept.trans ?_ (State.wr_kept _ _ _)
  with_reducible refine Kept.trans ?_ (State.post_kept _ _ _ _ _)
  with_reducible refine Kept.trans ?_ (State.wr_kept _ _ _)
  with_reducible refine Kept.trans ?_ (State.wrMask_kept _ _ _ _)
  with_reducible exact Kept.refl _
  with_reducible refine Kept.trans ?_ (State.post_kept _ _ _ _ _)
  with_reducible refine Kept.trans ?_ (State.wr_kept _ _ _)
  with_reducible refine Kept.trans ?_ (State.wrMask_kept _ _ _ _)
  with_reducible exact Kept.refl _

theorem State.upsetRepaired_kept (s : State) (r k index action : Nat) : Kept s (State.upsetRepaired s r k index action) := by
  unfold State.upsetRepaired
  dsimp only
  split
  with_reducible refine Kept.ite (fun _ => ?_) (fun _ => ?_)
  with_reducible refine Kept.trans ?_ (State.post_kept _ _ _ _ _)
  with_reducible refine Kept.trans ?_ (State.wr_kept _ _ _)
  with_reducible refine Kept.trans ?_ (State.wr_kept _ _ _)
  with_reducible refine Kept.trans ?_ (State.addSatAt_kept _ _ _ _)
  with_reducible refine Kept.trans ?_ (State.incSat_kept _ _)
  with_reducible exact Kept.refl _
  with_reducible refine Kept.trans ?_ (State.addSatAt_kept _ _ _ _)
  with_reducible refine Kept.trans ?_ (State.resetCycle_kept _ _)
  with_reducible refine Kept.trans ?_ (State.post_kept _ _ _ _ _)
  with_reducible refine Kept.trans ?_ (State.wr_kept _ _ _)
  with_reducible refine Kept.trans ?_ (State.wr_kept _ _ _)
  with_reducible refine Kept.trans ?_ (State.addSatAt_kept _ _ _ _)
  with_reducible refine Kept.trans ?_ (State.incSat_kept _ _)
  with_reducible exact Kept.refl _
  with_reducible refine Kept.trans ?_ (State.promenade_kept _ _)
  with_reducible refine Kept.trans ?_ (State.post_kept _ _ _ _ _)
  with_reducible refine Kept.trans ?_ (State.wr_kept _ _ _)
  with_reducible refine Kept.trans ?_ (State.wr_kept _ _ _)
  with_reducible refine Kept.trans ?_ (State.addSatAt_kept _ _ _ _)
  with_reducible refine Kept.trans ?_ (State.incSat_kept _ _)
  with_reducible exact Kept.refl _
  with_reducible refine Kept.trans ?_ (State.post_kept _ _ _ _ _)
  with_reducible refine Kept.trans ?_ (State.wr_kept _ _ _)
  with_reducible refine Kept.trans ?_ (State.wr_kept _ _ _)
  with_reducible refine Kept.trans ?_ (State.addSatAt_kept _ _ _ _)
  with_reducible refine Kept.trans ?_ (State.incSat_kept _ _)
  with_reducible exact Kept.refl _

theorem State.senseSource_kept (s : State) (k c f : Nat) (found : Found) : Kept s (State.senseSource s k c f found) := by
  unfold State.senseSource
  dsimp only
  with_reducible refine Kept.ite (fun _ => ?_) (fun _ => ?_)
  with_reducible refine Kept.trans ?_ (State.senseCodes_kept _ _ _)
  with_reducible refine Kept.trans ?_ (State.senseWords_kept _ _ _)
  with_reducible exact Kept.refl _
  with_reducible refine Kept.trans ?_ (State.senseWords_kept _ _ _)
  with_reducible exact Kept.refl _

theorem State.upset_kept (s0 : State) (k p c f : Nat) (found : Found) : Kept s0 (State.upset s0 k p c f found) := by
  unfold State.upset
  dsimp only
  split
  with_reducible refine Kept.trans ?_ (State.startTest_kept _ _ _ _ _)
  with_reducible refine Kept.trans ?_ (State.upsetRepaired_kept _ _ _ _ _)
  with_reducible refine Kept.trans ?_ (State.writePlane_kept _ _ _ _)
  with_reducible refine Kept.trans ?_ (State.senseSource_kept _ _ _ _ _)
  with_reducible exact Kept.refl _
  with_reducible refine Kept.trans ?_ (State.unrepairable_kept _ _ _ _ _)
  with_reducible refine Kept.trans ?_ (State.senseSource_kept _ _ _ _ _)
  with_reducible exact Kept.refl _

theorem State.moveFrame_kept (found : Found) (s0 : State) (r k c f : Nat) : Kept s0 (State.moveFrame found s0 r k c f) := by
  unfold State.moveFrame
  with_reducible refine Kept.ite (fun _ => ?_) (fun _ => ?_)
  with_reducible exact Kept.refl _
  dsimp only
  split
  with_reducible refine Kept.trans ?_ (State.writePlane_kept _ _ _ _)
  with_reducible refine Kept.trans ?_ (State.senseSource_kept _ _ _ _ _)
  with_reducible exact Kept.refl _
  with_reducible refine Kept.trans ?_ (State.unrepairable_kept _ _ _ _ _)
  with_reducible refine Kept.trans ?_ (State.senseSource_kept _ _ _ _ _)
  with_reducible exact Kept.refl _

theorem State.moveFrames_kept (s : State) (r : Nat) (cs : List Nat) (found : Found) :
    Kept s (State.moveFrames s r cs found) := by
  unfold State.moveFrames
  with_reducible refine Kept.trans ?_ (Kept.foldl _ _ _ ?_)
  with_reducible exact Kept.refl _
  intro _ _
  with_reducible refine Kept.trans ?_ (Kept.foldl _ _ _ ?_)
  with_reducible exact Kept.refl _
  intro _ _
  with_reducible refine Kept.trans ?_ (Kept.foldl _ _ _ ?_)
  with_reducible exact Kept.refl _
  intro _ _
  with_reducible refine Kept.trans ?_ (State.moveFrame_kept _ _ _ _ _ _)
  with_reducible exact Kept.refl _

theorem State.steer_kept (s : State) (r : Nat) : Kept s (State.steer s r) := by
  unfold State.steer
  dsimp only
  with_reducible refine Kept.mk_same ?_ rfl rfl rfl rfl rfl
  with_reducible exact Kept.refl _

theorem State.unparkMoved_kept (s : State) (r : Nat) : Kept s (State.unparkMoved s r) := by
  unfold State.unparkMoved
  with_reducible refine Kept.ite (fun _ => ?_) (fun _ => ?_)
  with_reducible exact Kept.refl _
  with_reducible refine Kept.ite (fun _ => ?_) (fun _ => ?_)
  with_reducible refine Kept.ite (fun _ => ?_) (fun _ => ?_)
  with_reducible refine Kept.trans ?_ (State.unparkRegion_kept _ _)
  with_reducible exact Kept.refl _
  with_reducible exact Kept.refl _
  with_reducible refine Kept.ite (fun _ => ?_) (fun _ => ?_)
  with_reducible exact Kept.refl _
  with_reducible refine Kept.trans ?_ (State.gateRegion_kept _ _ _)
  with_reducible refine Kept.trans ?_ (State.unparkRegion_kept _ _)
  with_reducible exact Kept.refl _

theorem State.relocated_kept (s : State) (r : Nat) (x : Relocation) (since : Nat) (found : Found) :
    Kept s (State.relocated s r x since found) := by
  unfold State.relocated
  dsimp only
  with_reducible refine Kept.ite (fun _ => ?_) (fun _ => ?_)
  with_reducible refine Kept.trans ?_ (State.unparkMoved_kept _ _)
  with_reducible refine Kept.trans ?_ (Kept.foldl _ _ _ ?_)
  with_reducible refine Kept.trans ?_ (State.wrAt_kept _ _ _ _)
  with_reducible refine Kept.trans ?_ (State.moveFrames_kept _ _ _ _)
  with_reducible refine Kept.trans ?_ (Kept.foldl _ _ _ ?_)
  with_reducible refine Kept.trans ?_ (State.steer_kept _ _)
  with_reducible refine Kept.mk_same ?_ rfl rfl rfl rfl rfl
  with_reducible exact Kept.refl _
  intro _ _
  with_reducible refine Kept.trans ?_ (State.wrMask_kept _ _ _ _)
  with_reducible exact Kept.refl _
  intro _ _
  with_reducible refine Kept.trans ?_ (State.post_kept _ _ _ _ _)
  with_reducible exact Kept.refl _
  with_reducible refine Kept.trans ?_ (Kept.foldl _ _ _ ?_)
  with_reducible refine Kept.trans ?_ (State.wrAt_kept _ _ _ _)
  with_reducible refine Kept.trans ?_ (State.moveFrames_kept _ _ _ _)
  with_reducible refine Kept.trans ?_ (Kept.foldl _ _ _ ?_)
  with_reducible refine Kept.trans ?_ (State.steer_kept _ _)
  with_reducible refine Kept.mk_same ?_ rfl rfl rfl rfl rfl
  with_reducible exact Kept.refl _
  intro _ _
  with_reducible refine Kept.trans ?_ (State.wrMask_kept _ _ _ _)
  with_reducible exact Kept.refl _
  intro _ _
  with_reducible refine Kept.trans ?_ (State.post_kept _ _ _ _ _)
  with_reducible exact Kept.refl _

theorem State.retireUnit_kept (s : State) (far : Bool) (u cause : Nat) : Kept s (State.retireUnit s far u cause) := by
  unfold State.retireUnit
  with_reducible refine Kept.ite (fun _ => ?_) (fun _ => ?_)
  dsimp only
  with_reducible refine Kept.trans ?_ (State.degrade_kept _)
  with_reducible refine Kept.mk_same ?_ rfl rfl rfl rfl rfl
  with_reducible refine Kept.trans ?_ (State.retireNote_kept _ _ _ _)
  with_reducible exact Kept.refl _
  with_reducible exact Kept.refl _

theorem State.retireLane_kept (s : State) (n cause : Nat) : Kept s (State.retireLane s n cause) := by
  unfold State.retireLane
  with_reducible refine Kept.ite (fun _ => ?_) (fun _ => ?_)
  with_reducible exact Kept.refl _
  dsimp only
  with_reducible refine Kept.trans ?_ (State.degrade_kept _)
  with_reducible refine Kept.trans ?_ (Kept.foldl _ _ _ ?_)
  split
  with_reducible refine Kept.ite (fun _ => ?_) (fun _ => ?_)
  with_reducible refine Kept.trans ?_ (State.leaveBond_kept _ _)
  with_reducible refine Kept.trans ?_ (State.bondFault_kept _ _)
  with_reducible refine Kept.trans ?_ (State.laneTo_kept _ _ _ _)
  with_reducible refine Kept.trans ?_ (State.retireNote_kept _ _ _ _)
  with_reducible exact Kept.refl _
  with_reducible refine Kept.trans ?_ (State.bondFault_kept _ _)
  with_reducible refine Kept.trans ?_ (State.laneTo_kept _ _ _ _)
  with_reducible refine Kept.trans ?_ (State.retireNote_kept _ _ _ _)
  with_reducible exact Kept.refl _
  with_reducible refine Kept.trans ?_ (State.bondFault_kept _ _)
  with_reducible refine Kept.trans ?_ (State.laneTo_kept _ _ _ _)
  with_reducible refine Kept.trans ?_ (State.retireNote_kept _ _ _ _)
  with_reducible exact Kept.refl _
  intro _ _
  with_reducible refine Kept.trans ?_ (State.deviceDisable_kept _ _ _)
  with_reducible exact Kept.refl _

theorem State.becomeSpare_kept (s : State) (n : Nat) : Kept s (State.becomeSpare s n) := by
  unfold State.becomeSpare
  split
  with_reducible exact Kept.refl _
  dsimp only
  with_reducible refine Kept.ite (fun _ => ?_) (fun _ => ?_)
  with_reducible refine Kept.ite (fun _ => ?_) (fun _ => ?_)
  with_reducible refine Kept.trans ?_ (State.setBond_kept _ _ _ _)
  with_reducible refine Kept.trans ?_ (State.wrAt_kept _ _ _ _)
  with_reducible refine Kept.trans ?_ (State.setBondRun_kept _ _ _)
  with_reducible exact Kept.refl _
  with_reducible refine Kept.trans ?_ (State.wrAt_kept _ _ _ _)
  with_reducible refine Kept.trans ?_ (State.setBondRun_kept _ _ _)
  with_reducible exact Kept.refl _
  with_reducible exact Kept.refl _

theorem State.riserRecheck_kept (s : State) (i g : Nat) : Kept s (State.riserRecheck s i g) := by
  unfold State.riserRecheck
  split
  with_reducible refine Kept.trans ?_ (State.startRecheck_kept _ _ _)
  with_reducible exact Kept.refl _
  with_reducible refine Kept.ite (fun _ => ?_) (fun _ => ?_)
  with_reducible refine Kept.trans ?_ (Kept.foldl _ _ _ ?_)
  with_reducible exact Kept.refl _
  intro _ _
  with_reducible refine Kept.trans ?_ (State.startRecheck_kept _ _ _)
  with_reducible refine Kept.trans ?_ (State.startRecheck_kept _ _ _)
  with_reducible exact Kept.refl _
  with_reducible exact Kept.refl _
  with_reducible refine Kept.trans ?_ (State.startRecheck_kept _ _ _)
  with_reducible exact Kept.refl _
  with_reducible exact Kept.refl _

theorem State.riserPairLost_kept (s : State) (i g : Nat) : Kept s (State.riserPairLost s i g) := by
  unfold State.riserPairLost
  split
  with_reducible refine Kept.trans ?_ (State.riserRecheck_kept _ _ _)
  with_reducible exact Kept.refl _
  with_reducible refine Kept.ite (fun _ => ?_) (fun _ => ?_)
  with_reducible refine Kept.trans ?_ (State.retireRegion_kept _ _ _)
  with_reducible exact Kept.refl _
  with_reducible exact Kept.refl _
  with_reducible refine Kept.trans ?_ (Kept.foldl _ _ _ ?_)
  with_reducible exact Kept.refl _
  intro _ _
  with_reducible refine Kept.trans ?_ (State.retireColumn_kept _ _ _ _)
  with_reducible exact Kept.refl _
  with_reducible refine Kept.trans ?_ (State.retireUnit_kept _ _ _ _)
  with_reducible exact Kept.refl _
  with_reducible exact Kept.refl _

theorem State.showRiser_kept (s : State) (i : Nat) : Kept s (State.showRiser s i) := by
  unfold State.showRiser
  dsimp only
  with_reducible refine Kept.trans ?_ (State.wrAt_kept _ _ _ _)
  with_reducible refine Kept.trans ?_ (State.wrAt_kept _ _ _ _)
  with_reducible exact Kept.refl _

theorem State.loseGroup_kept (s : State) (i g : Nat) : Kept s (State.loseGroup s i g) := by
  unfold State.loseGroup
  dsimp only
  with_reducible refine Kept.trans ?_ (State.showRiser_kept _ _)
  with_reducible refine Kept.mk_same ?_ rfl rfl rfl rfl rfl
  with_reducible exact Kept.refl _

theorem State.reviewDegraded_kept (s : State) : Kept s (State.reviewDegraded s) := by
  unfold State.reviewDegraded
  with_reducible refine Kept.trans ?_ (State.followDegraded_kept _)
  with_reducible refine Kept.trans ?_ (State.wr_kept _ _ _)
  with_reducible exact Kept.refl _

theorem State.retireGroup_kept (s : State) (i g cause : Nat) : Kept s (State.retireGroup s i g cause) := by
  unfold State.retireGroup
  with_reducible refine Kept.ite (fun _ => ?_) (fun _ => ?_)
  with_reducible exact Kept.refl _
  dsimp only
  with_reducible refine Kept.ite (fun _ => ?_) (fun _ => ?_)
  with_reducible refine Kept.trans ?_ (State.retireColumn_kept _ _ _ _)
  with_reducible refine Kept.trans ?_ (State.loseGroup_kept _ _ _)
  with_reducible refine Kept.trans ?_ (State.retireNote_kept _ _ _ _)
  with_reducible exact Kept.refl _
  with_reducible refine Kept.ite (fun _ => ?_) (fun _ => ?_)
  with_reducible refine Kept.trans ?_ (State.loseGroup_kept _ _ _)
  with_reducible refine Kept.trans ?_ (State.retireNote_kept _ _ _ _)
  with_reducible exact Kept.refl _
  with_reducible refine Kept.ite (fun _ => ?_) (fun _ => ?_)
  with_reducible refine Kept.trans ?_ (State.reviewDegraded_kept _)
  with_reducible refine Kept.trans ?_ (State.riserPairLost_kept _ _ _)
  with_reducible refine Kept.trans ?_ (State.loseGroup_kept _ _ _)
  with_reducible refine Kept.trans ?_ (State.retireNote_kept _ _ _ _)
  with_reducible exact Kept.refl _
  with_reducible refine Kept.trans ?_ (State.riserRecheck_kept _ _ _)
  with_reducible refine Kept.trans ?_ (State.degrade_kept _)
  with_reducible refine Kept.trans ?_ (State.loseGroup_kept _ _ _)
  with_reducible refine Kept.trans ?_ (State.retireNote_kept _ _ _ _)
  with_reducible exact Kept.refl _

theorem State.steerSignal_kept (s : State) (index signal : Nat) : Kept s (State.steerSignal s index signal) := by
  unfold State.steerSignal
  with_reducible refine Kept.mk_same ?_ rfl rfl rfl rfl rfl
  with_reducible exact Kept.refl _

theorem State.signalFailed_kept (s : State) (i g signal cause : Nat) : Kept s (State.signalFailed s i g signal cause) := by
  unfold State.signalFailed
  dsimp only
  with_reducible refine Kept.ite (fun _ => ?_) (fun _ => ?_)
  with_reducible refine Kept.trans ?_ (State.retireGroup_kept _ _ _ _)
  with_reducible exact Kept.refl _
  with_reducible refine Kept.trans ?_ (State.post_kept _ _ _ _ _)
  with_reducible refine Kept.trans ?_ (State.steerSignal_kept _ _ _)
  with_reducible refine Kept.trans ?_ (State.addRecord_kept _ _)
  with_reducible exact Kept.refl _

theorem State.applyRecord_kept (s : State) (x : Nat) : Kept s (State.applyRecord s x) := by
  unfold State.applyRecord
  dsimp only
  split
  with_reducible refine Kept.trans ?_ (State.loseGroup_kept _ _ _)
  with_reducible exact Kept.refl _
  with_reducible refine Kept.trans ?_ (State.wrBit_kept _ _ _ _)
  with_reducible exact Kept.refl _
  with_reducible refine Kept.trans ?_ (State.markRegion_kept _ _)
  with_reducible exact Kept.refl _
  with_reducible refine Kept.trans ?_ (State.wrAt_kept _ _ _ _)
  with_reducible refine Kept.trans ?_ (State.wr_kept _ _ _)
  with_reducible refine Kept.trans ?_ (State.wrBit_kept _ _ _ _)
  with_reducible exact Kept.refl _
  with_reducible refine Kept.trans ?_ (State.wrAt_kept _ _ _ _)
  with_reducible refine Kept.trans ?_ (State.wr_kept _ _ _)
  with_reducible refine Kept.trans ?_ (State.wrBit_kept _ _ _ _)
  with_reducible exact Kept.refl _
  with_reducible exact Kept.refl _

theorem State.rebindSlots_kept (s : State) : Kept s (State.rebindSlots s) := by
  unfold State.rebindSlots
  with_reducible refine Kept.trans ?_ (Kept.foldl _ _ _ ?_)
  with_reducible exact Kept.refl _
  intro _ _
  with_reducible refine Kept.trans ?_ (State.relocateSlots_kept _ _ _ _)
  with_reducible exact Kept.refl _

theorem State.applyRecords_kept (s : State) : Kept s (State.applyRecords s) := by
  unfold State.applyRecords
  dsimp only
  with_reducible refine Kept.trans ?_ (State.wr_kept _ _ _)
  with_reducible refine Kept.trans ?_ (Kept.foldl _ _ _ ?_)
  with_reducible refine Kept.trans ?_ (State.showRecordCount_kept _)
  with_reducible refine Kept.trans ?_ (State.rebindSlots_kept _)
  with_reducible refine Kept.trans ?_ (Kept.foldl _ _ _ ?_)
  with_reducible exact Kept.refl _
  intro _ _
  with_reducible refine Kept.trans ?_ (State.applyRecord_kept _ _)
  with_reducible exact Kept.refl _
  intro _ _
  with_reducible refine Kept.mk_same ?_ rfl rfl rfl rfl rfl
  with_reducible exact Kept.refl _

end Sys2Proof.Machine
end

