-- ==== Sys2Proof/Laws/KeptGuards.lean ====
section
/-! SUPPORT. `Kept` for the functions of Machine/Guards.lean. -/

namespace Sys2Proof.Machine

open Sys2Proof

theorem execFrameUpsetDetect_kept (context physical frame : Nat) (found : Found) (s : State) :
    Kept s (stateOf (execFrameUpsetDetect context physical frame found s) s) := by
  unfold execFrameUpsetDetect
  refine Kept.next ?_
  split
  with_reducible refine Kept.ite (fun _ => ?_) (fun _ => ?_)
  with_reducible exact Kept.refl _
  with_reducible refine Kept.trans ?_ (State.upset_kept _ _ _ _ _ _)
  with_reducible exact Kept.refl _
  with_reducible exact Kept.refl _

theorem execStewardScrubMismatch_kept (context physical frame : Nat) (found : Found) (s : State) :
    Kept s (stateOf (execStewardScrubMismatch context physical frame found s) s) := by
  unfold execStewardScrubMismatch
  refine Kept.next ?_
  split
  with_reducible refine Kept.ite (fun _ => ?_) (fun _ => ?_)
  with_reducible refine Kept.trans ?_ (State.upset_kept _ _ _ _ _ _)
  with_reducible exact Kept.refl _
  with_reducible exact Kept.refl _
  with_reducible exact Kept.refl _

theorem State.framePermanent_kept (s : State) (context physical frame cause : Nat) (found : FrameTest) :
    Kept s (State.framePermanent s context physical frame cause found) := by
  unfold State.framePermanent
  split
  with_reducible refine Kept.trans ?_ (State.signalFailed_kept _ _ _ _ _)
  with_reducible exact Kept.refl _
  with_reducible refine Kept.trans ?_ (State.retireColumn_kept _ _ _ _)
  with_reducible exact Kept.refl _

theorem execFrameSelfTestDone_kept (context physical frame : Nat) (found : FrameTest) (s : State) :
    Kept s (stateOf (execFrameSelfTestDone context physical frame found s) s) := by
  unfold execFrameSelfTestDone
  refine Kept.next ?_
  dsimp only
  with_reducible refine Kept.ite (fun _ => ?_) (fun _ => ?_)
  with_reducible refine Kept.ite (fun _ => ?_) (fun _ => ?_)
  with_reducible refine Kept.trans ?_ (State.endTest_kept _ _ _ _)
  with_reducible exact Kept.refl _
  with_reducible refine Kept.trans ?_ (State.framePermanent_kept _ _ _ _ _ _)
  with_reducible refine Kept.trans ?_ (State.endTest_kept _ _ _ _)
  with_reducible exact Kept.refl _
  with_reducible exact Kept.refl _

theorem execColumnRelocationDone_kept (region : Nat) (found : Found) (s : State) :
    Kept s (stateOf (execColumnRelocationDone region found s) s) := by
  unfold execColumnRelocationDone
  refine Kept.next ?_
  split
  with_reducible exact Kept.refl _
  split
  with_reducible exact Kept.refl _
  with_reducible refine Kept.trans ?_ (State.relocated_kept _ _ _ _ _)
  with_reducible exact Kept.refl _

theorem execGuardTmrCorrect_kept (physical : Nat) (s : State) : Kept s (stateOf (execGuardTmrCorrect physical s) s) := by
  unfold execGuardTmrCorrect
  refine Kept.next ?_
  with_reducible refine Kept.ite (fun _ => ?_) (fun _ => ?_)
  with_reducible refine Kept.trans ?_ (State.postLimited_kept _ _ _ _ _ _)
  with_reducible refine Kept.trans ?_ (State.incSat_kept _ _)
  with_reducible exact Kept.refl _
  with_reducible exact Kept.refl _

theorem State.scrubStarts_kept (s : State) : Kept s (State.scrubStarts s) := by
  unfold State.scrubStarts
  with_reducible refine Kept.mk_same ?_ rfl rfl rfl rfl rfl
  with_reducible exact Kept.refl _

theorem execGuardFailed_kept (physical : Nat) (inactiveLimit : Bool) (s : State) :
    Kept s (stateOf (execGuardFailed physical inactiveLimit s) s) := by
  unfold execGuardFailed
  refine Kept.next ?_
  with_reducible refine Kept.ite (fun _ => ?_) (fun _ => ?_)
  dsimp only
  with_reducible refine Kept.trans ?_ (State.post_kept _ _ _ _ _)
  with_reducible refine Kept.trans ?_ (State.addRecord_kept _ _)
  with_reducible refine Kept.trans ?_ (State.wr_kept _ _ _)
  with_reducible refine Kept.trans ?_ (State.addSatAt_kept _ _ _ _)
  with_reducible refine Kept.trans ?_ (State.wrBit_kept _ _ _ _)
  with_reducible refine Kept.ite (fun _ => ?_) (fun _ => ?_)
  with_reducible refine Kept.trans ?_ (State.scrubStarts_kept _)
  with_reducible exact Kept.refl _
  with_reducible exact Kept.refl _
  with_reducible exact Kept.refl _

theorem execRiserTransferError_kept (interface group : Nat) (s : State) :
    Kept s (stateOf (execRiserTransferError interface group s) s) := by
  unfold execRiserTransferError
  refine Kept.next ?_
  with_reducible refine Kept.ite (fun _ => ?_) (fun _ => ?_)
  with_reducible refine Kept.trans ?_ (State.startTest_kept _ _ _ _ _)
  with_reducible refine Kept.trans ?_ (State.addSatAt_kept _ _ _ _)
  with_reducible exact Kept.refl _
  with_reducible exact Kept.refl _

theorem execExpressTapMismatch_kept (group : Nat) (s : State) : Kept s (stateOf (execExpressTapMismatch group s) s) := by
  unfold execExpressTapMismatch
  refine Kept.next ?_
  with_reducible refine Kept.ite (fun _ => ?_) (fun _ => ?_)
  with_reducible refine Kept.trans ?_ (State.startTest_kept _ _ _ _ _)
  with_reducible refine Kept.trans ?_ (State.addSatAt_kept _ _ _ _)
  with_reducible exact Kept.refl _
  with_reducible exact Kept.refl _

theorem execRiserTestDone_kept (interface group : Nat) (failedSignal : Option Nat) (s : State) :
    Kept s (stateOf (execRiserTestDone interface group failedSignal s) s) := by
  unfold execRiserTestDone
  refine Kept.next ?_
  dsimp only
  with_reducible refine Kept.ite (fun _ => ?_) (fun _ => ?_)
  split
  with_reducible refine Kept.trans ?_ (State.signalFailed_kept _ _ _ _ _)
  with_reducible refine Kept.trans ?_ (State.endTest_kept _ _ _ _)
  with_reducible exact Kept.refl _
  with_reducible refine Kept.trans ?_ (State.retireGroup_kept _ _ _ _)
  with_reducible refine Kept.trans ?_ (State.endTest_kept _ _ _ _)
  with_reducible exact Kept.refl _
  with_reducible refine Kept.trans ?_ (State.endTest_kept _ _ _ _)
  with_reducible exact Kept.refl _
  with_reducible exact Kept.refl _

theorem State.unitTestDone_kept (s : State) (far : Bool) (u : Nat) (pass : Bool) :
    Kept s (State.unitTestDone s far u pass) := by
  unfold State.unitTestDone
  with_reducible refine Kept.ite (fun _ => ?_) (fun _ => ?_)
  dsimp only
  with_reducible refine Kept.ite (fun _ => ?_) (fun _ => ?_)
  with_reducible refine Kept.trans ?_ (State.endTest_kept _ _ _ _)
  with_reducible exact Kept.refl _
  with_reducible refine Kept.trans ?_ (State.retireUnit_kept _ _ _ _)
  with_reducible refine Kept.trans ?_ (State.endTest_kept _ _ _ _)
  with_reducible exact Kept.refl _
  with_reducible exact Kept.refl _

theorem execStoreBankTestDone_kept (bank : Nat) (pass : Bool) (s : State) :
    Kept s (stateOf (execStoreBankTestDone bank pass s) s) := by
  unfold execStoreBankTestDone
  refine Kept.next ?_
  with_reducible refine Kept.trans ?_ (State.unitTestDone_kept _ _ _ _)
  with_reducible exact Kept.refl _

theorem execFarChannelTestDone_kept (channel : Nat) (pass : Bool) (s : State) :
    Kept s (stateOf (execFarChannelTestDone channel pass s) s) := by
  unfold execFarChannelTestDone
  refine Kept.next ?_
  with_reducible refine Kept.trans ?_ (State.unitTestDone_kept _ _ _ _)
  with_reducible exact Kept.refl _

theorem execLaneTestDone_kept (lane : Nat) (pass : Bool) (s : State) : Kept s (stateOf (execLaneTestDone lane pass s) s) := by
  unfold execLaneTestDone
  refine Kept.next ?_
  with_reducible refine Kept.ite (fun _ => ?_) (fun _ => ?_)
  dsimp only
  with_reducible refine Kept.ite (fun _ => ?_) (fun _ => ?_)
  with_reducible refine Kept.trans ?_ (State.becomeSpare_kept _ _)
  with_reducible refine Kept.trans ?_ (State.laneSettle_kept _ _)
  with_reducible refine Kept.trans ?_ (State.endTest_kept _ _ _ _)
  with_reducible exact Kept.refl _
  with_reducible refine Kept.trans ?_ (State.retireLane_kept _ _ _)
  with_reducible refine Kept.trans ?_ (State.endTest_kept _ _ _ _)
  with_reducible exact Kept.refl _
  with_reducible exact Kept.refl _

theorem execHltAffectedFlows_kept (id : Nat) (s : State) : Kept s (stateOf (execHltAffectedFlows id s) s) := by
  unfold execHltAffectedFlows
  refine Kept.next ?_
  with_reducible refine Kept.ite (fun _ => ?_) (fun _ => ?_)
  with_reducible refine Kept.trans ?_ (State.runCmd_kept _ _ _ _ ?_)
  with_reducible exact Kept.refl _
  intro _ _
  dsimp only
  with_reducible refine Kept.trans ?_ (State.hostWrite_kept _ _ _)
  with_reducible refine Kept.mk_same ?_ rfl rfl rfl rfl rfl
  with_reducible exact Kept.refl _
  with_reducible exact Kept.refl _

theorem execHltRecords_kept (id : Nat) (s : State) : Kept s (stateOf (execHltRecords id s) s) := by
  unfold execHltRecords
  refine Kept.next ?_
  with_reducible refine Kept.ite (fun _ => ?_) (fun _ => ?_)
  with_reducible refine Kept.trans ?_ (State.runCmd_kept _ _ _ _ ?_)
  with_reducible exact Kept.refl _
  intro _ _
  dsimp only
  with_reducible refine Kept.trans ?_ (State.hostWrite_kept _ _ _)
  with_reducible exact Kept.refl _
  with_reducible exact Kept.refl _

theorem State.testLane_kept (s : State) (n : Nat) : Kept s (State.testLane s n) := by
  unfold State.testLane
  with_reducible refine Kept.ite (fun _ => ?_) (fun _ => ?_)
  with_reducible exact Kept.refl _
  with_reducible refine Kept.trans ?_ (State.bondFault_kept _ _)
  with_reducible refine Kept.trans ?_ (State.laneTo_kept _ _ _ _)
  with_reducible exact Kept.refl _

theorem execHltTest_kept (id : Nat) (s : State) : Kept s (stateOf (execHltTest id s) s) := by
  unfold execHltTest
  refine Kept.next ?_
  with_reducible refine Kept.trans ?_ (State.startCmd_kept _ _ _ _ ?_)
  with_reducible exact Kept.refl _
  intro _ _
  dsimp only
  split
  dsimp only
  with_reducible exact Kept.refl _
  split
  dsimp only
  with_reducible exact Kept.refl _
  split
  dsimp only
  with_reducible exact Kept.refl _
  split
  dsimp only
  with_reducible exact Kept.refl _
  dsimp only
  with_reducible refine Kept.trans ?_ (State.startTest_kept _ _ _ _ _)
  with_reducible refine Kept.ite (fun _ => ?_) (fun _ => ?_)
  with_reducible refine Kept.trans ?_ (State.testLane_kept _ _)
  with_reducible exact Kept.refl _
  with_reducible exact Kept.refl _

end Sys2Proof.Machine
end

