-- ==== Sys2Proof/Laws/KeptLifeOps.lean ====
section
/-! SUPPORT. `Kept` for the functions of Machine/LifeOps.lean. -/

namespace Sys2Proof.Machine

open Sys2Proof

theorem State.setGroup_kept (s : State) (g : Nat) (x : RowGroup) : Kept s (State.setGroup s g x) := by
  unfold State.setGroup
  with_reducible refine Kept.mk_same ?_ rfl rfl rfl rfl rfl
  with_reducible exact Kept.refl _

theorem State.showRow_kept (s : State) : Kept s (State.showRow s) := by
  unfold State.showRow
  with_reducible refine Kept.trans ?_ (State.wr_kept _ _ _)
  with_reducible refine Kept.trans ?_ (State.wr_kept _ _ _)
  with_reducible refine Kept.trans ?_ (State.wr_kept _ _ _)
  with_reducible refine Kept.trans ?_ (State.wr_kept _ _ _)
  with_reducible exact Kept.refl _

theorem State.showKeys_kept (s : State) : Kept s (State.showKeys s) := by
  unfold State.showKeys
  dsimp only
  with_reducible refine Kept.trans ?_ (Kept.foldl _ _ _ ?_)
  with_reducible refine Kept.trans ?_ (State.wr_kept _ _ _)
  with_reducible exact Kept.refl _
  intro _ _
  with_reducible refine Kept.trans ?_ (State.wrAt_kept _ _ _ _)
  with_reducible exact Kept.refl _

theorem State.setKeySlot_kept (s : State) (k : Nat) (x : KeySlot) : Kept s (State.setKeySlot s k x) := by
  unfold State.setKeySlot
  with_reducible refine Kept.trans ?_ (State.showKeys_kept _)
  with_reducible refine Kept.mk_same ?_ rfl rfl rfl rfl rfl
  with_reducible exact Kept.refl _

theorem State.killSlot_kept (s : State) (k : Nat) : Kept s (State.killSlot s k) := by
  unfold State.killSlot
  dsimp only
  with_reducible refine Kept.ite (fun _ => ?_) (fun _ => ?_)
  with_reducible exact Kept.refl _
  with_reducible refine Kept.trans ?_ (State.setKeySlot_kept _ _ _)
  with_reducible exact Kept.refl _

theorem State.authFailed_kept (s : State) (jtag : Bool) : Kept s (State.authFailed s jtag) := by
  unfold State.authFailed
  dsimp only
  with_reducible refine Kept.trans ?_ (State.post_kept _ _ _ _ _)
  with_reducible refine Kept.ite (fun _ => ?_) (fun _ => ?_)
  with_reducible refine Kept.trans ?_ (State.wr_kept _ _ _)
  with_reducible refine Kept.trans ?_ (State.addSatAt_kept _ _ _ _)
  with_reducible exact Kept.refl _
  with_reducible refine Kept.trans ?_ (State.addSatAt_kept _ _ _ _)
  with_reducible exact Kept.refl _

theorem State.useChallenge_kept (s : State) (jtag : Bool) : Kept s (State.useChallenge s jtag) := by
  unfold State.useChallenge
  with_reducible refine Kept.ite (fun _ => ?_) (fun _ => ?_)
  with_reducible refine Kept.trans ?_ (State.wr_kept _ _ _)
  with_reducible refine Kept.mk_same ?_ rfl rfl rfl rfl rfl
  with_reducible exact Kept.refl _
  with_reducible refine Kept.trans ?_ (State.wr_kept _ _ _)
  with_reducible refine Kept.mk_same ?_ rfl rfl rfl rfl rfl
  with_reducible exact Kept.refl _

theorem State.authenticate_kept (s : State) (jtag : Bool) (opcode target slot tag : Nat) :
    Kept s (State.authenticate s jtag opcode target slot tag).2 := by
  unfold State.authenticate
  split
  dsimp only
  with_reducible exact Kept.refl _
  split
  dsimp only
  with_reducible exact Kept.refl _
  dsimp only
  split
  dsimp only
  with_reducible refine Kept.trans ?_ (State.useChallenge_kept _ _)
  with_reducible exact Kept.refl _
  split
  dsimp only
  with_reducible refine Kept.trans ?_ (State.useChallenge_kept _ _)
  with_reducible exact Kept.refl _
  dsimp only
  with_reducible refine Kept.trans ?_ (State.authFailed_kept _ _)
  with_reducible refine Kept.trans ?_ (State.useChallenge_kept _ _)
  with_reducible exact Kept.refl _

theorem State.cellFailed_kept (s : State) (kind index : Nat) : Kept s (State.cellFailed s kind index) := by
  unfold State.cellFailed
  with_reducible refine Kept.trans ?_ (State.post_kept _ _ _ _ _)
  with_reducible exact Kept.refl _

theorem State.notePulse_kept (s : State) (p : Pulse) : Kept s (State.notePulse s p) := by
  unfold State.notePulse
  with_reducible refine Kept.mk_same ?_ rfl rfl rfl rfl rfl
  with_reducible exact Kept.refl _

theorem State.pulseGroup_kept (s : State) (g : Nat) : Kept s (State.pulseGroup s g).2 := by
  unfold State.pulseGroup
  dsimp only
  with_reducible refine Kept.ite (fun _ => ?_) (fun _ => ?_)
  with_reducible refine Kept.trans ?_ (State.showRow_kept _)
  with_reducible refine Kept.trans ?_ (State.setGroup_kept _ _ _)
  with_reducible exact Kept.refl _
  with_reducible refine Kept.trans ?_ (State.cellFailed_kept _ _ _)
  with_reducible refine Kept.trans ?_ (State.showRow_kept _)
  with_reducible refine Kept.trans ?_ (State.setGroup_kept _ _ _)
  with_reducible exact Kept.refl _

theorem State.privClear_kept (s : State) : Kept s (State.privClear s) := by
  unfold State.privClear
  dsimp only
  refine Kept.trans ?_ (State.discardStaging_kept _ _)
  refine Kept.trans ?_ (State.wr_kept _ _ _)
  refine Kept.trans ?_ (State.wr_kept _ _ _)
  exact ⟨rfl, le_rfl, fun h => ⟨h.1, rfl, h.2.2⟩⟩

theorem State.eraseSectors_kept (s : State) (l : List (Nat × Nat)) : Kept s (State.eraseSectors s l) := by
  unfold State.eraseSectors
  dsimp only
  with_reducible refine Kept.trans ?_ (Kept.foldl _ _ _ ?_)
  with_reducible refine Kept.mk_same ?_ rfl rfl rfl rfl rfl
  with_reducible exact Kept.refl _
  intro _ _
  with_reducible refine Kept.trans ?_ (State.addSatAt_kept _ _ _ _)
  with_reducible refine Kept.trans ?_ (State.wrAt_kept _ _ _ _)
  with_reducible refine Kept.trans ?_ (State.setSector_kept _ _ _ _)
  with_reducible exact Kept.refl _

theorem State.privWork_kept (s : State) (target k : Nat) : Kept s (State.privWork s target k) := by
  unfold State.privWork
  split
  with_reducible refine Kept.trans ?_ (Kept.foldl _ _ _ ?_)
  with_reducible exact Kept.refl _
  intro _ _
  with_reducible refine Kept.trans ?_ (State.killSlot_kept _ _)
  with_reducible exact Kept.refl _
  with_reducible refine Kept.trans ?_ (Kept.foldl _ _ _ ?_)
  with_reducible exact Kept.refl _
  intro _ _
  with_reducible refine Kept.ite (fun _ => ?_) (fun _ => ?_)
  with_reducible exact Kept.refl _
  with_reducible refine Kept.trans ?_ (State.pulseGroup_kept _ _)
  with_reducible exact Kept.refl _
  dsimp only
  with_reducible refine Kept.ite (fun _ => ?_) (fun _ => ?_)
  with_reducible refine Kept.trans ?_ (State.wr_kept _ _ _)
  with_reducible refine Kept.trans ?_ (State.eraseSectors_kept _ _)
  with_reducible exact Kept.refl _
  with_reducible refine Kept.trans ?_ (State.eraseSectors_kept _ _)
  with_reducible exact Kept.refl _

theorem State.privCut_kept (s : State) : Kept s (State.privCut s) := by
  unfold State.privCut
  split
  with_reducible exact Kept.refl _
  with_reducible exact Kept.refl _
  with_reducible refine Kept.trans ?_ (State.tookN_kept _ _)
  with_reducible refine Kept.trans ?_ (Kept.foldl _ _ _ ?_)
  with_reducible exact Kept.refl _
  intro _ _
  with_reducible refine Kept.ite (fun _ => ?_) (fun _ => ?_)
  with_reducible refine Kept.trans ?_ (State.killSlot_kept _ _)
  with_reducible exact Kept.refl _
  with_reducible exact Kept.refl _
  with_reducible refine Kept.trans ?_ (State.tookN_kept _ _)
  with_reducible refine Kept.trans ?_ (Kept.foldl _ _ _ ?_)
  with_reducible exact Kept.refl _
  intro _ _
  with_reducible refine Kept.ite (fun _ => ?_) (fun _ => ?_)
  with_reducible exact Kept.refl _
  with_reducible refine Kept.trans ?_ (State.setGroup_kept _ _ _)
  with_reducible exact Kept.refl _
  dsimp only
  with_reducible refine Kept.trans ?_ (State.tookN_kept _ _)
  with_reducible refine Kept.trans ?_ (Kept.foldl _ _ _ ?_)
  with_reducible exact Kept.refl _
  intro _ _
  with_reducible refine Kept.ite (fun _ => ?_) (fun _ => ?_)
  with_reducible refine Kept.trans ?_ (State.setSector_kept _ _ _ _)
  with_reducible exact Kept.refl _
  with_reducible exact Kept.refl _

theorem State.lifeReset_kept (s : State) : Kept s (State.lifeReset s) := by
  unfold State.lifeReset
  dsimp only
  with_reducible refine Kept.trans ?_ (State.wr_kept _ _ _)
  with_reducible refine Kept.trans ?_ (State.wr_kept _ _ _)
  with_reducible refine Kept.trans ?_ (State.showKeys_kept _)
  with_reducible refine Kept.trans ?_ (State.showRow_kept _)
  with_reducible refine Kept.trans ?_ (State.wr_kept _ _ _)
  with_reducible refine Kept.trans ?_ (State.wr_kept _ _ _)
  with_reducible exact Kept.refl _

theorem State.lifeStart_kept (s : State) : Kept s (State.lifeStart s) := by
  unfold State.lifeStart
  dsimp only
  split
  with_reducible refine Kept.mk_same ?_ rfl rfl rfl rfl rfl
  with_reducible refine Kept.trans ?_ (State.wr_kept _ _ _)
  with_reducible refine Kept.trans ?_ (State.privClear_kept _)
  with_reducible refine Kept.ite (fun _ => ?_) (fun _ => ?_)
  with_reducible refine Kept.trans ?_ (State.post_kept _ _ _ _ _)
  with_reducible refine Kept.trans ?_ (State.post_kept _ _ _ _ _)
  with_reducible exact Kept.refl _
  with_reducible refine Kept.trans ?_ (State.post_kept _ _ _ _ _)
  with_reducible exact Kept.refl _
  with_reducible refine Kept.ite (fun _ => ?_) (fun _ => ?_)
  with_reducible refine Kept.trans ?_ (State.post_kept _ _ _ _ _)
  with_reducible refine Kept.trans ?_ (State.post_kept _ _ _ _ _)
  with_reducible exact Kept.refl _
  with_reducible refine Kept.trans ?_ (State.post_kept _ _ _ _ _)
  with_reducible exact Kept.refl _

end Sys2Proof.Machine
end

