-- ==== Sys2Proof/Laws/KeptBootOps.lean ====
section
/-! SUPPORT. `Kept` for the functions of Machine/BootOps.lean. -/

namespace Sys2Proof.Machine

open Sys2Proof

theorem State.setBoot_kept (s : State) (b : Option BootRun) : Kept s (State.setBoot s b) := by
  unfold State.setBoot
  with_reducible refine Kept.mk_same ?_ rfl rfl rfl rfl rfl
  with_reducible exact Kept.refl _

theorem State.enterBoot_kept (s : State) (old : Nat) (b : BootRun) : Kept s (State.enterBoot s old b) := by
  unfold State.enterBoot
  dsimp only
  with_reducible refine Kept.trans ?_ (State.lifeReset_kept _)
  with_reducible refine Kept.trans ?_ (State.setBoot_kept _ _)
  with_reducible refine Kept.trans ?_ (State.leaveFor_kept _ _)
  with_reducible refine Kept.trans ?_ (State.wr_kept _ _ _)
  with_reducible exact Kept.refl _

theorem State.lanesStopped_kept (old : State) (s : State) : Kept s (State.lanesStopped old s) := by
  unfold State.lanesStopped
  with_reducible refine Kept.trans ?_ (Kept.foldl _ _ _ ?_)
  with_reducible exact Kept.refl _
  intro _ _
  with_reducible refine Kept.trans ?_ (State.post_kept _ _ _ _ _)
  with_reducible exact Kept.refl _

theorem State.resetCold_kept (s : State) (cause : Nat) : Kept s (State.resetCold s cause) := by
  unfold State.resetCold
  dsimp only
  with_reducible refine Kept.trans ?_ (State.lanesStopped_kept _ _)
  with_reducible refine Kept.trans ?_ (State.wr_kept _ _ _)
  with_reducible refine Kept.trans ?_ (State.enterBoot_kept _ _ _)
  with_reducible refine Kept.trans ?_ (State.keepPowerGood_kept _ _)
  with_reducible refine Kept.trans ?_ (State.coldState_kept _)
  with_reducible refine Kept.trans ?_ (State.privCut_kept _)
  with_reducible exact Kept.refl _

theorem State.resetWarm_kept (s : State) (cause : Nat) : Kept s (State.resetWarm s cause) := by
  unfold State.resetWarm
  dsimp only
  with_reducible refine Kept.trans ?_ (State.lanesStopped_kept _ _)
  with_reducible refine Kept.trans ?_ (State.wr_kept _ _ _)
  with_reducible refine Kept.trans ?_ (State.enterBoot_kept _ _ _)
  with_reducible refine Kept.trans ?_ (State.rejoinBonds_kept _)
  with_reducible refine Kept.trans ?_ (State.warmState_kept _)
  with_reducible refine Kept.trans ?_ (State.privCut_kept _)
  with_reducible exact Kept.refl _

theorem State.deepTime_kept (s : State) : Kept s (State.deepTime s) := by
  unfold State.deepTime
  dsimp only
  with_reducible refine Kept.trans ?_ (State.took_kept _)
  with_reducible refine Kept.trans ?_ (State.setTai_kept _ _)
  with_reducible refine Kept.mk_same ?_ rfl rfl rfl rfl rfl
  with_reducible exact Kept.refl _

theorem State.wakeDeep_kept (s : State) (cause : Nat) : Kept s (State.wakeDeep s cause) := by
  unfold State.wakeDeep
  dsimp only
  with_reducible refine Kept.mk_same ?_ rfl rfl rfl rfl rfl
  with_reducible refine Kept.trans ?_ (State.wr_kept _ _ _)
  with_reducible refine Kept.trans ?_ (State.enterBoot_kept _ _ _)
  with_reducible refine Kept.trans ?_ (State.rejoinBonds_kept _)
  with_reducible refine Kept.trans ?_ (State.deepState_kept _)
  with_reducible refine Kept.trans ?_ (State.privCut_kept _)
  with_reducible refine Kept.trans ?_ (State.deepTime_kept _)
  with_reducible exact Kept.refl _

theorem State.bootEvents_kept (s : State) (b : Nat) : Kept s (State.bootEvents s b) := by
  unfold State.bootEvents
  dsimp only
  with_reducible refine Kept.ite (fun _ => ?_) (fun _ => ?_)
  with_reducible refine Kept.trans ?_ (State.wr_kept _ _ _)
  with_reducible refine Kept.trans ?_ (State.post_kept _ _ _ _ _)
  with_reducible exact Kept.refl _
  with_reducible refine Kept.trans ?_ (State.post_kept _ _ _ _ _)
  with_reducible refine Kept.trans ?_ (State.wr_kept _ _ _)
  with_reducible refine Kept.trans ?_ (State.post_kept _ _ _ _ _)
  with_reducible exact Kept.refl _

theorem State.repeatErases_kept (s : State) : Kept s (State.repeatErases s) := by
  unfold State.repeatErases
  with_reducible refine Kept.trans ?_ (Kept.foldl _ _ _ ?_)
  with_reducible exact Kept.refl _
  intro _ _
  with_reducible refine Kept.ite (fun _ => ?_) (fun _ => ?_)
  with_reducible refine Kept.trans ?_ (State.eraseRecords_kept _ _)
  with_reducible exact Kept.refl _
  with_reducible exact Kept.refl _

theorem State.showGolden_kept (s : State) (found : Found) : Kept s (State.showGolden s found) := by
  unfold State.showGolden
  with_reducible refine Kept.trans ?_ (Kept.foldl _ _ _ ?_)
  with_reducible exact Kept.refl _
  intro _ _
  with_reducible refine Kept.trans ?_ (State.setGolden_kept _ _ _)
  with_reducible exact Kept.refl _

theorem State.senseBoot_kept (s : State) (found : Found) : Kept s (State.senseBoot s found) := by
  unfold State.senseBoot
  with_reducible refine Kept.trans ?_ (State.senseCodes_kept _ _ _)
  with_reducible exact Kept.refl _

theorem State.stewardBoots_kept (s : State) (found : Found) (b : Nat) : Kept s (State.stewardBoots s found b) := by
  unfold State.stewardBoots
  dsimp only
  with_reducible refine Kept.trans ?_ (State.lifeStart_kept _)
  with_reducible refine Kept.trans ?_ (State.showGolden_kept _ _)
  with_reducible refine Kept.trans ?_ (State.loadLifeline_kept _ _)
  with_reducible refine Kept.trans ?_ (State.applyRecords_kept _)
  with_reducible refine Kept.trans ?_ (State.repeatErases_kept _)
  with_reducible refine Kept.trans ?_ (State.bootEvents_kept _ _)
  with_reducible refine Kept.trans ?_ (State.stewardRewrites_kept _)
  with_reducible refine Kept.trans ?_ (State.wr_kept _ _ _)
  with_reducible refine Kept.mk_same ?_ rfl rfl rfl rfl rfl
  with_reducible exact Kept.refl _

theorem State.restoreRegion_kept (s : State) (found : Found) (r : Nat) : Kept s (State.restoreRegion s found r) := by
  unfold State.restoreRegion
  with_reducible refine Kept.ite (fun _ => ?_) (fun _ => ?_)
  with_reducible exact Kept.refl _
  dsimp only
  with_reducible refine Kept.ite (fun _ => ?_) (fun _ => ?_)
  with_reducible refine Kept.trans ?_ (State.wrMask_kept _ _ _ _)
  with_reducible refine Kept.trans ?_ (Kept.foldl _ _ _ ?_)
  with_reducible exact Kept.refl _
  intro _ _
  split
  with_reducible refine Kept.trans ?_ (State.writeMirror_kept _ _ _ _)
  with_reducible refine Kept.trans ?_ (State.writePlane_kept _ _ _ _)
  with_reducible exact Kept.refl _
  with_reducible exact Kept.refl _
  with_reducible refine Kept.trans ?_ (Kept.foldl _ _ _ ?_)
  with_reducible exact Kept.refl _
  intro _ _
  split
  with_reducible refine Kept.trans ?_ (State.writeMirror_kept _ _ _ _)
  with_reducible refine Kept.trans ?_ (State.writePlane_kept _ _ _ _)
  with_reducible exact Kept.refl _
  with_reducible exact Kept.refl _

theorem State.applyBoot_kept (s : State) (m : StreamImage) (mask : Nat) : Kept s (State.applyBoot s m mask) := by
  unfold State.applyBoot
  dsimp only
  with_reducible refine Kept.trans ?_ (State.startDesign_kept _ _ _ _)
  with_reducible refine Kept.trans ?_ (State.startPlls_kept _)
  with_reducible refine Kept.trans ?_ (State.wr_kept _ _ _)
  with_reducible refine Kept.trans ?_ (State.wr_kept _ _ _)
  with_reducible refine Kept.trans ?_ (State.recordDesign_kept _ _)
  with_reducible refine Kept.trans ?_ (State.recordPeaks_kept _ _)
  with_reducible refine Kept.trans ?_ (State.installDesign_kept _ _ _)
  with_reducible refine Kept.trans ?_ (State.settled_kept _ _)
  with_reducible exact Kept.refl _

theorem State.bootMode_kept (s : State) (b : BootRun) (n : Nat) : Kept s (State.bootMode s b n) := by
  unfold State.bootMode
  split
  with_reducible refine Kept.trans ?_ (State.wr_kept _ _ _)
  with_reducible refine Kept.trans ?_ (State.leaveFor_kept _ _)
  with_reducible exact Kept.refl _
  with_reducible refine Kept.trans ?_ (State.setMode_kept _ _)
  with_reducible refine Kept.trans ?_ (State.wr_kept _ _ _)
  with_reducible refine Kept.trans ?_ (State.startDesign_kept _ _ _ _)
  with_reducible exact Kept.refl _
  with_reducible refine Kept.trans ?_ (State.leaveFor_kept _ _)
  with_reducible refine Kept.trans ?_ (State.wr_kept _ _ _)
  with_reducible exact Kept.refl _
  with_reducible refine Kept.trans ?_ (State.leaveFor_kept _ _)
  with_reducible exact Kept.refl _
  with_reducible refine Kept.trans ?_ (State.wr_kept _ _ _)
  with_reducible refine Kept.trans ?_ (State.lanesSettle_kept _)
  with_reducible refine Kept.trans ?_ (State.leaveFor_kept _ _)
  with_reducible exact Kept.refl _

theorem State.promExited_kept (s : State) (path : Nat) : Kept s (State.promExited s path) := by
  unfold State.promExited
  dsimp only
  split
  with_reducible refine Kept.trans ?_ (State.complete_kept _ _ _)
  with_reducible refine Kept.trans ?_ (State.wr_kept _ _ _)
  with_reducible refine Kept.trans ?_ (State.post_kept _ _ _ _ _)
  with_reducible refine Kept.trans ?_ (State.routesDown_kept _)
  with_reducible refine Kept.trans ?_ (State.handBack_kept _)
  with_reducible exact Kept.refl _
  with_reducible refine Kept.trans ?_ (State.wr_kept _ _ _)
  with_reducible refine Kept.trans ?_ (State.post_kept _ _ _ _ _)
  with_reducible refine Kept.trans ?_ (State.routesDown_kept _)
  with_reducible refine Kept.trans ?_ (State.handBack_kept _)
  with_reducible exact Kept.refl _

theorem State.wokeBoot_kept (s : State) (waking : Option Nat) : Kept s (State.wokeBoot s waking) := by
  unfold State.wokeBoot
  split
  with_reducible refine Kept.trans ?_ (State.post_kept _ _ _ _ _)
  with_reducible refine Kept.trans ?_ (State.wr_kept _ _ _)
  with_reducible exact Kept.refl _
  with_reducible exact Kept.refl _

theorem State.tellTrip_kept (s : State) : Kept s (State.tellTrip s) := by
  unfold State.tellTrip
  with_reducible refine Kept.ite (fun _ => ?_) (fun _ => ?_)
  with_reducible refine Kept.trans ?_ (State.post_kept _ _ _ _ _)
  with_reducible exact Kept.refl _
  with_reducible exact Kept.refl _

theorem State.promHeld_kept (s : State) : Kept s (State.promHeld s) := by
  unfold State.promHeld
  with_reducible refine Kept.ite (fun _ => ?_) (fun _ => ?_)
  with_reducible refine Kept.mk_same ?_ rfl rfl rfl rfl rfl
  with_reducible exact Kept.refl _
  with_reducible exact Kept.refl _

theorem State.endBoot_kept (s : State) (b : BootRun) : Kept s (State.endBoot s b) := by
  unfold State.endBoot
  dsimp only
  with_reducible refine Kept.ite (fun _ => ?_) (fun _ => ?_)
  with_reducible refine Kept.trans ?_ (State.promWaiting_kept _)
  with_reducible refine Kept.trans ?_ (State.promHeld_kept _)
  with_reducible refine Kept.trans ?_ (State.promExited_kept _ _)
  with_reducible refine Kept.trans ?_ (State.post_kept _ _ _ _ _)
  with_reducible refine Kept.trans ?_ (State.wr_kept _ _ _)
  with_reducible refine Kept.trans ?_ (State.wr_kept _ _ _)
  with_reducible refine Kept.mk_same ?_ rfl rfl rfl rfl rfl
  with_reducible refine Kept.trans ?_ (State.bootMode_kept _ _ _)
  with_reducible refine Kept.trans ?_ (State.setBoot_kept _ _)
  with_reducible exact Kept.refl _
  with_reducible refine Kept.trans ?_ (State.promWaiting_kept _)
  with_reducible refine Kept.trans ?_ (State.promHeld_kept _)
  with_reducible refine Kept.trans ?_ (State.tellTrip_kept _)
  with_reducible refine Kept.trans ?_ (State.wokeBoot_kept _ _)
  with_reducible refine Kept.trans ?_ (State.post_kept _ _ _ _ _)
  with_reducible refine Kept.trans ?_ (State.wr_kept _ _ _)
  with_reducible refine Kept.trans ?_ (State.wr_kept _ _ _)
  with_reducible refine Kept.mk_same ?_ rfl rfl rfl rfl rfl
  with_reducible refine Kept.trans ?_ (State.bootMode_kept _ _ _)
  with_reducible refine Kept.trans ?_ (State.setBoot_kept _ _)
  with_reducible exact Kept.refl _

end Sys2Proof.Machine
end

