-- ==== Sys2Proof/Laws/KeptModes.lean ====
section
/-! SUPPORT. `Kept` for the functions of Machine/Modes.lean. -/

namespace Sys2Proof.Machine

open Sys2Proof

theorem execGlbResetWrite_kept (value : Nat) (s : State) : Kept s (stateOf (execGlbResetWrite value s) s) := by
  unfold execGlbResetWrite
  refine Kept.next ?_
  with_reducible refine Kept.ite (fun _ => ?_) (fun _ => ?_)
  dsimp only
  with_reducible refine Kept.mk_same ?_ rfl rfl rfl rfl rfl
  with_reducible exact Kept.refl _
  with_reducible exact Kept.refl _

theorem execColdReset_kept (s : State) : Kept s (stateOf (execColdReset s) s) := by
  unfold execColdReset
  refine Kept.next ?_
  split
  with_reducible refine Kept.trans ?_ (State.resetCold_kept _ _)
  with_reducible exact Kept.refl _
  with_reducible exact Kept.refl _

theorem execWarmReset_kept (s : State) : Kept s (stateOf (execWarmReset s) s) := by
  unfold execWarmReset
  refine Kept.next ?_
  split
  with_reducible refine Kept.trans ?_ (State.resetWarm_kept _ _)
  with_reducible exact Kept.refl _
  with_reducible exact Kept.refl _

theorem execVinPowerUp_kept (millivolts : Nat) (s : State) : Kept s (stateOf (execVinPowerUp millivolts s) s) := by
  unfold execVinPowerUp
  refine Kept.next ?_
  with_reducible refine Kept.ite (fun _ => ?_) (fun _ => ?_)
  with_reducible refine Kept.trans ?_ (State.resetCold_kept _ _)
  with_reducible refine Kept.mk_same ?_ rfl rfl rfl rfl rfl
  with_reducible exact Kept.refl _
  with_reducible exact Kept.refl _

theorem execRailsGood_kept (s : State) : Kept s (stateOf (execRailsGood s) s) := by
  unfold execRailsGood
  refine Kept.next ?_
  split
  with_reducible refine Kept.ite (fun _ => ?_) (fun _ => ?_)
  with_reducible exact Kept.refl _
  with_reducible refine Kept.trans ?_ (State.wr_kept _ _ _)
  with_reducible refine Kept.trans ?_ (State.setBoot_kept _ _)
  with_reducible exact Kept.refl _
  with_reducible exact Kept.refl _

theorem execStewardBootDone_kept (found : Found) (s0 : State) : Kept s0 (stateOf (execStewardBootDone found s0) s0) := by
  unfold execStewardBootDone
  refine Kept.next ?_
  dsimp only
  split
  with_reducible exact Kept.refl _
  with_reducible refine Kept.ite (fun _ => ?_) (fun _ => ?_)
  with_reducible exact Kept.refl _
  split
  with_reducible refine Kept.trans ?_ (State.setBoot_kept _ _)
  with_reducible refine Kept.mk_same ?_ rfl rfl rfl rfl rfl
  with_reducible refine Kept.trans ?_ (State.showRecords_kept _ _)
  with_reducible refine Kept.trans ?_ (State.senseBoot_kept _ _)
  with_reducible exact Kept.refl _
  with_reducible refine Kept.trans ?_ (State.setBoot_kept _ _)
  with_reducible refine Kept.trans ?_ (State.stewardBoots_kept _ _ _)
  with_reducible refine Kept.trans ?_ (State.showRecords_kept _ _)
  with_reducible refine Kept.trans ?_ (State.senseBoot_kept _ _)
  with_reducible exact Kept.refl _

theorem execContextRestoreDone_kept (found : Found) (s0 : State) : Kept s0 (stateOf (execContextRestoreDone found s0) s0) := by
  unfold execContextRestoreDone
  refine Kept.next ?_
  dsimp only
  split
  with_reducible exact Kept.refl _
  with_reducible refine Kept.ite (fun _ => ?_) (fun _ => ?_)
  with_reducible exact Kept.refl _
  with_reducible refine Kept.ite (fun _ => ?_) (fun _ => ?_)
  with_reducible refine Kept.trans ?_ (State.setBoot_kept _ _)
  with_reducible refine Kept.trans ?_ (State.wr_kept _ _ _)
  with_reducible refine Kept.mk_same ?_ rfl rfl rfl rfl rfl
  with_reducible refine Kept.ite (fun _ => ?_) (fun _ => ?_)
  with_reducible exact Kept.refl _
  with_reducible refine Kept.trans ?_ (State.senseCodes_kept _ _ _)
  with_reducible exact Kept.refl _
  with_reducible refine Kept.trans ?_ (State.setBoot_kept _ _)
  with_reducible refine Kept.trans ?_ (Kept.foldl _ _ _ ?_)
  with_reducible refine Kept.trans ?_ (State.wr_kept _ _ _)
  with_reducible refine Kept.mk_same ?_ rfl rfl rfl rfl rfl
  with_reducible refine Kept.ite (fun _ => ?_) (fun _ => ?_)
  with_reducible exact Kept.refl _
  with_reducible refine Kept.trans ?_ (State.senseCodes_kept _ _ _)
  with_reducible exact Kept.refl _
  intro _ _
  with_reducible refine Kept.trans ?_ (State.restoreRegion_kept _ _ _)
  with_reducible exact Kept.refl _

theorem execBootTagVerified_kept (found : Found) (s0 : State) : Kept s0 (stateOf (execBootTagVerified found s0) s0) := by
  unfold execBootTagVerified
  refine Kept.next ?_
  dsimp only
  split
  with_reducible exact Kept.refl _
  with_reducible refine Kept.ite (fun _ => ?_) (fun _ => ?_)
  with_reducible exact Kept.refl _
  split
  with_reducible refine Kept.trans ?_ (State.setBoot_kept _ _)
  with_reducible refine Kept.trans ?_ (State.senseCodes_kept _ _ _)
  with_reducible exact Kept.refl _
  with_reducible refine Kept.trans ?_ (State.setBoot_kept _ _)
  with_reducible refine Kept.ite (fun _ => ?_) (fun _ => ?_)
  with_reducible refine Kept.trans ?_ (State.senseCodes_kept _ _ _)
  with_reducible exact Kept.refl _
  with_reducible refine Kept.trans ?_ (State.applyBoot_kept _ _ _)
  with_reducible refine Kept.trans ?_ (State.senseCodes_kept _ _ _)
  with_reducible exact Kept.refl _

theorem execBootDone_kept (s : State) : Kept s (stateOf (execBootDone s) s) := by
  unfold execBootDone
  refine Kept.next ?_
  split
  with_reducible refine Kept.ite (fun _ => ?_) (fun _ => ?_)
  with_reducible refine Kept.trans ?_ (State.endBoot_kept _ _)
  with_reducible exact Kept.refl _
  with_reducible exact Kept.refl _
  with_reducible exact Kept.refl _

theorem State.noteWake_kept (s : State) (cause : Nat) : Kept s (State.noteWake s cause) := by
  unfold State.noteWake
  with_reducible refine Kept.ite (fun _ => ?_) (fun _ => ?_)
  with_reducible exact Kept.refl _
  with_reducible refine Kept.mk_same ?_ rfl rfl rfl rfl rfl
  with_reducible exact Kept.refl _

theorem State.wake_kept (s : State) (cause : Nat) : Kept s (State.wake s cause) := by
  unfold State.wake
  dsimp only
  with_reducible refine Kept.ite (fun _ => ?_) (fun _ => ?_)
  with_reducible refine Kept.trans ?_ (State.wakeDeep_kept _ _)
  with_reducible exact Kept.refl _
  with_reducible refine Kept.ite (fun _ => ?_) (fun _ => ?_)
  with_reducible refine Kept.ite (fun _ => ?_) (fun _ => ?_)
  with_reducible refine Kept.mk_same ?_ rfl rfl rfl rfl rfl
  with_reducible refine Kept.trans ?_ (State.resetCold_kept _ _)
  with_reducible exact Kept.refl _
  with_reducible exact Kept.refl _
  with_reducible refine Kept.ite (fun _ => ?_) (fun _ => ?_)
  with_reducible refine Kept.trans ?_ (State.noteWake_kept _ _)
  with_reducible exact Kept.refl _
  with_reducible exact Kept.refl _

theorem State.wakeArrives_kept (s : State) (cause : Nat) : Kept s (State.wakeArrives s cause) := by
  unfold State.wakeArrives
  with_reducible refine Kept.ite (fun _ => ?_) (fun _ => ?_)
  with_reducible exact Kept.refl _
  with_reducible refine Kept.trans ?_ (State.wake_kept _ _)
  with_reducible refine Kept.trans ?_ (State.pwrAbort_kept _ _)
  with_reducible exact Kept.refl _

theorem execWakeInput_kept (level : Bool) (s : State) : Kept s (stateOf (execWakeInput level s) s) := by
  unfold execWakeInput
  refine Kept.next ?_
  dsimp only
  with_reducible refine Kept.ite (fun _ => ?_) (fun _ => ?_)
  with_reducible refine Kept.mk_same ?_ rfl rfl rfl rfl rfl
  with_reducible exact Kept.refl _
  with_reducible refine Kept.ite (fun _ => ?_) (fun _ => ?_)
  with_reducible refine Kept.mk_same ?_ rfl rfl rfl rfl rfl
  with_reducible exact Kept.refl _
  with_reducible refine Kept.trans ?_ (State.wakeArrives_kept _ _)
  with_reducible refine Kept.mk_same ?_ rfl rfl rfl rfl rfl
  with_reducible exact Kept.refl _

theorem execAlarmFire_kept (comparator : Nat) (s : State) : Kept s (stateOf (execAlarmFire comparator s) s) := by
  unfold execAlarmFire
  refine Kept.next ?_
  with_reducible refine Kept.ite (fun _ => ?_) (fun _ => ?_)
  dsimp only
  with_reducible refine Kept.ite (fun _ => ?_) (fun _ => ?_)
  with_reducible refine Kept.trans ?_ (State.alarmFire_kept _ _)
  with_reducible exact Kept.refl _
  with_reducible refine Kept.ite (fun _ => ?_) (fun _ => ?_)
  with_reducible refine Kept.trans ?_ (State.wakeArrives_kept _ _)
  with_reducible refine Kept.mk_same ?_ rfl rfl rfl rfl rfl
  with_reducible refine Kept.trans ?_ (State.alarmFire_kept _ _)
  with_reducible exact Kept.refl _
  with_reducible refine Kept.mk_same ?_ rfl rfl rfl rfl rfl
  with_reducible refine Kept.trans ?_ (State.alarmFire_kept _ _)
  with_reducible exact Kept.refl _
  with_reducible exact Kept.refl _

theorem execPerstRelease_kept (s : State) : Kept s (stateOf (execPerstRelease s) s) := by
  unfold execPerstRelease
  refine Kept.next ?_
  dsimp only
  with_reducible refine Kept.ite (fun _ => ?_) (fun _ => ?_)
  with_reducible refine Kept.trans ?_ (State.wake_kept _ _)
  with_reducible refine Kept.trans ?_ (State.perstRelease_kept _)
  with_reducible exact Kept.refl _
  with_reducible refine Kept.trans ?_ (State.perstRelease_kept _)
  with_reducible exact Kept.refl _

theorem State.restorePower_kept (s : State) : Kept s (State.restorePower s) := by
  unfold State.restorePower
  dsimp only
  with_reducible refine Kept.ite (fun _ => ?_) (fun _ => ?_)
  with_reducible refine Kept.trans ?_ (State.setMode_kept _ _)
  with_reducible refine Kept.ite (fun _ => ?_) (fun _ => ?_)
  with_reducible refine Kept.trans ?_ (State.startPlls_kept _)
  with_reducible refine Kept.trans ?_ (State.wr_kept _ _ _)
  with_reducible refine Kept.trans ?_ (State.wr_kept _ _ _)
  with_reducible exact Kept.refl _
  with_reducible refine Kept.trans ?_ (State.wr_kept _ _ _)
  with_reducible refine Kept.trans ?_ (State.wr_kept _ _ _)
  with_reducible exact Kept.refl _
  with_reducible refine Kept.ite (fun _ => ?_) (fun _ => ?_)
  with_reducible refine Kept.trans ?_ (State.lanesSettle_kept _)
  with_reducible refine Kept.trans ?_ (State.gateAll_kept _ _)
  with_reducible refine Kept.trans ?_ (State.setMode_kept _ _)
  with_reducible refine Kept.ite (fun _ => ?_) (fun _ => ?_)
  with_reducible refine Kept.trans ?_ (State.startPlls_kept _)
  with_reducible refine Kept.trans ?_ (State.wr_kept _ _ _)
  with_reducible refine Kept.trans ?_ (State.wr_kept _ _ _)
  with_reducible exact Kept.refl _
  with_reducible refine Kept.trans ?_ (State.wr_kept _ _ _)
  with_reducible refine Kept.trans ?_ (State.wr_kept _ _ _)
  with_reducible exact Kept.refl _
  with_reducible refine Kept.trans ?_ (State.gateAll_kept _ _)
  with_reducible refine Kept.trans ?_ (State.setMode_kept _ _)
  with_reducible refine Kept.ite (fun _ => ?_) (fun _ => ?_)
  with_reducible refine Kept.trans ?_ (State.startPlls_kept _)
  with_reducible refine Kept.trans ?_ (State.wr_kept _ _ _)
  with_reducible refine Kept.trans ?_ (State.wr_kept _ _ _)
  with_reducible exact Kept.refl _
  with_reducible refine Kept.trans ?_ (State.wr_kept _ _ _)
  with_reducible refine Kept.trans ?_ (State.wr_kept _ _ _)
  with_reducible exact Kept.refl _

theorem State.leaveState_kept (s : State) (cause : Nat) : Kept s (State.leaveState s cause) := by
  unfold State.leaveState
  dsimp only
  with_reducible refine Kept.trans ?_ (Kept.foldl _ _ _ ?_)
  with_reducible refine Kept.trans ?_ (State.post_kept _ _ _ _ _)
  with_reducible refine Kept.trans ?_ (State.wr_kept _ _ _)
  with_reducible refine Kept.mk_same ?_ rfl rfl rfl rfl rfl
  with_reducible refine Kept.trans ?_ (State.restorePower_kept _)
  with_reducible exact Kept.refl _
  intro _ _
  with_reducible refine Kept.trans ?_ (State.complete_kept _ _ _)
  with_reducible exact Kept.refl _

theorem execWakeDone_kept (s : State) : Kept s (stateOf (execWakeDone s) s) := by
  unfold execWakeDone
  refine Kept.next ?_
  split
  with_reducible refine Kept.ite (fun _ => ?_) (fun _ => ?_)
  with_reducible refine Kept.trans ?_ (State.leaveState_kept _ _)
  with_reducible exact Kept.refl _
  with_reducible exact Kept.refl _
  with_reducible exact Kept.refl _

theorem execPwrEnter_kept (id : Nat) (s : State) : Kept s (stateOf (execPwrEnter id s) s) := by
  unfold execPwrEnter
  refine Kept.next ?_
  with_reducible refine Kept.trans ?_ (State.startCmd_kept _ _ _ _ ?_)
  with_reducible exact Kept.refl _
  intro _ _
  dsimp only
  split
  dsimp only
  with_reducible exact Kept.refl _
  split
  dsimp only
  with_reducible exact Kept.refl _
  split
  dsimp only
  with_reducible exact Kept.refl _
  split
  dsimp only
  with_reducible exact Kept.refl _
  split
  dsimp only
  with_reducible refine Kept.trans ?_ (State.pwrRecord_kept _ _ _ _ _)
  with_reducible exact Kept.refl _
  dsimp only
  with_reducible refine Kept.trans ?_ (State.wr_kept _ _ _)
  with_reducible refine Kept.mk_same ?_ rfl rfl rfl rfl rfl
  with_reducible exact Kept.refl _

theorem execPwrQuiesceDone_kept (s : State) : Kept s (stateOf (execPwrQuiesceDone s) s) := by
  unfold execPwrQuiesceDone
  refine Kept.next ?_
  split
  with_reducible exact Kept.refl _
  with_reducible refine Kept.ite (fun _ => ?_) (fun _ => ?_)
  with_reducible exact Kept.refl _
  split
  with_reducible refine Kept.trans ?_ (State.pwrAbort_kept _ _)
  with_reducible exact Kept.refl _
  dsimp only
  with_reducible refine Kept.mk_same ?_ rfl rfl rfl rfl rfl
  with_reducible refine Kept.ite (fun _ => ?_) (fun _ => ?_)
  with_reducible refine Kept.trans ?_ (State.drainCompletions_kept _)
  with_reducible refine Kept.trans ?_ (State.complete_kept _ _ _)
  with_reducible refine Kept.trans ?_ (State.gateAll_kept _ _)
  with_reducible exact Kept.refl _
  with_reducible refine Kept.trans ?_ (State.gateAll_kept _ _)
  with_reducible exact Kept.refl _

theorem State.enterSleep_kept (s : State) : Kept s (State.enterSleep s) := by
  unfold State.enterSleep
  dsimp only
  with_reducible refine Kept.trans ?_ (State.wr_kept _ _ _)
  with_reducible refine Kept.trans ?_ (State.lanesSettle_kept _)
  with_reducible refine Kept.trans ?_ (State.setMode_kept _ _)
  with_reducible refine Kept.trans ?_ (Kept.foldl _ _ _ ?_)
  with_reducible refine Kept.mk_same ?_ rfl rfl rfl rfl rfl
  with_reducible exact Kept.refl _
  intro _ _
  with_reducible refine Kept.trans ?_ (State.wrAt_kept _ _ _ _)
  with_reducible refine Kept.trans ?_ (State.wrAt_kept _ _ _ _)
  with_reducible exact Kept.refl _

theorem State.enterDeep_kept (s : State) : Kept s (State.enterDeep s) := by
  unfold State.enterDeep
  dsimp only
  with_reducible refine Kept.mk_same ?_ rfl rfl rfl rfl rfl
  with_reducible refine Kept.trans ?_ (State.showMode_kept _ _)
  with_reducible refine Kept.trans ?_ (State.setLands_kept _ _)
  with_reducible refine Kept.trans ?_ (State.wr_kept _ _ _)
  with_reducible refine Kept.trans ?_ (State.wr_kept _ _ _)
  with_reducible refine Kept.trans ?_ (State.rejoinBonds_kept _)
  with_reducible refine Kept.trans ?_ (State.deepState_kept _)
  with_reducible refine Kept.trans ?_ (State.privCut_kept _)
  with_reducible refine Kept.trans ?_ (State.lanesSettle_kept _)
  with_reducible refine Kept.trans ?_ (State.leaveFor_kept _ _)
  with_reducible exact Kept.refl _

theorem State.enterState_kept (s : State) (target : Nat) : Kept s (State.enterState s target) := by
  unfold State.enterState
  split
  with_reducible refine Kept.trans ?_ (State.wr_kept _ _ _)
  with_reducible refine Kept.trans ?_ (State.setMode_kept _ _)
  with_reducible exact Kept.refl _
  with_reducible refine Kept.trans ?_ (State.wr_kept _ _ _)
  with_reducible refine Kept.trans ?_ (State.enterSleep_kept _)
  with_reducible exact Kept.refl _
  with_reducible refine Kept.trans ?_ (State.enterDeep_kept _)
  with_reducible exact Kept.refl _
  with_reducible refine Kept.trans ?_ (State.enterOff_kept _)
  with_reducible exact Kept.refl _

theorem State.promWake_kept (s : State) : Kept s (State.promWake s) := by
  unfold State.promWake
  with_reducible refine Kept.trans ?_ (State.post_kept _ _ _ _ _)
  with_reducible refine Kept.trans ?_ (State.wr_kept _ _ _)
  with_reducible exact Kept.refl _

theorem State.afterCommit_kept (s : State) (lv : Option Nat) : Kept s (State.afterCommit s lv) := by
  unfold State.afterCommit
  dsimp only
  with_reducible refine Kept.ite (fun _ => ?_) (fun _ => ?_)
  with_reducible refine Kept.trans ?_ (State.promWaiting_kept _)
  with_reducible refine Kept.ite (fun _ => ?_) (fun _ => ?_)
  with_reducible refine Kept.trans ?_ (State.promHeld_kept _)
  with_reducible refine Kept.trans ?_ (State.promWake_kept _)
  with_reducible exact Kept.refl _
  with_reducible exact Kept.refl _
  split
  with_reducible refine Kept.trans ?_ (State.wake_kept _ _)
  with_reducible refine Kept.ite (fun _ => ?_) (fun _ => ?_)
  with_reducible refine Kept.trans ?_ (State.promHeld_kept _)
  with_reducible refine Kept.trans ?_ (State.promWake_kept _)
  with_reducible exact Kept.refl _
  with_reducible exact Kept.refl _
  with_reducible refine Kept.ite (fun _ => ?_) (fun _ => ?_)
  with_reducible refine Kept.trans ?_ (State.promHeld_kept _)
  with_reducible refine Kept.trans ?_ (State.promWake_kept _)
  with_reducible exact Kept.refl _
  with_reducible exact Kept.refl _

theorem execPwrCommit_kept (s : State) : Kept s (stateOf (execPwrCommit s) s) := by
  unfold execPwrCommit
  refine Kept.next ?_
  dsimp only
  split
  with_reducible exact Kept.refl _
  with_reducible refine Kept.ite (fun _ => ?_) (fun _ => ?_)
  with_reducible exact Kept.refl _
  with_reducible refine Kept.trans ?_ (State.afterCommit_kept _ _)
  with_reducible refine Kept.trans ?_ (State.complete_kept _ _ _)
  with_reducible refine Kept.trans ?_ (State.enterState_kept _ _)
  with_reducible refine Kept.trans ?_ (State.post_kept _ _ _ _ _)
  with_reducible refine Kept.trans ?_ (State.incSat_kept _ _)
  with_reducible refine Kept.trans ?_ (State.wr_kept _ _ _)
  with_reducible refine Kept.mk_same ?_ rfl rfl rfl rfl rfl
  with_reducible refine Kept.ite (fun _ => ?_) (fun _ => ?_)
  with_reducible refine Kept.trans ?_ (State.resTie_kept _ _)
  with_reducible exact Kept.refl _
  with_reducible exact Kept.refl _

theorem execPwrExit_kept (id : Nat) (s : State) : Kept s (stateOf (execPwrExit id s) s) := by
  unfold execPwrExit
  refine Kept.next ?_
  with_reducible refine Kept.trans ?_ (State.startCmd_kept _ _ _ _ ?_)
  with_reducible exact Kept.refl _
  intro _ _
  split
  dsimp only
  with_reducible refine Kept.mk_same ?_ rfl rfl rfl rfl rfl
  with_reducible refine Kept.trans ?_ (State.noteWake_kept _ _)
  with_reducible refine Kept.ite (fun _ => ?_) (fun _ => ?_)
  with_reducible exact Kept.refl _
  with_reducible refine Kept.trans ?_ (State.pwrAbort_kept _ _)
  with_reducible exact Kept.refl _
  dsimp only
  with_reducible exact Kept.refl _

theorem execServiceEnter_kept (id : Nat) (s : State) : Kept s (stateOf (execServiceEnter id s) s) := by
  unfold execServiceEnter
  refine Kept.next ?_
  with_reducible refine Kept.trans ?_ (State.runCmd_kept _ _ _ _ ?_)
  with_reducible exact Kept.refl _
  intro _ _
  split
  dsimp only
  with_reducible exact Kept.refl _
  split
  dsimp only
  with_reducible exact Kept.refl _
  dsimp only
  with_reducible refine Kept.trans ?_ (State.wr_kept _ _ _)
  with_reducible refine Kept.trans ?_ (State.wr_kept _ _ _)
  with_reducible refine Kept.trans ?_ (State.lanesSettle_kept _)
  with_reducible refine Kept.trans ?_ (State.leaveFor_kept _ _)
  with_reducible refine Kept.trans ?_ (State.gateAll_kept _ _)
  with_reducible exact Kept.refl _

theorem State.firstAccess_kept (s : State) (far : Bool) (stallNs : Nat) : Kept s (State.firstAccess s far stallNs) := by
  unfold State.firstAccess
  dsimp only
  with_reducible refine Kept.trans ?_ (State.post_kept _ _ _ _ _)
  with_reducible refine Kept.trans ?_ (State.wr_kept _ _ _)
  with_reducible refine Kept.trans ?_ (State.incSat_kept _ _)
  with_reducible exact Kept.refl _

theorem execFirstAccessWake_kept (far : Bool) (stallNs : Nat) (s : State) :
    Kept s (stateOf (execFirstAccessWake far stallNs s) s) := by
  unfold execFirstAccessWake
  refine Kept.next ?_
  with_reducible refine Kept.ite (fun _ => ?_) (fun _ => ?_)
  with_reducible exact Kept.refl _
  dsimp only
  with_reducible refine Kept.ite (fun _ => ?_) (fun _ => ?_)
  with_reducible refine Kept.ite (fun _ => ?_) (fun _ => ?_)
  with_reducible refine Kept.mk_same ?_ rfl rfl rfl rfl rfl
  with_reducible refine Kept.trans ?_ (State.wr_kept _ _ _)
  with_reducible refine Kept.trans ?_ (State.firstAccess_kept _ _ _)
  with_reducible refine Kept.trans ?_ (State.pwrAbort_kept _ _)
  with_reducible exact Kept.refl _
  with_reducible refine Kept.trans ?_ (State.pwrAbort_kept _ _)
  with_reducible exact Kept.refl _
  with_reducible refine Kept.ite (fun _ => ?_) (fun _ => ?_)
  with_reducible refine Kept.trans ?_ (State.leaveState_kept _ _)
  with_reducible refine Kept.trans ?_ (State.firstAccess_kept _ _ _)
  with_reducible refine Kept.trans ?_ (State.pwrAbort_kept _ _)
  with_reducible exact Kept.refl _
  with_reducible refine Kept.trans ?_ (State.pwrAbort_kept _ _)
  with_reducible exact Kept.refl _

theorem execFarStoreIdleTimeout_kept (s : State) : Kept s (stateOf (execFarStoreIdleTimeout s) s) := by
  unfold execFarStoreIdleTimeout
  refine Kept.next ?_
  with_reducible refine Kept.ite (fun _ => ?_) (fun _ => ?_)
  with_reducible refine Kept.trans ?_ (State.wr_kept _ _ _)
  with_reducible exact Kept.refl _
  with_reducible exact Kept.refl _

theorem State.promRequest_kept (s : State) : Kept s (State.promRequest s) := by
  unfold State.promRequest
  with_reducible refine Kept.ite (fun _ => ?_) (fun _ => ?_)
  with_reducible refine Kept.trans ?_ (State.wake_kept _ _)
  with_reducible exact Kept.refl _
  with_reducible refine Kept.ite (fun _ => ?_) (fun _ => ?_)
  with_reducible refine Kept.trans ?_ (State.promenade_kept _ _)
  with_reducible refine Kept.trans ?_ (State.promWake_kept _)
  with_reducible refine Kept.trans ?_ (State.pwrAbort_kept _ _)
  with_reducible exact Kept.refl _
  with_reducible refine Kept.trans ?_ (State.promenade_kept _ _)
  with_reducible exact Kept.refl _

theorem State.wakeLevels_kept (s : State) : Kept s (State.wakeLevels s) := by
  unfold State.wakeLevels
  with_reducible refine Kept.ite (fun _ => ?_) (fun _ => ?_)
  split
  with_reducible refine Kept.ite (fun _ => ?_) (fun _ => ?_)
  with_reducible refine Kept.trans ?_ (State.promRequest_kept _)
  with_reducible exact Kept.refl _
  with_reducible refine Kept.trans ?_ (State.wake_kept _ _)
  with_reducible exact Kept.refl _
  with_reducible exact Kept.refl _
  with_reducible exact Kept.refl _

theorem execPromReqInput_kept (low : Bool) (s : State) : Kept s (stateOf (execPromReqInput low s) s) := by
  unfold execPromReqInput
  refine Kept.next ?_
  with_reducible refine Kept.ite (fun _ => ?_) (fun _ => ?_)
  with_reducible refine Kept.ite (fun _ => ?_) (fun _ => ?_)
  with_reducible exact Kept.refl _
  with_reducible refine Kept.trans ?_ (State.promRequest_kept _)
  with_reducible refine Kept.mk_same ?_ rfl rfl rfl rfl rfl
  with_reducible exact Kept.refl _
  with_reducible refine Kept.trans ?_ (State.wrMask_kept _ _ _ _)
  with_reducible refine Kept.mk_same ?_ rfl rfl rfl rfl rfl
  with_reducible exact Kept.refl _

end Sys2Proof.Machine
end

