-- ==== Sys2Proof/Laws/KeptPromenade.lean ====
section
/-! SUPPORT. `Kept` for the functions of Machine/Promenade.lean. -/

namespace Sys2Proof.Machine

open Sys2Proof

theorem execPromEnter_kept (id : Nat) (s : State) : Kept s (stateOf (execPromEnter id s) s) := by
  unfold execPromEnter
  refine Kept.next ?_
  with_reducible refine Kept.trans ?_ (State.runCmd_kept _ _ _ _ ?_)
  with_reducible exact Kept.refl _
  intro _ _
  dsimp only
  split
  dsimp only
  with_reducible exact Kept.refl _
  dsimp only
  with_reducible refine Kept.trans ?_ (State.promenade_kept _ _)
  with_reducible exact Kept.refl _

theorem State.promToLoad_kept (s : State) : Kept s (State.promToLoad s) := by
  unfold State.promToLoad
  dsimp only
  with_reducible refine Kept.trans ?_ (State.lanesSettle_kept _)
  with_reducible refine Kept.trans ?_ (State.setMode_kept _ _)
  with_reducible refine Kept.trans ?_ (State.wr_kept _ _ _)
  with_reducible refine Kept.trans ?_ (State.startDesign_kept _ _ _ _)
  with_reducible refine Kept.trans ?_ (State.startPlls_kept _)
  with_reducible refine Kept.mk_same ?_ rfl rfl rfl rfl rfl
  with_reducible refine Kept.trans ?_ (State.installClaims_kept _ _ _)
  with_reducible refine Kept.trans ?_ (State.enterLoad_kept _)
  with_reducible exact Kept.refl _

theorem State.promToBoot_kept (s : State) : Kept s (State.promToBoot s) := by
  unfold State.promToBoot
  dsimp only
  with_reducible refine Kept.trans ?_ (State.setBoot_kept _ _)
  with_reducible refine Kept.trans ?_ (State.wr_kept _ _ _)
  with_reducible refine Kept.trans ?_ (State.leaveFor_kept _ _)
  with_reducible refine Kept.trans ?_ (State.holdAll_kept _)
  with_reducible refine Kept.trans ?_ (State.dropDesign_kept _)
  with_reducible refine Kept.trans ?_ (State.goldenFail_kept _ _)
  with_reducible exact Kept.refl _

theorem execPromExit_kept (id : Nat) (s : State) : Kept s (stateOf (execPromExit id s) s) := by
  unfold execPromExit
  refine Kept.next ?_
  with_reducible refine Kept.trans ?_ (State.startCmd_kept _ _ _ _ ?_)
  with_reducible exact Kept.refl _
  intro _ _
  dsimp only
  split
  dsimp only
  with_reducible exact Kept.refl _
  split
  dsimp only
  with_reducible exact Kept.refl _
  split
  dsimp only
  with_reducible exact Kept.refl _
  split
  dsimp only
  with_reducible refine Kept.trans ?_ (State.promExited_kept _ _)
  with_reducible refine Kept.trans ?_ (State.promToLoad_kept _)
  with_reducible refine Kept.mk_same ?_ rfl rfl rfl rfl rfl
  with_reducible exact Kept.refl _
  dsimp only
  with_reducible refine Kept.trans ?_ (State.promToBoot_kept _)
  with_reducible refine Kept.mk_same ?_ rfl rfl rfl rfl rfl
  with_reducible exact Kept.refl _

theorem execRouteStateChange_kept (route : Nat) (up : Bool) (s : State) :
    Kept s (stateOf (execRouteStateChange route up s) s) := by
  unfold execRouteStateChange
  refine Kept.next ?_
  split
  with_reducible exact Kept.refl _
  with_reducible refine Kept.ite (fun _ => ?_) (fun _ => ?_)
  with_reducible exact Kept.refl _
  with_reducible refine Kept.trans ?_ (State.routeChange_kept _ _ _)
  with_reducible exact Kept.refl _

theorem State.frameSlip_kept (s : State) (r : Nat) (again : Bool) : Kept s (State.frameSlip s r again) := by
  unfold State.frameSlip
  with_reducible refine Kept.trans ?_ (State.post_kept _ _ _ _ _)
  with_reducible refine Kept.trans ?_ (State.addSatAt_kept _ _ _ _)
  with_reducible exact Kept.refl _

theorem State.routeWrite_kept (s : State) (a : Nat) (ws : List (Nat × Bool)) : Kept s (State.routeWrite s a ws) := by
  induction ws generalizing s a with
  | nil =>
    unfold State.routeWrite
    with_reducible exact Kept.refl _
  | cons a r ih =>
    unfold State.routeWrite
    with_reducible refine Kept.trans ?_ (ih ..)
    with_reducible refine Kept.trans ?_ (State.storePut_kept _ _ _)
    with_reducible exact Kept.refl _

theorem State.routeInput_kept (s : State) (r w : Nat) (words : List (Nat × Bool)) : Kept s (State.routeInput s r w words) := by
  unfold State.routeInput
  dsimp only
  with_reducible refine Kept.mk_same ?_ rfl rfl rfl rfl rfl
  with_reducible refine Kept.trans ?_ (State.routeWrite_kept _ _ _)
  with_reducible exact Kept.refl _

theorem execFrameSyncInputFrame_kept (route : Nat) (whole crosses : Bool) (words : List (Nat × Bool)) (s : State) :
    Kept s (stateOf (execFrameSyncInputFrame route whole crosses words s) s) := by
  unfold execFrameSyncInputFrame
  refine Kept.next ?_
  split
  with_reducible exact Kept.refl _
  with_reducible refine Kept.ite (fun _ => ?_) (fun _ => ?_)
  with_reducible exact Kept.refl _
  with_reducible refine Kept.ite (fun _ => ?_) (fun _ => ?_)
  with_reducible refine Kept.trans ?_ (State.frameSlip_kept _ _ _)
  with_reducible exact Kept.refl _
  with_reducible refine Kept.ite (fun _ => ?_) (fun _ => ?_)
  with_reducible exact Kept.refl _
  with_reducible refine Kept.trans ?_ (State.routeInput_kept _ _ _ _)
  with_reducible exact Kept.refl _

theorem execFrameSyncOutputFrame_kept (route : Nat) (crosses : Bool) (found : Found) (s : State) :
    Kept s (stateOf (execFrameSyncOutputFrame route crosses found s) s) := by
  unfold execFrameSyncOutputFrame
  refine Kept.next ?_
  dsimp only
  split
  with_reducible exact Kept.refl _
  with_reducible refine Kept.ite (fun _ => ?_) (fun _ => ?_)
  with_reducible exact Kept.refl _
  with_reducible refine Kept.ite (fun _ => ?_) (fun _ => ?_)
  with_reducible refine Kept.trans ?_ (State.frameSlip_kept _ _ _)
  with_reducible refine Kept.trans ?_ (State.addSatAt_kept _ _ _ _)
  with_reducible refine Kept.mk_same ?_ rfl rfl rfl rfl rfl
  with_reducible refine Kept.ite (fun _ => ?_) (fun _ => ?_)
  with_reducible refine Kept.trans ?_ (State.senseWords_kept _ _ _)
  with_reducible exact Kept.refl _
  with_reducible exact Kept.refl _
  with_reducible refine Kept.trans ?_ (State.addSatAt_kept _ _ _ _)
  with_reducible refine Kept.mk_same ?_ rfl rfl rfl rfl rfl
  with_reducible refine Kept.ite (fun _ => ?_) (fun _ => ?_)
  with_reducible refine Kept.trans ?_ (State.senseWords_kept _ _ _)
  with_reducible exact Kept.refl _
  with_reducible exact Kept.refl _

end Sys2Proof.Machine
end

