-- ==== Sys2Proof/Laws/KeptLifeCycle.lean ====
section
/-! SUPPORT. `Kept` for the functions of Machine/LifeCycle.lean. -/

namespace Sys2Proof.Machine

open Sys2Proof

theorem execLcsInfo_kept (id : Nat) (s : State) : Kept s (stateOf (execLcsInfo id s) s) := by
  unfold execLcsInfo
  refine Kept.next ?_
  with_reducible refine Kept.trans ?_ (State.runCmd_kept _ _ _ _ ?_)
  with_reducible exact Kept.refl _
  intro _ _
  dsimp only
  with_reducible exact Kept.refl _

theorem State.freshChallenge_kept (s : State) (jtag : Bool) : Kept s (State.freshChallenge s jtag) := by
  unfold State.freshChallenge
  dsimp only
  with_reducible refine Kept.ite (fun _ => ?_) (fun _ => ?_)
  with_reducible refine Kept.trans ?_ (State.took_kept _)
  with_reducible refine Kept.trans ?_ (State.wr_kept _ _ _)
  with_reducible refine Kept.mk_same ?_ rfl rfl rfl rfl rfl
  with_reducible exact Kept.refl _
  with_reducible refine Kept.trans ?_ (State.took_kept _)
  with_reducible refine Kept.trans ?_ (State.wr_kept _ _ _)
  with_reducible refine Kept.mk_same ?_ rfl rfl rfl rfl rfl
  with_reducible exact Kept.refl _

theorem execLcsChallenge_kept (id : Nat) (s : State) : Kept s (stateOf (execLcsChallenge id s) s) := by
  unfold execLcsChallenge
  refine Kept.next ?_
  with_reducible refine Kept.trans ?_ (State.runCmd_kept _ _ _ _ ?_)
  with_reducible exact Kept.refl _
  intro _ _
  dsimp only
  with_reducible refine Kept.trans ?_ (State.freshChallenge_kept _ _)
  with_reducible exact Kept.refl _

theorem State.keyWrite_kept (s : State) (k key : Nat) : Kept s (State.keyWrite s k key).2 := by
  unfold State.keyWrite
  dsimp only
  split
  dsimp only
  with_reducible refine Kept.trans ?_ (State.cellFailed_kept _ _ _)
  with_reducible refine Kept.trans ?_ (State.setKeySlot_kept _ _ _)
  with_reducible refine Kept.trans ?_ (State.notePulse_kept _ _)
  with_reducible exact Kept.refl _
  dsimp only
  with_reducible refine Kept.trans ?_ (State.post_kept _ _ _ _ _)
  with_reducible refine Kept.trans ?_ (State.setKeySlot_kept _ _ _)
  with_reducible refine Kept.trans ?_ (State.notePulse_kept _ _)
  with_reducible exact Kept.refl _

theorem execLcsKeyWrite_kept (id : Nat) (s : State) : Kept s (stateOf (execLcsKeyWrite id s) s) := by
  unfold execLcsKeyWrite
  refine Kept.next ?_
  with_reducible refine Kept.ite (fun _ => ?_) (fun _ => ?_)
  with_reducible exact Kept.refl _
  with_reducible refine Kept.trans ?_ (State.runCmd_kept _ _ _ _ ?_)
  with_reducible exact Kept.refl _
  intro _ _
  dsimp only
  split
  dsimp only
  with_reducible exact Kept.refl _
  split
  dsimp only
  with_reducible exact Kept.refl _
  split
  dsimp only
  with_reducible exact Kept.refl _
  split
  dsimp only
  with_reducible exact Kept.refl _
  with_reducible refine Kept.trans ?_ (State.keyWrite_kept _ _ _)
  with_reducible exact Kept.refl _

theorem State.programGroup_kept (s : State) (g t slot : Nat) : Kept s (State.programGroup s g t slot).2 := by
  unfold State.programGroup
  dsimp only
  split
  dsimp only
  with_reducible refine Kept.trans ?_ (State.post_kept _ _ _ _ _)
  with_reducible refine Kept.trans ?_ (State.incSat_kept _ _)
  with_reducible refine Kept.trans ?_ (State.pulseGroup_kept _ _)
  with_reducible exact Kept.refl _
  dsimp only
  with_reducible refine Kept.trans ?_ (State.pulseGroup_kept _ _)
  with_reducible exact Kept.refl _

theorem State.plainTransition_kept (s : State) (t slot : Nat) : Kept s (State.plainTransition s t slot).2 := by
  unfold State.plainTransition
  dsimp only
  split
  dsimp only
  with_reducible exact Kept.refl _
  split
  dsimp only
  with_reducible refine Kept.trans ?_ (State.cellFailed_kept _ _ _)
  with_reducible refine Kept.trans ?_ (State.setGroup_kept _ _ _)
  with_reducible exact Kept.refl _
  with_reducible refine Kept.trans ?_ (State.programGroup_kept _ _ _ _)
  with_reducible refine Kept.trans ?_ (State.notePulse_kept _ _)
  with_reducible refine Kept.trans ?_ (State.setGroup_kept _ _ _)
  with_reducible exact Kept.refl _

theorem State.privBegin_kept (s : State) (t : Nat) : Kept s (State.privBegin s t).2 := by
  unfold State.privBegin
  split
  dsimp only
  with_reducible refine Kept.trans ?_ (State.cellFailed_kept _ _ _)
  with_reducible exact Kept.refl _
  dsimp only
  with_reducible refine Kept.mk_same ?_ rfl rfl rfl rfl rfl
  with_reducible refine Kept.trans ?_ (State.wr_kept _ _ _)
  with_reducible refine Kept.trans ?_ (State.privClear_kept _)
  with_reducible refine Kept.trans ?_ (State.wr_kept _ _ _)
  with_reducible refine Kept.trans ?_ (State.wr_kept _ _ _)
  with_reducible exact Kept.refl _

theorem State.transition_kept (s : State) (t slot tag : Nat) : Kept s (State.transition s t slot tag).2 := by
  unfold State.transition
  split
  dsimp only
  with_reducible exact Kept.refl _
  dsimp only
  split
  dsimp only
  with_reducible refine Kept.trans ?_ (State.authenticate_kept _ _ _ _ _ _)
  with_reducible exact Kept.refl _
  split
  dsimp only
  with_reducible refine Kept.trans ?_ (State.authenticate_kept _ _ _ _ _ _)
  with_reducible exact Kept.refl _
  split
  with_reducible refine Kept.trans ?_ (State.privBegin_kept _ _)
  with_reducible refine Kept.trans ?_ (State.authenticate_kept _ _ _ _ _ _)
  with_reducible exact Kept.refl _
  with_reducible refine Kept.trans ?_ (State.plainTransition_kept _ _ _)
  with_reducible refine Kept.trans ?_ (State.authenticate_kept _ _ _ _ _ _)
  with_reducible exact Kept.refl _

theorem execLcsTransition_kept (id : Nat) (s : State) : Kept s (stateOf (execLcsTransition id s) s) := by
  unfold execLcsTransition
  refine Kept.next ?_
  dsimp only
  with_reducible refine Kept.ite (fun _ => ?_) (fun _ => ?_)
  with_reducible exact Kept.refl _
  with_reducible refine Kept.trans ?_ (State.runCmd_kept _ _ _ _ ?_)
  with_reducible exact Kept.refl _
  intro _ _
  with_reducible refine Kept.trans ?_ (State.transition_kept _ _ _ _)
  with_reducible exact Kept.refl _

theorem execRepeatTransition_kept (id : Nat) (s : State) : Kept s (stateOf (execRepeatTransition id s) s) := by
  unfold execRepeatTransition
  refine Kept.next ?_
  with_reducible refine Kept.ite (fun _ => ?_) (fun _ => ?_)
  with_reducible exact Kept.refl _
  with_reducible refine Kept.trans ?_ (State.runCmd_kept _ _ _ _ ?_)
  with_reducible exact Kept.refl _
  intro _ _
  dsimp only
  split
  dsimp only
  with_reducible exact Kept.refl _
  split
  dsimp only
  with_reducible exact Kept.refl _
  split
  dsimp only
  with_reducible refine Kept.trans ?_ (State.authenticate_kept _ _ _ _ _ _)
  with_reducible exact Kept.refl _
  split
  dsimp only
  with_reducible refine Kept.trans ?_ (State.authenticate_kept _ _ _ _ _ _)
  with_reducible exact Kept.refl _
  with_reducible refine Kept.trans ?_ (State.programGroup_kept _ _ _ _)
  with_reducible refine Kept.trans ?_ (State.notePulse_kept _ _)
  with_reducible refine Kept.trans ?_ (State.authenticate_kept _ _ _ _ _ _)
  with_reducible exact Kept.refl _

theorem State.markStep_kept (s : State) (t k : Nat) : Kept s (State.markStep s t k) := by
  unfold State.markStep
  dsimp only
  with_reducible refine Kept.ite (fun _ => ?_) (fun _ => ?_)
  with_reducible refine Kept.trans ?_ (State.showRow_kept _)
  with_reducible refine Kept.trans ?_ (State.incSat_kept _ _)
  with_reducible refine Kept.trans ?_ (State.wr_kept _ _ _)
  with_reducible refine Kept.trans ?_ (State.wr_kept _ _ _)
  with_reducible refine Kept.trans ?_ (State.post_kept _ _ _ _ _)
  with_reducible refine Kept.trans ?_ (State.wr_kept _ _ _)
  with_reducible exact Kept.refl _
  with_reducible refine Kept.trans ?_ (State.wr_kept _ _ _)
  with_reducible refine Kept.trans ?_ (State.post_kept _ _ _ _ _)
  with_reducible refine Kept.trans ?_ (State.wr_kept _ _ _)
  with_reducible exact Kept.refl _

theorem execPrivilegedStepDone_kept (s : State) : Kept s (stateOf (execPrivilegedStepDone s) s) := by
  unfold execPrivilegedStepDone
  refine Kept.next ?_
  split
  with_reducible exact Kept.refl _
  dsimp only
  with_reducible refine Kept.ite (fun _ => ?_) (fun _ => ?_)
  with_reducible exact Kept.refl _
  with_reducible refine Kept.ite (fun _ => ?_) (fun _ => ?_)
  with_reducible refine Kept.trans ?_ (State.privWork_kept _ _ _)
  with_reducible exact Kept.refl _
  with_reducible refine Kept.ite (fun _ => ?_) (fun _ => ?_)
  with_reducible refine Kept.trans ?_ (State.cellFailed_kept _ _ _)
  with_reducible refine Kept.trans ?_ (State.privWork_kept _ _ _)
  with_reducible exact Kept.refl _
  with_reducible refine Kept.trans ?_ (State.markStep_kept _ _ _)
  with_reducible refine Kept.trans ?_ (State.privWork_kept _ _ _)
  with_reducible exact Kept.refl _

theorem State.debug_kept (s : State) (owner : Bool) (act : State → State) (h : ∀ x, Kept x (act x)) :
    Kept s (State.debug s owner act) := by
  unfold State.debug
  refine Kept.ite (fun _ => Kept.refl s) fun _ => Kept.ite (fun _ => ?_) fun _ => ?_
  · exact (State.setJtag_kept _ _).trans (h _)
  · exact (State.setJtag_kept _ _).trans (State.incSat_kept _ _)

theorem execDbgChallenge_kept (s : State) : Kept s (stateOf (execDbgChallenge s) s) := by
  unfold execDbgChallenge
  refine Kept.next ?_
  with_reducible refine Kept.trans ?_ (State.debug_kept _ _ _ ?_)
  with_reducible exact Kept.refl _
  intro _
  with_reducible refine Kept.trans ?_ (State.answer_kept _ _)
  with_reducible refine Kept.trans ?_ (State.freshChallenge_kept _ _)
  with_reducible exact Kept.refl _

theorem execDbgResponse_kept (slot tag : Nat) (s : State) : Kept s (stateOf (execDbgResponse slot tag s) s) := by
  unfold execDbgResponse
  refine Kept.next ?_
  with_reducible refine Kept.trans ?_ (State.debug_kept _ _ _ ?_)
  with_reducible exact Kept.refl _
  intro _
  dsimp only
  with_reducible refine Kept.ite (fun _ => ?_) (fun _ => ?_)
  with_reducible refine Kept.trans ?_ (State.post_kept _ _ _ _ _)
  with_reducible refine Kept.trans ?_ (State.wr_kept _ _ _)
  with_reducible refine Kept.trans ?_ (State.wr_kept _ _ _)
  with_reducible refine Kept.trans ?_ (State.authenticate_kept _ _ _ _ _ _)
  with_reducible exact Kept.refl _
  with_reducible refine Kept.trans ?_ (State.authenticate_kept _ _ _ _ _ _)
  with_reducible exact Kept.refl _

theorem execDbgHalt_kept (s : State) : Kept s (stateOf (execDbgHalt s) s) := by
  unfold execDbgHalt
  refine Kept.next ?_
  with_reducible refine Kept.trans ?_ (State.debug_kept _ _ _ ?_)
  with_reducible exact Kept.refl _
  intro _
  with_reducible refine Kept.ite (fun _ => ?_) (fun _ => ?_)
  with_reducible refine Kept.trans ?_ (State.enterHalted_kept _)
  with_reducible exact Kept.refl _
  with_reducible exact Kept.refl _

theorem execDbgResume_kept (s : State) : Kept s (stateOf (execDbgResume s) s) := by
  unfold execDbgResume
  refine Kept.next ?_
  with_reducible refine Kept.trans ?_ (State.debug_kept _ _ _ ?_)
  with_reducible exact Kept.refl _
  intro _
  with_reducible refine Kept.ite (fun _ => ?_) (fun _ => ?_)
  with_reducible refine Kept.trans ?_ (State.resumeRun_kept _)
  with_reducible exact Kept.refl _
  with_reducible exact Kept.refl _

theorem execDbgReset_kept (s : State) : Kept s (stateOf (execDbgReset s) s) := by
  unfold execDbgReset
  refine Kept.next ?_
  with_reducible refine Kept.trans ?_ (State.debug_kept _ _ _ ?_)
  with_reducible exact Kept.refl _
  intro _
  with_reducible refine Kept.trans ?_ (State.resetWarm_kept _ _)
  with_reducible exact Kept.refl _

theorem execDbgLock_kept (s : State) : Kept s (stateOf (execDbgLock s) s) := by
  unfold execDbgLock
  refine Kept.next ?_
  with_reducible refine Kept.trans ?_ (State.debug_kept _ _ _ ?_)
  with_reducible exact Kept.refl _
  intro _
  with_reducible refine Kept.ite (fun _ => ?_) (fun _ => ?_)
  with_reducible refine Kept.trans ?_ (State.post_kept _ _ _ _ _)
  with_reducible refine Kept.trans ?_ (State.wr_kept _ _ _)
  with_reducible exact Kept.refl _
  with_reducible exact Kept.refl _

end Sys2Proof.Machine
end

