-- ==== Sys2Proof/Laws/KeptSteward.lean ====
section
/-! SUPPORT. `Kept` for the functions of Machine/Steward.lean. -/

namespace Sys2Proof.Machine

open Sys2Proof

theorem State.abortSteward_kept (s : State) : Kept s (State.abortSteward s) := by
  unfold State.abortSteward
  with_reducible refine Kept.trans ?_ (Kept.foldl _ _ _ ?_)
  with_reducible refine Kept.trans ?_ (State.goldenFail_kept _ _)
  with_reducible exact Kept.refl _
  intro _ _
  with_reducible refine Kept.trans ?_ (State.complete_kept _ _ _)
  with_reducible exact Kept.refl _

theorem State.holdBootBank_kept (s : State) : Kept s (State.holdBootBank s) := by
  unfold State.holdBootBank
  dsimp only
  split
  with_reducible exact Kept.refl _
  with_reducible refine Kept.ite (fun _ => ?_) (fun _ => ?_)
  with_reducible refine Kept.ite (fun _ => ?_) (fun _ => ?_)
  with_reducible refine Kept.trans ?_ (State.setSector_kept _ _ _ _)
  with_reducible refine Kept.trans ?_ (State.setFlashOp_kept _ _ _)
  with_reducible refine Kept.trans ?_ (State.wr_kept _ _ _)
  with_reducible exact Kept.refl _
  with_reducible refine Kept.trans ?_ (State.setFlashOp_kept _ _ _)
  with_reducible refine Kept.trans ?_ (State.wr_kept _ _ _)
  with_reducible exact Kept.refl _
  with_reducible refine Kept.trans ?_ (State.wr_kept _ _ _)
  with_reducible exact Kept.refl _

theorem State.stewardRestart_kept (s : State) (cause : Nat) : Kept s (State.stewardRestart s cause) := by
  unfold State.stewardRestart
  dsimp only
  split
  with_reducible exact Kept.refl _
  with_reducible refine Kept.ite (fun _ => ?_) (fun _ => ?_)
  with_reducible exact Kept.refl _
  with_reducible refine Kept.mk_same ?_ rfl rfl rfl rfl rfl
  with_reducible refine Kept.trans ?_ (State.post_kept _ _ _ _ _)
  with_reducible refine Kept.trans ?_ (State.incSat_kept _ _)
  with_reducible exact Kept.refl _
  with_reducible refine Kept.ite (fun _ => ?_) (fun _ => ?_)
  with_reducible exact Kept.refl _
  with_reducible refine Kept.mk_same ?_ rfl rfl rfl rfl rfl
  with_reducible refine Kept.trans ?_ (State.post_kept _ _ _ _ _)
  with_reducible refine Kept.trans ?_ (State.incSat_kept _ _)
  with_reducible exact Kept.refl _
  with_reducible refine Kept.mk_same ?_ rfl rfl rfl rfl rfl
  with_reducible refine Kept.trans ?_ (State.holdBootBank_kept _)
  with_reducible refine Kept.trans ?_ (State.abortSteward_kept _)
  with_reducible refine Kept.trans ?_ (State.post_kept _ _ _ _ _)
  with_reducible refine Kept.trans ?_ (State.incSat_kept _ _)
  with_reducible exact Kept.refl _

theorem execStewardWatchdogExpiry_kept (s : State) : Kept s (stateOf (execStewardWatchdogExpiry s) s) := by
  unfold execStewardWatchdogExpiry
  refine Kept.next ?_
  with_reducible refine Kept.trans ?_ (State.stewardRestart_kept _ _)
  with_reducible exact Kept.refl _

theorem execStewardLockstepMismatch_kept (s : State) : Kept s (stateOf (execStewardLockstepMismatch s) s) := by
  unfold execStewardLockstepMismatch
  refine Kept.next ?_
  with_reducible refine Kept.trans ?_ (State.stewardRestart_kept _ _)
  with_reducible exact Kept.refl _

theorem execStewardPoisonedFetch_kept (s : State) : Kept s (stateOf (execStewardPoisonedFetch s) s) := by
  unfold execStewardPoisonedFetch
  refine Kept.next ?_
  with_reducible refine Kept.trans ?_ (State.stewardRestart_kept _ _)
  with_reducible exact Kept.refl _

theorem State.leftBank_kept (s : State) (b : Nat) : Kept s (State.leftBank s b) := by
  unfold State.leftBank
  with_reducible refine Kept.ite (fun _ => ?_) (fun _ => ?_)
  with_reducible exact Kept.refl _
  dsimp only
  split
  with_reducible refine Kept.ite (fun _ => ?_) (fun _ => ?_)
  with_reducible refine Kept.trans ?_ (State.flashGo_kept _ _)
  with_reducible refine Kept.ite (fun _ => ?_) (fun _ => ?_)
  with_reducible refine Kept.trans ?_ (State.wr_kept _ _ _)
  with_reducible refine Kept.trans ?_ (State.wr_kept _ _ _)
  with_reducible refine Kept.trans ?_ (State.wrAt_kept _ _ _ _)
  with_reducible exact Kept.refl _
  with_reducible exact Kept.refl _
  with_reducible refine Kept.ite (fun _ => ?_) (fun _ => ?_)
  with_reducible refine Kept.trans ?_ (State.wr_kept _ _ _)
  with_reducible refine Kept.trans ?_ (State.wr_kept _ _ _)
  with_reducible refine Kept.trans ?_ (State.wrAt_kept _ _ _ _)
  with_reducible exact Kept.refl _
  with_reducible exact Kept.refl _
  with_reducible refine Kept.ite (fun _ => ?_) (fun _ => ?_)
  with_reducible refine Kept.trans ?_ (State.wr_kept _ _ _)
  with_reducible refine Kept.trans ?_ (State.wr_kept _ _ _)
  with_reducible refine Kept.trans ?_ (State.wrAt_kept _ _ _ _)
  with_reducible exact Kept.refl _
  with_reducible exact Kept.refl _

theorem execStewardRestartDone_kept (s : State) : Kept s (stateOf (execStewardRestartDone s) s) := by
  unfold execStewardRestartDone
  refine Kept.next ?_
  dsimp only
  split
  with_reducible refine Kept.ite (fun _ => ?_) (fun _ => ?_)
  with_reducible refine Kept.trans ?_ (State.stewardRewrites_kept _)
  with_reducible refine Kept.trans ?_ (State.leftBank_kept _ _)
  with_reducible refine Kept.trans ?_ (State.wr_kept _ _ _)
  with_reducible refine Kept.mk_same ?_ rfl rfl rfl rfl rfl
  with_reducible exact Kept.refl _
  with_reducible exact Kept.refl _
  with_reducible exact Kept.refl _

theorem State.admitTimeout_kept (s : State) (id : Nat) : Kept s (State.admitTimeout s id) := by
  unfold State.admitTimeout
  dsimp only
  with_reducible refine Kept.ite (fun _ => ?_) (fun _ => ?_)
  with_reducible exact Kept.refl _
  with_reducible refine Kept.mk_same ?_ rfl rfl rfl rfl rfl
  with_reducible exact Kept.refl _

theorem State.timeoutEffect_kept (s : State) (id op : Nat) : Kept s (State.timeoutEffect s id op) := by
  unfold State.timeoutEffect
  split
  with_reducible refine Kept.trans ?_ (State.admitTimeout_kept _ _)
  with_reducible exact Kept.refl _
  with_reducible refine Kept.mk_same ?_ rfl rfl rfl rfl rfl
  with_reducible exact Kept.refl _
  with_reducible refine Kept.mk_same ?_ rfl rfl rfl rfl rfl
  with_reducible exact Kept.refl _
  with_reducible refine Kept.mk_same ?_ rfl rfl rfl rfl rfl
  with_reducible exact Kept.refl _
  split
  with_reducible refine Kept.ite (fun _ => ?_) (fun _ => ?_)
  with_reducible refine Kept.trans ?_ (State.captureCancel_kept _)
  with_reducible exact Kept.refl _
  with_reducible exact Kept.refl _
  with_reducible exact Kept.refl _
  with_reducible refine Kept.mk_same ?_ rfl rfl rfl rfl rfl
  with_reducible exact Kept.refl _
  with_reducible exact Kept.refl _

theorem State.timeOut_kept (s : State) (c : InFlight) : Kept s (State.timeOut s c) := by
  unfold State.timeOut
  dsimp only
  split
  with_reducible refine Kept.ite (fun _ => ?_) (fun _ => ?_)
  with_reducible refine Kept.trans ?_ (State.failLoad_kept _ _ _ _)
  with_reducible exact Kept.refl _
  with_reducible refine Kept.trans ?_ (State.complete_kept _ _ _)
  with_reducible refine Kept.trans ?_ (State.timeoutEffect_kept _ _ _)
  with_reducible exact Kept.refl _
  with_reducible refine Kept.ite (fun _ => ?_) (fun _ => ?_)
  with_reducible refine Kept.trans ?_ (State.pwrAbort_kept _ _)
  with_reducible exact Kept.refl _
  with_reducible refine Kept.trans ?_ (State.complete_kept _ _ _)
  with_reducible refine Kept.trans ?_ (State.timeoutEffect_kept _ _ _)
  with_reducible exact Kept.refl _
  with_reducible refine Kept.trans ?_ (State.complete_kept _ _ _)
  with_reducible refine Kept.trans ?_ (State.timeoutEffect_kept _ _ _)
  with_reducible exact Kept.refl _

theorem execCommandTimeout_kept (id : Nat) (s : State) : Kept s (stateOf (execCommandTimeout id s) s) := by
  unfold execCommandTimeout
  refine Kept.next ?_
  split
  with_reducible refine Kept.ite (fun _ => ?_) (fun _ => ?_)
  with_reducible refine Kept.trans ?_ (State.timeOut_kept _ _)
  with_reducible exact Kept.refl _
  with_reducible exact Kept.refl _
  with_reducible exact Kept.refl _

theorem State.ownRow_kept (s : State) (id op : Nat) : Kept s (State.ownRow s id op) := by
  have key : ∀ r : Result, Kept s (stateOf r s) → Kept s (match r with | .next t => t | _ => s) := by
    intro r hr
    cases r
    · exact hr
    · exact Kept.refl s
    · exact Kept.refl s
  unfold State.ownRow
  refine key _ ?_
  split
  · exact execLogRead_kept id {} s
  · exact execFlowStats_kept id s
  · exact execInject_kept id s
  · exact execStreamStage_kept id s
  · exact execCtxReadback_kept id s
  · exact execFlashProgram_kept id s
  · exact execFlashCalRead_kept id s
  · exact execHltAffectedFlows_kept id s
  · exact execHltRecords_kept id s
  · exact Kept.refl s

theorem State.undiscard_kept (s : State) (id : Nat) : Kept s (State.undiscard s id) := by
  unfold State.undiscard
  with_reducible refine Kept.mk_same ?_ rfl rfl rfl rfl rfl
  with_reducible exact Kept.refl _

theorem State.partProgram_kept (s : State) (r : List Nat) (off : Nat) : Kept s (State.partProgram s r off).2.2 := by
  unfold State.partProgram
  dsimp only
  with_reducible refine Kept.trans ?_ (State.programWords_kept _ _ _ _ _ _ _)
  with_reducible exact Kept.refl _

theorem State.stagePart_kept (s : State) (a : Nat) (bs : List Nat) (n : Nat) : Kept s (State.stagePart s a bs n) := by
  unfold State.stagePart
  with_reducible refine Kept.trans ?_ (State.tookN_kept _ _)
  with_reducible refine Kept.trans ?_ (State.stageBytes_kept _ _ _ _)
  with_reducible exact Kept.refl _

theorem State.dmaPartial_kept (s t : State) (r : List Nat) (off : Nat) : Kept s (State.dmaPartial s t r off).2 := by
  unfold State.dmaPartial
  dsimp only
  split
  dsimp only
  with_reducible refine Kept.trans ?_ (State.hostUndefined_kept _ _ _)
  with_reducible refine Kept.trans ?_ (State.hostWrite_kept _ _ _)
  with_reducible exact Kept.refl _
  split
  dsimp only
  with_reducible refine Kept.trans ?_ (State.stagePart_kept _ _ _ _)
  with_reducible exact Kept.refl _
  split
  dsimp only
  with_reducible refine Kept.trans ?_ (State.partProgram_kept _ _ _)
  with_reducible exact Kept.refl _
  dsimp only
  with_reducible refine Kept.trans ?_ (State.partProgram_kept _ _ _)
  with_reducible exact Kept.refl _
  with_reducible exact Kept.refl _

theorem execCommandDataDmaError_kept (id offset : Nat) (s : State) :
    Kept s (stateOf (execCommandDataDmaError id offset s) s) := by
  unfold execCommandDataDmaError
  refine Kept.next ?_
  split
  with_reducible exact Kept.refl _
  dsimp only
  with_reducible refine Kept.ite (fun _ => ?_) (fun _ => ?_)
  with_reducible exact Kept.refl _
  with_reducible refine Kept.trans ?_ (State.dmaFault_kept _ _)
  with_reducible refine Kept.trans ?_ (State.complete_kept _ _ _)
  with_reducible refine Kept.trans ?_ (State.dmaPartial_kept _ _ _ _)
  with_reducible exact Kept.refl _

end Sys2Proof.Machine
end

