-- ==== Sys2Proof/Laws/KeptBus.lean ====
section
/-! SUPPORT. `Kept` for the functions of Machine/Bus.lean. -/

namespace Sys2Proof.Machine

open Sys2Proof

theorem State.keepShown_kept (s : State) (a : Nat) : Kept s (State.keepShown s a) := by
  unfold State.keepShown
  with_reducible refine Kept.trans ?_ (Kept.foldl _ _ _ ?_)
  with_reducible exact Kept.refl _
  intro _ _
  with_reducible refine Kept.trans ?_ (State.wrAt_kept _ _ _ _)
  with_reducible exact Kept.refl _

theorem State.readEffect_kept (s : State) (a : Nat) : Kept s (State.readEffect s a) := by
  unfold State.readEffect
  with_reducible refine Kept.ite (fun _ => ?_) (fun _ => ?_)
  refine Kept.next ?_
  with_reducible refine Kept.trans ?_ (State.answer_kept _ _)
  with_reducible refine Kept.trans ?_ (State.wr_kept _ _ _)
  with_reducible exact Kept.refl _
  with_reducible refine Kept.ite (fun _ => ?_) (fun _ => ?_)
  refine Kept.next ?_
  with_reducible refine Kept.ite (fun _ => ?_) (fun _ => ?_)
  dsimp only
  with_reducible refine Kept.trans ?_ (State.answer_kept _ _)
  with_reducible refine Kept.trans ?_ (State.wrAt_kept _ _ _ _)
  with_reducible refine Kept.trans ?_ (State.wrAt_kept _ _ _ _)
  with_reducible refine Kept.trans ?_ (State.wrAt_kept _ _ _ _)
  with_reducible exact Kept.refl _
  with_reducible refine Kept.trans ?_ (State.answer_kept _ _)
  with_reducible exact Kept.refl _
  with_reducible refine Kept.ite (fun _ => ?_) (fun _ => ?_)
  refine Kept.next ?_
  dsimp only
  split
  with_reducible refine Kept.trans ?_ (State.answer_kept _ _)
  with_reducible exact Kept.refl _
  with_reducible refine Kept.trans ?_ (State.answer_kept _ _)
  with_reducible refine Kept.mk_same ?_ rfl rfl rfl rfl rfl
  with_reducible exact Kept.refl _
  with_reducible refine Kept.ite (fun _ => ?_) (fun _ => ?_)
  with_reducible refine Kept.trans ?_ (State.tookN_kept _ _)
  with_reducible refine Kept.trans ?_ (State.keepShown_kept _ _)
  with_reducible exact Kept.refl _
  with_reducible exact Kept.refl _

theorem State.readWindow_kept (s : State) (w : Window) (a : Nat) : Kept s (State.readWindow s w a) := by
  unfold State.readWindow
  split
  with_reducible refine Kept.trans ?_ (State.answer_kept _ _)
  with_reducible exact Kept.refl _
  with_reducible refine Kept.trans ?_ (State.answer_kept _ _)
  with_reducible exact Kept.refl _
  with_reducible refine Kept.trans ?_ (State.answer_kept _ _)
  with_reducible exact Kept.refl _
  with_reducible refine Kept.trans ?_ (State.answer_kept _ _)
  with_reducible exact Kept.refl _
  with_reducible refine Kept.trans ?_ (execSpadHostRead_kept _ _ _ _)
  with_reducible exact Kept.refl _

theorem State.read32_kept (s : State) (a : Nat) : Kept s (State.read32 s a) := by
  unfold State.read32
  split
  with_reducible refine Kept.trans ?_ (State.readWindow_kept _ _ _)
  with_reducible exact Kept.refl _
  with_reducible refine Kept.ite (fun _ => ?_) (fun _ => ?_)
  with_reducible refine Kept.trans ?_ (State.answer_kept _ _)
  with_reducible refine Kept.trans ?_ (State.mbxErr_kept _ _)
  with_reducible exact Kept.refl _
  with_reducible refine Kept.ite (fun _ => ?_) (fun _ => ?_)
  dsimp only
  with_reducible refine Kept.trans ?_ (State.answer_kept _ _)
  with_reducible refine Kept.mk_same ?_ rfl rfl rfl rfl rfl
  with_reducible refine Kept.trans ?_ (State.readEffect_kept _ _)
  with_reducible exact Kept.refl _
  with_reducible refine Kept.ite (fun _ => ?_) (fun _ => ?_)
  split
  with_reducible refine Kept.trans ?_ (State.answer_kept _ _)
  with_reducible refine Kept.mk_same ?_ rfl rfl rfl rfl rfl
  with_reducible exact Kept.refl _
  with_reducible refine Kept.trans ?_ (State.answer_kept _ _)
  with_reducible exact Kept.refl _
  with_reducible refine Kept.trans ?_ (State.answer_kept _ _)
  with_reducible refine Kept.trans ?_ (State.readEffect_kept _ _)
  with_reducible exact Kept.refl _

theorem State.read64_kept (s : State) (a : Nat) : Kept s (State.read64 s a) := by
  unfold State.read64
  with_reducible refine Kept.ite (fun _ => ?_) (fun _ => ?_)
  with_reducible refine Kept.trans ?_ (execSpadHostRead_kept _ _ _ _)
  with_reducible exact Kept.refl _
  with_reducible refine Kept.ite (fun _ => ?_) (fun _ => ?_)
  with_reducible refine Kept.trans ?_ (State.answer_kept _ _)
  with_reducible refine Kept.trans ?_ (State.readEffect_kept _ _)
  with_reducible exact Kept.refl _
  dsimp only
  with_reducible refine Kept.trans ?_ (State.answer_kept _ _)
  with_reducible refine Kept.trans ?_ (State.read32_kept _ _)
  with_reducible refine Kept.trans ?_ (State.read32_kept _ _)
  with_reducible exact Kept.refl _

theorem State.hostReadBus_kept (s : State) (a size : Nat) : Kept s (State.hostReadBus s a size) := by
  unfold State.hostReadBus
  with_reducible refine Kept.ite (fun _ => ?_) (fun _ => ?_)
  with_reducible exact Kept.refl _
  with_reducible refine Kept.ite (fun _ => ?_) (fun _ => ?_)
  with_reducible refine Kept.trans ?_ (State.read32_kept _ _)
  with_reducible exact Kept.refl _
  with_reducible refine Kept.ite (fun _ => ?_) (fun _ => ?_)
  with_reducible refine Kept.trans ?_ (State.read64_kept _ _)
  with_reducible exact Kept.refl _
  with_reducible refine Kept.trans ?_ (State.answer_kept _ _)
  with_reducible refine Kept.trans ?_ (State.mbxErr_kept _ _)
  with_reducible exact Kept.refl _

theorem State.fieldWrite_kept (s : State) (f : Field) (i v : Nat) : Kept s (State.fieldWrite s f i v) := by
  unfold State.fieldWrite
  split
  with_reducible refine Kept.trans ?_ (State.wrAt_kept _ _ _ _)
  with_reducible exact Kept.refl _
  with_reducible refine Kept.trans ?_ (State.wrAt_kept _ _ _ _)
  with_reducible exact Kept.refl _
  with_reducible refine Kept.trans ?_ (State.wrAt_kept _ _ _ _)
  with_reducible exact Kept.refl _
  with_reducible refine Kept.trans ?_ (State.wrAt_kept _ _ _ _)
  with_reducible exact Kept.refl _
  with_reducible refine Kept.ite (fun _ => ?_) (fun _ => ?_)
  with_reducible refine Kept.trans ?_ (State.wrAt_kept _ _ _ _)
  with_reducible exact Kept.refl _
  with_reducible exact Kept.refl _
  with_reducible exact Kept.refl _
  with_reducible exact Kept.refl _

theorem State.plainWrite_kept (s : State) (a v : Nat) : Kept s (State.plainWrite s a v) := by
  unfold State.plainWrite
  with_reducible refine Kept.trans ?_ (Kept.foldl _ _ _ ?_)
  with_reducible exact Kept.refl _
  intro _ _
  with_reducible refine Kept.trans ?_ (State.fieldWrite_kept _ _ _ _)
  with_reducible exact Kept.refl _

theorem State.clrCtrlWrite_kept (s : State) (v : Nat) : Kept s (State.clrCtrlWrite s v) := by
  unfold State.clrCtrlWrite
  dsimp only
  with_reducible refine Kept.trans ?_ (State.forceFreerun_kept _ _)
  with_reducible refine Kept.ite (fun _ => ?_) (fun _ => ?_)
  with_reducible refine Kept.trans ?_ (execReselect_kept _)
  with_reducible refine Kept.trans ?_ (State.wr_kept _ _ _)
  with_reducible exact Kept.refl _
  with_reducible refine Kept.trans ?_ (State.wr_kept _ _ _)
  with_reducible exact Kept.refl _

theorem State.mbxCtrlWrite_kept (s : State) (v : Nat) : Kept s (State.mbxCtrlWrite s v) := by
  unfold State.mbxCtrlWrite
  dsimp only
  with_reducible refine Kept.ite (fun _ => ?_) (fun _ => ?_)
  with_reducible refine Kept.trans ?_ (State.ringReset_kept _)
  with_reducible refine Kept.trans ?_ (execRingEnable_kept _ _)
  with_reducible exact Kept.refl _
  with_reducible refine Kept.trans ?_ (execRingEnable_kept _ _)
  with_reducible exact Kept.refl _

theorem State.atomCtrlWrite_kept (s : State) (v : Nat) : Kept s (State.atomCtrlWrite s v) := by
  unfold State.atomCtrlWrite
  with_reducible refine Kept.ite (fun _ => ?_) (fun _ => ?_)
  with_reducible refine Kept.trans ?_ (State.hostAtomic_kept _ _ _)
  with_reducible exact Kept.refl _
  with_reducible refine Kept.ite (fun _ => ?_) (fun _ => ?_)
  with_reducible refine Kept.trans ?_ (State.hostAtomic_kept _ _ _)
  with_reducible exact Kept.refl _
  with_reducible exact Kept.refl _

theorem State.mbCtrlWrite_kept (s : State) (v : Nat) : Kept s (State.mbCtrlWrite s v) := by
  unfold State.mbCtrlWrite
  dsimp only
  with_reducible refine Kept.ite (fun _ => ?_) (fun _ => ?_)
  with_reducible refine Kept.trans ?_ (execMailboxGo_kept _)
  with_reducible refine Kept.ite (fun _ => ?_) (fun _ => ?_)
  with_reducible refine Kept.trans ?_ (State.wr_kept _ _ _)
  with_reducible exact Kept.refl _
  with_reducible exact Kept.refl _
  with_reducible refine Kept.ite (fun _ => ?_) (fun _ => ?_)
  with_reducible refine Kept.trans ?_ (State.wr_kept _ _ _)
  with_reducible exact Kept.refl _
  with_reducible exact Kept.refl _

theorem State.dncCtrlWrite_kept (s : State) (v : Nat) : Kept s (State.dncCtrlWrite s v) := by
  unfold State.dncCtrlWrite
  dsimp only
  with_reducible refine Kept.ite (fun _ => ?_) (fun _ => ?_)
  with_reducible refine Kept.trans ?_ (execDncCopy_kept _)
  with_reducible refine Kept.trans ?_ (execDncEnable_kept _ _)
  with_reducible exact Kept.refl _
  with_reducible refine Kept.trans ?_ (execDncEnable_kept _ _)
  with_reducible exact Kept.refl _

theorem State.almWrite_kept (s : State) (a v : Nat) : Kept s (State.almWrite s a v) := by
  unfold State.almWrite
  dsimp only
  with_reducible refine Kept.ite (fun _ => ?_) (fun _ => ?_)
  refine Kept.next ?_
  with_reducible refine Kept.ite (fun _ => ?_) (fun _ => ?_)
  with_reducible exact Kept.refl _
  with_reducible refine Kept.ite (fun _ => ?_) (fun _ => ?_)
  with_reducible refine Kept.trans ?_ (State.alarmRefuse_kept _ _)
  with_reducible exact Kept.refl _
  dsimp only
  with_reducible refine Kept.ite (fun _ => ?_) (fun _ => ?_)
  with_reducible refine Kept.trans ?_ (State.alarmArm_kept _ _ _)
  with_reducible refine Kept.trans ?_ (State.alarmFields_kept _ _ _)
  with_reducible exact Kept.refl _
  with_reducible refine Kept.trans ?_ (State.wrAt_kept _ _ _ _)
  with_reducible refine Kept.trans ?_ (State.alarmFields_kept _ _ _)
  with_reducible exact Kept.refl _
  with_reducible refine Kept.ite (fun _ => ?_) (fun _ => ?_)
  with_reducible refine Kept.trans ?_ (State.plainWrite_kept _ _ _)
  with_reducible exact Kept.refl _
  with_reducible refine Kept.trans ?_ (State.alarmRefuse_kept _ _)
  with_reducible exact Kept.refl _

theorem State.limitsWrite_kept (s : State) (v : Nat) : Kept s (State.limitsWrite s v) := by
  unfold State.limitsWrite
  dsimp only
  with_reducible refine Kept.trans ?_ (State.wr_kept _ _ _)
  with_reducible refine Kept.trans ?_ (State.wr_kept _ _ _)
  with_reducible exact Kept.refl _

theorem State.pwrCtrlWrite_kept (s : State) (a v : Nat) : Kept s (State.pwrCtrlWrite s a v) := by
  unfold State.pwrCtrlWrite
  dsimp only
  split
  with_reducible refine Kept.trans ?_ (State.wakeArrives_kept _ _)
  with_reducible refine Kept.trans ?_ (State.plainWrite_kept _ _ _)
  with_reducible exact Kept.refl _
  with_reducible refine Kept.trans ?_ (State.plainWrite_kept _ _ _)
  with_reducible exact Kept.refl _

theorem State.laneRegWrite_kept (s : State) (a v : Nat) : Kept s (State.laneRegWrite s a v) := by
  unfold State.laneRegWrite
  dsimp only
  with_reducible refine Kept.ite (fun _ => ?_) (fun _ => ?_)
  with_reducible refine Kept.trans ?_ (State.wr_kept _ _ _)
  with_reducible exact Kept.refl _
  with_reducible refine Kept.ite (fun _ => ?_) (fun _ => ?_)
  with_reducible refine Kept.trans ?_ (State.wrAt_kept _ _ _ _)
  with_reducible refine Kept.ite (fun _ => ?_) (fun _ => ?_)
  with_reducible refine Kept.trans ?_ (State.wrAt_kept _ _ _ _)
  with_reducible refine Kept.trans ?_ (State.plainWrite_kept _ _ _)
  with_reducible exact Kept.refl _
  with_reducible refine Kept.trans ?_ (State.plainWrite_kept _ _ _)
  with_reducible exact Kept.refl _
  with_reducible refine Kept.ite (fun _ => ?_) (fun _ => ?_)
  with_reducible refine Kept.trans ?_ (State.wrAt_kept _ _ _ _)
  with_reducible refine Kept.trans ?_ (State.plainWrite_kept _ _ _)
  with_reducible exact Kept.refl _
  with_reducible refine Kept.trans ?_ (State.plainWrite_kept _ _ _)
  with_reducible exact Kept.refl _

theorem State.laneWordWrite_kept (s0 : State) (a v : Nat) : Kept s0 (State.laneWordWrite s0 a v) := by
  unfold State.laneWordWrite
  dsimp only
  with_reducible refine Kept.ite (fun _ => ?_) (fun _ => ?_)
  with_reducible refine Kept.trans ?_ (State.laneCtrlWrite_kept _ _ _)
  with_reducible refine Kept.trans ?_ (State.noteLane_kept _ _)
  with_reducible exact Kept.refl _
  with_reducible refine Kept.ite (fun _ => ?_) (fun _ => ?_)
  with_reducible refine Kept.trans ?_ (State.lanePrbsWrite_kept _ _ _)
  with_reducible refine Kept.trans ?_ (State.noteLane_kept _ _)
  with_reducible exact Kept.refl _
  with_reducible refine Kept.trans ?_ (State.laneRegWrite_kept _ _ _)
  with_reducible refine Kept.trans ?_ (State.noteLane_kept _ _)
  with_reducible exact Kept.refl _

theorem State.gridWordWrite_kept (s : State) (a v : Nat) : Kept s (State.gridWordWrite s a v) := by
  unfold State.gridWordWrite
  dsimp only
  with_reducible refine Kept.ite (fun _ => ?_) (fun _ => ?_)
  with_reducible refine Kept.trans ?_ (State.gridCtrlWrite_kept _ _ _)
  with_reducible exact Kept.refl _
  with_reducible refine Kept.ite (fun _ => ?_) (fun _ => ?_)
  with_reducible exact Kept.refl _
  with_reducible refine Kept.trans ?_ (State.plainWrite_kept _ _ _)
  with_reducible exact Kept.refl _

theorem State.bondWordWrite_kept (s : State) (a v : Nat) : Kept s (State.bondWordWrite s a v) := by
  unfold State.bondWordWrite
  with_reducible refine Kept.ite (fun _ => ?_) (fun _ => ?_)
  with_reducible refine Kept.trans ?_ (State.bondCtrlWrite_kept _ _ _)
  with_reducible exact Kept.refl _
  with_reducible refine Kept.trans ?_ (State.plainWrite_kept _ _ _)
  with_reducible exact Kept.refl _

theorem State.regionActionWrite_kept (s : State) (a v : Nat) : Kept s (State.regionActionWrite s a v) := by
  unfold State.regionActionWrite
  with_reducible refine Kept.ite (fun _ => ?_) (fun _ => ?_)
  with_reducible refine Kept.trans ?_ (State.plainWrite_kept _ _ _)
  with_reducible exact Kept.refl _
  with_reducible refine Kept.trans ?_ (State.plainWrite_kept _ _ _)
  with_reducible exact Kept.refl _

theorem State.regWrite_kept (s : State) (a v : Nat) : Kept s (State.regWrite s a v) := by
  have key : ∀ (p : Prop) [Decidable p] (x : State) (o : Option State), Kept s x → (∀ t, o = some t → Kept s t) →
      ∀ t, (if p then some x else o) = some t → Kept s t := by
    intro p _ x o hx ho t h
    split at h
    · cases h
      exact hx
    · exact ho t h
  have hA : ∀ t, s.writeA a v = some t → Kept s t := by
    unfold State.writeA
    refine key _ _ _ (execGlbResetWrite_kept v s) ?_
    refine key _ _ _ (State.mbxCtrlWrite_kept s v) ?_
    refine key _ _ _ (execCmdDoorbell_kept v s) ?_
    refine key _ _ _ (execCplHeadWrite_kept v s) ?_
    refine key _ _ _ (execEvtHeadWrite_kept v s) ?_
    refine key _ _ _ (State.atomCtrlWrite_kept s v) ?_
    refine key _ _ _ (State.mbCtrlWrite_kept s v) ?_
    refine key _ _ _ (State.clrCtrlWrite_kept s v) ?_
    refine key _ _ _ (State.refPrioWrite_kept s v) ?_
    refine key _ _ _ (State.wr_kept s _ v) ?_
    refine key _ _ _ (execSetTime_kept _ 0 s) ?_
    refine key _ _ _ (State.refaWrite_kept s v) ?_
    refine key _ _ _ (State.gridWordWrite_kept s a v) ?_
    refine key _ _ _ (execPulseEnable_kept _ v s) ?_
    refine key _ _ _ (State.almWrite_kept s a v) ?_
    refine key _ _ _ (State.dncCtrlWrite_kept s v) ?_
    refine key _ _ _ (execDncSwapArm_kept v s) ?_
    intro t h
    cases h
  have hB : ∀ t, s.writeB a v = some t → Kept s t := by
    unfold State.writeB
    refine key _ _ _ (Kept.ite (fun _ => State.bufBaseWrite_kept s _ v) fun _ => State.bufLenWrite_kept s _ v) ?_
    refine key _ _ _ (execPairRecordWrite_kept a v s) ?_
    refine key _ _ _ (State.bondWordWrite_kept s a v) ?_
    refine key _ _ _ (State.laneWordWrite_kept s a v) ?_
    refine key _ _ _ (State.gpioWrite_kept s _ v) ?_
    refine key _ _ _ (execCfgDiscardWrite_kept v s) ?_
    refine key _ _ _ (State.regionActionWrite_kept s a v) ?_
    refine key _ _ _ (Kept.ite (fun _ => execClearSuspect_kept s) fun _ => Kept.refl s) ?_
    refine key _ _ _ (State.limitsWrite_kept s v) ?_
    refine key _ _ _ (State.pwrCtrlWrite_kept s a v) ?_
    intro t h
    cases h
  unfold State.regWrite
  split
  · exact hA _ ‹_›
  · split
    · exact hB _ ‹_›
    · exact State.plainWrite_kept s a v

theorem State.msixWrite_kept (s : State) (k v : Nat) : Kept s (State.msixWrite s k v) := by
  unfold State.msixWrite
  dsimp only
  with_reducible refine Kept.ite (fun _ => ?_) (fun _ => ?_)
  with_reducible refine Kept.trans ?_ (State.raise_kept _ _)
  with_reducible refine Kept.mk_same ?_ rfl rfl rfl rfl rfl
  with_reducible exact Kept.refl _
  with_reducible refine Kept.mk_same ?_ rfl rfl rfl rfl rfl
  with_reducible exact Kept.refl _

theorem State.writeWindow_kept (s : State) (w : Window) (a v : Nat) : Kept s (State.writeWindow s w a v) := by
  unfold State.writeWindow
  split
  with_reducible refine Kept.trans ?_ (State.msixWrite_kept _ _ _)
  with_reducible exact Kept.refl _
  with_reducible exact Kept.refl _
  with_reducible refine Kept.ite (fun _ => ?_) (fun _ => ?_)
  with_reducible refine Kept.trans ?_ (execDncEntryCommit_kept _ _ _ _)
  with_reducible exact Kept.refl _
  with_reducible refine Kept.trans ?_ (execDncEntryWordStage_kept _ _ _)
  with_reducible exact Kept.refl _
  with_reducible refine Kept.trans ?_ (execFlowTableWrite_kept _ _ _)
  with_reducible exact Kept.refl _
  with_reducible refine Kept.trans ?_ (execSpadHostWrite_kept _ _ _ _ _)
  with_reducible exact Kept.refl _

theorem State.write32_kept (s : State) (a v : Nat) : Kept s (State.write32 s a v) := by
  unfold State.write32
  split
  with_reducible refine Kept.trans ?_ (State.writeWindow_kept _ _ _ _)
  with_reducible exact Kept.refl _
  with_reducible refine Kept.ite (fun _ => ?_) (fun _ => ?_)
  with_reducible refine Kept.trans ?_ (State.mbxErr_kept _ _)
  with_reducible exact Kept.refl _
  with_reducible refine Kept.ite (fun _ => ?_) (fun _ => ?_)
  with_reducible refine Kept.mk_same ?_ rfl rfl rfl rfl rfl
  with_reducible exact Kept.refl _
  with_reducible refine Kept.ite (fun _ => ?_) (fun _ => ?_)
  dsimp only
  with_reducible refine Kept.trans ?_ (State.regWrite_kept _ _ _)
  with_reducible refine Kept.mk_same ?_ rfl rfl rfl rfl rfl
  with_reducible exact Kept.refl _
  with_reducible refine Kept.trans ?_ (State.regWrite_kept _ _ _)
  with_reducible exact Kept.refl _

theorem State.write64_kept (s : State) (a v : Nat) : Kept s (State.write64 s a v) := by
  unfold State.write64
  split
  with_reducible refine Kept.trans ?_ (execSpadHostWrite_kept _ _ _ _ _)
  with_reducible exact Kept.refl _
  with_reducible refine Kept.ite (fun _ => ?_) (fun _ => ?_)
  with_reducible refine Kept.trans ?_ (execDncEntryCommit_kept _ _ _ _)
  with_reducible exact Kept.refl _
  with_reducible refine Kept.trans ?_ (State.write32_kept _ _ _)
  with_reducible refine Kept.trans ?_ (State.write32_kept _ _ _)
  with_reducible exact Kept.refl _
  with_reducible refine Kept.ite (fun _ => ?_) (fun _ => ?_)
  with_reducible refine Kept.trans ?_ (State.regWrite_kept _ _ _)
  with_reducible exact Kept.refl _
  with_reducible refine Kept.trans ?_ (State.write32_kept _ _ _)
  with_reducible refine Kept.trans ?_ (State.write32_kept _ _ _)
  with_reducible exact Kept.refl _

theorem State.hostWriteBus_kept (s : State) (a size v : Nat) : Kept s (State.hostWriteBus s a size v) := by
  unfold State.hostWriteBus
  with_reducible refine Kept.ite (fun _ => ?_) (fun _ => ?_)
  with_reducible exact Kept.refl _
  with_reducible refine Kept.ite (fun _ => ?_) (fun _ => ?_)
  with_reducible refine Kept.trans ?_ (State.write32_kept _ _ _)
  with_reducible exact Kept.refl _
  with_reducible refine Kept.ite (fun _ => ?_) (fun _ => ?_)
  with_reducible refine Kept.trans ?_ (State.write64_kept _ _ _)
  with_reducible exact Kept.refl _
  with_reducible refine Kept.trans ?_ (State.mbxErr_kept _ _)
  with_reducible exact Kept.refl _

end Sys2Proof.Machine
end

