-- ==== Sys2Proof/Laws/KeptHostBus.lean ====
section
/-! SUPPORT. `Kept` for the functions of Machine/HostBus.lean. -/

namespace Sys2Proof.Machine

open Sys2Proof

theorem execRegisterWrite_kept (addr size data : Nat) (s : State) :
    Kept s (stateOf (execRegisterWrite addr size data s) s) := by
  unfold execRegisterWrite
  refine Kept.next ?_
  with_reducible refine Kept.trans ?_ (State.hostWriteBus_kept _ _ _ _)
  with_reducible exact Kept.refl _

theorem execReg64LowRead_kept (addr size : Nat) (s : State) : Kept s (stateOf (execReg64LowRead addr size s) s) := by
  unfold execReg64LowRead
  refine Kept.next ?_
  with_reducible refine Kept.trans ?_ (State.hostReadBus_kept _ _ _)
  with_reducible exact Kept.refl _

theorem execReg64HighRead_kept (addr : Nat) (s : State) : Kept s (stateOf (execReg64HighRead addr s) s) := by
  unfold execReg64HighRead
  refine Kept.next ?_
  with_reducible refine Kept.trans ?_ (State.hostReadBus_kept _ _ _)
  with_reducible exact Kept.refl _

theorem execReg64LowWrite_kept (addr data : Nat) (s : State) : Kept s (stateOf (execReg64LowWrite addr data s) s) := by
  unfold execReg64LowWrite
  refine Kept.next ?_
  with_reducible refine Kept.trans ?_ (State.hostWriteBus_kept _ _ _ _)
  with_reducible exact Kept.refl _

theorem execReg64HighWrite_kept (addr data : Nat) (s : State) : Kept s (stateOf (execReg64HighWrite addr data s) s) := by
  unfold execReg64HighWrite
  refine Kept.next ?_
  with_reducible refine Kept.trans ?_ (State.hostWriteBus_kept _ _ _ _)
  with_reducible exact Kept.refl _

theorem State.bar2Word_kept (s : State) (b n w : Nat) (found : FlashRead) : Kept s (State.bar2Word s b n w found).2 := by
  unfold State.bar2Word
  split
  dsimp only
  with_reducible exact Kept.refl _
  dsimp only
  with_reducible refine Kept.trans ?_ (State.flashSense_kept _ _ _ _ _)
  with_reducible exact Kept.refl _

theorem State.bar2Words_kept (s : State) (w k : Nat) (found : List FlashRead) : Kept s (State.bar2Words s w k found).2 := by
  induction k generalizing s w found with
  | zero =>
    unfold State.bar2Words
    dsimp only
    with_reducible exact Kept.refl _
  | succ k ih =>
    unfold State.bar2Words
    dsimp only
    split
    dsimp only
    with_reducible refine Kept.trans ?_ (State.bar2Word_kept _ _ _ _ _)
    with_reducible exact Kept.refl _
    dsimp only
    with_reducible refine Kept.trans ?_ (ih ..)
    with_reducible refine Kept.trans ?_ (State.bar2Word_kept _ _ _ _ _)
    with_reducible exact Kept.refl _

theorem State.busyRead_kept (s : State) (b : Nat) : Kept s (State.busyRead s b) := by
  unfold State.busyRead
  dsimp only
  with_reducible refine Kept.mk_same ?_ rfl rfl rfl rfl rfl
  with_reducible refine Kept.trans ?_ (State.postLimited_kept _ _ _ _ _ _)
  with_reducible refine Kept.trans ?_ (State.incSat_kept _ _)
  with_reducible refine Kept.trans ?_ (State.wr_kept _ _ _)
  with_reducible exact Kept.refl _

theorem State.bar2Answer_kept (s : State) (offset length : Nat) (found : List FlashRead) :
    Kept s (State.bar2Answer s offset length found) := by
  unfold State.bar2Answer
  dsimp only
  split
  with_reducible refine Kept.trans ?_ (State.answerBytes_kept _ _)
  with_reducible refine Kept.trans ?_ (State.bar2Words_kept _ _ _ _)
  with_reducible exact Kept.refl _
  with_reducible refine Kept.mk_same ?_ rfl rfl rfl rfl rfl
  with_reducible refine Kept.trans ?_ (State.bar2Words_kept _ _ _ _)
  with_reducible exact Kept.refl _

theorem execBar2Read_kept (offset length : Nat) (found : List FlashRead) (s : State) :
    Kept s (stateOf (execBar2Read offset length found s) s) := by
  unfold execBar2Read
  refine Kept.next ?_
  with_reducible refine Kept.ite (fun _ => ?_) (fun _ => ?_)
  with_reducible exact Kept.refl _
  with_reducible refine Kept.ite (fun _ => ?_) (fun _ => ?_)
  with_reducible refine Kept.trans ?_ (State.answerBytes_kept _ _)
  with_reducible refine Kept.trans ?_ (State.mbxErr_kept _ _)
  with_reducible exact Kept.refl _
  dsimp only
  split
  with_reducible refine Kept.trans ?_ (State.markSector_kept _ _ _)
  with_reducible refine Kept.trans ?_ (State.bar2Answer_kept _ _ _ _)
  with_reducible refine Kept.trans ?_ (State.unmarkSector_kept _ _ _)
  with_reducible exact Kept.refl _
  with_reducible refine Kept.ite (fun _ => ?_) (fun _ => ?_)
  with_reducible refine Kept.trans ?_ (State.busyRead_kept _ _)
  with_reducible exact Kept.refl _
  with_reducible refine Kept.trans ?_ (State.bar2Answer_kept _ _ _ _)
  with_reducible exact Kept.refl _

theorem State.spiWords_kept (s : State) (a n : Nat) : Kept s (State.spiWords s a n).2 := by
  induction n generalizing s a with
  | zero =>
    unfold State.spiWords
    dsimp only
    with_reducible exact Kept.refl _
  | succ k ih =>
    unfold State.spiWords
    dsimp only
    split
    dsimp only
    with_reducible refine Kept.trans ?_ (State.hostReadBus_kept _ _ _)
    with_reducible exact Kept.refl _
    dsimp only
    with_reducible refine Kept.trans ?_ (ih ..)
    with_reducible refine Kept.trans ?_ (State.hostReadBus_kept _ _ _)
    with_reducible exact Kept.refl _

theorem execSpiRead_kept (addr words : Nat) (lastWhole : Bool) (s : State) :
    Kept s (stateOf (execSpiRead addr words lastWhole s) s) := by
  unfold execSpiRead
  refine Kept.next ?_
  with_reducible refine Kept.ite (fun _ => ?_) (fun _ => ?_)
  with_reducible exact Kept.refl _
  dsimp only
  with_reducible refine Kept.trans ?_ (State.answerBytes_kept _ _)
  with_reducible refine Kept.trans ?_ (State.spiWords_kept _ _ _)
  with_reducible exact Kept.refl _

theorem State.spiGroups_kept (s : State) (a : Nat) (gs : List Nat) : Kept s (State.spiGroups s a gs) := by
  induction gs generalizing s a with
  | nil =>
    unfold State.spiGroups
    with_reducible exact Kept.refl _
  | cons a r ih =>
    unfold State.spiGroups
    with_reducible refine Kept.trans ?_ (ih ..)
    with_reducible refine Kept.trans ?_ (State.hostWriteBus_kept _ _ _ _)
    with_reducible exact Kept.refl _

theorem execSpiWrite_kept (addr : Nat) (groups : List Nat) (s : State) : Kept s (stateOf (execSpiWrite addr groups s) s) := by
  unfold execSpiWrite
  refine Kept.next ?_
  with_reducible refine Kept.trans ?_ (State.spiGroups_kept _ _ _)
  with_reducible exact Kept.refl _

theorem execSpiStatus_kept (s : State) : Kept s (stateOf (execSpiStatus s) s) := by
  unfold execSpiStatus
  refine Kept.next ?_
  with_reducible refine Kept.ite (fun _ => ?_) (fun _ => ?_)
  with_reducible refine Kept.trans ?_ (State.answerBytes_kept _ _)
  with_reducible exact Kept.refl _
  with_reducible exact Kept.refl _

theorem execSpiFrameError_kept (command : Nat) (s : State) : Kept s (stateOf (execSpiFrameError command s) s) := by
  unfold execSpiFrameError
  refine Kept.next ?_
  with_reducible refine Kept.ite (fun _ => ?_) (fun _ => ?_)
  with_reducible refine Kept.trans ?_ (State.post_kept _ _ _ _ _)
  with_reducible refine Kept.trans ?_ (State.mbxErr_kept _ _)
  with_reducible exact Kept.refl _
  with_reducible exact Kept.refl _

theorem State.smbusRelease_kept (s : State) : Kept s (State.smbusRelease s) := by
  unfold State.smbusRelease
  with_reducible refine Kept.mk_same ?_ rfl rfl rfl rfl rfl
  with_reducible exact Kept.refl _

theorem execSmbusRead_kept (target code : Nat) (s : State) : Kept s (stateOf (execSmbusRead target code s) s) := by
  unfold execSmbusRead
  refine Kept.next ?_
  with_reducible refine Kept.ite (fun _ => ?_) (fun _ => ?_)
  with_reducible exact Kept.refl _
  with_reducible refine Kept.ite (fun _ => ?_) (fun _ => ?_)
  with_reducible refine Kept.trans ?_ (State.answerBytes_kept _ _)
  with_reducible exact Kept.refl _
  with_reducible refine Kept.ite (fun _ => ?_) (fun _ => ?_)
  with_reducible refine Kept.mk_same ?_ rfl rfl rfl rfl rfl
  with_reducible exact Kept.refl _
  dsimp only
  split
  with_reducible refine Kept.mk_same ?_ rfl rfl rfl rfl rfl
  with_reducible exact Kept.refl _
  with_reducible refine Kept.trans ?_ (State.answerBytes_kept _ _)
  with_reducible refine Kept.ite (fun _ => ?_) (fun _ => ?_)
  with_reducible refine Kept.trans ?_ (State.smbusRelease_kept _)
  with_reducible exact Kept.refl _
  with_reducible refine Kept.ite (fun _ => ?_) (fun _ => ?_)
  with_reducible refine Kept.trans ?_ (State.tookN_kept _ _)
  with_reducible exact Kept.refl _
  with_reducible exact Kept.refl _

theorem execSmbusAlertRead_kept (s : State) : Kept s (stateOf (execSmbusAlertRead s) s) := by
  unfold execSmbusAlertRead
  refine Kept.next ?_
  with_reducible refine Kept.ite (fun _ => ?_) (fun _ => ?_)
  with_reducible exact Kept.refl _
  with_reducible refine Kept.ite (fun _ => ?_) (fun _ => ?_)
  with_reducible refine Kept.trans ?_ (State.answerBytes_kept _ _)
  with_reducible exact Kept.refl _
  with_reducible refine Kept.trans ?_ (State.answerBytes_kept _ _)
  with_reducible refine Kept.trans ?_ (State.smbusRelease_kept _)
  with_reducible exact Kept.refl _

theorem execDbgAccess_kept (write : Bool) (offset data : Nat) (s : State) :
    Kept s (stateOf (execDbgAccess write offset data s) s) := by
  unfold execDbgAccess
  refine Kept.next ?_
  with_reducible refine Kept.trans ?_ (State.debug_kept _ _ _ ?_)
  with_reducible exact Kept.refl _
  intro _
  dsimp only
  with_reducible refine Kept.ite (fun _ => ?_) (fun _ => ?_)
  with_reducible refine Kept.mk_same ?_ rfl rfl rfl rfl rfl
  with_reducible refine Kept.trans ?_ (State.hostWriteBus_kept _ _ _ _)
  with_reducible exact Kept.refl _
  with_reducible refine Kept.mk_same ?_ rfl rfl rfl rfl rfl
  with_reducible refine Kept.trans ?_ (State.hostReadBus_kept _ _ _)
  with_reducible exact Kept.refl _

end Sys2Proof.Machine
end

