-- ==== Sys2Proof/Laws/KeptClock.lean ====
section
/-! SUPPORT. `Kept` for the functions of Machine/Clock.lean. -/

namespace Sys2Proof.Machine

open Sys2Proof

theorem State.count_kept (s : State) : Kept s (State.count s) := by
  unfold State.count
  with_reducible refine Kept.trans ?_ (State.setTai_kept _ _)
  with_reducible refine Kept.mk_same ?_ rfl rfl rfl rfl rfl
  with_reducible exact Kept.refl _

theorem State.tick_kept (s : State) : Kept s (State.tick s) := by
  unfold State.tick
  with_reducible refine Kept.ite (fun _ => ?_) (fun _ => ?_)
  with_reducible exact Kept.refl _
  with_reducible refine Kept.trans ?_ (State.wakeLevels_kept _)
  with_reducible refine Kept.trans ?_ (State.keepLevels_kept _)
  with_reducible refine Kept.trans ?_ (State.serveUnits_kept _)
  with_reducible refine Kept.trans ?_ (State.count_kept _)
  with_reducible exact Kept.refl _

end Sys2Proof.Machine
end

