-- ==== Sys2Proof/Machine/Pads.lean ====
section
/-!
DEFINITION. The land map of 20 R520 to R523: which of the 64 x 64 lands carries which signal. A reading of the chapter's
tables, used by no command: a land carries what the State fields of its signal say.
-/

namespace Sys2Proof.Machine
open Sys2Proof

/-- Which of the two lands of a differential pair. -/
inductive Leg where
  | p | n
  deriving DecidableEq, Repr

/-- The signal a land carries (20 R520's groups, R523's single lands). -/
inductive Pad where
  | laneRx (n : Nat) (leg : Leg)
  | laneTx (n : Nat) (leg : Leg)
  | quadClock (q : Nat) (leg : Leg)
  | gpio (p : Nat)
  | bankSupply (b : Nat)
  | vin
  | pcieRx (i : Nat) (leg : Leg)
  | pcieTx (i : Nat) (leg : Leg)
  | pcieClock (leg : Leg)
  | refclk (leg : Leg)
  | single (name : String)
  | ground
  deriving DecidableEq, Repr

/-- The leg at an odd or an even place of a run of pairs. -/
def legAt (k : Nat) : Leg := if k % 2 = 0 then .p else .n

/-- The base row of a band of 32 lanes (20 R521). -/
def bandRow (b : Nat) : Nat :=
  match b with
  | 0 => 0
  | 1 => 6
  | 2 => 52
  | _ => 58

/-- The band whose six rows hold a row, with the row counted from the band's base (20 R521). -/
def bandOf (row : Nat) : Option (Nat × Nat) :=
  if row ≤ 6 then some (0, row)
  else if row ≤ 12 then some (1, row - 6)
  else if 53 ≤ row ∧ row ≤ 58 then some (2, row - 52)
  else if 59 ≤ row then some (3, row - 58)
  else none

/-- A land of a band: row 2 receive pairs, row 4 transmit pairs, row 6 the quads' reference clocks, the rest ground
(20 R521). -/
def bandPad (b row col : Nat) : Pad :=
  if row = 2 then .laneRx (32 * b + (col - 1) / 2) (legAt (col - 1))
  else if row = 4 then .laneTx (32 * b + (col - 1) / 2) (legAt (col - 1))
  else if row = 6 ∧ 4 ≤ col ∧ (col - 4) % 8 < 2 then .quadClock (8 * b + (col - 4) / 8) (legAt ((col - 4) % 8))
  else .ground

/-- A land of rows 14 to 25: the GPIO lands of a bank and its supply (20 R522). -/
def bankPad (row col : Nat) : Pad :=
  if col ≤ 16 then .gpio (16 * (row - 14) + (col - 1))
  else if col ≤ 19 then .bankSupply ((row - 14) / 2)
  else .ground

/-- Three columns a pair of PCIe lands apart, from column 2 on (20 R523). -/
def pciePair (col : Nat) (pad : Nat → Leg → Pad) : Pad :=
  if 2 ≤ col ∧ (col - 2) / 3 < 4 ∧ (col - 2) % 3 < 2 then pad ((col - 2) / 3) (legAt ((col - 2) % 3)) else .ground

/-- The single lands by row and column (20 R523). -/
def singleLands : List (Nat × Nat × String) :=
  [(44, 8, "REFA"), (44, 10, "REFB"), (46, 2, "WAKE"), (46, 3, "PWR_GOOD"), (46, 5, "CFG_DONE"), (46, 6, "CFG_ERR"),
    (46, 4, "FAULT_N"), (46, 9, "TEMP_ALERT_N"), (46, 7, "PROM_REQ_N"), (46, 8, "PROM_ACT"), (46, 10, "PERST_N")]
  ++ [(48, 2, "SPI_SCK"), (48, 3, "SPI_CS_N"), (48, 4, "SPI_MOSI"), (48, 5, "SPI_MISO"), (48, 7, "SMB_SCL"),
    (48, 8, "SMB_SDA"), (48, 9, "SMB_ALERT_N"), (50, 2, "TCK"), (50, 3, "TMS"), (50, 4, "TDI"), (50, 5, "TDO"),
    (50, 6, "TRST_N")]

/-- A land of rows 40 to 50 (20 R523). -/
def controlPad (row col : Nat) : Pad :=
  if row = 40 then pciePair col .pcieRx
  else if row = 42 then pciePair col .pcieTx
  else if row = 44 ∧ (col = 2 ∨ col = 3) then .pcieClock (legAt col)
  else if row = 44 ∧ (col = 5 ∨ col = 6) then .refclk (legAt (col - 5))
  else
    match singleLands.find? (fun x => x.1 == row && x.2.1 == col) with
    | some x => .single x.2.2
    | none => .ground

/-- What land row-column carries, both from 1 to 64; every land no group names is ground (20 R520). -/
def padAt (row col : Nat) : Pad :=
  match bandOf row with
  | some (b, r) => bandPad b r col
  | none =>
    if 14 ≤ row ∧ row ≤ 25 then bankPad row col
    else if 29 ≤ row ∧ row ≤ 36 ∧ 57 ≤ col then .vin
    else controlPad row col

/-- How many lands of a row carry something other than ground. -/
def usedInRow (row : Nat) : Nat := ((List.range 64).filter fun c => padAt row (c + 1) != .ground).length

end Sys2Proof.Machine
end

