-- ==== Sys2Proof/WellFormed.lean ====
section
/-! DEFINITION. Well-formed commands: every operand that names or numbers something lies in the range the spec gives it. -/

namespace Sys2Proof

/-- What a read finds: a word address, and a syndrome that its row of 05 R123 does not leave to another row. -/
def wordFound (e : Nat × Syndrome) : Bool :=
  decide (e.1 < 4294967296) &&
    (match e.2 with
     | .other x => decide (0 < x ∧ x < 256)
     | _ => true)

/-- What the reads of a command find lies at words of a store and at code words of the flash. -/
def Found.ok (found : Found) : Bool := found.words.all wordFound && found.codes.all fun e => decide (e.1 < 50331648)

/-- The operands of a command lie in their ranges. -/
def Instr.wf (i : Instr) : Bool :=
  match i with
  | .registerWrite addr _ data => decide (addr < 67108864) && decide (data < 18446744073709551616)
  | .reg64LowRead addr size => decide (addr < 67108864) && (size == 4 || size == 8)
  | .reg64HighRead addr => decide (addr < 67108864)
  | .reg64LowWrite addr data => decide (addr < 67108864) && decide (data < 4294967296)
  | .reg64HighWrite addr data => decide (addr < 67108864) && decide (data < 4294967296)
  | .bar2Read offset length _ => decide (offset < 1073741824) && decide (length < 4097)
  | .cmdDoorbell tail => decide (tail < 4294967296)
  | .cplHeadWrite head => decide (head < 4294967296)
  | .evtHeadWrite head => decide (head < 4294967296)
  | .ringEnable value => decide (value < 4294967296)
  | .ringReset value => decide (value < 4294967296)
  | .commandFetch => true
  | .commandDispatch => true
  | .commandTimeout _ => true
  | .completionWrite => true
  | .hostDmaFault _ => true
  | .commandDataDmaError _ _ => true
  | .eventRingWrite => true
  | .irqHoldoffExpiry vector => decide (vector < 2)
  | .designIrqSet n => decide (4 ≤ n ∧ n ≤ 63)
  | .pcieLinkChange _ widthRate => decide (widthRate < 256)
  | .perstAssert => true
  | .nop _ => true
  | .logRead _ found => found.ok
  | .stewardInfo _ => true
  | .mailboxGo => true
  | .mbEvtRead => true
  | .spiRead addr _ _ => decide (addr < 4294967296)
  | .spiWrite addr groups => decide (addr < 4294967296) && (groups.all fun g => decide (g < 4294967296))
  | .spiStatus => true
  | .spiFrameError command => decide (command < 256)
  | .smbusRead target code => decide (target < 128) && decide (code < 256)
  | .smbusAlertRead => true
  | .stewardWatchdogExpiry => true
  | .stewardLockstepMismatch => true
  | .stewardPoisonedFetch => true
  | .stewardRestartDone => true
  | .spadHostRead offset size _ => decide (offset < 524288) && (size == 4 || size == 8)
  | .spadReadAbandon word => decide (word < 65536)
  | .spadHostWrite offset size data _ => decide (offset < 524288) && (size == 4 || size == 8) && decide (data < 18446744073709551616)
  | .spadFabricAccess word _ _ => decide (word < 65536)
  | .atomicAdd _ => true
  | .atomicSwap _ => true
  | .refclkLoss => true
  | .refclkReturn => true
  | .ptpMessage port _ => decide (port < 4)
  | .announceTimeout port => decide (port < 4)
  | .refaEdge _ => true
  | .refbEdge _ => true
  | .hokutuTimeMessage bond lane frame _ => decide (bond < 80) && decide (lane < 128) && decide (frame < 2 ^ 160)
  | .referenceLost slot => decide (slot < 4)
  | .referenceValid slot => decide (slot < 4)
  | .servoUpdate => true
  | .holdoverExpiry => true
  | .reselect => true
  | .forceFreerun value => decide (value < 2)
  | .setTime ns _ => decide (ns < 1073741824)
  | .timeNsRead => true
  | .posTickRead grid => decide (grid < 8)
  | .gridEnable grid value => decide (grid < 8) && decide (value < 4294967296)
  | .gridDisable grid value => decide (grid < 8) && decide (value < 4294967296)
  | .pulseEnable output value => decide (output < 8) && decide (value < 4294967296)
  | .pulseOutputPulse output => decide (output < 8)
  | .alarmArm comparator value => decide (comparator < 32) && decide (value < 4294967296)
  | .alarmFire comparator => decide (comparator < 32)
  | .timeMessageSend => true
  | .dncEntryWordStage addr data => decide (0x800000 ≤ addr ∧ addr < 0xA00000) && decide (data < 4294967296)
  | .dncEntryCommit addr size data => decide (0x800000 ≤ addr ∧ addr < 0xA00000) && (size == 4 || size == 8) && decide (data < 18446744073709551616)
  | .dncCopy => true
  | .dncCopyDone => true
  | .dncEnable value => decide (value < 4294967296)
  | .dncSwapArm value => decide (value < 4294967296)
  | .dncSwapCheckDone => true
  | .dncSwapCancel => true
  | .dncBankSwap => true
  | .dncEntryDue => true
  | .dncTurn => true
  | .dncPark => true
  | .dncUnpark => true
  | .dncCapture => true
  | .dncWindow => true
  | .dncDeadline => true
  | .dncRelease => true
  | .dncGpioSet => true
  | .dncGpioClear => true
  | .dncGpioPulse => true
  | .gpioPulseEnd land => decide (land < 192)
  | .dncEvent => true
  | .dncAlarm => true
  | .dncFence => true
  | .dncLogWrite => true
  | .storeWrite _ _ addr data _ => decide (addr < 4294967296) && decide (data < 4722366482869645213696)
  | .storeRead _ _ addr found => wordFound (addr, found)
  | .storeCorrectedWriteback => true
  | .patrolRead _ _ => true
  | .bufferDefine buffer value => decide (buffer < 256) && decide (value < 4294967296)
  | .bufferEffective buffer found => decide (buffer < 256) && found.ok
  | .bufferRemove buffer value => decide (buffer < 256) && decide (value < 4294967296)
  | .storeInitDone _ => true
  | .relocationDone _ unit found => decide (unit < 512) && found.ok
  | .admitFlow _ => true
  | .admissionCheckDone => true
  | .withdraw _ => true
  | .withdrawDone flow => decide (flow < 16384)
  | .contractQuery _ => true
  | .ticketCreate flow _ => decide (flow < 16384)
  | .ticketDelivered ticket => decide (ticket < 262144)
  | .ticketDeadline ticket => decide (ticket < 262144)
  | .recheckDone => true
  | .flowTableWrite addr data => decide (0xC00000 ≤ addr ∧ addr < 0xD00000) && decide (data < 4294967296)
  | .pairRecordWrite addr data => decide (0x390000 ≤ addr ∧ addr < 0x394000) && decide (data < 4294967296)
  | .flowEnable _ => true
  | .flowDisable _ => true
  | .flowDisableDone flow => decide (flow < 16384)
  | .flowStats _ => true
  | .inject _ => true
  | .injectFrameSend lane => decide (lane < 128)
  | .injectTokenRefill => true
  | .ingressFrame lane _ => decide (lane < 128)
  | .mergeSkewExpiry record => decide (record < 256)
  | .pathLossTimeout record _ => decide (record < 256)
  | .sdiLine flow _ => decide (flow < 16384)
  | .substituteTicketCreate flow => decide (flow < 16384)
  | .egressPacketSend flow found => decide (flow < 16384) && found.ok
  | .egressSdiLine flow found => decide (flow < 16384) && found.ok
  | .laneCtrlWrite lane value => decide (lane < 128) && decide (value < 4294967296)
  | .lanePrbsWrite lane value => decide (lane < 128) && decide (value < 4294967296)
  | .quadPllLockChange quad pll _ => decide (quad < 32) && decide (pll < 2)
  | .laneUp lane sdiRate _ => decide (lane < 128) && decide (sdiRate < 16)
  | .laneLinkDown lane _ => decide (lane < 128)
  | .laneFault lane trigger => decide (lane < 128) && decide (trigger < 16)
  | .laneTestDone lane _ => decide (lane < 128)
  | .bondEnable bond value => decide (bond < 16) && decide (value < 4294967296)
  | .hokutuTrainReq bond position blocks _ => decide (bond < 80) && decide (position < 17) && blocks.all fun x => decide (x < 2 ^ 148)
  | .hokutuTrainAck bond position blocks _ => decide (bond < 80) && decide (position < 17) && blocks.all fun x => decide (x < 2 ^ 148)
  | .bondTrainingDone bond _ => decide (bond < 80)
  | .bondRetrain bond => decide (bond < 80)
  | .hokutuTicketReceive bond arrived => decide (bond < 48) && arrived.all fun l => l.all fun x => decide (x < 2 ^ 148)
  | .bondSpareSwitch bond => decide (bond < 80)
  | .rawPcsReceive lane word => decide (lane < 128) && decide (word < 4722366482869645213696)
  | .gpioWrite land value => decide (land < 192) && decide (value < 4294967296)
  | .viobFault bank _ => decide (bank < 6)
  | .viobRestore bank _ => decide (bank < 6)
  | .bypass => true
  | .idcode => true
  | .samplePreload _ => true
  | .extest => true
  | .extestPulse => true
  | .extestTrain => true
  | .clamp => true
  | .highz => true
  | .jtagTrst => true
  | .fpllLock pll => decide (pll < 16)
  | .fpllRefLost pll => decide (pll < 16)
  | .fpllRealignDone pll => decide (pll < 16)
  | .expressConflict column row tap => decide (column < 1536) && decide (row < 64) && decide (tap < 128)
  | .gsrRelease region => decide (region < 16)
  | .tileMemoryAccess region tile _ _ _ _ _ _ => decide (region < 16) && decide (tile < 240)
  | .tileEccWriteback region tile _ => decide (region < 16) && decide (tile < 240)
  | .mixSliceEdge column slice _ => decide (column < 1536) && decide (slice < 32)
  | .packFifoWrite port data _ wbytes => decide (port < 256) && decide (data < 4722366482869645213696) && decide (wbytes < 10)
  | .packFifoReaderTake port => decide (port < 256)
  | .packFifoNotice port => decide (port < 256)
  | .deliveryPortPlace port ticket _ => decide (port < 256) && decide (ticket < 262144)
  | .deliveryPortRead port => decide (port < 256)
  | .bufferReadRequest port _ _ => decide (port < 256)
  | .streamStage _ => true
  | .streamLoad _ => true
  | .streamDiscard _ => true
  | .cfgDiscardWrite value => decide (value < 4294967296)
  | .loadChecksDone found => found.ok
  | .fullLoadCommit found => found.ok
  | .backgroundLoadCommit found => found.ok
  | .ctxTurn _ => true
  | .ctxPark _ => true
  | .ctxUnpark _ => true
  | .ctxCapture _ => true
  | .ctxResume _ => true
  | .ctxReadback _ => true
  | .ctxGoldenSave _ => true
  | .goldenSaveDone _ => true
  | .turnEffect region => decide (region < 16)
  | .turnNoClock region => decide (region < 16)
  | .parkEffect region => decide (region < 16)
  | .parkForced region => decide (region < 16)
  | .unparkRelease region => decide (region < 16)
  | .captureTaken => true
  | .flashErase _ => true
  | .flashEraseDone bank _ => decide (bank < 8)
  | .flashProgram _ => true
  | .flashProgramDone bank _ => decide (bank < 8)
  | .flashSuspend _ => true
  | .flashResume _ => true
  | .flashSectorInfo _ => true
  | .flashCalRead _ => true
  | .flashBootSwap _ found => found.ok
  | .stewardOffBank => true
  | .recordSectorEraseDone _ => true
  | .frameUpsetDetect context physical frame found =>
    decide (context < 4) && decide (physical < 1568) && decide (frame < 256) && found.ok
  | .frameSelfTestDone context physical frame found =>
    decide (context < 4) && decide (physical < 1568) && decide (frame < 256) &&
      (match found with
       | .signal group signal => decide (group < 27) && decide (signal < 64)
       | _ => true)
  | .columnRelocationDone region found => decide (region < 16) && found.ok
  | .guardTmrCorrect physical => decide (physical < 1568)
  | .guardFailed physical _ => decide (physical < 1568)
  | .stewardScrubMismatch context physical frame found =>
    decide (context < 4) && decide (physical < 1568) && decide (frame < 256) && found.ok
  | .riserTransferError interface _ => decide (1 ≤ interface ∧ interface ≤ 7)
  | .expressTapMismatch _ => true
  | .riserTestDone interface _ _ => decide (1 ≤ interface ∧ interface ≤ 7)
  | .storeBankTestDone bank _ => decide (bank < 512)
  | .farChannelTestDone channel _ => decide (channel < 32)
  | .hltAffectedFlows _ => true
  | .hltRecords _ => true
  | .hltTest _ => true
  | .vinMeasurement _ _ _ => true
  | .vinLockout => true
  | .vinPowerUp _ => true
  | .currentLimit _ => true
  | .budgetUpdate => true
  | .powerSample _ _ => true
  | .droopSample rail _ => decide (rail < 6)
  | .flowSample _ => true
  | .tempSample _ => true
  | .clearSuspect => true
  | .policyEvaluate => true
  | .glbResetWrite value => decide (value < 4294967296)
  | .coldReset => true
  | .warmReset => true
  | .railsGood => true
  | .stewardBootDone found => found.ok
  | .contextRestoreDone found => found.ok
  | .bootTagVerified found => found.ok
  | .bootDone => true
  | .pwrEnter _ => true
  | .pwrQuiesceDone => true
  | .pwrCommit => true
  | .pwrExit _ => true
  | .serviceEnter _ => true
  | .wakeInput _ => true
  | .wakeDone => true
  | .firstAccessWake _ _ => true
  | .farStoreIdleTimeout => true
  | .promReqInput _ => true
  | .promEnter _ => true
  | .promExit _ => true
  | .frameSyncInputFrame route _ _ _ => decide (route < 32)
  | .frameSyncOutputFrame route _ found => decide (route < 32) && found.ok
  | .resClaim _ => true
  | .resRelease _ => true
  | .lcsInfo _ => true
  | .lcsChallenge _ => true
  | .lcsKeyWrite _ => true
  | .lcsTransition _ => true
  | .repeatTransition _ => true
  | .privilegedStepDone => true
  | .dbgChallenge => true
  | .dbgResponse slot tag => decide (slot < 16) && decide (tag < 340282366920938463463374607431768211456)
  | .dbgAccess _ offset data => decide (offset < 67108864) && decide (data < 4294967296)
  | .dbgHalt => true
  | .dbgResume => true
  | .dbgReset => true
  | .dbgLock => true
  | .perstRelease => true
  | .alwaysOnPowerLoss _ => true
  | .routeStateChange route _ => decide (route < 32)
  | .qrefclkPresenceChange quad _ => decide (quad < 32)
  | .patrolPeriodElapsed _ => true

end Sys2Proof
end

