-- ==== Sys2Proof/Tests/Slice0.lean ====
section
/-! SUPPORT. Tests: a witness for the hypotheses of every statement of Certificates/Slice0/Obligations.lean, terms that Instr.wf
refuses, and a few results of the worked examples and tables of the spec. -/

open Sys2Proof Sys2Proof.Machine

-- One proof at a time: each of them waits for the kernel, and side by side they would take a thread each.
section
set_option Elab.async false

/-! ### States that several witnesses use -/

/-- A state with one ring command in flight, number 0, of the given record. -/
def cmdState (bytes : List Nat) : State :=
  { State.reset with mgmt := { State.reset.mgmt with inFlight := [{ id := 0, ring := true, bytes := bytes, tick := 0 }] } }

/-- A command record: OPCODE and PARAM from byte 8 on. -/
def rec (op : Nat) (param : List Nat) : List Nat := bytesOf 2 op ++ [0, 0, 0, 0, 0, 0] ++ param

/-- The grid of the worked example after 03 R83. -/
def gridState : State :=
  (((State.reset.wrAt CLR_GRID_NUM 0 60000).wrAt CLR_GRID_DEN 0 1001).wrAt CLR_GRID_CTRL_LINES 0 1125).wrAt CLR_GRID_ALIGN 0 0

/-- The same state in RUN. -/
def inRun (s : State) : State := s.wr GLB_MODE_MODE modeRun

/-- A contract of grid 0. -/
def someContract (st : ContractState) : Contract :=
  { grid := 0, unit := 0, rate := 1, deadline := 1000, quota := 1, discardLate := true, priority := 0, far := false, tNum := 1,
    tDen := 1, charges := [], slots := 1, state := st }

/-- Flow `f` holds that contract. -/
def withContract (s : State) (f : Nat) (st : ContractState) : State :=
  { s with adm := { s.adm with contracts := [(f, someContract st)] } }

/-- A ticket of flow 5 with deadline 10. -/
def someTicket : Ticket := { flow := 5, contracted := true, created := 0, deadline := 10, words := 1, slots := [], far := false }

/-- Flow `f` of the table with word 0 equal to `w`. -/
def withFlow (s : State) (f w : Nat) : State := { s with flows := { s.flows with table := [(16 * f, w)] } }

/-- A good frame of no flow. -/
def someFrame : Frame :=
  { length := 64, fcsOk := true, isPtp := false, isMacControl := false, ipHeaderOk := true, fragment := false, ipv6 := false,
    isUdp := true, udpChecksumOk := true, vlan := false, vid := 0, dstIp := 0, srcIp := 0, dstPort := 0, srcPort := 0, pt := 0,
    ssrc := 0, rtpSeq := 0, seqIsExtended := false, marker := false, srd := [], payload := [], endsInError := false }

/-- A good SDI line 1 with no active words. -/
def someLine : SdiLine := { trsOk := true, lineNo := 1, crcOk := true, streams := [], anc := none }

/-- What reads find at a word address outside the stores, and at a code word outside the flash. -/
def badWords : Found := { words := [(4294967296, .zero)] }
def badCodes : Found := { codes := [(50331648, .good)] }

/-- Region 15 runs: clocks on, set-reset released, not parked. -/
def regionOn (s : State) : State :=
  inRun (((s.wrAt FAB_REGION_CLK_RUN 15 1).wrAt FAB_REGION_GSR_HELD 15 0).wr CTX_STATUS_PARKED 0)

/-- The steward runs. -/
def withSteward (s : State) : State := { s with mgmt := { s.mgmt with steward := .running } }

/-- The device off. -/
def offState : State := State.reset.wr GLB_MODE_MODE modeOff

/-- In RUN, boot over. -/
def booted : State := { inRun State.reset with modes := { State.reset.modes with boot := none } }

/-! ### Well-formedness: one ill-formed term for each check, and the same commands well formed -/

theorem test_wf_refuses_1 : (List.all
    [Instr.registerWrite 67108864 0 0, Instr.registerWrite 0 0 18446744073709551616, Instr.reg64LowRead 67108864 4, Instr.reg64LowRead 0 2,
     Instr.reg64HighRead 67108864, Instr.reg64LowWrite 67108864 0, Instr.reg64LowWrite 0 4294967296,
     Instr.reg64HighWrite 67108864 0, Instr.reg64HighWrite 0 4294967296, Instr.bar2Read 1073741824 0 [],
     Instr.bar2Read 0 4097 [], Instr.cmdDoorbell 4294967296, Instr.cplHeadWrite 4294967296,
     Instr.evtHeadWrite 4294967296, Instr.ringEnable 4294967296, Instr.ringReset 4294967296, Instr.irqHoldoffExpiry 2,
     Instr.designIrqSet 64, Instr.pcieLinkChange false 256, Instr.spiRead 4294967296 0 false,
     Instr.spiWrite 4294967296 []]
    fun i => !i.wf) = true := by decide +kernel

theorem test_wf_refuses_2 : (List.all
    [Instr.spiWrite 0 [4294967296], Instr.spiFrameError 256, Instr.smbusRead 128 0, Instr.smbusRead 0 256, Instr.spadHostRead 524288 4 .good,
     Instr.spadHostRead 0 2 .good, Instr.spadReadAbandon 65536, Instr.spadHostWrite 524288 4 0 .good,
     Instr.spadHostWrite 0 2 0 .good, Instr.spadHostWrite 0 4 18446744073709551616 .good,
     Instr.spadFabricAccess 65536 .read .good, Instr.ptpMessage 4 .other, Instr.announceTimeout 4,
     Instr.hokutuTimeMessage 80 0 0 0, Instr.hokutuTimeMessage 0 128 0 0, Instr.hokutuTimeMessage 0 0 (2 ^ 160) 0,
     Instr.referenceLost 4, Instr.referenceValid 4, Instr.forceFreerun 2, Instr.setTime 1073741824 0,
     Instr.posTickRead 8, Instr.gridEnable 8 0]
    fun i => !i.wf) = true := by decide +kernel

theorem test_wf_refuses_3 : (List.all
    [Instr.gridEnable 0 4294967296, Instr.gridDisable 8 0, Instr.gridDisable 0 4294967296, Instr.pulseEnable 8 0,
     Instr.pulseEnable 0 4294967296, Instr.pulseOutputPulse 8, Instr.alarmArm 32 0, Instr.alarmArm 0 4294967296,
     Instr.alarmFire 32, Instr.dncEntryWordStage 0x7FFFFC 0, Instr.dncEntryWordStage 0x800000 4294967296,
     Instr.dncEntryCommit 0xA00000 4 0, Instr.dncEntryCommit 0x800000 2 0,
     Instr.dncEntryCommit 0x800000 4 18446744073709551616, Instr.dncEnable 4294967296, Instr.dncSwapArm 4294967296,
     Instr.gpioPulseEnd 192, Instr.storeWrite .design 0 4294967296 0 false,
     Instr.storeWrite .design 0 0 4722366482869645213696 false, Instr.storeRead .design 0 4294967296 .zero,
     Instr.storeRead .design 0 0 (.other 0), Instr.storeRead .design 0 0 (.other 256)]
    fun i => !i.wf) = true := by decide +kernel

theorem test_wf_refuses_4 : (List.all
    [Instr.bufferDefine 256 0, Instr.bufferDefine 0 4294967296, Instr.bufferEffective 256 {}, Instr.bufferEffective 0 badWords, Instr.bufferRemove 256 0,
     Instr.bufferRemove 0 4294967296, Instr.relocationDone false 512 {}, Instr.relocationDone false 0 badCodes, Instr.withdrawDone 16384,
     Instr.ticketCreate 16384 0, Instr.ticketDelivered 262144, Instr.ticketDeadline 262144,
     Instr.flowTableWrite 0xD00000 0, Instr.flowTableWrite 0xC00000 4294967296, Instr.pairRecordWrite 0x394000 0,
     Instr.pairRecordWrite 0x390000 4294967296, Instr.flowDisableDone 16384, Instr.injectFrameSend 128,
     Instr.ingressFrame 128 someFrame, Instr.mergeSkewExpiry 256, Instr.pathLossTimeout 256 false,
     Instr.sdiLine 16384 someLine]
    fun i => !i.wf) = true := by decide +kernel

theorem test_wf_refuses_5 : (List.all
    [Instr.substituteTicketCreate 16384, Instr.egressPacketSend 16384 {}, Instr.egressPacketSend 0 badWords,
     Instr.egressSdiLine 16384 {}, Instr.egressSdiLine 0 badCodes,
     Instr.laneCtrlWrite 128 0, Instr.laneCtrlWrite 0 4294967296, Instr.lanePrbsWrite 128 0,
     Instr.lanePrbsWrite 0 4294967296, Instr.quadPllLockChange 32 0 false, Instr.quadPllLockChange 0 2 false,
     Instr.laneUp 128 0 false, Instr.laneUp 0 16 false, Instr.laneLinkDown 128 false, Instr.laneFault 128 0,
     Instr.laneFault 0 16, Instr.laneTestDone 128 false, Instr.bondEnable 16 0, Instr.bondEnable 0 4294967296,
     Instr.hokutuTrainReq 80 0 [] 0, Instr.hokutuTrainReq 0 17 [] 0,
     Instr.hokutuTrainReq 0 0 [2 ^ 148] 0]
    fun i => !i.wf) = true := by decide +kernel

theorem test_wf_refuses_6 : (List.all
    [Instr.hokutuTrainAck 80 0 [] 0, Instr.hokutuTrainAck 0 17 [] 0,
     Instr.hokutuTrainAck 0 0 [2 ^ 148] 0, Instr.bondTrainingDone 80 false, Instr.bondRetrain 80,
     Instr.hokutuTicketReceive 48 [], Instr.hokutuTicketReceive 0 [[2 ^ 148]], Instr.bondSpareSwitch 80, Instr.rawPcsReceive 128 0, Instr.rawPcsReceive 0 4722366482869645213696,
     Instr.gpioWrite 192 0, Instr.gpioWrite 0 4294967296, Instr.viobFault 6 0, Instr.viobRestore 6 0,
     Instr.fpllLock 16, Instr.fpllRefLost 16, Instr.fpllRealignDone 16, Instr.expressConflict 1536 0 0, Instr.expressConflict 0 64 0, Instr.expressConflict 0 0 128,
     Instr.gsrRelease 16,
     Instr.tileMemoryAccess 16 0 { en := false, we := 0, addr := 0, din := 0 } { en := false, we := 0, addr := 0, din := 0 } false false .good .good,
     Instr.tileMemoryAccess 0 240 { en := false, we := 0, addr := 0, din := 0 } { en := false, we := 0, addr := 0, din := 0 } false false .good .good]
    fun i => !i.wf) = true := by decide +kernel

theorem test_wf_refuses_7 : (List.all
    [Instr.tileEccWriteback 16 0 false, Instr.tileEccWriteback 0 240 false,
     Instr.mixSliceEdge 1536 0 { ce := false, x := 0, b := 0, pre := 0, zsel := 0 },
     Instr.mixSliceEdge 0 32 { ce := false, x := 0, b := 0, pre := 0, zsel := 0 }, Instr.packFifoWrite 256 0 false 0,
     Instr.packFifoWrite 0 4722366482869645213696 false 0, Instr.packFifoWrite 0 0 false 10,
     Instr.packFifoReaderTake 256, Instr.packFifoNotice 256, Instr.deliveryPortPlace 256 0 .zero,
     Instr.deliveryPortPlace 0 262144 .zero, Instr.deliveryPortRead 256, Instr.bufferReadRequest 256 0 0,
     Instr.cfgDiscardWrite 4294967296, Instr.turnEffect 16, Instr.turnNoClock 16, Instr.parkEffect 16,
     Instr.parkForced 16, Instr.unparkRelease 16, Instr.flashEraseDone 8 false]
    fun i => !i.wf) = true := by decide +kernel

theorem test_wf_refuses_8 : (List.all
    [Instr.flashProgramDone 8 none, Instr.frameUpsetDetect 4 0 0 {}, Instr.frameUpsetDetect 0 1568 0 {},
     Instr.frameUpsetDetect 0 0 256 {}, Instr.frameUpsetDetect 0 0 0 badWords, Instr.frameSelfTestDone 4 0 0 .cell,
     Instr.frameSelfTestDone 0 1568 0 .cell, Instr.frameSelfTestDone 0 0 256 .cell,
     Instr.frameSelfTestDone 0 0 0 (.signal 27 0), Instr.frameSelfTestDone 0 0 0 (.signal 0 64),
     Instr.columnRelocationDone 16 {}, Instr.columnRelocationDone 0 badWords, Instr.guardTmrCorrect 1568,
     Instr.guardFailed 1568 false, Instr.stewardScrubMismatch 4 0 0 {}, Instr.stewardScrubMismatch 0 1568 0 {},
     Instr.stewardScrubMismatch 0 0 256 {}, Instr.stewardScrubMismatch 0 0 0 badWords, Instr.riserTransferError 8 0, Instr.riserTestDone 0 0 none,
     Instr.storeBankTestDone 512 false, Instr.farChannelTestDone 32 false, Instr.droopSample 6 [],
     Instr.glbResetWrite 4294967296, Instr.frameSyncInputFrame 32 false false []]
    fun i => !i.wf) = true := by decide +kernel

theorem test_wf_refuses_9 : (List.all
    [Instr.frameSyncOutputFrame 32 false {}, Instr.frameSyncOutputFrame 0 false badWords, Instr.logRead 0 badWords,
     Instr.loadChecksDone badWords, Instr.fullLoadCommit badCodes, Instr.backgroundLoadCommit badWords,
     Instr.flashBootSwap 0 badCodes, Instr.stewardBootDone badCodes, Instr.contextRestoreDone badWords,
     Instr.bootTagVerified badCodes, Instr.dbgResponse 16 0,
     Instr.dbgResponse 0 340282366920938463463374607431768211456, Instr.dbgAccess false 67108864 0,
     Instr.dbgAccess false 0 4294967296, Instr.routeStateChange 32 false, Instr.qrefclkPresenceChange 32 0]
    fun i => !i.wf) = true := by decide +kernel

theorem test_wf_takes_1 : (List.all
    [Instr.registerWrite 0 0 0, Instr.reg64LowRead 0 4, Instr.reg64HighRead 0, Instr.reg64LowWrite 0 0,
     Instr.reg64HighWrite 0 0, Instr.bar2Read 0 0 [], Instr.cmdDoorbell 0, Instr.cplHeadWrite 0, Instr.evtHeadWrite 0,
     Instr.ringEnable 0, Instr.ringReset 0, Instr.irqHoldoffExpiry 0, Instr.designIrqSet 4,
     Instr.pcieLinkChange false 0, Instr.spiRead 0 0 false, Instr.spiWrite 0 [], Instr.spiFrameError 0,
     Instr.smbusRead 0 0, Instr.spadHostRead 0 4 .good, Instr.spadReadAbandon 0]
    fun i => i.wf) = true := by decide +kernel

theorem test_wf_takes_2 : (List.all
    [Instr.spadHostWrite 0 4 0 .good, Instr.spadFabricAccess 0 .read .good, Instr.ptpMessage 0 .other,
     Instr.announceTimeout 0,
     Instr.hokutuTimeMessage 79 127 (2 ^ 160 - 1) 0,
     Instr.referenceLost 0, Instr.referenceValid 0, Instr.forceFreerun 0, Instr.setTime 0 0, Instr.posTickRead 0,
     Instr.gridEnable 0 0, Instr.gridDisable 0 0, Instr.pulseEnable 0 0, Instr.pulseOutputPulse 0, Instr.alarmArm 0 0,
     Instr.alarmFire 0, Instr.dncEntryWordStage 0x800000 0, Instr.dncEntryCommit 0x800000 4 0, Instr.dncEnable 0,
     Instr.dncSwapArm 0]
    fun i => i.wf) = true := by decide +kernel

theorem test_wf_takes_3 : (List.all
    [Instr.gpioPulseEnd 0, Instr.storeWrite .design 0 0 0 false, Instr.storeRead .design 0 0 (.other 255),
     Instr.bufferDefine 0 0, Instr.bufferEffective 0 {}, Instr.bufferRemove 0 0, Instr.relocationDone false 0 {},
     Instr.withdrawDone 0, Instr.ticketCreate 0 0, Instr.ticketDelivered 0, Instr.ticketDeadline 0,
     Instr.flowTableWrite 0xC00000 0, Instr.pairRecordWrite 0x390000 0, Instr.flowDisableDone 0,
     Instr.injectFrameSend 0, Instr.ingressFrame 0 someFrame, Instr.mergeSkewExpiry 0, Instr.pathLossTimeout 0 false,
     Instr.sdiLine 0 someLine,
     Instr.substituteTicketCreate 0]
    fun i => i.wf) = true := by decide +kernel

theorem test_wf_takes_4 : (List.all
    [Instr.egressPacketSend 0 {}, Instr.egressSdiLine 0 {}, Instr.laneCtrlWrite 0 0, Instr.lanePrbsWrite 0 0,
     Instr.quadPllLockChange 0 0 false, Instr.laneUp 0 0 false, Instr.laneLinkDown 0 false, Instr.laneFault 0 0,
     Instr.laneTestDone 0 false, Instr.bondEnable 0 0, Instr.hokutuTrainReq 79 16 [2 ^ 148 - 1] 0, Instr.hokutuTrainAck 0 0 [] 0,
     Instr.bondTrainingDone 0 false, Instr.bondRetrain 0,
     Instr.hokutuTicketReceive 47 [[2 ^ 148 - 1]],
     Instr.bondSpareSwitch 0, Instr.rawPcsReceive 0 0, Instr.gpioWrite 0 0, Instr.viobFault 0 0,
     Instr.viobRestore 0 0]
    fun i => i.wf) = true := by decide +kernel

theorem test_wf_takes_5 : (List.all
    [Instr.fpllLock 0, Instr.fpllRefLost 0, Instr.fpllRealignDone 0, Instr.expressConflict 1535 63 127, Instr.gsrRelease 0,
     Instr.tileMemoryAccess 0 0 { en := false, we := 0, addr := 0, din := 0 } { en := false, we := 0, addr := 0, din := 0 } false false .good .good,
     Instr.tileEccWriteback 0 0 false, Instr.mixSliceEdge 0 0 { ce := false, x := 0, b := 0, pre := 0, zsel := 0 },
     Instr.packFifoWrite 0 0 false 0, Instr.packFifoReaderTake 0, Instr.packFifoNotice 0,
     Instr.deliveryPortPlace 0 0 .zero, Instr.deliveryPortRead 0, Instr.bufferReadRequest 0 0 0,
     Instr.cfgDiscardWrite 0, Instr.turnEffect 0, Instr.turnNoClock 0, Instr.parkEffect 0, Instr.parkForced 0,
     Instr.unparkRelease 0]
    fun i => i.wf) = true := by decide +kernel

theorem test_wf_takes_6 : (List.all
    [Instr.flashEraseDone 0 false, Instr.flashProgramDone 0 none, Instr.frameUpsetDetect 0 0 0 {},
     Instr.frameSelfTestDone 0 0 0 (.signal 26 63), Instr.columnRelocationDone 0 {}, Instr.guardTmrCorrect 0,
     Instr.guardFailed 0 false, Instr.stewardScrubMismatch 0 0 0 {}, Instr.riserTransferError 1 0,
     Instr.riserTestDone 1 0 none, Instr.storeBankTestDone 0 false, Instr.farChannelTestDone 0 false,
     Instr.droopSample 0 [], Instr.glbResetWrite 0, Instr.frameSyncInputFrame 0 false false [],
     Instr.frameSyncOutputFrame 0 false {}, Instr.logRead 0 {}, Instr.loadChecksDone {}, Instr.fullLoadCommit {},
     Instr.backgroundLoadCommit {}, Instr.flashBootSwap 0 {}, Instr.stewardBootDone {}, Instr.contextRestoreDone {},
     Instr.bootTagVerified {}, Instr.dbgResponse 0 0, Instr.dbgAccess false 0 0,
     Instr.routeStateChange 0 false, Instr.qrefclkPresenceChange 0 0]
    fun i => i.wf) = true := by decide +kernel

/-! ### general -/

theorem witness_EmptyQueueTicks :
    (State.reset.pending = [] ∧ State.reset.mode ≠ modeOff) ∧ State.reset.store.waiting = [] ∧
    (∀ p < 192, State.reset.rdAt LNE_GPIO_PULL p ≠ 3) ∧
    (State.reset.mode ≠ modeDeepSleep ∧ State.reset.mode ≠ modeSleep ∧ State.reset.mode ≠ modeIdle) ∧
    (offState.pending = [] ∧ offState.mode = modeOff) := by
  refine ⟨by decide, by decide, ?_, by decide, by decide⟩
  have h : (List.range 192).all (fun p => State.reset.rdAt LNE_GPIO_PULL p != 3) = true := by decide +kernel
  intro p hp
  simpa using List.all_eq_true.mp h p (by simpa using hp)

theorem witness_StepKeepsCanonicalForm :
    ({ State.reset with pending := [Instr.mbEvtRead] } : State).canon ∧
    ∃ t, step { State.reset with pending := [Instr.mbEvtRead] } = .next t :=
  ⟨⟨by decide +kernel, by decide +kernel, by decide +kernel⟩, _, rfl⟩

theorem witness_StepTakesOneCommand :
    ∃ t, step { State.reset with pending := [Instr.mbEvtRead, Instr.perstRelease] } = .next t ∧
      t.pending = [Instr.perstRelease] := ⟨_, rfl, rfl⟩

theorem witness_RegisterFieldsDoNotOverlap :
    ∃ f ∈ allFields, ∃ g ∈ allFields, 0 < f.count ∧ 0 < g.count ∧ f.key 0 ≤ g.key 0 ∧ g.key 0 < f.key 0 + f.width := by
  have h : (allFields.any fun f => decide (0 < f.count ∧ f.key 0 < f.key 0 + f.width)) = true := by decide +kernel
  obtain ⟨f, hf, h⟩ := List.any_eq_true.mp h
  obtain ⟨hc, hk⟩ := of_decide_eq_true h
  exact ⟨f, hf, f, hf, hc, hc, Nat.le_refl _, hk⟩

theorem witness_FieldWriteReads : MBX_CPL_HEAD.key 0 ≠ MBX_CMD_HEAD.key 0 := by decide

/-! ### management -/

theorem witness_RingIndexAndEnable :
    (0 < 65536 ∧ 0 < State.reset.cmdEntries) ∧ (65535 < 65536 ∧ State.reset.cmdEntries ≤ 65535) ∧
    (0 < State.reset.cplEntries ∧ State.reset.cplEntries ≤ 65535) ∧
    (0 < State.reset.evtEntries ∧ State.reset.evtEntries ≤ 65535) ∧
    (0 ≠ 1 ∨ (4 ≤ State.reset.rd MBX_RING_SIZE_CMD_LOG2 ∧ State.reset.rd MBX_RING_SIZE_CMD_LOG2 ≤ 16)) ∧
    (State.reset.wr MBX_RING_SIZE_CMD_LOG2 3).rd MBX_RING_SIZE_CMD_LOG2 < 4 ∧
    16 < (State.reset.wr MBX_RING_SIZE_CMD_LOG2 17).rd MBX_RING_SIZE_CMD_LOG2 := by decide

theorem witness_RingResetDiscards :
    bitOf 0x100 8 = 1 ∧ bitOf 0xFF 8 ≠ 1 ∧
    (let f : InFlight := { id := 0, ring := true, bytes := [], tick := 0, discard := true }
     let s : State := { State.reset with mgmt := { State.reset.mgmt with inFlight := [f] } }
     s.cmd 0 = some f ∧ f.discard = true ∧ s.now ≠ f.expiresAt) := by decide

/-- Rings enabled with 16 entries, one command written, one completion waiting. -/
def ringState : State :=
  let s := { State.reset with mgmt := { State.reset.mgmt with cplWait := [[1]], perstN := true } }
  ((((s.wr MBX_CTRL_CMD_EN 1).wr MBX_CTRL_CPL_EN 1).wr MBX_RING_SIZE_CMD_LOG2 4).wr MBX_RING_SIZE_CPL_LOG2 4).wr MBX_CMD_TAIL 1

theorem witness_RingFetchAndCompletion :
    (ringState.mgmt.perstN = true ∧ ringState.rd MBX_CTRL_CMD_EN = 1 ∧
      ringState.rd MBX_CMD_HEAD ≠ ringState.rd MBX_CMD_TAIL ∧ ringState.cplFull = false) ∧
    (State.reset.mgmt.perstN = false ∧ State.reset.rd MBX_CTRL_CMD_EN ≠ 1 ∧
      State.reset.rd MBX_CMD_HEAD = State.reset.rd MBX_CMD_TAIL) ∧
    (ringState.wr MBX_CPL_TAIL 15).cplFull = true ∧
    (ringState.mgmt.cplWait = [1] :: [] ∧ ringState.rd MBX_CTRL_CPL_EN = 1) ∧ State.reset.mgmt.cplWait = [] ∧
    State.reset.rd MBX_CTRL_CPL_EN ≠ 1 ∧ (State.reset.wr MBX_WB_ADDR 1).rd MBX_WB_ADDR ≠ 0 ∧
    State.reset.rd MBX_WB_ADDR = 0 := by decide

/-- A NOP waits in the mailbox, and another in the ring. -/
def waitingState : State :=
  { State.reset with mgmt := { State.reset.mgmt with mailbox := some (rec 0xD001 []), fetched := [rec 0xD001 []] } }

/-- A record with FENCE set. -/
def fenceRec : List Nat := [0, 0, 0, 0, 1]

theorem witness_DispatchInOrder :
    (waitingState.mgmt.mailbox = some (rec 0xD001 []) ∧ waitingState.mayDispatch (rec 0xD001 []) = true ∧
      waitingState.fenceBefore = false ∧ recFence (rec 0xD001 []) = false) ∧
    (let s := { waitingState with mgmt := { waitingState.mgmt with mailbox := none } }
     s.mgmt.mailbox = none ∧ s.mgmt.fetched = [rec 0xD001 []] ∧ s.mayDispatch (rec 0xD001 []) = true ∧
       s.mayDispatch (rec 0x8007 []) = false) ∧
    (let s := { State.reset with mgmt := { State.reset.mgmt with mailbox := some fenceRec } }
     s.mgmt.mailbox = some fenceRec ∧ s.mayDispatch fenceRec = true ∧ s.fenceBefore = false ∧ s.mgmt.mailboxBehind = 0) ∧
    (let s := { State.reset with mgmt := { State.reset.mgmt with fetched := [rec 0x8007 []] } }
     s.mgmt.mailbox = none ∧ s.mgmt.fetched = [rec 0x8007 []] ∧ s.mayDispatch (rec 0x8007 []) = false) ∧
    (let s := { cmdState [] with mgmt := { (cmdState []).mgmt with mailbox := some fenceRec } }
     s.mgmt.mailbox = some fenceRec ∧ s.mayDispatch fenceRec = false ∧ recFence fenceRec = true ∧
       s.mgmt.mailboxBehind = 0) ∧
    (let s := { waitingState with mgmt := { waitingState.mgmt with mailbox := some (rec 0x8007 []) } }
     s.mgmt.mailbox = some (rec 0x8007 []) ∧ s.mayDispatch (rec 0x8007 []) = false ∧ recFence (rec 0x8007 []) = false ∧
       s.mgmt.fetched = [rec 0xD001 []] ∧ s.mayDispatch (rec 0xD001 []) = true) ∧
    (let s := { waitingState with mgmt := { waitingState.mgmt with fetched := [fenceRec], mailboxBehind := 1 } }
     s.mgmt.mailbox = some (rec 0xD001 []) ∧ s.fenceBefore = true ∧ s.mgmt.mailboxBehind ≠ 0 ∧
       s.mgmt.fetched = [fenceRec] ∧ s.mayDispatch fenceRec = true) ∧
    (State.reset.dispatchCheck [0x01, 0xD0, 0, 0, 0, 1] = none ∧ State.reset.dispatchCheck (rec 0x0001 []) = some ⟨0x01, 0, 0⟩) ∧
    opcodeInfo (recOpcode (rec 0x0001 [])) = none ∧
    (opcodeInfo (recOpcode (rec 0xD001 [])) = some (1, 1, false) ∧ recPlen (rec 0xD001 []) ≠ 1) ∧
    (State.reset.rd MBX_MB_CTRL_BUSY = 0 ∧ State.reset.mgmt.mailbox = none) ∧
    ((State.reset.wr MBX_MB_CTRL_BUSY 1).rd MBX_MB_CTRL_BUSY = 1 ∧ waitingState.mgmt.mailbox ≠ none) := by decide

/-- The event ring enabled with 16 entries; one event in each queue. -/
def eventState : State :=
  let s := { State.reset with mgmt := { State.reset.mgmt with evtQueue := [5], mbEvents := [7], perstN := true } }
  (s.wr MBX_CTRL_EVT_EN 1).wr MBX_RING_SIZE_EVT_LOG2 4

theorem witness_EventsLeaveOldestFirst :
    (eventState.mgmt.perstN = true ∧ eventState.rd MBX_CTRL_EVT_EN = 1 ∧ eventState.evtFull = false ∧
      eventState.mgmt.evtLost = 0 ∧ eventState.mgmt.evtQueue = [5] ∧ eventState.mgmt.mbEvents = [7]) ∧
    (let s := { eventState with mgmt := { eventState.mgmt with evtLost := 3 } }
     s.mgmt.perstN = true ∧ s.rd MBX_CTRL_EVT_EN = 1 ∧ s.evtFull = false ∧ s.mgmt.evtLost ≠ 0) ∧
    (State.reset.mgmt.perstN = false ∧ State.reset.rd MBX_CTRL_EVT_EN = 0 ∧ State.reset.mgmt.evtLost = 0 ∧
      State.reset.mgmt.evtQueue = [] ∧ State.reset.mgmt.mbEvents = []) ∧ (eventState.wr MBX_EVT_TAIL 15).evtFull = true := by
  decide

theorem witness_DmaFaultAndInterrupts :
    State.reset.mgmt.mbEvents.length < 64 ∧
    (let s : State := { State.reset with mgmt := { State.reset.mgmt with perstN := true } }
     let u : State := { s with mgmt := { s.mgmt with msixTable := [(4 * 5 + 3, 1)] } }
     s.mgmt.perstN = true ∧ bitOf (s.msixWord (4 * 5 + 3)) 0 = 1 ∧ bitOf (u.msixWord (4 * 5 + 3)) 0 = 0) ∧
    (let s := State.reset.setHoldoff 0 { endsAt := some 0, arrived := true }
     (s.holdoff 0).endsAt = some 0 ∧ 0 ≤ s.now ∧ (s.holdoff 0).arrived = true) ∧
    (let s := State.reset.setHoldoff 1 { endsAt := some 0, arrived := false }
     (s.holdoff 1).endsAt = some 0 ∧ 0 ≤ s.now ∧ (s.holdoff 1).arrived = false) ∧
    (let s := State.reset.setHoldoff 1 { endsAt := some 1, arrived := false }
     (s.holdoff 1).endsAt = some 1 ∧ s.now < 1) ∧ (State.reset.holdoff 1).endsAt = none ∧
    (4 ≤ 63 ∧ 63 ≤ 63) ∧ (3 < 4 ∧ 63 < 64) := by decide

theorem witness_PcieLink : State.reset.mgmt.perstN = false ∧
    ({ State.reset with mgmt := { State.reset.mgmt with perstN := true } } : State).mgmt.perstN = true := by decide

/-- A LOG_READ record: host address 0x1000, first record, count. -/
def logRec (first n : Nat) : List Nat := rec 0xD002 (bytesOf 8 0x1000 ++ bytesOf 4 first ++ bytesOf 4 n)

/-- The far store initialised. -/
def farOn (s : State) : State := s.wr STR_STATUS_FAR_INIT 1

theorem witness_ManagementCommands :
    ((cmdState (rec 0xD001 [])).Takes 0 0xD001 (rec 0xD001 [])) ∧
    ((farOn (cmdState (logRec 1048575 65536))).Takes 0 0xD002 (logRec 1048575 65536) ∧
      (farOn (cmdState (logRec 1048575 65536))).rd STR_STATUS_FAR_INIT = 1 ∧ recField (logRec 1048575 65536) 16 4 ≤ 1048575 ∧
      1 ≤ recField (logRec 1048575 65536) 20 4 ∧ recField (logRec 1048575 65536) 20 4 ≤ 65536) ∧
    ((farOn (cmdState (logRec 1048576 1))).Takes 0 0xD002 (logRec 1048576 1) ∧
      (farOn (cmdState (logRec 1048576 1))).rd STR_STATUS_FAR_INIT = 1 ∧ 1048575 < recField (logRec 1048576 1) 16 4) ∧
    ((farOn (cmdState (logRec 0 0))).Takes 0 0xD002 (logRec 0 0) ∧ (farOn (cmdState (logRec 0 0))).rd STR_STATUS_FAR_INIT = 1 ∧
      recField (logRec 0 0) 16 4 ≤ 1048575 ∧ recField (logRec 0 0) 20 4 = 0 ∧ 65536 < recField (logRec 0 65537) 20 4) ∧
    State.reset.rd STR_STATUS_FAR_INIT = 0 ∧ (State.reset.storeWord 0).poison = false ∧
    ((cmdState (rec 0xD003 [])).Takes 0 0xD003 (rec 0xD003 [])) := by
  refine ⟨⟨?_, ?_, ?_⟩, ⟨⟨?_, ?_, ?_⟩, ?_, ?_, ?_, ?_⟩, ⟨⟨?_, ?_, ?_⟩, ?_, ?_⟩, ⟨⟨?_, ?_, ?_⟩, ?_, ?_, ?_, ?_⟩, ?_, ?_,
    ⟨?_, ?_, ?_⟩⟩ <;> decide

/-- The state at `ns` ns after power-up. -/
def atMono (s : State) (ns : Nat) : State := { s with caller := { s.caller with mono := ns } }

/-- A power entry runs. -/
def underEntry (s : State) : State := { s with modes := { s.modes with entry := some { id := 9, target := 0, mode := 0, since := 0 } } }

/-- A NOP, and the ring command in flight that `cmdState` makes of it. -/
def nopRec : List Nat := rec 0xD001 []
def nopFlight : InFlight := { id := 0, ring := true, bytes := nopRec, tick := 0 }

theorem witness_CommandsWaitAndComplete :
    State.reset.ready 0 0xD001 = false ∧
    (let s := underEntry (cmdState (rec 0x6002 []))
     s.ready 0 0x6002 = true ∧ s.barred (s.record 0) = true) ∧
    State.reset.cmd 0 = none ∧
    ((cmdState nopRec).cmd 0 = some nopFlight ∧ nopFlight.ring = true ∧ nopFlight.discard = false ∧
      (cmdState nopRec).now < nopFlight.expiresAt) ∧
    (let s := atMono (cmdState nopRec) 1000000000000
     s.cmd 0 = some nopFlight ∧ nopFlight.expiresAt < s.now ∧ Completion.status ⟨0, 0, 0⟩ ≠ 0x07) ∧
    (let s := atMono (cmdState nopRec) nopFlight.expiresAt
     s.cmd 0 = some nopFlight ∧ s.now = nopFlight.expiresAt ∧ nopFlight.ring = true) := by
  decide

theorem witness_ScratchpadAccess :
    (goodSize 2 8 = false ∧ goodSize 4 8 = false ∧ goodSize 0 8 = true ∧ goodSize 4 4 = true ∧ goodSize 0x3FFF8 4 = true) ∧
    (State.reset.spadWord (0 / 8 % 65536)).poison = false ∧
    (let s := State.reset.spadPut 0x8000 { data := 1, poison := true }
     (s.spadWord (0x40000 / 8 % 65536)).poison = true ∧ (s.spadWord (0x40008 / 8 % 65536)).poison = false) ∧
    spadOpen (0x3FFF8 / 8 % 65536) = false ∧
    spadOpen (0x40000 / 8 % 65536) = true ∧ spadOpen 0xBFFF = true ∧ spadOpen 0xC000 = false ∧ spadOpen 0xDFFF = false ∧
    spadOpen 0xE000 = true ∧ spadOpen 0xFFFF = true ∧ 0xFFFF < 65536 ∧ (State.reset.spadWord 65535).poison = false := by decide

theorem witness_ScratchpadAtomics :
    spadOpen ((State.reset.wr MBX_ATOM_ADDR 0x8000).rd MBX_ATOM_ADDR) = true ∧
    (State.reset.spadWord 0x8000).poison = false ∧ spadOpen (State.reset.rd MBX_ATOM_ADDR) = false ∧ 0x8000 < 65536 ∧
    spadOpen 0x8000 = true := by decide

/-! ### caller -/

theorem witness_GridPositions : 0 < gridState.gridD 0 ∧ 0 < gridState.gridQ 0 ∧ gridState.rdAt CLR_GRID_NUM 0 = 60000 ∧
    gridState.rdAt CLR_GRID_DEN 0 = 1001 ∧ gridState.rdAt CLR_GRID_CTRL_LINES 0 = 1125 ∧
    gridState.rdAt CLR_GRID_ALIGN 0 = 0 := by decide

theorem witness_FreerunAndBackup :
    State.reset.isSet CLR_STATUS_BACKUP_OSC = false ∧ (State.reset.wr CLR_STATUS_BACKUP_OSC 1).isSet CLR_STATUS_BACKUP_OSC = true ∧
    ((State.reset.wr CLR_STATUS_STATE 2).wr CLR_CTRL_FORCE_FREERUN 1).lock ≠ 0 ∧
    (let s := (State.reset.wr CLR_STATUS_STATE 3).wr CLR_HOLDOVER_LIMIT_MIN 0
     s.lock = 3 ∧ s.caller.holdoverAt + s.rd CLR_HOLDOVER_LIMIT_MIN * 60000000000 ≤ s.now) ∧ State.reset.lock ≠ 3 ∧
    (let s := (State.reset.wr CLR_STATUS_STATE 3).wr CLR_HOLDOVER_LIMIT_MIN 1
     s.now < s.caller.holdoverAt + s.rd CLR_HOLDOVER_LIMIT_MIN * 60000000000) := by decide

/-- A master heard at power-up, with Announce messages once a second. -/
def somePort : PtpPort :=
  { master := { gmId := 1, priority1 := 1, clockClass := 6, accuracy := 0, variance := 0, priority2 := 0, stepsRemoved := 0,
                todValid := true, utcOffset := 37, utcValid := true }, heardAt := 0, logInterval := 0 }

/-- Slot 0 lists PTP, which is valid; port 0 hears `somePort`. -/
def refState0 : State :=
  let s := ((State.reset.wr CLR_REF_PRIO 0x10).setRef 0 { valid := true }).wrAt CLR_PTP_PORT_EN 0 1
  { s with caller := { s.caller with ptp := [(0, somePort)], ptpPort := some 0 } }

/-- The same ten seconds later. -/
def refLate : State := atMono refState0 10000000000

/-- The same with an offset of 5 ns measured and lock state `k`. -/
def refMeasured (k : Nat) : State :=
  let s := (refState0.wr CLR_STATUS_STATE k).wr CLR_STATUS_ACTIVE_SLOT 0
  { s with caller := { s.caller with measured := some 5, stepPending := true } }

theorem witness_ReferencesAndServo :
    (0 < 4 ∧ refState0.refUsable 0 = true ∧ refState0.refGone 0 = false) ∧
    (refLate.refValid 0 = true ∧ refLate.refGone 0 = true ∧ refLate.lostSlots.contains (refLate.rd CLR_STATUS_ACTIVE_SLOT) = false ∧
      (let s := refLate.wr CLR_STATUS_ACTIVE_SLOT 0
       s.refValid 0 = true ∧ s.refGone 0 = true ∧ s.lostSlots.contains (s.rd CLR_STATUS_ACTIVE_SLOT) = true)) ∧
    State.reset.refValid 0 = false ∧
    (let s := refState0.wr CLR_STATUS_STATE 1
     s.lock = 1 ∧ s.bestSlot ≠ 7 ∧ s.bestSlot ≠ s.rd CLR_STATUS_ACTIVE_SLOT) ∧
    (let s := refState0.wr CLR_STATUS_STATE 2
     s.lock = 2 ∧ s.bestSlot ≠ 7 ∧ s.bestSlot ≠ s.rd CLR_STATUS_ACTIVE_SLOT) ∧
    (SMap.find refLate.caller.ptp 0 = some somePort ∧ somePort.heardAt + refLate.announceTimeout somePort ≤ refLate.now) ∧
    (SMap.find refState0.caller.ptp 0 = some somePort ∧ refState0.now < somePort.heardAt + refState0.announceTimeout somePort) ∧
    SMap.find State.reset.caller.ptp 0 = none ∧
    (State.reset.isSet CLR_REFA_EDGE = false ∧ State.reset.caller.refaEdges + 1 < State.reset.refaPerUpdate) ∧
    (let s := State.reset.wr CLR_REFA_KIND 1
     s.isSet CLR_REFA_EDGE = false ∧ s.refaPerUpdate ≤ s.caller.refaEdges + 1) ∧ State.reset.isSet CLR_REFA_EDGE = !true ∧
    State.reset.isSet CLR_REFB_EDGE = false ∧ State.reset.isSet CLR_REFB_EDGE = !true ∧
    (let s := refMeasured 1
     s.rd CLR_STATUS_ACTIVE_SLOT ≠ 7 ∧ s.refKind (s.rd CLR_STATUS_ACTIVE_SLOT) = 1 ∧
       s.refKind (s.rd CLR_STATUS_ACTIVE_SLOT) ≠ 2 ∧ (s.wr CLR_STATUS_ACTIVE_SLOT 7).rd CLR_STATUS_ACTIVE_SLOT = 7) ∧
    (let s := (refMeasured 1).wr CLR_CTRL_STEP_EN 0
     s.caller.measured = some 5 ∧ s.lock = 1 ∧ s.isSet CLR_CTRL_STEP_EN = false ∧ (refMeasured 2).lock = 2) ∧
    (let s := ((refMeasured 1).wr CLR_CTRL_STEP_EN 1).wr CLR_STEP_THRESH 4
     s.caller.measured = some 5 ∧ s.lock = 1 ∧ s.caller.stepPending = true ∧ s.isSet CLR_CTRL_STEP_EN = true ∧
       s.rd CLR_STEP_THRESH < (s.reduceBy (s.rd CLR_STATUS_ACTIVE_SLOT) 5).natAbs) ∧
    State.reset.caller.measured = none ∧
    ((refMeasured 0).caller.measured = some 5 ∧ (refMeasured 0).lock = 0 ∧ (refMeasured 3).lock = 3) := by decide

theorem witness_TimeSetAndRead :
    State.reset.lock = 0 ∧ 999999999 ≤ 999999999 ∧ 999999999 < 1000000000 ∧
    (gridState.wrAt CLR_GRID_STATUS_ACTIVE 0 1).gridRuns 0 = true ∧ State.reset.gridRuns 0 = false ∧ 3 < 4 ∧
    State.reset.isSetAt CLR_PTP_PORT_EN 0 = false ∧ 0 < 4 ∧ refState0.isSetAt CLR_PTP_PORT_EN 0 = true ∧
    (refState0.ptpTakes 0 { domain := 127, ipv6 := false, logInterval := -7, seq := 9 } = true ∧ (-7 : Int) ≤ -7 ∧ (-7 : Int) ≤ -1 ∧
      SMap.find refState0.caller.ptp 0 = some somePort) ∧ ((-4 : Int) < -3 ∧ (1 : Int) < 2) ∧
    (let x : PtpPort := { somePort with waiting := some (9, 0) }
     let s : State := { refState0 with caller := { refState0.caller with ptp := [(0, x)] } }
     SMap.find s.caller.ptp 0 = some x ∧ x.waiting = some (9, 0) ∧
       s.ptpTakes 0 { domain := 127, ipv6 := false, logInterval := -7, seq := 9 } = true) ∧
    refState0.ptpTakes 0 { domain := 1, ipv6 := false, logInterval := 0, seq := 0 } = false ∧
    (let s := State.reset.wrAt LNE_BOND_STATUS_STATE 15 2
     s.bondUp 15 = true ∧ s.timeLane 15 = 0 ∧ 1 ≠ s.timeLane 15) ∧ State.reset.bondUp 0 = false ∧
    (sideFields 0).crcOk = false ∧
    (let w := 0xF62B * 2 ^ 144 + 16 * 2 ^ 53
     let f := w + crc16Nat 0xFFFF 144 (w / 2 ^ 16 % 2 ^ 144)
     (sideFields f).crcOk = true ∧ 16 ≤ (sideFields f).spareCmd) ∧ (-4 : Int).natAbs ≤ 4 := by decide +kernel

theorem witness_PulsesAlarmsGrids :
    (7 ≤ 7 ∧ bitOf (2 ^ 31) 31 = 1 ∧ bitOf 0 31 = 0 ∧ State.reset.commitClaims 7 = false ∧
      (State.reset.pulseFields 7 (2 ^ 31)).landClaimed 7 = false ∧ State.reset.landClaimed 7 = false) ∧
    (let s := State.reset.claimLand 7 2 1
     s.commitClaims 7 = false ∧ s.landClaimed 7 = true ∧ s.landOwnedBy 7 2 = true) ∧
    (let s := State.reset.claimLand 7 0 0
     s.landClaimed 7 = true ∧ s.landOwnedBy 7 2 = false) ∧
    (let s := (((State.reset.claimLand 7 2 1).wrAt CLR_PULSE_EN 7 1).wrAt CLR_PULSE_UNIT 7 3).setPulse 7 { firedAt := some 0 }
     7 < 8 ∧ s.isSetAt CLR_PULSE_EN 7 = true ∧ s.landOwnedBy 7 2 = true ∧ s.pulseDue 7 = true) ∧
    State.reset.isSetAt CLR_PULSE_EN 0 = false ∧ 23 < 24 ∧ (27 ≤ 31 ∧ 31 ≤ 31) ∧
    ((State.reset.wrAt ALM_CTRL_MODE 31 1).wrAt ALM_TGT_LO 31 1000000000).alarmBad 31 = true ∧
    (let s := (State.reset.wrAt ALM_CTRL_ARM 31 1).wrAt ALM_CTRL_MODE 31 1
     31 < 32 ∧ 31 ≠ 24 ∧ s.alarmDue 31 = true) ∧ State.reset.alarmDue 0 = false ∧
    (let s := (State.reset.wrAt ALM_CTRL_ARM 24 1).wrAt ALM_CTRL_MODE 24 1
     s.alarmDue 24 = true ∧ (s.wr PWR_CTRL_ALARM_WAKE_EN 0).isSet PWR_CTRL_ALARM_WAKE_EN = false) ∧
    (let s := gridState.wrAt CLR_GRID_CTRL_EN 0 1
     0 < 8 ∧ s.isSetAt CLR_GRID_CTRL_EN 0 = true) ∧ gridState.isSetAt CLR_GRID_CTRL_EN 0 = false ∧
    ((gridState.wrAt CLR_GRID_CTRL_FIELDS 0 0).wrAt CLR_GRID_CTRL_LINES 0 (bitsOf (2 ^ 31 + 1125) 13 0)).gridLimit 0 = none ∧
    ((gridState.wrAt CLR_GRID_CTRL_FIELDS 0 0).wrAt CLR_GRID_CTRL_LINES 0 (bitsOf (2 ^ 31) 13 0)).gridLimit 0 = some 2 ∧
    (31 < 32 ∧ (156250 - (State.reset.wrAt LNE_Q_REF_KHZ 31 156250).rdAt LNE_Q_REF_KHZ 31 +
      ((State.reset.wrAt LNE_Q_REF_KHZ 31 156250).rdAt LNE_Q_REF_KHZ 31 - 156250)) * 1000000 ≤
      100 * (State.reset.wrAt LNE_Q_REF_KHZ 31 156250).rdAt LNE_Q_REF_KHZ 31) ∧
    (100 * (State.reset.wrAt LNE_Q_REF_KHZ 31 156250).rdAt LNE_Q_REF_KHZ 31 <
      (156266 - (State.reset.wrAt LNE_Q_REF_KHZ 31 156250).rdAt LNE_Q_REF_KHZ 31 +
      ((State.reset.wrAt LNE_Q_REF_KHZ 31 156250).rdAt LNE_Q_REF_KHZ 31 - 156266)) * 1000000) := by decide

/-! ### dance -/

/-- A copy of bank 0 that began at power-up. -/
def copying : State := { State.reset with dance := { State.reset.dance with copyFrom := some (0, 0) } }

theorem witness_DanceBankWrites :
    State.reset.danceRefuse (danceBankOf 0x800000) = some DNC_ERR_ACTIVE_WRITE ∧ danceBankOf 0x900000 ≠ State.reset.activeBank ∧
    (State.reset.wr DNC_SWAP_STAT_STATE 1).shadowLocked = true ∧ (State.reset.danceRefuse (danceBankOf 0x900000)).isNone = true ∧
    0x900000 % 16 / 4 ≠ 3 ∧ State.reset.shadowLocked = false ∧ 1 ≠ 0 ∧
    (copying.dance.copyFrom = some (0, 0) ∧ (atMono copying 32768).dance.copyFrom = some (0, 0) ∧
      0 + 32768 ≤ (atMono copying 32768).now) ∧ copying.now < 0 + 32768 ∧ State.reset.dance.copyFrom = none ∧
    State.reset.isSet DNC_CTRL_EN = false ∧ bitOf 1 0 = 1 ∧ (State.reset.wr DNC_CTRL_EN 1).isSet DNC_CTRL_EN = true ∧
    bitOf 0 0 = 0 := by
  refine ⟨rfl, ?_⟩
  decide

/-- Bank 1 is checked for a swap at line 0, tick 0 of any frame of the grid of 03 R83's worked example. -/
def swapState : State :=
  ((gridState.wrAt CLR_GRID_STATUS_ACTIVE 0 1).wr DNC_SWAP_STAT_STATE 1).wr DNC_SWAP_CTRL_ANY_FRAME 1

theorem witness_DanceSwap :
    (bitOf 1 1 = 0 ∧ bitOf 1 0 = 1 ∧ State.reset.rd DNC_SWAP_STAT_STATE ≠ 1 ∧ State.reset.rd DNC_SWAP_STAT_STATE ≠ 2) ∧
    (bitOf 3 1 = 1 ∧ bitOf 0 0 = 0) ∧
    ((State.reset.wr DNC_SWAP_STAT_STATE 1).rd DNC_SWAP_STAT_STATE = 1 ∧ (State.reset.wr DNC_SWAP_STAT_STATE 1).swapBad = true) ∧
    (swapState.rd DNC_SWAP_STAT_STATE = 1 ∧ swapState.swapBad = false ∧
      swapState.bankError (swapState.bankView (1 - swapState.activeBank)) = none ∧ swapState.swapPast = false) ∧
    (let s := swapState.setDanceBank 1 [(5, 2 ^ 6)]
     s.swapBad = false ∧ s.bankError (s.bankView (1 - s.activeBank)) = some (5, 1)) ∧
    (let s0 := (swapState.wr DNC_SWAP_CTRL_ANY_FRAME 0).setTai 20000000
     let s : State := { s0 with caller := { s0.caller with dueFrom := 20000000 } }
     s.swapBad = false ∧ s.bankError (s.bankView (1 - s.activeBank)) = none ∧ s.swapPast = true) ∧
    (swapState.wr DNC_SWAP_STAT_STATE 2).swapDue = true ∧ State.reset.swapDue = false ∧
    (let s := (State.reset.wr DNC_CTRL_EN 1).wr GLB_MODE_MODE modeRun
     s.danceRunning = true ∧ s.dance.dueDone ≠ some s.now) ∧ State.reset.danceRunning = false := by decide +kernel

/-- The engine runs with one action of code `c` and operand `o` at the front of its queue. -/
def actionState (c o : Nat) : State :=
  let q : QueuedAction := { entry := 0, bank := 0, word := o * 2 ^ 64 + c * 2 ^ 56, dueAt := 0, slip := 0 }
  let s : State := { State.reset with dance := { State.reset.dance with queue := [q] } }
  (s.wr DNC_CTRL_EN 1).wr GLB_MODE_MODE modeRun

/-- That action, with operand 0. -/
def anAction (c : Nat) : QueuedAction := { entry := 0, bank := 0, word := c * 2 ^ 56, dueAt := 0, slip := 0 }

theorem witness_DanceActions :
    (∀ c ∈ [1, 2, 3, 4, 5, 6, 7, 8, 9, 10, 11, 12, 13], ((actionState c 0).nextAction c).isSome = true) ∧
    (let s := actionState 4 0
     s.nextAction 4 = some (anAction 4) ∧
       ((s.actionTaken (anAction 4)).captureRefusal ((s.actionTaken (anAction 4)).rd CTX_CAP_CFG_CLK)).isSome = true) ∧
    (let s := (actionState 4 0).wrAt FAB_GCLK_SRC 0 0x40
     s.nextAction 4 = some (anAction 4) ∧
       (s.actionTaken (anAction 4)).captureRefusal ((s.actionTaken (anAction 4)).rd CTX_CAP_CFG_CLK) = none) ∧
    (let s := actionState 7 0
     s.nextAction 7 = some (anAction 7) ∧ (s.actionTaken (anAction 7)).enabledEgress (anAction 7).flow = false) ∧
    (let s := withFlow (actionState 7 0) 0 (2 ^ 31 + 2 ^ 30)
     (s.actionTaken (anAction 7)).enabledEgress (anAction 7).flow = true) ∧
    (let s := actionState 10 0
     s.nextAction 10 = some (anAction 10) ∧ (s.actionTaken (anAction 10)).landOwnedBy (anAction 10).land 1 = false) ∧
    (let s := (actionState 10 0).claimLand 0 1 1
     s.nextAction 10 = some (anAction 10) ∧ (s.actionTaken (anAction 10)).landOwnedBy (anAction 10).land 1 = true) ∧
    State.reset.nextAction 1 = none ∧
    4 ≤ ({ State.reset with dance := { State.reset.dance with execCount := 4 } } : State).executedNow ∧
    ({ State.reset with dance := { State.reset.dance with logBuffer := [7] } } : State).dance.logBuffer = [7] ∧
    (let p : GpioPulse := { endsAt := 8, after := true }
     let s : State := { State.reset with dance := { State.reset.dance with pulses := [(3, p)] } }
     SMap.find s.dance.pulses 3 = some p ∧ s.now < p.endsAt ∧ p.endsAt ≤ (atMono s 8).now) := by decide +kernel

/-! ### store -/

/-- The near store initialised; buffer 3 valid over eight words of its user partition. -/
def storeState : State :=
  (((State.reset.wr STR_STATUS_NEAR_INIT 1).wrAt STR_BUF_BASE 3 (0x40200000 / 8)).wrAt STR_BUF_LEN 3 1).wrAt STR_BUF_VALID 3 1

theorem witness_StoreReadsWhatWasWritten :
    (1 ≠ 0 ∧ storeState.accessRefusal .flow 0x40200007 = none ∧ inStore 0x40200007 = true ∧
      storeState.storeServes 0x40200007 = true ∧ storeState.store.waiting = [] ∧
      SMap.find storeState.store.served (unitCode (inFar 0x40200007) (storeState.unitAt 0x40200007)) ≠ some storeState.now) ∧
    (let x : StoreAccess := { requester := .flow, number := 5, addr := 0x40200007, found := .zero, arrived := 0 }
     x.write = none ∧ x.found = .zero ∧ (storeState.storeWord x.addr).poison = false ∧
       ((storeState.storePut 0x40200007 { data := 1, poison := true }).storeWord x.addr).poison = true) ∧
    (let u := unitCode (inFar 0x40200007) (storeState.unitAt 0x40200007)
     let s : State := { storeState with store := { storeState.store with served := [(u, 0)] } }
     s.accessRefusal .flow 0x40200007 = none ∧ SMap.find s.store.served u = some s.now) ∧
    storeState.accessRefusal .flow 0x40200008 = some 2 ∧ storeState.accessRefusal .design 0x40000000 = some 1 ∧
    (ownPath .guard = true ∧ ownPath .design = false ∧ fixedPartition 0x40000000 = true ∧ fixedPartition 0x40200008 = false ∧
      storeState.inValidBuffer 0x40200008 = false) ∧
    inStore 0x407FFFFF = true ∧ inStore 0x40800000 = false ∧ inStore 0x1FFFFFFF = true ∧ inStore 0x20000000 = false := by
  decide +kernel

theorem witness_PatrolBuffersRelocation :
    (let s := (State.reset.wr STR_CTRL_PATROL_EN 1).wr STR_STATUS_NEAR_INIT 1
     s.isSet STR_CTRL_PATROL_EN = true ∧ s.storeServes (s.rd STR_PATROL_NEAR_POS) = true ∧
       s.rd STR_PATROL_NEAR_POS + 1 - 0x4000_0000 < 0x80_0000) ∧
    (let s := ((State.reset.wr STR_CTRL_PATROL_EN 1).wr STR_STATUS_FAR_INIT 1).wr STR_PATROL_FAR_POS 0x1FFF_FFFF
     s.isSet STR_CTRL_PATROL_EN = true ∧ s.storeServes (s.rd STR_PATROL_FAR_POS) = true ∧
       s.rd STR_PATROL_FAR_POS + 1 ≥ 0x2000_0000) ∧
    (let s := atMono (State.reset.wr STR_CTRL_PATROL_EN 0) (10 ^ 15)
     s.isSet STR_CTRL_PATROL_EN = false ∧ (s.patrol true).passStart + s.patrolPeriod true ≤ s.now) ∧
    State.reset.now < (State.reset.patrol false).passStart + State.reset.patrolPeriod false ∧
    (let s := State.reset.wrAt STR_BUF_BASE 255 (0x40200000 / 8)
     255 < 256 ∧ bitOf (2 ^ 31 + 1) 31 = 1 ∧ s.rdBit CFG_CLAIM_BUF 255 = false ∧ s.bufHolds 255 = false ∧
       ((s.wrAt STR_BUF_LEN 255 1).wrAt STR_BUF_RELOCATED 255 0).bufRefusal 255 = none ∧
       ((s.wrAt STR_BUF_LEN 255 1).wrAt STR_BUF_RELOCATED 255 0).slotsInBuffer 255 = [] ∧
       ((s.wrAt STR_BUF_LEN 255 0).wrAt STR_BUF_RELOCATED 255 0).bufRefusal 255 = some 1) ∧
    (let t : Ticket := { someTicket with slots := [0x40200000] }
     let s0 := State.reset.wrAt STR_BUF_BASE 255 (0x40200000 / 8)
     let s : State := { s0 with adm := { s0.adm with tickets := [(0, t)] } }
     ((s.wrAt STR_BUF_LEN 255 1).wrAt STR_BUF_RELOCATED 255 0).bufRefusal 255 = none ∧
       ((s.wrAt STR_BUF_LEN 255 1).wrAt STR_BUF_RELOCATED 255 0).slotsInBuffer 255 ≠ []) ∧
    State.reset.lostUnits (inFar (State.reset.bufFirst 0)) = 0 ∧ bitOf 1 31 = 0 ∧
    (State.reset.wrBit CFG_CLAIM_BUF 255 true).rdBit CFG_CLAIM_BUF 255 = true ∧
    (let s := State.reset.wr GLB_LANDS_PWR_GOOD 1
     s.isSet GLB_LANDS_PWR_GOOD = true ∧ s.isSet STR_STATUS_NEAR_INIT = false ∧ s.isSet STR_STATUS_FAR_INIT = false) ∧
    State.reset.isSet GLB_LANDS_PWR_GOOD = false ∧ (false, 511) ∉ State.reset.store.relocating ∧
    (let s : State := { State.reset with store := { State.reset.store with relocating := [(true, 31)], bufPending := [3] } }
     (true, 31) ∈ s.store.relocating ∧ s.relocationShort true 31 = 0 ∧ 3 ∈ s.store.bufPending ∧ 4 ∉ s.store.bufPending) := by
  decide +kernel

/-! ### admission -/

/-- An ADMIT record: flow, options, rate, deadline, quota. -/
def admitRec (f o rate dl quota : Nat) : List Nat :=
  rec 0x3001 (bytesOf 2 f ++ bytesOf 2 o ++ bytesOf 4 rate ++ bytesOf 4 dl ++ bytesOf 4 quota)

/-- Egress flow 5, of kind 1 on lane 0 with one word a segment, fed by pack FIFO 255; `en` is its EN bit. -/
def portFlow (s : State) (en : Nat) : State :=
  ((({ s with flows := { s.flows with table :=
      [(80, en + 2 ^ 30 + 1 * 2 ^ 24 + 5 * 2 ^ 21), (81, 2 ^ 30 + 255 * 2 ^ 16), (83, 1)] } } : State).wrAt
    LNE_LN_STATUS_CLAIMED 0 1).wrAt LNE_LN_CTRL_PROTO 0 1).wrAt PF_CFG_MODE 255 1

/-- The request of an ADMIT for flow `f`, of one word a frame of grid 0 within 1 ms; a state in which it waits for its check. -/
def askQ (f : Nat) : AdmitRequest := { id := 0, flow := f, contract := askedContract (admitRec f 0 1 1000000 1), trial := false }
def asking (s : State) (f : Nat) : State := { s with adm := { s.adm with requests := [askQ f] } }

theorem witness_AdmissionCommands :
    ((cmdState (admitRec 1 0 1 1000 1)).Takes 0 0x3001 (admitRec 1 0 1 1000 1) ∧ (cmdState (admitRec 1 0 1 1000 1)).running = false) ∧
    ((inRun (cmdState (admitRec 1 0 0 1000 1))).Takes 0 0x3001 (admitRec 1 0 0 1000 1) ∧
      (inRun (cmdState (admitRec 1 0 0 1000 1))).running = true ∧ admitBadParam (admitRec 1 0 0 1000 1) = some 12 ∧
      admitBadParam (admitRec 1 0 16777216 1000 1) = some 12 ∧ admitBadParam (admitRec 1 0x30 1 1000 1) = some 10 ∧
      bitsOf (recField (admitRec 1 0x30 1 1000 1) 10 2) 5 4 = 3 ∧
      admitBadParam (admitRec 1 0 1 999 1) = some 16 ∧ admitBadParam (admitRec 1 0 1 1000 196609) = some 20) ∧
    ((inRun (cmdState (admitRec 1 0 1 1000 1))).Takes 0 0x3001 (admitRec 1 0 1 1000 1) ∧
      admitBadParam (admitRec 1 0 16777215 1000 196608) = none ∧ admitBadParam (admitRec 1 0 1 1000 1) = none) ∧
    (let s := asking State.reset 5
     s.adm.requests = [askQ 5] ∧ s.adm.rechecks = [] ∧ s.mode ≠ modeHalted ∧ s.mode ≠ modePromenade ∧
       (s.admitCheck 5 (s.charged 5 (askQ 5).contract)).isSome = true ∧ (s.wr GLB_MODE_MODE modeHalted).mode = modeHalted) ∧
    (let s := asking (portFlow ((gridState.wrAt CLR_GRID_STATUS_ACTIVE 0 1).wrAt CLR_GRID_CTRL_EN 0 1) (2 ^ 31)) 5
     s.adm.requests = [askQ 5] ∧ s.adm.rechecks = [] ∧ s.mode ≠ modeHalted ∧ s.mode ≠ modePromenade ∧
       s.admitCheck 5 (s.charged 5 (askQ 5).contract) = none) ∧
    ((askQ 5).trial = false ∧ ({ askQ 5 with trial := true } : AdmitRequest).trial = true) ∧
    ((cmdState (rec 0x3002 (bytesOf 2 16383))).Takes 0 0x3002 (rec 0x3002 (bytesOf 2 16383)) ∧
      recField (rec 0x3002 (bytesOf 2 16383)) 8 2 ≤ 16383 ∧
      (cmdState (rec 0x3002 (bytesOf 2 16383))).contract 16383 = none) ∧
    (let s := withContract (cmdState (rec 0x3002 (bytesOf 2 5))) 5 .admitted
     s.Takes 0 0x3002 (rec 0x3002 (bytesOf 2 5)) ∧ s.contract 5 = some (someContract .admitted) ∧
       (someContract .admitted).state ≠ .demoted) ∧
    ((withContract State.reset 5 .withdrawing).contract 5 = some (someContract .withdrawing) ∧
      (someContract .withdrawing).state = .withdrawing ∧ (withContract State.reset 5 .withdrawing).heldTickets 5 = 0) ∧
    (let s := withContract (cmdState (rec 0x3003 (bytesOf 2 5))) 5 .demoted
     s.Takes 0 0x3003 (rec 0x3003 (bytesOf 2 5)) ∧ s.contract 5 = some (someContract .demoted)) ∧
    ((cmdState (rec 0x3003 (bytesOf 2 6))).Takes 0 0x3003 (rec 0x3003 (bytesOf 2 6)) ∧
      (cmdState (rec 0x3003 (bytesOf 2 6))).contract 6 = none) := by
  refine ⟨⟨⟨?_, ?_, ?_⟩, ?_⟩, ⟨⟨?_, ?_, ?_⟩, ?_⟩, ⟨⟨?_, ?_, ?_⟩, ?_⟩, ?_, ?_, ?_, ⟨⟨?_, ?_, ?_⟩, ?_⟩, ⟨⟨?_, ?_, ?_⟩, ?_⟩, ?_,
    ⟨⟨?_, ?_, ?_⟩, ?_⟩, ⟨⟨?_, ?_, ?_⟩, ?_⟩⟩ <;> decide +kernel

/-- The ticket table holds that ticket as number 7. -/
def withTicket (s : State) (t : Ticket) : State := { s with adm := { s.adm with tickets := [(7, t)] } }

theorem witness_TicketsAndRechecks :
    ((withFlow State.reset 16383 (2 ^ 31)).flowEn 16383 = true ∧ 0 < 1) ∧ State.reset.flowEn 0 = false ∧
    (let s := withContract State.reset 5 .admitted
     let c := someContract .admitted
     let u : State := { s with adm := { s.adm with tickets := [(7, { someTicket with slots := [] })] } }
     s.mode ≠ modePromenade ∧ s.ticketContract someTicket.flow = some c ∧ c.state = .admitted ∧ s.heldTickets 5 < c.quota ∧
       s.carriedNow c < c.rate ∧ s.heldSlots 5 + ceilDiv someTicket.words 8 ≤ c.slots ∧
       u.ticketContract someTicket.flow = some c ∧ c.quota ≤ u.heldTickets 5) ∧
    (let s := atMono (withTicket (withContract State.reset 5 .admitted) someTicket) 11
     SMap.find s.adm.tickets 7 = some someTicket ∧ s.contract someTicket.flow = some (someContract .admitted) ∧
       (someContract .admitted).discardLate = true ∧ someTicket.handed = 0 ∧ someTicket.deadline < s.now ∧
       someTicket.closed = true ∧ State.reset.now ≤ someTicket.deadline ∧ State.reset.now < someTicket.deadline) ∧
    (let t := { someTicket with unwritten := [0] }
     SMap.find (withTicket State.reset t).adm.tickets 7 = some t ∧ t.closed = false) ∧
    ({ State.reset with adm := { State.reset.adm with rechecks := [{ kind := 1, inst := 0 }] } } : State).adm.rechecks =
      [{ kind := 1, inst := 0 }] ∧ State.reset.adm.rechecks = [] := by decide

/-! ### flows -/

/-- A command record of a flow command on flow `f`. -/
def flowRec (op f : Nat) : List Nat := rec op (bytesOf 2 f)

/-- An INJECT record: length and lane. -/
def injectRec (len lane : Nat) : List Nat := rec 0x4004 ([0, 0] ++ bytesOf 2 len ++ [lane])

/-- Lane 127 claimed, with Ethernet. -/
def laneReady (s : State) : State := (s.wrAt LNE_LN_STATUS_CLAIMED 127 1).wrAt LNE_LN_CTRL_PROTO 127 1

theorem witness_FlowCommands :
    (State.reset.flowEn 16383 = false ∧ 16383 < 16384 ∧ 1 ≤ 15 ∧ 15 < 16 ∧ (withFlow State.reset 16383 (2 ^ 31)).flowEn 16383 = true) ∧
    (255 < 256 ∧ State.reset.isSetAt FLW_PAIR_VALID 255 = false ∧
      (let s := ((withFlow State.reset 9 (2 ^ 31 + 2 ^ 20)).wrAt FLW_PAIR_FLOW 255 9).wrAt FLW_PAIR_VALID 255 1
       s.isSetAt FLW_PAIR_VALID 255 = true ∧
        s.flowEn (s.rdAt FLW_PAIR_FLOW 255) = true ∧ s.flowPair (s.rdAt FLW_PAIR_FLOW 255) = true)) ∧
    ((cmdState (flowRec 0x4001 16384)).Takes 0 0x4001 (flowRec 0x4001 16384) ∧ 16383 < recField (flowRec 0x4001 16384) 8 2) ∧
    ((cmdState (flowRec 0x4001 16383)).Takes 0 0x4001 (flowRec 0x4001 16383) ∧
      recField (flowRec 0x4001 16383) 8 2 ≤ 16383 ∧ ((cmdState (flowRec 0x4001 16383)).flowRefusal 16383).isSome = true) ∧
    ((portFlow (cmdState (flowRec 0x4001 5)) 0).Takes 0 0x4001 (flowRec 0x4001 5) ∧
      (portFlow (cmdState (flowRec 0x4001 5)) 0).flowRefusal (recField (flowRec 0x4001 5) 8 2) = none ∧
      (portFlow (cmdState (flowRec 0x4001 5)) 0).pairOf (recField (flowRec 0x4001 5) 8 2) = none) ∧
    ((cmdState (flowRec 0x4002 7)).Takes 0 0x4002 (flowRec 0x4002 7) ∧ (cmdState (flowRec 0x4002 7)).flowEn 7 = false) ∧
    (let s := withFlow (cmdState (flowRec 0x4002 7)) 7 (2 ^ 31)
     s.Takes 0 0x4002 (flowRec 0x4002 7) ∧ s.flowEn 7 = true ∧ s.flowFed 7 = false ∧ (s.stopFlow 7 0).contract 7 = none) ∧
    (let s := withContract (withFlow (cmdState (flowRec 0x4002 7)) 7 (2 ^ 31)) 7 .admitted
     (s.stopFlow 7 0).contract 7 = some (someContract .admitted) ∧ (someContract .admitted).state = .admitted ∧ s.flowFed 7 = false) ∧
    (let s := ((withFlow (cmdState (flowRec 0x4002 7)) 7 (2 ^ 31 + 2 ^ 30)).setFlowWord 7 1 (9 * 2 ^ 16)).setFlowWord 9 0 (2 ^ 31)
     (s.setFlowWord 9 1 (7 * 2 ^ 16)).flowEn 7 = true ∧ (s.setFlowWord 9 1 (7 * 2 ^ 16)).flowFed 7 = true) ∧
    (let s := State.reset.setFlowRun 7 { disabling := [0] }
     (s.flowRun 7).disabling ≠ [] ∧ s.flowBusy 7 = false ∧ (withTicket s { someTicket with flow := 7 }).flowBusy 7 = true) ∧
    (State.reset.flowRun 7).disabling = [] ∧
    ((cmdState (flowRec 0x4003 7)).Takes 0 0x4003 (flowRec 0x4003 7) ∧ recByte (flowRec 0x4003 7) 10 % 2 = 0 ∧
      recByte (flowRec 0x4003 7 ++ [1]) 10 % 2 = 1) ∧
    (let s := laneReady (cmdState (injectRec 60 127))
     s.Takes 0 0x4004 (injectRec 60 127) ∧ SMap.find s.flows.inject (recByte (injectRec 60 127) 12) = none ∧
       recField (injectRec 60 127) 10 2 = 60 ∧
       s.injectLane (recByte (injectRec 60 127) 12) = true ∧ s.rd FLW_INJ_TOKENS ≠ 0 ∧
       (s.wr FLW_INJ_TOKENS 0).rd FLW_INJ_TOKENS = 0) ∧ recField (injectRec 1514 127) 10 2 = 1514 ∧
    recField (injectRec 1515 127) 10 2 = 1515 ∧ recField (injectRec 59 127) 10 2 = 59 ∧
    (cmdState (injectRec 60 127)).injectLane 127 = false ∧
    (SMap.find ([(127, [1])] : SMap (List Nat)) (recByte ((cmdState (injectRec 60 127)).record 0) 12)).isSome = true ∧
    16 * 16383 + 15 ≠ 16 * 16383 + 14 := by
  refine ⟨?_, ?_, ⟨⟨?_, ?_, ?_⟩, ?_⟩, ⟨⟨?_, ?_, ?_⟩, ?_⟩, ⟨⟨?_, ?_, ?_⟩, ?_⟩, ⟨⟨?_, ?_, ?_⟩, ?_⟩, ⟨⟨?_, ?_, ?_⟩, ?_⟩, ?_, ?_, ?_, ?_,
    ⟨⟨?_, ?_, ?_⟩, ?_⟩, ⟨⟨?_, ?_, ?_⟩, ?_⟩, ?_⟩ <;> decide +kernel

/-- Lane 127 UP with Ethernet. -/
def laneUp127 : State := (State.reset.wrAt LNE_LN_STATUS_STATE 127 2).wrAt LNE_LN_CTRL_PROTO 127 1

/-- An ingress SDI flow 5 of kind `k` and format 0 on lane 0, its lane UP and locked where `lock`. -/
def sdiState (k : Nat) (lock : Bool) : State :=
  ((withFlow State.reset 5 (2 ^ 31 + k * 2 ^ 24)).wrAt LNE_LN_STATUS_STATE 0 2).setSdiLock 0 { locked := lock, good := 9, bad := 0 }

/-- An ANC packet with no user data, on a line of its own. -/
def someAnc : AncPacket :=
  { line := 10, offset := 0, c := false, stream := 0, did := 0x161, sdid := 0x101, count := 0x200, user := [], checksum := 0 }

/-- Flow 5 of kind 1 on lane 127 takes frames to port 0; as a pair, of record 255. -/
def frameState (pair : Nat) : State :=
  ((withFlow laneUp127 5 (2 ^ 31 + 2 ^ 24 + pair * 2 ^ 20 + 127)).wrAt FLW_PAIR_VALID 255 pair).wrAt FLW_PAIR_FLOW 255 5

theorem witness_FlowIngress :
    (127 < 128 ∧ laneUp127.rdAt LNE_LN_STATUS_STATE 127 = 2 ∧ laneUp127.rdAt LNE_LN_CTRL_PROTO 127 = 1) ∧
    State.reset.rdAt LNE_LN_STATUS_STATE 0 ≠ 2 ∧
    (badFrame someFrame = false ∧ someFrame.isPtp = false ∧ laneUp127.matchFlow 127 someFrame = none) ∧
    9216 < ({ someFrame with length := 9217 } : Frame).length ∧ badFrame { someFrame with ipHeaderOk := false } = true ∧
    (let s := (laneUp127.wrAt CLR_PTP_PORT_EN 3 1).wrAt CLR_PTP_PORT_LANE 3 127
     s.ptpLane 127 = true ∧ s.rdAt LNE_LN_STATUS_STATE 127 = 2 ∧ ({ someFrame with isPtp := true } : Frame).isPtp = true ∧
       badFrame { someFrame with isPtp := true } = false) ∧
    ((frameState 0).rdAt LNE_LN_STATUS_STATE 127 = 2 ∧ (frameState 0).matchFlow 127 someFrame = some 5 ∧
      (frameState 0).flowPair 5 = false) ∧
    ((frameState 1).rdAt LNE_LN_STATUS_STATE 127 = 2 ∧ (frameState 1).matchFlow 127 someFrame = some 5 ∧
      (frameState 1).flowPair 5 = true ∧ (frameState 1).pairOf 5 = some 255) ∧
    (let s : State := { laneUp127 with flows := { laneUp127.flows with inject := [(127, [1])] } }
     SMap.find s.flows.inject 127 = some [1] ∧ s.rdAt LNE_LN_STATUS_STATE 127 = 2 ∧ s.laneFree 127 = true ∧
       s.laneFirst 127 = none ∧ s.pacedDue 127 = false ∧ SMap.find State.reset.flows.inject 0 = none) ∧
    State.reset.now < State.reset.flows.tokenAt + 500000 ∧
    (let s := atMono (State.reset.wr FLW_PATH_LOSS_MS 0) 500000
     s.flows.tokenAt + 500000 ≤ s.now ∧ (s.pairRun 0).lastA + s.rd FLW_PATH_LOSS_MS * 1000000 < s.now ∧
       (s.pairRun 0).lastB + s.rd FLW_PATH_LOSS_MS * 1000000 < s.now ∧
       (s.wrAt FLW_PAIR_A_UP 0 1).isSetAt FLW_PAIR_A_UP 0 = true ∧
       (s.wrAt FLW_PAIR_B_UP 0 1).isSetAt FLW_PAIR_B_UP 0 = true) ∧
    (let h : HeldPacket := { seq := 0, tick := 0, place := 0, packet := { lane := 0, arrived := 0 } }
     let s := State.reset.setPairRun 255 { held := [h] }
     (s.pairRun 255).held = [h] ∧ h.tick + 1000 * (s.wrAt FLW_PAIR_SKEW_US 255 0).rdAt FLW_PAIR_SKEW_US 255 ≤ s.now ∧
       s.now < h.tick + 1000 * (s.wrAt FLW_PAIR_SKEW_US 255 1).rdAt FLW_PAIR_SKEW_US 255) ∧
    (State.reset.pairRun 0).held = [] ∧ State.reset.isSetAt FLW_PAIR_A_UP 0 = false ∧ State.reset.flowEn 5 = false ∧
    (let s := sdiState 6 false
     s.flowEn 5 = true ∧ s.flowEgress 5 = false ∧ s.flowKind 5 = 6 ∧ s.flowStarted 5 = true ∧
       s.rdAt LNE_LN_STATUS_STATE (s.flowLaneA 5) = 2 ∧ someLine.anc = none ∧ someLine.crcOk = true ∧
       (((State.reset.sdiTrs 0 5 true).sdiLock 0).locked = false)) ∧
    (let s := sdiState 6 true
     sdiIndex (s.flowFmt 5) (s.gridTwoFields (s.flowGrid 5)) 26 = some 0 ∧ (s.flowRun 5).disabling = [] ∧
       ((s.sdiTrs (s.flowLaneA 5) 5 true).sdiLock (s.flowLaneA 5)).locked = true) ∧
    (let s := sdiState 7 true
     s.flowEn 5 = true ∧ s.flowEgress 5 = false ∧ s.flowKind 5 = 7 ∧ s.flowStarted 5 = true ∧
       s.rdAt LNE_LN_STATUS_STATE (s.flowLaneA 5) = 2 ∧ ({ someLine with anc := some someAnc } : SdiLine).anc = some someAnc ∧
       (s.sdiLock (s.flowLaneA 5)).locked = true) := by decide +kernel

/-- An egress flow 5 of kind `k` on lane 0, its lane UP. -/
def egressState (k : Nat) : State := (withFlow State.reset 5 (2 ^ 31 + 2 ^ 30 + k * 2 ^ 24)).wrAt LNE_LN_STATUS_STATE 0 2

/-- Grid 0 runs as in the worked example after 03 R83. -/
def onGrid (s : State) : State :=
  ((((s.wrAt CLR_GRID_NUM 0 60000).wrAt CLR_GRID_DEN 0 1001).wrAt CLR_GRID_CTRL_LINES 0 1125).wrAt CLR_GRID_ALIGN 0 0).wrAt
    CLR_GRID_STATUS_ACTIVE 0 1

/-- Egress flow 5 of kind 1 on lane 0, fed by flow 9, whose one-word ticket waits; PACE is `pace`. -/
def sentTicket : Ticket := { someTicket with flow := 9 }
def egressFed (pace : Nat) : State :=
  onGrid (withTicket ((((egressState 1).setFlowWord 9 0 (2 ^ 31)).setFlowWord 9 1 (5 * 2 ^ 16)).setFlowWord 5 1
    (9 * 2 ^ 16 + pace * 2 ^ 14)) sentTicket)

theorem witness_FlowEgress :
    (let s := withFlow State.reset 5 (2 ^ 31)
     s.enabledIngress 5 = true ∧ (s.flowRun 5).substAt ≠ some s.now ∧ State.reset.enabledIngress 5 = false ∧
       ((s.setFlowRun 5 { substAt := some s.now }).flowRun 5).substAt = some s.now) ∧
    (let s := egressFed 0
     s.egressUp 5 = true ∧ s.nextTicket 5 = some (7, sentTicket) ∧ s.packetReady 5 (s.flowRun 5).sentOf sentTicket = true ∧
       s.flowPace 5 = false ∧ s.turnOf 5 7 = true) ∧
    (let s : State := { egressFed 0 with flows := { (egressFed 0).flows with busyUntil := [(0, 1)] } }
     s.egressUp 5 = true ∧ s.nextTicket 5 = some (7, sentTicket) ∧ s.flowPace 5 = false ∧ s.turnOf 5 7 = false) ∧
    (let u := egressFed 1
     u.egressUp 5 = true ∧ u.nextTicket 5 = some (7, sentTicket) ∧ u.packetReady 5 (u.flowRun 5).sentOf sentTicket = true ∧
       u.flowPace 5 = true ∧ (u.tai : Int) < u.paceTime 5 (u.flowRun 5).sentOf (u.packetsOf 5 sentTicket.words)
         ((u.flowRun 5).paceAt.getD (u.paceStart 5 sentTicket)) ∧
       u.paceTime 5 (u.flowRun 5).sentOf (u.packetsOf 5 sentTicket.words)
         ((u.flowRun 5).paceAt.getD (u.paceStart 5 sentTicket)) ≤ (((u.setTai 100000).tai : Nat) : Int)) ∧
    (State.reset.egressUp 5 = false ∧ State.reset.nextTicket 5 = none ∧ State.reset.flowEn 5 = false ∧
      ∀ n ∈ State.reset.flowLanes 5, State.reset.carries 5 n = false) ∧
    (State.reset.enabledEgressNow 5 = false ∧ (egressState 1).flowKind 5 ≠ 6) ∧
    (let s := egressState 6
     s.enabledEgressNow 5 = true ∧ s.flowKind 5 = 6 ∧ s.rdAt LNE_LN_STATUS_STATE (s.flowLaneA 5) = 2 ∧
       (s.flowRun 5).lineSent ≠ some (s.lineAt (s.flowGrid 5) s.tai) ∧
       sdiIndex (s.flowFmt 5) (s.gridTwoFields (s.flowGrid 5)) ((s.pos (s.flowGrid 5)).line + 1) = none ∧
       s.ancFor (s.flowLaneA 5) ((s.pos (s.flowGrid 5)).line + 1) = [] ∧ (s.flowRun 5).lateLines = 0 ∧ s.nextTicket 5 = none) ∧
    (let s := (onGrid (egressState 6)).setTai 400000
     s.enabledEgressNow 5 = true ∧ (s.flowRun 5).lineSent ≠ some (s.lineAt (s.flowGrid 5) s.tai) ∧
       (sdiIndex (s.flowFmt 5) (s.gridTwoFields (s.flowGrid 5)) ((s.pos (s.flowGrid 5)).line + 1)).isSome = true ∧
       s.ancFor (s.flowLaneA 5) ((s.pos (s.flowGrid 5)).line + 1) = []) := by decide +kernel

/-! ### lanes -/

/-- Lane 127 claimed, PLL0 of its quad locked, Ethernet, in state `k`. -/
def laneIn (k : Nat) : State :=
  let s := (State.reset.wrAt LNE_LN_STATUS_CLAIMED 127 1).wrAt LNE_LN_STATUS_STATE 127 k
  ((s.wrAt LNE_LN_CTRL_EN 127 1).wrAt LNE_LN_CTRL_PROTO 127 1).wrAt LNE_Q_PLL0_LOCK 31 1

theorem witness_LaneCommands :
    (127 < 128 ∧ State.reset.laneClaimed 127 = false ∧ State.reset.laneCtrlRefusal 127 0 = some 1) ∧
    (let s := State.reset.wrAt LNE_LN_STATUS_CLAIMED 127 1
     s.laneCtrlRefusal 127 0x90000000 = none ∧ s.laneClaimed 127 = true ∧ s.lane 127 ≠ 5) ∧
    (let s := (State.reset.wrAt LNE_Q_PLL0_EN 31 1).wrAt LNE_Q_PLL0_RATE_KBPS 31 1250000
     31 < 32 ∧ s.isSetAt LNE_Q_PLL0_EN 31 = true ∧ s.rdAt LNE_Q_PLL0_RATE_KBPS 31 = 1250000) ∧
    (let s := (State.reset.wrAt LNE_Q_PLL1_EN 31 1).wrAt LNE_Q_PLL1_RATE_KBPS 31 28125000
     s.isSetAt LNE_Q_PLL1_EN 31 = true ∧ s.rdAt LNE_Q_PLL1_RATE_KBPS 31 = 28125000) ∧
    (State.reset.isSetAt LNE_Q_PLL0_EN 31 = false ∧
      (State.reset.wrAt LNE_Q_PLL0_RATE_KBPS 31 1249999).rdAt LNE_Q_PLL0_RATE_KBPS 31 < 1250000) ∧
    ((laneIn 1).lane 127 = 1 ∧ (laneIn 1).laneClaimed 127 = true ∧ (laneIn 1).isSetAt LNE_LN_CTRL_EN 127 = true ∧
      (laneIn 1).rdAt LNE_LN_CTRL_PROTO 127 = 1 ∧ (laneIn 1).lanePllLock 127 = true) ∧
    ((laneIn 2).lane 127 = 2 ∧ State.reset.lane 127 ≠ 2 ∧ State.reset.lane 127 ≠ 5 ∧ State.reset.lanePllLock 127 = false ∧
      ((laneIn 2).wrAt LNE_LN_RX_ADAPT 127 0).isSetAt LNE_LN_RX_ADAPT 127 = false ∧ (laneIn 2).linkDownWaits 127 = false ∧
      ({ laneIn 2 with pending := [.laneLinkDown 127 false] } : State).linkDownWaits 127 = true) ∧
    (let s := (laneIn 2).startTest kindLane 127 causeFailed
     s.underTest kindLane 127 = true ∧ (s.endTest kindLane 127 true).1 = .transient ∧
       (s.endTest kindLane 127 false).1 ≠ .transient) ∧
    (let s := (((laneIn 2).wrAt LNE_LN_CTRL_PROTO 127 4).wrAt DP_CFG_BIND 0 2).wrAt DP_CFG_TARGET 0 127
     s.lane 127 = 2 ∧ s.rdAt LNE_LN_CTRL_PROTO 127 = 4 ∧ s.rdAt LNE_LN_RAW_DP 127 = 0 ∧ s.rdAt DP_CFG_BIND 0 = 2 ∧
       s.rdAt DP_CFG_TARGET 0 = 127 ∧ (s.port 0).words.length < 512 ∧ s.regionRetired (portRegion 0) = false ∧
       (s.wrAt DP_CFG_BIND 0 1).rdAt DP_CFG_BIND 0 ≠ 2) ∧
    (let r := 2 ^ 143 + 1 * 2 ^ 141 + 127 * 2 ^ 134
     let s0 := (State.reset.wrAt LNE_LN_STATUS_STATE 127 5).wrAt PRM_ROUTE_UP 0 1
     let s : State := { s0 with prom := { s0.prom with routes := [(0, r)] } }
     s.lane 127 ≠ 2 ∧ s.reclockRoute 127 = some (0, r)) := by decide +kernel

/-- Bond 15: enabled, in state `k`, one data lane 0. -/
def bondState (k : Nat) : State :=
  let s := (State.reset.wrAt LNE_BOND_CTRL_EN 15 1).wrAt LNE_BOND_STATUS_STATE 15 k
  s.wrAt LNE_BOND_CTRL_DATA_CNT 15 1

/-- A ticket of link flow 3 that ended on lane 0. -/
def someHokutu : HokutuTicket :=
  { flowId := 3, words := [{ data := 5 }], endLane := 0, validBytes := 9, errorFlag := false, crcOk := true, syncError := false }

/-- The 148 bits of a block that a sender whose scrambler stands at 0 puts on position 0. -/
def wireOf (x : LinkBlock) : Nat := ((bondState 1).sendBlock 15 0 0 x).1.2

/-- Bond 15 UP on lane 0, which is UP; ingress flow 9 takes its link flow 3. -/
def linkState : State :=
  ((withFlow (bondState 2) 9 (2 ^ 31 + 8 * 2 ^ 24)).setFlowWord 9 4 (3 * 2 ^ 16)).wrAt LNE_LN_STATUS_STATE 0 2

theorem witness_BondCommands :
    (15 < 16 ∧ (bondState 1).isSetAt LNE_BOND_CTRL_EN 15 = true ∧ bitOf 0x80000000 31 = 1 ∧ bitOf 0 31 = 0) ∧
    (State.reset.isSetAt LNE_BOND_CTRL_EN 15 = false ∧ (State.reset.wrAt LNE_BOND_CTRL_DATA_CNT 15 0).bondRefusal 15 = some 4) ∧
    (let s := ((State.reset.wrAt LNE_LN_STATUS_CLAIMED 0 1).wrAt LNE_LN_CTRL_PROTO 0 3).wrAt LNE_Q_PLL0_RATE_KBPS 0 28125000
     ((s.wrAt LNE_BOND_CTRL_SPARE 15 0xFF).wrAt LNE_BOND_CTRL_DATA_CNT 15 1).bondRefusal 15 = none) ∧
    ((bondState 1).bondEnabled 15 = true ∧ State.reset.bondEnabled 15 = false ∧
      (match ((bondState 1).takeLast 15 0 [wireOf (trainReqBlock 5 0)]).1 with
       | some x => x.isCode 3
       | none => false) = true ∧
      (match ((bondState 1).takeLast 15 0 [wireOf (trainAckBlock 5 6 0)]).1 with
       | some x => x.isCode 4
       | none => false) = true) ∧
    ((bondState 1).bondState 15 = 1 ∧ (bondState 2).bondState 15 ≠ 1 ∧
      SMap.read ((bondState 1).bondRun 15).exchanges 0 0 < 1024 ∧
      (bondState 1).bondFail 15 true = some 1 ∧ (bondState 1).now < ((bondState 1).bondRun 15).startedAt + 10000000 ∧
      ((bondState 1).bondRun 15).startedAt + 10000000 ≤ (atMono (bondState 1) 10000000).now) ∧
    (let s := (((bondState 1).wrAt LNE_LN_STATUS_STATE 0 2).wrAt LNE_LN_STATUS_BLOCK_LOCK 0 1).wrAt LNE_Q_PLL0_RATE_KBPS 0 28125000
     (s.setBondRun 15 { exchanges := [(0, 1024)], clean := [(0, 64)] }).bondFail 15 true = none) ∧
    (let s := atMono (bondState 4) 100000000
     s.bondState 15 = 4 ∧ s.bondEnabled 15 = true ∧ (s.bondRun 15).startedAt + 100000000 ≤ s.now ∧ (bondState 1).bondState 15 ≠ 4) ∧
    (let s := atMono ((bondState 2).setBondRun 15 { spareWanted := some (0, 0), spare := some 16 }) 1
     (s.bondRun 15).spareWanted = some (0, 0) ∧ (s.bondRun 15).spare = some 16 ∧ s.bondState 15 = 2 ∧
       (s.bondRun 15).faultAt < s.now ∧ (bondState 2).now ≤ ((bondState 2).bondRun 15).faultAt) ∧
    (((bondState 1).bondRun 15).spare = none ∧ ((bondState 1).bondRun 15).spareWanted = none) ∧
    (linkState.bondUp 15 = true ∧ someHokutu.inError = false ∧ linkState.faultWaits 0 = false ∧ linkState.lane 0 = 2 ∧
      linkState.hokutuFlow 15 3 = some 9) ∧
    (let s := (linkState.setFlowWord 9 0 0)
     let t := { someHokutu with errorFlag := true }
     t.crcOk = true ∧ s.faultWaits 0 = false ∧ s.lane 0 = 2 ∧
       ((s.addSatAt LNE_BOND_TICKET_ERR_CNT 15 1).post 0x5007 (0x580 + 15) 2 (3 + 16384)).hokutuFlow 15 3 = none) ∧
    (bondState 1).bondUp 15 = false := by
  refine ⟨?_, ?_, ?_, ?_, ?_, ?_, ?_, ?_, ?_, ?_, ?_, ?_⟩ <;> decide +kernel

/-- Bank 5 has driven its lands for 1 ms. -/
def driving (s : State) : State :=
  let s1 := s.wrAt LNE_GPIO_BANK_VIOB_OK 5 1
  atMono { s1 with lanes := { s1.lanes with viobSince := [(5, 0)] } } 1000000

theorem witness_LandCommands :
    (191 < 192 ∧ State.reset.landOwnedBy 191 3 = false ∧ (5 < 6 ∧ 1139 < 1140 ∧ 1890 < 1891 ∧ 1140 ≤ 1890)) ∧
    (State.reset.claimLand 191 3 1).landOwnedBy 191 3 = true ∧
    (State.reset.rdAt LNE_GPIO_PULL 191 ≠ 3 ∧ (State.reset.wrAt LNE_GPIO_PULL 191 3).rdAt LNE_GPIO_PULL 191 = 3) ∧
    State.reset.isSetAt LNE_GPIO_BANK_VIOB_OK 5 = false ∧ State.reset.bankDrives 5 = false ∧
    (let s := driving (State.reset.wrAt LNE_GPIO_IO_STD 190 1)
     s.bankDrives (191 / 32) = true ∧ s.jtagActs.drives = false ∧ s.pairLvds 191 = true ∧
       (s.wrAt LNE_GPIO_BANK_LVDS_OK 5 1).isSetAt LNE_GPIO_BANK_LVDS_OK (191 / 32) = true) ∧
    ((driving State.reset).bankDrives (191 / 32) = true ∧ (driving State.reset).pairLvds 191 = false) ∧
    (State.reset.landDriven 191 = none ∧ State.reset.landClaimed 191 = false) ∧
    (let s := (inRun State.reset).claimLand 191 3 1
     s.landDriven 191 = none ∧ s.landClaimed 191 = true ∧ s.mode = modeRun ∧
       (s.wrAt LNE_GPIO_PULL 191 1).rdAt LNE_GPIO_PULL 191 = 1 ∧ (s.wrAt LNE_GPIO_PULL 191 2).rdAt LNE_GPIO_PULL 191 = 2) := by
  decide

theorem witness_BoundaryScan :
    (State.reset.scrapped = false ∧ (State.reset.wr GLB_MODE_MODE modeService).mode = modeService ∧
      (State.reset.wr GLB_MODE_MODE modeLoad).mode = modeLoad ∧
      (State.reset.wr GLB_MODE_MODE modeConfigFault).mode = modeConfigFault) ∧
    ((inRun State.reset).scrapped = false ∧ (inRun State.reset).mode ≠ modeLoad ∧
      (inRun State.reset).mode ≠ modeConfigFault ∧ (inRun State.reset).mode ≠ modeService ∧
      ((inRun State.reset).setJtag .highz).lanes.jtag.drives = true) ∧
    (let s := (driving ((State.reset.wr GLB_MODE_MODE modeService).setJtag .highz))
     s.bankDrives (191 / 32) = true ∧ s.jtagActs.drives = true ∧ s.jtagActs = .highz) ∧
    (State.reset.wr LCS_STATE_STATE 6).scrapped = true := by decide

/-! ### fabric -/

/-- PLL 15 enabled in grid mode on grid 0, which runs. -/
def pllState : State :=
  let s := ((gridState.wrAt CLR_GRID_CTRL_EN 0 1).wrAt CLR_GRID_STATUS_ACTIVE 0 1).wrAt FAB_PLL_CTRL_EN 15 1
  (s.wrAt FAB_PLL_CTRL_MODE 15 1).wrAt FAB_PLL_CTRL_GRID 15 0

theorem witness_FabricCommands :
    (15 < 16 ∧ pllState.fabricClocked = true ∧ pllState.isSetAt FAB_PLL_CTRL_EN 15 = true ∧
      pllState.rdAt FAB_PLL_STATUS_LOCK 15 = 0 ∧
      pllState.rdAt FAB_PLL_CTRL_MODE 15 ≠ 0 ∧ pllState.gridActive 0 = true ∧ pllState.rdAt FAB_PLL_CTRL_GRID 15 = 0) ∧
    (State.reset.isSetAt FAB_PLL_CTRL_EN 15 = false ∧ State.reset.gridActive (State.reset.rdAt FAB_PLL_CTRL_GRID 15) = false ∧
      (State.reset.wrAt FAB_PLL_CTRL_MODE 15 2).rdAt FAB_PLL_CTRL_MODE 15 = 2 ∧ offState.fabricClocked = false) ∧
    (let s := (pllState.wrAt FAB_PLL_CTRL_MODE 15 0).wrAt FAB_PLL_CTRL_REF 15 0x40
     (s.wrAt FAB_PLL_STATUS_LOCK 15 1).isSetAt FAB_PLL_STATUS_LOCK 15 = true ∧ s.rdAt FAB_PLL_CTRL_REF 15 ≠ 0 ∧
       s.rdAt FAB_PLL_CTRL_MODE 15 = 0 ∧ s.isSetAt FAB_PLL_CTRL_EN 15 = true) ∧
    (State.reset.rdAt FAB_PLL_CTRL_REF 15 = 0 ∧ (pllState.wrAt FAB_PLL_STATUS_LOCK 15 1).pllOnGrid 0 15 = true ∧
      (pllState.wrAt FAB_PLL_STATUS_LOCK 15 1).isSetAt FAB_PLL_STATUS_LOCK 15 = true ∧
      pllState.rdAt FAB_PLL_STATUS_ALIGNED 15 = 0 ∧ pllState.rdAt FAB_PLL_STATUS_GRID_LOST 15 = 0 ∧
      (pllState.wrAt FAB_PLL_STATUS_ALIGNED 15 1).rdAt FAB_PLL_STATUS_ALIGNED 15 = 1 ∧
      (pllState.wrAt FAB_PLL_STATUS_GRID_LOST 15 1).rdAt FAB_PLL_STATUS_GRID_LOST 15 = 1) ∧
    (let s := (State.reset.wrAt FAB_REGION_GSR_HELD 15 1).wrAt FAB_REGION_WAIT_CLK 15 1
     let s1 := ((s.wrAt FAB_REGION_CLK_RCLK0 15 3).wrAt FAB_GCLK_SRC 3 5).wrAt FAB_REGION_CLK_RUN 15 1
     s1.isSetAt FAB_REGION_GSR_HELD 15 = true ∧ s1.isSetAt FAB_REGION_WAIT_CLK 15 = true ∧ s1.turnClock 15 = true ∧
       s1.regionRetired 15 = false ∧ s1.rdAt FAB_REGION_CLK_RUN 15 ≠ 0) ∧
    (State.reset.wrAt FAB_REGION_CLK_RCLK0 15 0x7F).turnClock 15 = false ∧
    ((State.reset.writePlane 0 (frameIndex 4 160) { bits := 2 ^ 24 }).otherDrivers 4 0 0 = [9] ∧
      State.reset.otherDrivers 4 0 0 = []) := by
  refine ⟨?_, ?_, ?_, ?_, ?_, ?_, ?_⟩ <;> decide +kernel

/-- A write of 5 to address 1023. -/
def tileWrite : TileAccess := { en := true, we := 1, addr := 1023, din := 5 }

theorem witness_TileAndMixEdges :
    (15 < 16 ∧ 239 < 240 ∧ (regionOn State.reset).regionRuns 15 = true ∧
      State.reset.regionRuns 15 = false ∧ tileWrites ((regionOn State.reset).tileBits 15 239 2 0)
        ((regionOn State.reset).tileBits 15 239 3 3 == 1) tileWrite = true) ∧
    (tileWrite.en = true ∧ tileWrite.addr < 1024 * aspectLanes ((regionOn State.reset).tileBits 15 239 2 0) ∧
      (regionOn State.reset).tileBits 15 239 9 7 = (regionOn State.reset).tileBits 15 239 12 10) ∧
    (let r : TileAccess := { tileWrite with we := 0 }
     r.en = true ∧ tileWrite.addr = r.addr ∧ tileWrites ((regionOn State.reset).tileBits 15 239 2 0)
       ((regionOn State.reset).tileBits 15 239 3 3 == 1) r = false) ∧
    ({ tileWrite with en := false } : TileAccess).en = false ∧
    (((regionOn State.reset).setTilePort 15 239 true { writeback := some 3 }).regionRuns 15 = true ∧
      ((State.reset.setTilePort 15 239 true { writeback := some 3 }).tilePort 15 239 true).writeback ≠ none) ∧
    (State.reset.tilePort 15 239 true).writeback = none ∧
    (1528 < 1536 ∧ columnType 1528 = 2 ∧ 31 < 32 ∧ (regionOn State.reset).regionRuns (1528 / 96) = true) ∧
    columnType 0 ≠ 2 := by decide +kernel

theorem witness_TileLanesAndMixArithmetic :
    (0 < 5 ∧ 5 < 6 ∧ 7 < aspectLanes 5 ∧ 7 < 8) ∧ (-(2 ^ 23 : Int) ≤ -8388608 ∧ (8388607 : Int) < 2 ^ 23) ∧
    (2 ^ 23 : Int) ≤ 8388608 ∧ (-8388609 : Int) < -(2 ^ 23 : Int) ∧ (-1 : Int) < 0 ∧
    (-8388608 ≤ toSigned 24 5 + toSigned 24 (5 / 2 ^ 24) ∧ toSigned 24 5 + toSigned 24 (5 / 2 ^ 24) ≤ 8388607) ∧
    (-(2 ^ 32 : Int) ≤ 2 * (-4805702 * 2 ^ 30 - 2 ^ 32 * mixRound 2 32 (-4805702 * 2 ^ 30)) ∧
      2 * (-4805702 * 2 ^ 30 - 2 ^ 32 * mixRound 2 32 (-4805702 * 2 ^ 30)) = (2 ^ 32 : Int)) ∧
    8388607 < toSigned 24 (8388607 + 0xFFFFFF * 2 ^ 24) - toSigned 24 ((8388607 + 0xFFFFFF * 2 ^ 24) / 2 ^ 24) := by decide +kernel

/-- The worked example after 10 R273: −1,201,425.5 rounds to −1,201,426, −1,201,425 and the even −1,201,426. -/
theorem test_mix_rounding :
    mixRound 0 32 (-4805702 * 2 ^ 30) = -1201426 ∧ mixRound 1 32 (-4805702 * 2 ^ 30) = -1201425 ∧
    mixRound 2 32 (-4805702 * 2 ^ 30) = -1201426 := by decide +kernel

/-- Port 255 bound as `b`, its region running. -/
def portState (b : Nat) : State :=
  regionOn ((State.reset.wrAt PF_CFG_BIND 255 b).wrAt DP_CFG_BIND 255 b)

/-- A closed packet of one word. -/
def someClosed : PackClosed := { bytes := 9, words := 1, valid := 9, reason := 0, offset := 0 }

theorem witness_PackAndDelivery :
    (255 < 256 ∧ (portState 1).rdAt PF_CFG_BIND 255 ≠ 0 ∧ (portState 1).rdAt PF_CFG_BIND 255 ≠ 2 ∧
      (portState 1).regionRuns (portRegion 255) = true ∧
      ((portState 1).wrAt PF_STATUS_FULL 255 1).isSetAt PF_STATUS_FULL 255 = true ∧ (portState 1).isSetAt PF_STATUS_FULL 255 = false ∧
      ((bytesOf 1 5).foldl ((portState 1).packByte 255) ((portState 1).pack 255, false)).2 = false) ∧
    (State.reset.rdAt PF_CFG_BIND 255 = 0 ∧ (State.reset.pack 255).frontHas = false) ∧
    (let s := (portState 1).setPack 255 { words := [7] }
     (s.pack 255).frontHas = true ∧ s.rdAt PF_CFG_BIND 255 = 1 ∧ (s.pack 255).taken = 0) ∧
    (let s := (portState 2).setPack 255 { words := [7] }
     let u := ((s.wrAt LNE_LN_STATUS_STATE 0 2).wrAt LNE_LN_CTRL_PROTO 0 4).wrAt LNE_LN_RAW_PF 0 255
     (s.pack 255).frontHas = true ∧ s.rdAt PF_CFG_BIND 255 = 2 ∧ s.rdAt PF_CFG_TARGET 255 = 0 ∧ s.rawSends 255 0 = false ∧
       u.rawSends 255 0 = true) ∧
    (let s := (((portState 3).wrAt PF_CFG_TARGET 255 3).setPack 255 { words := [7], header := [0, 0, 0, 0] })
     let u := ((s.wrAt STR_BUF_BASE 3 (0x40200000 / 8)).wrAt STR_BUF_LEN 3 1).wrAt STR_BUF_VALID 3 1
     (u.pack 255).frontHas = true ∧ u.rdAt PF_CFG_BIND 255 = 3 ∧ u.rdAt PF_CFG_TARGET 255 = 3 ∧ u.bufValid 3 = true ∧
       u.bufFirst 3 + 8 * (u.pack 255).frontOffset + (u.pack 255).taken < u.bufEnd 3) ∧
    (let s := (portState 3).setPack 255 { closed := [someClosed], taken := 1 }
     (s.pack 255).closed = [someClosed] ∧ someClosed.words ≤ (s.pack 255).taken ∧ s.rdAt PF_CFG_BIND 255 ≠ 1) ∧
    (let s := (portState 1).setPack 255 { closed := [someClosed], taken := 1 }
     s.rdAt PF_CFG_BIND 255 = 1 ∧ 0 < someClosed.words ∧ s.rdAt PF_CFG_TARGET 255 = 0 ∧ s.flowEn 0 = false) ∧
    (let s := (withFlow (portState 1) 0 (2 ^ 31 + 2 ^ 30)).setPack 255 { closed := [someClosed], taken := 1, slots := [9] }
     s.rdAt PF_CFG_BIND 255 = 1 ∧ s.rdAt PF_CFG_TARGET 255 = 0 ∧ s.flowEn 0 = true ∧ s.flowEgress 0 = true ∧
       (s.pack 255).drop = false ∧
       ((s.setPack 255 { s.pack 255 with closed := [], taken := 0, slots := [], drop := false }).packTicket 0 (s.pack 255).slots
         someClosed).1 ≠ .stalled) ∧
    (let s := State.reset.setPack 255 { closed := [someClosed] }
     (s.pack 255).closed = [someClosed] ∧ (s.pack 255).taken < someClosed.words) ∧
    (let s := (withFlow (portState 1) 9 (2 ^ 31)).setFlowWord 9 1 (2 ^ 30 + 255 * 2 ^ 16)
     let u := withTicket s { someTicket with flow := 9 }
     (u.port 255).words.length < 512 ∧ u.regionRetired (portRegion 255) = false ∧ u.rdAt DP_CFG_BIND 255 = 1 ∧
       u.portTicket 255 = some (7, { someTicket with flow := 9 })) ∧
    ((portState 3).rdAt DP_CFG_BIND 255 = 3 ∧ ((portState 3).port 255).words.length < 512 ∧
      (portState 3).regionRetired (portRegion 255) = false ∧ ((portState 3).port 255).requests.length < 8 ∧
      65535 % 2 ^ 16 ≠ 0 ∧ 65536 % 2 ^ 16 = 0) ∧
    (let q : BufferRead := { offset := 0, words := 1 }
     let s := (portState 3).setPort 255 { requests := [q], words := [{ data := 7 }] }
     let u := State.reset.setPort 255 { requests := List.replicate 8 q, words := List.replicate 512 { data := 7 } }
     (s.port 255).requests = [q] ∧ (s.port 255).words = [{ data := 7 }] ∧ s.regionRuns (portRegion 255) = true ∧
       512 ≤ (u.port 255).words.length ∧ 8 ≤ (u.port 255).requests.length) ∧ (State.reset.port 255).words = [] := by
  refine ⟨?_, ?_, ?_, ?_, ?_, ?_, ?_, ?_, ?_, ?_, ?_, ?_, ?_⟩ <;> decide +kernel

/-! ### streams -/

/-- A STREAM_STAGE record: offset, length. -/
def stageRec (off n : Nat) : List Nat := rec 0x6001 ([0, 0, 0, 0, 0, 0, 0, 0] ++ bytesOf 4 off ++ bytesOf 4 n)

/-- A load in progress. -/
def someLoad (background : Bool) (image : Option StreamImage) : LoadRun :=
  { id := 0, background := background, fromFlash := false, bank := 0, sector := 0, startedAt := 0, retired := 0,
    parked := 0, active := 0, image := image }

/-- The state with that load running. -/
def loading (l : LoadRun) : State := { State.reset with cfg := { State.reset.cfg with load := some l } }

theorem witness_StreamCommands :
    ((farOn (cmdState (stageRec 4 4))).Takes 0 0x6001 (stageRec 4 4) ∧ recField (stageRec 4 4) 16 4 % 8 ≠ 0 ∧
      (farOn (cmdState (stageRec 4 4))).storeInit true = true) ∧
    ((farOn (cmdState (stageRec 8 2))).Takes 0 0x6001 (stageRec 8 2) ∧ recField (stageRec 8 2) 16 4 % 8 = 0 ∧
      recField (stageRec 8 2) 20 4 < 4 ∧ (farOn (cmdState (stageRec 8 2))).storeInit true = true) ∧
    ((farOn (cmdState (stageRec 8 4))).Takes 0 0x6001 (stageRec 8 4) ∧ recField (stageRec 8 4) 20 4 = 4 ∧
      recField (stageRec 8 4) 16 4 = 8 ∧ (farOn (cmdState (stageRec 8 4))).cfg.load = none ∧
      (farOn (cmdState (stageRec 8 4))).storeInit true = true) ∧
    ((farOn (cmdState (stageRec 268435456 4))).Takes 0 0x6001 (stageRec 268435456 4) ∧
      recField (stageRec 268435456 4) 20 4 = 4 ∧ recField (stageRec 268435456 4) 16 4 = 268435456 ∧
      (farOn (cmdState (stageRec 268435456 4))).storeInit true = true) ∧
    (let s0 := farOn (cmdState (stageRec 8 4))
     let s : State := { s0 with cfg := { s0.cfg with load := some (someLoad false none) } }
     s.Takes 0 0x6001 (stageRec 8 4) ∧ s.cfg.load = some (someLoad false none) ∧ s.storeInit true = true) ∧
    State.reset.storeInit true = false ∧
    (let s0 := cmdState (rec 0x6003 [])
     let s : State := { s0 with cfg := { s0.cfg with load := some (someLoad false none) } }
     s.Takes 0 0x6003 (rec 0x6003 []) ∧ s.cfg.load = some (someLoad false none)) ∧
    ((cmdState (rec 0x6003 [])).Takes 0 0x6003 (rec 0x6003 []) ∧ (cmdState (rec 0x6003 [])).cfg.load = none) ∧
    (bitOf 1 0 = 1 ∧ bitOf 2 0 = 0) ∧
    ((cmdState (rec 0x6002 [0])).Takes 0 0x6002 (rec 0x6002 [0]) ∧
      ((cmdState (rec 0x6002 [0])).loadRefusal false false 0 0).isSome = true) ∧
    ((inRun (cmdState (rec 0x6002 [0]))).Takes 0 0x6002 (rec 0x6002 [0]) ∧
      (inRun (cmdState (rec 0x6002 [0]))).loadRefusal false false 0 0 = none ∧
      (inRun (cmdState (rec 0x6002 [0]))).goldenClash (someLoad false none) = false ∧
      recByte (rec 0x6002 [0]) 8 = 0 ∧ recByte (rec 0x6002 [0]) 9 = 0 ∧ recField (rec 0x6002 [0]) 10 2 = 0) ∧
    (State.reset.running = false ∧ State.reset.isSet LCS_STATE_PRIV_RUNNING = false ∧ State.reset.cfg.load = none) ∧
    (loading (someLoad false none)).cfg.load = some (someLoad false none) ∧
    ((loading (someLoad false (some { kind := 0 }))).cfg.load = some (someLoad false (some { kind := 0 })) ∧
      (loading (someLoad false (some { kind := 0 }))).promenadeWaits = false ∧
      (loading (someLoad true (some { kind := 1 }))).cfg.load = some (someLoad true (some { kind := 1 })) ∧
      (loading (someLoad true (some { kind := 1 }))).promenadeWaits = false) ∧
    State.promenadeWaits { State.reset with pending := [.promEnter 0] } = true := by
  refine ⟨⟨⟨?_, ?_, ?_⟩, ?_⟩, ⟨⟨?_, ?_, ?_⟩, ?_⟩, ⟨⟨?_, ?_, ?_⟩, ?_⟩, ⟨⟨?_, ?_, ?_⟩, ?_⟩, ⟨⟨?_, ?_, ?_⟩, ?_⟩, ?_,
    ⟨⟨?_, ?_, ?_⟩, ?_⟩, ⟨⟨?_, ?_, ?_⟩, ?_⟩, ?_, ⟨⟨?_, ?_, ?_⟩, ?_⟩, ⟨⟨?_, ?_, ?_⟩, ?_⟩, ?_, ?_, ?_, ?_⟩ <;> decide +kernel

/-- A staged background stream of one command packet with value `v`, DECL_PEAK `p` under a budget of 1, and the 16 bytes of `d` at its end. -/
def stagedStream (p v d : Nat) : State :=
  let s := (((loading (someLoad true none)).wr CFG_STAGE_LEN 72).wr LCS_STATE_STATE 3).wr THM_BUDGET_BUDGET_MW 1
  { s with store := { s.store with mem := [(stageBase, { data := 0x5358544F + 2 ^ 32 }),
      (stageBase + 1, { data := s.rd GLB_IDCODE + 72 * 2 ^ 32 }), (stageBase + 3, { data := (0xF + 0x100) * 2 ^ 32 }),
      (stageBase + 4, { data := p }), (stageBase + 6, { data := 0x08500001 + v * 2 ^ 32 }),
      (stageBase + 7, { data := d % 2 ^ 64 }), (stageBase + 8, { data := d / 2 ^ 64 })] } }

/-- Its tag under the default key. -/
def streamTag (p v : Nat) : BitVec 128 :=
  Config.gcmTag defaultKey 0 ((stagedStream p v 0).sourceBytes (someLoad true none) 0 56) []

/-- The stream with its tag, read. -/
def readStream (p v : Nat) : State := (stagedStream p v (streamTag p v).toNat).readStaged (someLoad true none)

/-- The bytes of a value make it up again. -/
theorem ofBytes_digits (n d : Nat) : ofBytes ((List.range n).map fun k => d / 256 ^ k % 256) = d % 256 ^ n := by
  induction n generalizing d with
  | zero => simp [ofBytes, Nat.mod_one]
  | succ n ih =>
    rw [List.range_succ_eq_map, List.map_cons, List.map_map]
    have h := ih (d / 256)
    have e : ((fun k => d / 256 ^ k % 256) ∘ Nat.succ) = fun k => d / 256 / 256 ^ k % 256 := by
      funext k
      simp [Nat.pow_succ', Nat.div_div_eq_div_mul]
    rw [e]
    simp only [ofBytes] at h ⊢
    rw [h, Nat.pow_succ', Nat.mod_mul]
    simp

/-- So do the bytes of its halves. -/
theorem ofBytes_halves (d : Nat) (h : d < 2 ^ 128) :
    ofBytes (((List.range 8).map fun k => d % 2 ^ 64 / 256 ^ k % 256) ++ (List.range 8).map fun k => d / 2 ^ 64 / 256 ^ k % 256) = d := by
  have happ (xs ys : List Nat) : ofBytes (xs ++ ys) = ofBytes xs + 256 ^ xs.length * ofBytes ys := by
    induction xs with
    | nil => simp [ofBytes]
    | cons x xs ih => simp [ofBytes, ih, Nat.pow_succ']; ring
  rw [happ, ofBytes_digits, ofBytes_digits]
  simp
  omega

/-- A stream whose checks before its tag pass, and whose last 16 bytes are its tag, is trusted. -/
theorem readStream_trusted (p v : Nat) (s : State) (l : LoadRun) (hl : l = someLoad true none)
    (h1 : s.headerFailure l = none) (h2 : s.sourceField l 8 4 = s.rd GLB_IDCODE) (h3 : s.lengthFailure l = none)
    (h4 : (s.sourceByte l 29).1 = 1) (h5 : (s.sourceByte l 28).1 = 15) (h6 : s.keyFor 15 = .inl defaultKey)
    (h7 : s.totalLen l = 72) (h9 : s.sourcePoison l 0 72 = none) (h10 : s.sourceField l 16 12 = 0)
    (h11 : s.sourceBytes l 0 56 = (stagedStream p v 0).sourceBytes l 0 56)
    (h12 : s.sourceBytes l 56 16 = ((List.range 8).map fun k => (streamTag p v).toNat % 2 ^ 64 / 256 ^ k % 256) ++
      (List.range 8).map fun k => (streamTag p v).toNat / 2 ^ 64 / 256 ^ k % 256) : s.trustFailure l = none := by
  have h13 : s.sourceField l 56 16 = (streamTag p v).toNat := by
    rw [State.sourceField, h12, ofBytes_halves _ (streamTag p v).isLt]
  subst hl
  have hb : (someLoad true none).background = true := rfl
  have h14 : bitOf 15 4 = 0 := by decide
  simp [State.trustFailure, h1, h2, h3, h4, h5, h6, h7, h9, h10, h11, h13, h14, State.tagFailure, hb, flag, streamTag]

theorem witness_StreamCommands_checks :
    ((loading (someLoad true none)).trustFailure (someLoad true none)).isSome = true ∧
    ((readStream 1 7).trustFailure (someLoad true none) = none ∧
      (((readStream 1 7).parseLoad (someLoad true none)).failure).isSome = true) ∧
    ((readStream 2 2).trustFailure (someLoad true none) = none ∧
      ((readStream 2 2).parseLoad (someLoad true none)).failure = none ∧
      ((readStream 2 2).checkFailure ((readStream 2 2).parseLoad (someLoad true none)).image 0).isSome = true) ∧
    ((readStream 1 2).trustFailure (someLoad true none) = none ∧
      ((readStream 1 2).parseLoad (someLoad true none)).failure = none ∧
      (readStream 1 2).checkFailure ((readStream 1 2).parseLoad (someLoad true none)).image 0 = none) := by
  refine ⟨by decide +kernel, ⟨readStream_trusted 1 7 _ _ rfl ?_ ?_ ?_ ?_ ?_ ?_ ?_ ?_ ?_ ?_ rfl, ?_⟩,
    ⟨readStream_trusted 2 2 _ _ rfl ?_ ?_ ?_ ?_ ?_ ?_ ?_ ?_ ?_ ?_ rfl, ?_, ?_⟩,
    readStream_trusted 1 2 _ _ rfl ?_ ?_ ?_ ?_ ?_ ?_ ?_ ?_ ?_ ?_ rfl, ?_, ?_⟩ <;> decide +kernel

/-! ### contexts -/

/-- Region 15 with request `q` pending; its turn clock is on PLL 0, which runs. -/
def requested (s : State) (q : RegionRequest) : State :=
  let s1 := ((s.wrAt FAB_REGION_CLK_RCLK0 15 0).wrAt FAB_GCLK_SRC 0 0).setRequests 15 [q]
  { s1 with fabric := { s1.fabric with running := [0] } }

theorem witness_RegionRequests :
    ((cmdState (rec 0x7001 [0, 0])).Takes 0 0x7001 (rec 0x7001 [0, 0]) ∧ recField (rec 0x7001 [0, 0]) 8 2 = 0) ∧
    ((cmdState (rec 0x7002 [1, 128])).Takes 0 0x7002 (rec 0x7002 [1, 128]) ∧ recField (rec 0x7002 [1, 128]) 8 2 ≠ 0) ∧
    (cmdState (rec 0x7003 [1, 128])).Takes 0 0x7003 (rec 0x7003 [1, 128]) ∧
    (State.reset.turnRefusal 15 3 = some 4 ∧ (inRun State.reset).turnRefusal 15 3 = some 0x60 ∧
      ((inRun State.reset).wr CFG_CTX_LOADED (2 ^ 63)).turnRefusal 15 3 = none ∧
      (((inRun State.reset).wr CFG_CTX_LOADED (2 ^ 63)).wr CFG_CTX_LOCKED (2 ^ 63)).turnRefusal 15 3 = some 0x61 ∧
      (((inRun State.reset).wr CFG_CTX_LOADED (2 ^ 63)).wr CFG_CTX_LOCKED (2 ^ 63)).releaseWaits = false ∧
      ((inRun State.reset).wr CFG_CTX_LOADED (2 ^ 63)).parked 15 = true) ∧
    (let s := (requested (regionOn State.reset) { kind := 0, context := 3, issued := 0 }).wr CFG_CTX_LOADED (2 ^ 63)
     s.turnRefusal 15 3 = none ∧ s.parked 15 = false ∧ s.waits 15 0 = true ∧ s.turnRuns 15 = true) ∧
    ((inRun State.reset).parked 15 = true ∧ (inRun State.reset).requests 15 = [] ∧ (regionOn State.reset).requests 15 = [] ∧
      (regionOn State.reset).running = true ∧ (regionOn State.reset).parked 15 = false) ∧
    (let s := requested (regionOn State.reset) { kind := 1, issued := 0 }
     s.waits 15 1 = true ∧ s.parked 15 = false ∧ s.turnRuns 15 = true ∧ State.reset.turnRuns 15 = false) ∧
    (let s0 := requested (regionOn State.reset) { kind := 0, issued := 0 }
     let s : State := { s0 with caller := { s0.caller with mono := 10000 } }
     s.requests 15 = [{ kind := 0, issued := 0 }] ∧ 0 + 10000 ≤ s.now ∧
       ((s.setRequests 15 []).refuseRequest 15 { kind := 0, issued := 0 } 0x63).requests 15 = []) ∧
    (let s0 := requested (regionOn State.reset) { kind := 1, issued := 0 }
     let s : State := { s0 with caller := { s0.caller with mono := 10000 } }
     (s.overdue 15 1 10000).1 ≠ [] ∧ s.parked 15 = false ∧ (s0.overdue 15 1 10000).1 = [] ∧
       (s.overdue 15 0 10000).1 = [] ∧ (s.overdue 15 2 10000).1 = [] ∧ (s.noClock 15 10001).waits 15 2 = false) ∧
    (let s := (requested (inRun State.reset) { kind := 2, issued := 0 }).noClock 15 10001
     s.waits 15 2 = true ∧ s.parked 15 = true ∧ s.turnRuns 15 = true ∧ SMap.find s.guard.relocations 15 = none ∧
       lastPark (s.requests 15) = some 2) := by
  refine ⟨⟨⟨?_, ?_, ?_⟩, ?_⟩, ⟨⟨?_, ?_, ?_⟩, ?_⟩, ⟨?_, ?_, ?_⟩, ?_, ?_, ?_, ?_, ?_, ?_, ?_⟩ <;> decide +kernel

/-- A CTX_CAPTURE record: mask, clock byte, n. -/
def captureRec (mask clk n : Nat) : List Nat := rec 0x7004 (bytesOf 2 mask ++ [clk, 0] ++ bytesOf 4 n)

/-- A capture armed on net 0, which runs. -/
def armed (s : State) (cmd : Option Nat) : State :=
  { requested s { kind := 0, issued := 0 } with
    ctx := { s.ctx with capture := some { mask := 1, clock := 0, halt := false, issued := 0, cmd := cmd } } }

/-- A CTX_READBACK record of a kind. -/
def readbackRec (kind : Nat) : List Nat := rec 0x7006 ([0, 0, 0, 0, 0, 0, 0, 0, kind] ++ List.replicate 16 0)

theorem witness_CaptureAndGolden :
    ((cmdState (captureRec 1 0 0)).Takes 0 0x7004 (captureRec 1 0 0) ∧ recField (captureRec 1 0 0) 12 4 = 0 ∧
      (cmdState (captureRec 1 0 0)).ctx.capture = none) ∧
    ((armed (cmdState (captureRec 1 0 0)) none).Takes 0 0x7004 (captureRec 1 0 0) ∧
      (armed (cmdState (captureRec 1 0 0)) none).ctx.capture =
        some { mask := 1, clock := 0, halt := false, issued := 0, cmd := none }) ∧
    ((cmdState (captureRec 1 63 1)).Takes 0 0x7004 (captureRec 1 63 1) ∧ recField (captureRec 1 63 1) 12 4 ≠ 0 ∧
      (cmdState (captureRec 1 63 1)).captureRefusal 63 = some 3 ∧
      ((cmdState (captureRec 1 63 1)).wr CTX_STATUS_CAP_STATE 1).captureRefusal 63 = some 1) ∧
    ((requested (cmdState (captureRec 1 0 1)) { kind := 0, issued := 0 }).captureRefusal 0 = none ∧
      (requested (cmdState (captureRec 1 0 1)) { kind := 0, issued := 0 }).Takes 0 0x7004 (captureRec 1 0 1)) ∧
    ((armed State.reset none).netRuns 0 = true ∧ (armed State.reset none).edgesPassed 0 1 0 = true ∧
      (armed State.reset (some 5)).netRuns 0 = true ∧ (armed State.reset (some 5)).edgesPassed 0 1 0 = true) ∧
    (let s : State := { State.reset with ctx := { State.reset.ctx with capture := (armed State.reset none).ctx.capture } }
     s.ctx.capture = (armed State.reset none).ctx.capture ∧ s.netRuns 0 = false) ∧
    ((cmdState (rec 0x7005 [])).Takes 0 0x7005 (rec 0x7005 []) ∧ (cmdState (rec 0x7005 [])).mode ≠ modeHalted ∧
      ((cmdState (rec 0x7005 [])).wr GLB_MODE_MODE modeHalted).mode = modeHalted) ∧
    ((cmdState (readbackRec 3)).Takes 0 0x7006 (readbackRec 3) ∧ (cmdState (readbackRec 3)).rd LCS_STATE_STATE < 4 ∧
      2 < recByte (readbackRec 3) 16 ∧ recByte (readbackRec 0) 16 = 0 ∧ recByte (readbackRec 1) 16 = 1 ∧
      ((cmdState (readbackRec 3)).wr LCS_STATE_STATE 0xF).rd LCS_STATE_STATE = 0xF) ∧
    ((withSteward (cmdState (rec 0x7007 [3]))).Takes 0 0x7007 (rec 0x7007 [3]) ∧
      ((withSteward (cmdState (rec 0x7007 [3]))).goldenRefusal 3).isSome = true ∧
      (withSteward (inRun (cmdState (rec 0x7007 [3])))).goldenRefusal 3 = none ∧
      (withSteward (inRun (cmdState (rec 0x7007 [3])))).stewardReady = true ∧
      (withSteward (cmdState (rec 0x7007 [3]))).stewardReady = true) ∧
    (({ State.reset with ctx := { State.reset.ctx with golden := some (0, 3, 1) } } : State).ctx.golden = some (0, 3, 1) ∧
      State.reset.flash.ops = [] ∧ State.reset.ctx.golden = none) := by
  refine ⟨⟨⟨?_, ?_, ?_⟩, ?_⟩, ⟨⟨?_, ?_, ?_⟩, ?_⟩, ⟨⟨?_, ?_, ?_⟩, ?_⟩, ⟨?_, ⟨?_, ?_, ?_⟩⟩, ?_, ?_, ⟨⟨?_, ?_, ?_⟩, ?_⟩,
    ⟨⟨?_, ?_, ?_⟩, ?_⟩, ⟨⟨?_, ?_, ?_⟩, ?_⟩, ?_⟩ <;> decide +kernel

/-! ### flash -/

/-- A flash record: bank, sector, word, count. -/
def flashRec (op b n w k : Nat) : List Nat := rec op ([b, 0] ++ bytesOf 2 n ++ bytesOf 2 w ++ bytesOf 2 k)

/-- An erase of sector 1005 of bank 7 under way. -/
def someErase : FlashOp := { erase := true, cmd := none, sector := 1005 }

/-- A program of one code word of that sector. -/
def someProgram : FlashOp := { erase := false, cmd := none, sector := 1005, word := 4095, data := [1] }

theorem witness_FlashOperations :
    ((cmdState (flashRec 0x8001 8 0 0 0)).Takes 0 0x8001 (flashRec 0x8001 8 0 0 0) ∧
      ((cmdState (flashRec 0x8001 8 0 0 0)).flashRefusal 8 0).isSome = true) ∧
    ((inRun (cmdState (flashRec 0x8001 7 1005 0 0))).Takes 0 0x8001 (flashRec 0x8001 7 1005 0 0) ∧
      (inRun (cmdState (flashRec 0x8001 7 1005 0 0))).flashRefusal 7 1005 = none ∧ recBank (flashRec 0x8001 7 1005 0 0) = 7 ∧
      recSector (flashRec 0x8001 7 1005 0 0) = 1005) ∧
    ((cmdState (flashRec 0x8002 7 1005 0 257)).Takes 0 0x8002 (flashRec 0x8002 7 1005 0 257) ∧
      256 < recField (flashRec 0x8002 7 1005 0 257) 14 2 ∧ recField (flashRec 0x8002 7 1005 0 256) 14 2 = 256 ∧
      4096 < recField (flashRec 0x8002 7 1005 3841 256) 12 2 + recField (flashRec 0x8002 7 1005 3841 256) 14 2) ∧
    ((inRun (cmdState (flashRec 0x8002 7 1005 4095 1))).Takes 0 0x8002 (flashRec 0x8002 7 1005 4095 1) ∧
      recField (flashRec 0x8002 7 1005 4095 1) 12 2 + recField (flashRec 0x8002 7 1005 4095 1) 14 2 = 4096 ∧
      (inRun State.reset).flashRefusal 7 1005 = none ∧ State.reset.sectorState 7 1005 < 2 ∧
      (State.reset.setSector 7 1005 3).sectorState 7 1005 = 3) ∧
    ((inRun State.reset).flashMode = true ∧ (inRun State.reset).flashProtected 7 1006 = true ∧
      (inRun State.reset).flashProtected 0 1535 = true ∧ (inRun State.reset).isSet LCS_STATE_PRIV_RUNNING = false) ∧
    (someErase.erase = true ∧ someErase.golden = false ∧ someProgram.erase = false ∧ someProgram.golden = false) ∧
    ((withSteward (State.reset.wr FLC_BOOT_RUNNING_BLOCK 1)).stewardOn 0 = true ∧
      (withSteward (State.reset.wr FLC_BOOT_RUNNING_BLOCK 1)).stewardOn 7 = false) ∧
    (let s := State.reset.setFlashOp 7 { someErase with begun := true }
     s.flashOp 7 = some { someErase with begun := true } ∧ s.flashRuns 7 = true ∧ isRecordSector 7 1005 = false ∧
       State.reset.flashOp 7 = none) ∧
    (let s := State.reset.setFlashOp 7 { someProgram with begun := true }
     let t := s.unmarkSector 7 { someProgram with begun := true }
     s.flashOp 7 = some { someProgram with begun := true } ∧ s.flashRuns 7 = true ∧ (t.programWords 7 1005 4095 [1] none 0).1 = 1 ∧
       (t.programWords 7 1005 4095 [1] none 0).2.1 = none ∧ (t.programWords 7 1005 4095 [1] (some 4095) 0).2.1 = some 0x36) ∧
    (let s := inRun ((cmdState (flashRec 0x8003 7 0 0 0)).setFlashOp 7 { someErase with begun := true })
     s.Takes 0 0x8003 (flashRec 0x8003 7 0 0 0) ∧ s.flashMode = true ∧ s.flashRuns 7 = true ∧
       s.flashOp 7 = some { someErase with begun := true } ∧ s.eraseEnds 7 = false ∧ recBank (flashRec 0x8003 7 0 0 0) = 7 ∧
       (inRun (cmdState (flashRec 0x8003 7 0 0 0))).flashOp 7 = none) ∧
    (let s := inRun ((cmdState (flashRec 0x8004 7 0 0 0)).setFlashOp 7 { someErase with begun := true, suspended := true })
     s.Takes 0 0x8004 (flashRec 0x8004 7 0 0 0) ∧ s.flashMode = true ∧
       s.flashOp 7 = some { someErase with begun := true, suspended := true }) ∧
    (let s := withSteward (State.reset.wr FLC_STATUS_STW_MOVE_REQ 1)
     s.isSet FLC_STATUS_STW_MOVE_REQ = true ∧ s.stewardReady = true ∧ s.isSet FLC_STATUS_STW_OFF_BANK = false ∧
       State.reset.isSet FLC_STATUS_STW_MOVE_REQ = false) := by
  refine ⟨⟨⟨?_, ?_, ?_⟩, ?_⟩, ⟨⟨?_, ?_, ?_⟩, ?_⟩, ⟨⟨?_, ?_, ?_⟩, ?_⟩, ⟨⟨?_, ?_, ?_⟩, ?_⟩, ?_, ?_, ?_, ?_, ?_, ⟨⟨?_, ?_, ?_⟩, ?_⟩,
    ⟨⟨?_, ?_, ?_⟩, ?_⟩, ?_⟩ <;> decide +kernel

theorem witness_FlashRecords :
    ((cmdState (flashRec 0x8005 8 0 0 0)).Takes 0 0x8005 (flashRec 0x8005 8 0 0 0) ∧ 7 < recBank (flashRec 0x8005 8 0 0 0) ∧
      1535 < recSector (flashRec 0x8005 7 1536 0 0) ∧ (inRun State.reset).mode ≠ modeBoot ∧ (inRun State.reset).mode ≠ modeLoad) ∧
    ((cmdState (rec 0x8006 [])).Takes 0 0x8006 (rec 0x8006 []) ∧ (cmdState (rec 0x8006 [])).mode = modeBoot ∧
      (inRun (cmdState (rec 0x8006 []))).mode ≠ modeBoot ∧ (inRun (cmdState (rec 0x8006 []))).mode ≠ modeService) ∧
    ((withSteward (inRun (cmdState (rec 0x8007 [3])))).Takes 0 0x8007 (rec 0x8007 [3]) ∧ recByte (rec 0x8007 [3]) 8 = 3 ∧
      (withSteward (inRun (cmdState (rec 0x8007 [3])))).stewardReady = true) ∧
    (let s := withSteward (inRun (cmdState (rec 0x8007 [2])))
     let t := s.senseSwap {} 1
     s.Takes 0 0x8007 (rec 0x8007 [2]) ∧ s.stewardReady = true ∧ recByte (rec 0x8007 [2]) 8 = 2 ∧ s.flashMode = true ∧
       s.rd FLC_BOOT_ACTIVE_BLOCK ≠ 2 ∧ (s.wr FLC_BOOT_ACTIVE_BLOCK 2).rd FLC_BOOT_ACTIVE_BLOCK = 2 ∧
       t.blockFault {} 1 = none ∧ t.blockTag {} 1 = true ∧ ((s.setSector 1 13 2).senseSwap {} 1).blockFault {} 1 = some 3 ∧
       t.isSetAt FLC_BANK_LOAD_LOCK 7 = false ∧ t.flashOp 7 = none ∧ t.recordPlace {} = some (1006, 0)) ∧
    (let x : FlashOp := { erase := true, cmd := none, sector := 1007, begun := true }
     (State.reset.setFlashOp 7 x).flashOp 7 = some x ∧ (State.reset.setFlashOp 7 x).flashRuns 7 = true ∧ x.sector = 1006 + 1 ∧
       State.reset.flashOp 7 = none) := by
  refine ⟨⟨⟨?_, ?_, ?_⟩, ?_⟩, ⟨⟨?_, ?_, ?_⟩, ?_⟩, ⟨⟨?_, ?_, ?_⟩, ?_⟩, ⟨⟨?_, ?_, ?_⟩, ?_⟩, ?_⟩ <;> decide +kernel

/-! ### guards -/

/-- Context 0 of region 15 loaded, the region in RUN. -/
def guardState : State := (regionOn State.reset).wr CFG_CTX_LOADED (2 ^ 60)

/-- A read of the mirror of frame 255 of column 1441 in context 0 finds a word that cannot be corrected. -/
def badMirror : Found := { words := [((mirrorAddrs 0 (frameIndex 1441 255)).headD 0, .other 1)] }

theorem witness_GuardFaults_repair : (guardState.repairSource 0 1441 255 {}).isSome = true := by
  have h : guardState.mirrorFrame 0 (frameIndex 1441 255) {} = some {} := by decide +kernel
  have g : State.mirrorSource guardState 0 1441 255 {} = some { bits := 0, check := frameCheck 1441 255 0 } := by
    rw [State.mirrorSource, h, Option.map_some, shownFrame, if_pos rfl, Option.filter_some, goodFrame, beq_self_eq_true, if_pos rfl]
  rw [State.repairSource, g, Option.isSome_some]

theorem witness_GuardFaults :
    (guardState.guarded 0 1567 255 = none ∧ guardState.guarded 0 1471 255 = some 1441 ∧
      guardState.rdBit HLT_GUARD_FAILED 1471 = false ∧
      (guardState.wrBit HLT_GUARD_FAILED 1471 true).rdBit HLT_GUARD_FAILED 1471 = true ∧
      (withSteward (guardState.wrBit HLT_GUARD_FAILED 1471 true)).guarded 0 1471 255 = some 1441 ∧
      (withSteward (guardState.wrBit HLT_GUARD_FAILED 1471 true)).stewardReady = true) ∧
    guardState.repairSource 0 1441 255 badMirror = none ∧
    (1567 < 1568 ∧ guardState.guardsRun = true ∧ State.reset.guardsRun = false) ∧
    ((1 : Nat) ≠ 3 ∧ riserGroup 1 95 = true ∧ riserGroup 7 127 = true ∧
      State.reset.guard.groupsRetired.contains (riserIndex 1 95) = false ∧ tapGroup (2 ^ 13 + 7167) = true ∧
      State.reset.guard.groupsRetired.contains (riserIndex 3 (2 ^ 13 + 7167)) = false) ∧
    ((State.reset.startTest 1 5 1).underTest 1 5 = true ∧ State.reset.recentTransients 5 = 0 ∧
      ((State.reset.noteTransient 5).noteTransient 5).recentTransients 5 = 2) ∧
    (let s := guardState.startTest kindFrame (frameWord 1567 255 0) 1
     s.underTest kindFrame (frameWord 1567 255 0) = true ∧ s.active (1567 / 98) = 0 ∧
       (s.endTest kindFrame (frameWord 1567 255 0) true).1 = .transient ∧
       (s.endTest kindFrame (frameWord 1567 255 0) (FrameTest.cell == .pass)).1 = .failed ∧
       (s.endTest kindFrame (frameWord 1567 255 0) (FrameTest.signal 26 63 == .pass)).1 = .failed ∧
       (s.endTest kindFrame (frameWord 1567 255 0) (FrameTest.cell == .pass)).2.active (1567 / 98) = 0) ∧
    (let x : Relocation := { columns := [1471], startedAt := some 0 }
     let s : State := { guardState with guard := { guardState.guard with relocations := [(15, x)] } }
     SMap.find s.guard.relocations 15 = some x ∧ SMap.find s.guard.relocations 14 = none) := by
  refine ⟨?_, ?_, ?_, ?_, ?_, ?_, ?_⟩ <;> decide +kernel

/-- An HLT_TEST record. -/
def testRec (kind index : Nat) : List Nat := rec 0x9003 ([kind, 0, 0, 0] ++ bytesOf 4 index)

theorem witness_GuardTestsAndCommands :
    (let s := State.reset.startTest kindRiser (riserIndex 1 95) 1
     riserGroup 1 95 = true ∧ s.underTest kindRiser (riserIndex 1 95) = true ∧
       (s.endTest kindRiser (riserIndex 1 95) true).1 = .transient ∧
       (((s.noteTransient (resourceKey kindRiser (riserIndex 1 95))).noteTransient
         (resourceKey kindRiser (riserIndex 1 95))).endTest kindRiser (riserIndex 1 95) true).1 = .marginal) ∧
    (State.reset.underTest kindRiser (riserIndex 1 95) = false ∧ State.reset.underTest kindBank 511 = false ∧
      State.reset.underTest kindChannel 31 = false) ∧
    ((State.reset.startTest kindBank 511 1).underTest kindBank 511 = true ∧
      ((State.reset.startTest kindBank 511 1).endTest kindBank 511 true).1 = .transient ∧
      (State.reset.startTest kindChannel 31 1).underTest kindChannel 31 = true) ∧
    ((withSteward (cmdState (rec 0x9001 []))).Takes 0 0x9001 (rec 0x9001 []) ∧
      (withSteward (cmdState (rec 0x9001 []))).stewardReady = true ∧ State.reset.stewardReady = false) ∧
    ((withSteward (cmdState (rec 0x9002 []))).Takes 0 0x9002 (rec 0x9002 []) ∧
      (withSteward (cmdState (rec 0x9002 []))).stewardReady = true) ∧
    ((cmdState (testRec 1 0)).Takes 0 0x9003 (testRec 1 0) ∧ recByte (testRec 1 0) 8 % 16 = 1) ∧
    ((cmdState (testRec 6 512)).Takes 0 0x9003 (testRec 6 512) ∧ recByte (testRec 6 512) 8 % 16 = 6 ∧
      testTarget 6 (recField (testRec 6 512) 12 4) = false ∧ testTarget 6 511 = true ∧ testTarget 8 127 = true) ∧
    (let s := inRun (cmdState (testRec 6 511))
     s.Takes 0 0x9003 (testRec 6 511) ∧ recField (testRec 6 511) 12 4 = 511 ∧ s.running = true ∧ s.underTest 6 511 = false) ∧
    ((inRun (cmdState (testRec 8 127))).Takes 0 0x9003 (testRec 8 127) ∧
      testTarget 8 (recField (testRec 8 127) 12 4) = true ∧ (inRun (cmdState (testRec 8 127))).running = true ∧
      (inRun (cmdState (testRec 8 127))).underTest 8 (recField (testRec 8 127) 12 4) = false ∧
      ((inRun (cmdState (testRec 8 127))).startTest 8 127 1).underTest 8 127 = true ∧
      (cmdState (testRec 8 127)).running = false ∧ (cmdState (testRec 8 127)).mode ≠ modeService) := by
  refine ⟨?_, ?_, ?_, ⟨⟨?_, ?_, ?_⟩, ?_⟩, ⟨⟨?_, ?_, ?_⟩, ?_⟩, ⟨⟨?_, ?_, ?_⟩, ?_⟩, ⟨⟨?_, ?_, ?_⟩, ?_⟩,
    ⟨⟨?_, ?_, ?_⟩, ?_⟩, ⟨⟨?_, ?_, ?_⟩, ?_⟩⟩ <;> decide +kernel

/-! ### policy -/

theorem witness_PolicySamples :
    (offState.mode = modeOff ∧ booted.mode ≠ modeOff ∧ booted.modes.boot = none ∧ State.reset.mode ≠ modeOff) ∧
    (let s : State := { booted with
       power := { booted.power with overSince := some 0 }
       caller := { booted.caller with mono := 100000000 } }
     (s.vinCrosses 60001).power.overSince = some 0 ∧ 0 + 100000000 ≤ s.now ∧ 60000 < 60001 ∧ s.mode ≠ modeOff) ∧
    (let s : State := { offState with modes := { offState.modes with vin := 8799 } }
     s.mode = modeOff ∧ s.modes.vin < 8800 ∧ 8800 ≤ 8800 ∧ 8799 < 8800) ∧
    (State.reset.isSet THM_STATUS_ILIMIT = false ∧ State.reset.policyRuns = true ∧ offState.policyRuns = false ∧
      (State.reset.wr GLB_MODE_MODE modeDeepSleep).policyRuns = false) ∧
    (5 < 6 ∧ [29, 0, 0, 0].foldl max 0 < 30 ∧ ([29, 0, 0, 0].filter fun d => 60 ≤ d) = [] ∧
      SMap.find State.reset.power.railGoodSince 5 = none) ∧
    (let s := ((State.reset.wr THM_STATUS_FLOW_SUSPECT 1).wr THM_COOLANT_OUTLET 80).wr THM_PSTACK_MW 0
     (((s.wr THM_FLOW_FLOW_ML 299).showEstimate).flowSuspect 299).flowTaken < 300) := by
  refine ⟨?_, ?_, ?_, ?_, ?_, ?_⟩ <;> decide +kernel

theorem witness_PolicySamples_cold :
    ((State.reset.readSensors (List.replicate 101 200)).crossCheck.watchL2).showTemps.took.tpol < 880 := by decide +kernel

theorem witness_PolicySamples_hot :
    let s : State := { State.reset with power := { State.reset.power with hot := 1 } }
    880 ≤ ((s.readSensors (List.replicate 101 880)).crossCheck.watchL2).showTemps.took.tpol ∧
      1 ≤ ((s.readSensors (List.replicate 101 880)).crossCheck.watchL2).showTemps.took.power.hot := by decide +kernel

theorem witness_BudgetAndLadder :
    ((State.reset.wr THM_STATUS_FLOW_STATE 2).rd THM_STATUS_FLOW_STATE = 2 ∧ State.reset.policyRuns = true) ∧
    ((State.reset.wr THM_STATUS_STEP 4).rd THM_STATUS_STEP = 4) ∧
    (let s := State.reset.wr THM_TPOL 900
     s.rd THM_STATUS_STEP < s.stepWanted) ∧
    (let s := State.reset.wr THM_STATUS_L2_SUSPECT 1
     s.isSet THM_STATUS_L2_SUSPECT = true ∧ s.suspectRenewed = false ∧ toSigned 16 (s.rd THM_L2_L2_INF) - toSigned 16 (s.rd THM_L2_L2_OWN) < 32 ∧
       32 ≤ toSigned 16 ((s.wr THM_L2_L2_INF 32).rd THM_L2_L2_INF) - toSigned 16 (s.rd THM_L2_L2_OWN)) ∧
    (State.reset.isSet THM_STATUS_L2_SUSPECT = false ∧ offState.mode = modeOff ∧ 2999 < 3000 ∧ State.reset.mode ≠ modeOff) := by
  refine ⟨?_, ?_, ?_, ?_, ?_⟩ <;> decide +kernel

/-! ### modes -/

/-- BOOT as far as `b`. -/
def bootState (b : BootRun) : State := { State.reset with modes := { State.reset.modes with boot := some b } }

/-- A reset asked for, of a kind. -/
def resetAsked (cold : Bool) (at_ : Nat) : State :=
  { State.reset with modes := { State.reset.modes with resetDue := some { dueAt := at_, cold := cold, cause := 3 } } }

/-- BOOT restored. -/
def recordBase : State := (bootState { startedAt := 0, rails := true, steward := true, restored := true }).wr LCS_STATE_STATE 3

theorem witness_ResetsAndStartUp :
    (bitsOf 0x52540001 31 16 = 0x5254 ∧ bitOf 0x52540001 0 = 1 ∧ bitOf 0x52540000 0 = 0 ∧ State.reset.mode ≠ modeOff ∧
      State.reset.mode ≠ modeDeepSleep ∧ bitsOf 0x52530001 31 16 ≠ 0x5254 ∧ offState.mode = modeOff) ∧
    ((resetAsked true 0).modes.resetDue = some { dueAt := 0, cold := true, cause := 3 } ∧ 0 ≤ (resetAsked true 0).now ∧
      (resetAsked false 0).modes.resetDue = some { dueAt := 0, cold := false, cause := 3 } ∧ (resetAsked true 1).now < 1 ∧
      State.reset.modes.resetDue = none ∧ 3 ≤ 3 ∧ 3 < 16) ∧
    ((bootState { startedAt := 0 }).mode = modeBoot ∧ (bootState { startedAt := 0 }).modes.boot = some { startedAt := 0 } ∧
      (bootState { startedAt := 0, rails := true }).modes.boot = some { startedAt := 0, rails := true }) ∧
    (let s := bootState { startedAt := 0, rails := true }
     s.mode = modeBoot ∧ s.mgmt.stewardDoneAt ≤ s.now ∧ ((s.senseBoot {}).showRecords {}).bootChoice {} = some 0 ∧
       (((((s.setSector 0 13 2).setSector 1 13 2)).senseBoot {}).showRecords {}).bootChoice {} = none) ∧
    (let s := bootState { startedAt := 0, rails := true, steward := true }
     s.mode = modeBoot ∧ s.modes.boot = some { startedAt := 0, rails := true, steward := true } ∧ s.goldenMask 0 = 0 ∧
      (s.setGolden 0 1).goldenMask 0 ≠ 0) ∧
    (recordBase.mode = modeBoot ∧ recordBase.modes.boot =
      some { startedAt := 0, rails := true, steward := true, restored := true }) ∧
    (let b : BootRun := { startedAt := 0, rails := true, steward := true, restored := true, outcome := some 2 }
     ((((bootState b).wr STR_STATUS_NEAR_INIT 1).wr STR_STATUS_FAR_INIT 1).bootReady b = true ∧ (bootState b).bootReady b = false ∧
       (bootState b).modes.boot = some b)) ∧
    booted.mode ≠ modeBoot := by
  refine ⟨?_, ?_, ?_, ?_, ?_, ?_, ?_, ?_⟩ <;> decide +kernel

/-- The same with a boot record of C0: its code words, the last with the 16 bytes of `d`. -/
def recordState (d : Nat) : State :=
  { recordBase with flash := { recordBase.flash with words := [
      (recordKey 0 0, { bits := 0x5358544F + 2 ^ 32 + 72 * 2 ^ 96 }),
      (recordKey 0 1, { bits := 0xF * 2 ^ 80 + 2 ^ 112 }),
      (recordKey 0 2, { bits := 0x08500001 * 2 ^ 96 + 2 ^ 129 }),
      (recordKey 0 3, { bits := d * 2 ^ 16 })] } }

/-- Header and packets of that record. -/
def recordHead : List Nat :=
  bytesOf 18 (0x5358544F + 2 ^ 32 + 72 * 2 ^ 96) ++ bytesOf 18 (0xF * 2 ^ 80 + 2 ^ 112) ++ bytesOf 18 (0x08500001 * 2 ^ 96 + 2 ^ 129) ++ [0, 0]


/-- It has the registers, and so the sectors, of the base. -/
theorem recordState_sector (d k : Nat) : (recordState d).wordSector k = recordBase.wordSector k := by
  rw [State.wordSector, State.wordSector, State.rdAt, State.rdAt, recordState]

/-- Its code words. -/
theorem recordState_words (d : Nat) : (recordState d).flash.words = [
    (recordKey 0 0, { bits := 0x5358544F + 2 ^ 32 + 72 * 2 ^ 96 }), (recordKey 0 1, { bits := 0xF * 2 ^ 80 + 2 ^ 112 }),
    (recordKey 0 2, { bits := 0x08500001 * 2 ^ 96 + 2 ^ 129 }), (recordKey 0 3, { bits := d * 2 ^ 16 })] := rfl

/-- What a read finds does not matter to that state: nothing is found, and its sectors are settled. -/
theorem recordState_settled (d k : Nat) (h : recordBase.wordSector k ≤ 1) :
    (recordState d).settledWord {} k = (recordState d).codeWord k := by
  have hr := recordState_sector d k
  have hp : (recordState d).codePoisoned {} k = false := by simp [State.codePoisoned, codeFound]
  rw [State.settledWord, hr, hp, if_neg]
  simp
  omega

/-- A code word it lists reads as it stands. -/
theorem recordState_code (d k : Nat) (w : CodeWord) (h : recordBase.wordSector k ≤ 1) (hu : w.undefined = false)
    (hw : SMap.find (recordState d).flash.words k = some w) : (recordState d).settledWord {} k = some w.bits := by
  have hr := recordState_sector d k
  rw [recordState_settled d k h, State.codeWord, hr, if_neg (by omega), hw]
  simp [hu]

/-- The bytes of its record. -/
theorem recordState_bytes (d : Nat) : (recordState d).recordBytes {} = some (recordHead ++ bytesOf 16 d) := by
  have hf (n : Nat) (hn : n < 4) : SMap.find (recordState d).flash.words (recordKey 0 n) =
      some ({ bits := [0x5358544F + 2 ^ 32 + 72 * 2 ^ 96, 0xF * 2 ^ 80 + 2 ^ 112, 0x08500001 * 2 ^ 96 + 2 ^ 129, d * 2 ^ 16].getD n 0 } : CodeWord) := by
    rw [recordState_words]
    interval_cases n <;> simp [SMap.find, recordKey, goldenPlace, codeKey, recordStart, recordPerBank]
  have hs (n : Nat) (hn : n < 4) := recordState_code d (recordKey 0 n) _
    (by interval_cases n <;> decide +kernel) rfl (hf n hn)
  have hd : bytesOf 18 (d * 2 ^ 16) = 0 :: 0 :: bytesOf 16 d := by
    rw [bytesOf, bytesOf]
    have e : d * 2 ^ 16 / 256 / 256 = d := by omega
    rw [e]
    congr 1
    · omega
    · congr 1
      omega
  have hl : (bytesOf 16 d).length = 16 := by simp [bytesOf]
  have h3 : (((List.range 11776).map fun n => (recordState d).settledWord {} (recordKey 0 n)).take 3) =
      [some (0x5358544F + 2 ^ 32 + 72 * 2 ^ 96), some (0xF * 2 ^ 80 + 2 ^ 112), some (0x08500001 * 2 ^ 96 + 2 ^ 129)] := by
    rw [← List.map_take, List.take_range]
    simp [List.range_succ, hs]
  have h4 : (((List.range 11776).map fun n => (recordState d).settledWord {} (recordKey 0 n)).take 4) =
      [some (0x5358544F + 2 ^ 32 + 72 * 2 ^ 96), some (0xF * 2 ^ 80 + 2 ^ 112), some (0x08500001 * 2 ^ 96 + 2 ^ 129), some (d * 2 ^ 16)] := by
    rw [← List.map_take, List.take_range]
    simp [List.range_succ, hs]
  have ht : ofBytes (((([some (0x5358544F + 2 ^ 32 + 72 * 2 ^ 96), some (0xF * 2 ^ 80 + 2 ^ 112),
      some (0x08500001 * 2 ^ 96 + 2 ^ 129)] : List (Option Nat)).flatMap fun w => bytesOf 18 (w.getD 0)).drop 12).take 4) = 72 := by decide +kernel
  have hc : ceilDiv 72 18 = 4 := by decide
  rw [State.recordBytes]
  generalize ((List.range 11776).map fun n => (recordState d).settledWord {} (recordKey 0 n)) = ws at h3 h4 ⊢
  rw [h3, ht, hc, h4]
  simp only [List.any_cons, List.any_nil, Option.isNone_some, Bool.or_false, List.flatMap_cons, List.flatMap_nil, Option.getD_some, hd]
  rw [if_neg (by simp), List.take_of_length_le (by simp [bytesOf])]
  simp [recordHead]

/-- The words of the record are none of the golden image. -/
theorem recordState_image (d : Nat) : (imageBytes fun j => ((recordState d).settledWord {} (goldenKey 0 j)).getD 0) =
    imageBytes fun j => ((recordState 0).settledWord {} (goldenKey 0 j)).getD 0 := by
  have h (d j : Nat) (hj : j < 4297216) : SMap.find (recordState d).flash.words (goldenKey 0 j) = none := by
    have hk (n : Nat) (hn : n < 4) : recordKey 0 n ≠ goldenKey 0 j := by
      have h8 : j / 8 < 537152 := by omega
      have hm : n / 1472 = 0 := by omega
      simp only [recordKey, goldenKey, goldenPlace, codeKey, recordStart, recordPerBank, hm]
      rcases Nat.eq_zero_or_pos (j % 8) with h0 | h0 <;> omega
    rw [recordState_words]
    simp only [SMap.find, if_neg (hk _ (by decide : 0 < 4)), if_neg (hk _ (by decide : 1 < 4)), if_neg (hk _ (by decide : 2 < 4)), if_neg (hk _ (by decide : 3 < 4))]
  have hc (j : Nat) (hj : j < 4297216) :
      (recordState d).settledWord {} (goldenKey 0 j) = (recordState 0).settledWord {} (goldenKey 0 j) := by
    have hp (d : Nat) (k : Nat) : (recordState d).codePoisoned {} k = false := by
      simp [State.codePoisoned, codeFound]
    have hr := recordState_sector
    have hq (d : Nat) (k : Nat) : (recordState d).shippedWord k = (recordState 0).shippedWord k := by
      rw [State.shippedWord, State.shippedWord, recordState, recordState]
    simp only [State.settledWord, State.codeWord, hp, h d j hj, h 0 j hj]
    rw [hr d, hr 0, hq d]
  unfold imageBytes
  apply List.flatMap_congr
  intro j hj
  show bytesOf 18 (((recordState d).settledWord {} (goldenKey 0 j)).getD 0) = _
  rw [hc j (List.mem_range.1 hj)]


/-- A field of the first part of a record. -/
theorem byteField_append (xs ys : List Nat) (k n : Nat) (h : k + n ≤ xs.length) : byteField (xs ++ ys) k n = byteField xs k n := by
  rw [byteField, byteField, List.drop_append_of_le_length (by omega), List.take_append_of_le_length (by simp; omega)]

/-- The bytes of a value make it up again, as many as fit. -/
theorem ofBytes_bytesOf (n v : Nat) : ofBytes (bytesOf n v) = v % 256 ^ n := by
  induction n generalizing v with
  | zero => simp [bytesOf, ofBytes, Nat.mod_one]
  | succ n ih => rw [bytesOf, ofBytes, ih, Nat.pow_succ', Nat.mod_mul]; simp

/-- A boot record whose key is accepted and whose tag is right is taken, once its packets are read without a failure. -/
theorem bootRecordImage_taken (s : State) (mask key : Nat) (bs : List Nat) (h1 : s.recordBytes {} = some bs)
    (h2 : byteField bs 0 4 = 0x5358544F) (h3 : byteField bs 6 2 = 0) (h4 : bs.length = 72) (h5 : s.keyFor (byteField bs 28 1 % 16) = .inl key)
    (h6 : (Config.gcmTag key (byteField bs 16 12) (bs.take 56 ++ imageBytes fun j => (s.settledWord {} (goldenKey 0 j)).getD 0)
      []).toNat = byteField bs 56 16)
    (h7 : (parseWords { background := false, active := 0, parked := 0, retired := 0 } 48 (wordsOf ((bs.take 56).drop 48))
      { declPeak := byteField bs 32 4, buildId := byteField bs 36 4, claims := [] }).failure.isSome = false) :
    (s.bootRecordImage {} mask).isSome = true := by
  unfold State.bootRecordImage
  rw [h1]
  dsimp only
  rw [if_neg (by rw [h2, h3, h4]; decide), h5]
  dsimp only
  rw [h4, h3, if_neg (not_not.2 h6), if_neg (by rw [List.range_zero, List.map_nil]; exact Bool.eq_false_iff.1 h7), Option.isSome_some]

/-- The tag of that record. -/
def recordTag : BitVec 128 :=
  Config.gcmTag defaultKey 0 (recordHead ++ imageBytes fun j => ((recordState 0).settledWord {} (goldenKey 0 j)).getD 0) []

theorem witness_ResetsAndStartUp_record (m : Nat) : ((recordState recordTag.toNat).bootRecordImage {} m).isSome = true := by
  have hl : recordHead.length = 56 := by decide
  have hb : (bytesOf 16 recordTag.toNat).length = 16 := by simp [bytesOf]
  have hf (k n : Nat) (h : k + n ≤ 56) := byteField_append recordHead (bytesOf 16 recordTag.toNat) k n (by omega)
  have ht : byteField (recordHead ++ bytesOf 16 recordTag.toNat) 56 16 = recordTag.toNat := by
    have := recordTag.isLt
    rw [byteField, List.drop_append_of_le_length (by omega), List.drop_of_length_le (by omega), List.nil_append,
      List.take_of_length_le (by omega), ofBytes_bytesOf, Nat.mod_eq_of_lt (by simpa using this)]
  have htk : (recordHead ++ bytesOf 16 recordTag.toNat).take 56 = recordHead := by
    rw [List.take_append_of_le_length (by omega), List.take_of_length_le (by omega)]
  have hk : (recordState recordTag.toNat).keyFor 15 = .inl defaultKey := by
    have e : (recordState recordTag.toNat).rd LCS_STATE_STATE = recordBase.rd LCS_STATE_STATE := by
      rw [State.rd, State.rd, State.rdAt, State.rdAt, recordState]
    have e3 : recordBase.rd LCS_STATE_STATE = 3 := by decide +kernel
    simp [State.keyFor, e, e3]
  have hp : (parseWords { background := false, active := 0, parked := 0, retired := 0 } 48 (wordsOf (recordHead.drop 48))
      { declPeak := 1, buildId := 0, claims := [] }).failure.isSome = false := by decide +kernel
  have h1 : byteField recordHead 6 2 = 0 := by decide +kernel
  have h2 : byteField recordHead 0 4 = 0x5358544F := by decide +kernel
  have h3 : byteField recordHead 28 1 = 15 := by decide +kernel
  have h4 : byteField recordHead 16 12 = 0 := by decide +kernel
  have h5 : byteField recordHead 32 4 = 1 := by decide +kernel
  have h6 : byteField recordHead 36 4 = 0 := by decide +kernel
  refine bootRecordImage_taken _ m defaultKey _ (recordState_bytes _) ?_ ?_ ?_ ?_ ?_ ?_
  · rw [hf 0 4 (by decide), h2]
  · rw [hf 6 2 (by decide), h1]
  · rw [List.length_append, hl, hb]
  · rw [hf 28 1 (by decide), h3, hk]
  · rw [ht, htk, hf 16 12 (by decide), h4, recordState_image, recordTag]
  · rw [htk, hf 32 4 (by decide), hf 36 4 (by decide), h5, h6, hp]

/-- A device as shipped holds no boot record of C0: its head reads as ones, and names more bytes than there are. -/
theorem witness_ResetsAndStartUp_noRecord (m : Nat) : recordBase.bootRecordImage {} m = none := by
  have h3 : (((List.range 11776).map fun n => recordBase.settledWord {} (recordKey 0 n)).take 3) =
      (List.range 3).map fun n => recordBase.settledWord {} (recordKey 0 n) := by rw [← List.map_take, List.take_range]; rfl
  have ht : 211968 < ofBytes (((((List.range 3).map fun n => recordBase.settledWord {} (recordKey 0 n)).flatMap fun w =>
      bytesOf 18 (w.getD 0)).drop 12).take 4) := by decide +kernel
  have hb : recordBase.recordBytes {} = none := by
    rw [State.recordBytes]
    generalize ((List.range 11776).map fun n => recordBase.settledWord {} (recordKey 0 n)) = ws at h3 ⊢
    rw [h3, if_pos (by simp [ht])]
  unfold State.bootRecordImage
  rw [hb]

/-- A PWR_ENTER record. -/
def enterRec (target : Nat) : List Nat := rec 0xB001 [target]

/-- An entry into the state of code `target`, in its window or before it. -/
def entering (target : Nat) (window : Bool) (at_ : Nat) : State :=
  { inRun State.reset with
    modes := { State.reset.modes with entry := some { id := 0, target := target, mode := modeRun, since := 0, window := window } }
    caller := { State.reset.caller with mono := at_ } }

/-- Another command runs beside the entry. -/
def runsBesides : State :=
  { entering 1 false 0 with mgmt := { State.reset.mgmt with inFlight := [{ id := 1, ring := true, bytes := nopRec, tick := 0, begun := true }] } }

/-- A reset that is due waits beside an entry in its window. -/
def resetWaiting : State :=
  { entering 1 true 160 with
    pending := [.coldReset]
    modes := { (entering 1 true 160).modes with resetDue := some { dueAt := 0, cold := true, cause := 3 } } }

theorem witness_PowerStates :
    ((cmdState (enterRec 5)).Takes 0 0xB001 (enterRec 5) ∧ 4 < recByte (enterRec 5) 8 ∧ recByte (enterRec 0) 8 = 0) ∧
    ((inRun (cmdState (enterRec 4))).Takes 0 0xB001 (enterRec 4) ∧ (inRun (cmdState (enterRec 4))).depth = some 0 ∧
      (inRun (cmdState (enterRec 4))).modes.entry = none ∧ (inRun (cmdState (enterRec 4))).refuser 4 = none ∧
      (withContract (inRun (cmdState (enterRec 4))) 5 .admitted).refuser 4 = some 1 ∧
      ((cmdState (enterRec 1)).wr GLB_MODE_MODE modeSleep).depth = some 2 ∧ recByte (enterRec 1) 8 = 1) ∧
    (let s : State := { inRun (cmdState (enterRec 4)) with modes := (entering 1 false 0).modes }
     s.Takes 0 0xB001 (enterRec 4) ∧ s.depth = some 0 ∧ s.modes.entry ≠ none) ∧
    ((entering 1 true 160).commandsRun 0 = false ∧ (entering 1 false 0).commandsRun 0 = false ∧ runsBesides.commandsRun 0 = true ∧
      (entering 1 false 0).refuser 1 = none ∧ (withContract (entering 1 false 0) 5 .admitted).refuser 1 = some 1 ∧
      (entering 3 false 0).refuser 3 = none ∧ (entering 3 false 0).commandsRun 0 = false) ∧
    ((entering 1 true 159).now < 0 + 160 ∧ 0 + 160 ≤ (entering 1 true 160).now ∧ State.reset.modes.entry = none ∧
      (entering 1 true 0).inWindow = true ∧ (entering 1 true 160).resetWaits = false ∧ resetWaiting.resetWaits = true ∧
      resetWaiting.modes.entry = (entering 1 true 160).modes.entry) ∧
    ((inRun (cmdState (rec 0xB002 []))).Takes 0 0xB002 (rec 0xB002 []) ∧ (inRun (cmdState (rec 0xB002 []))).running = true ∧
      ((cmdState (rec 0xB002 [])).wr GLB_MODE_MODE modeSleep).mode = modeSleep ∧
      ((cmdState (rec 0xB002 [])).wr GLB_MODE_MODE modeSleep).modes.entry = none) ∧
    ((cmdState (rec 0xB003 [])).Takes 0 0xB003 (rec 0xB003 []) ∧ (inRun State.reset).mode ≠ modeIdle ∧
      (inRun State.reset).mode ≠ modeConfigFault ∧ ((cmdState (rec 0xB003 [])).wr GLB_MODE_MODE modeIdle).mode = modeIdle ∧
      ((cmdState (rec 0xB003 [])).wr GLB_MODE_MODE modeIdle).modes.waking = none) ∧
    ((State.reset.wr PWR_CTRL_WAKE_EN 0).isSet PWR_CTRL_WAKE_EN = false ∧ (State.reset.wr PWR_CTRL_WAKE_EN 1).isSet PWR_CTRL_WAKE_EN = true ∧
      (State.reset.wr PWR_CTRL_WAKE_EN 1).modes.wakeHigh ≠ !(State.reset.wr PWR_CTRL_WAKE_EN 1).isSet PWR_CTRL_WAKE_POL) ∧
    (let s : State := { State.reset.wr GLB_MODE_MODE modeSleep with modes := { State.reset.modes with waking := some 1 } }
     s.modes.waking = some 1 ∧ s.modes.entry = none ∧ s.mode = modeSleep ∧ State.reset.modes.waking = none) ∧
    (let s := (State.reset.wr GLB_MODE_MODE modeSleep).wr PWR_STATUS_FAR_REFRESH 1
     s.modes.entry = none ∧ s.mode = modeSleep ∧ s.isSet PWR_STATUS_FAR_REFRESH = true) ∧
    (let s := (State.reset.wr GLB_MODE_MODE modeIdle).wr GLB_MODE_UNCONFIGURED 0
     s.modes.entry = none ∧ s.mode = modeIdle ∧ s.isSet GLB_MODE_UNCONFIGURED = false) ∧
    (let s : State := { (State.reset.wr GLB_MODE_MODE modeSleep).wr PWR_STATUS_FAR_REFRESH 0 with
       caller := { State.reset.caller with mono := 1000000 } }
     s.mode = modeSleep ∧ s.rd PWR_STATUS_FAR_REFRESH = 0 ∧ s.modes.farAccess + 1000000 ≤ s.now ∧
       State.reset.now < State.reset.modes.farAccess + 1000000) := by
  refine ⟨⟨⟨?_, ?_, ?_⟩, ?_⟩, ⟨⟨?_, ?_, ?_⟩, ?_⟩, ⟨⟨?_, ?_, ?_⟩, ?_⟩, ?_, ?_, ⟨⟨?_, ?_, ?_⟩, ?_⟩, ⟨⟨?_, ?_, ?_⟩, ?_⟩, ?_, ?_, ?_, ?_, ?_⟩ <;>
    decide +kernel

/-! ### promenade -/

/-- A state in PROMENADE whose route 3 is the table word `w`. -/
def withRoute (w : Nat) (s : State) : State :=
  { s with prom := { s.prom with routes := [(3, w)] } }.wr GLB_MODE_MODE modePromenade

/-- A record of PROM_EXIT. -/
def exitRec (path : Nat) : List Nat := rec 0xB011 [path]

/-- A record of RES_CLAIM. -/
def claimRec (land use : Nat) : List Nat := rec 0xE001 [land, use]

/-- A table word of a frame sync route. -/
def frameSyncWord : Nat := 2 ^ 143 + 2 ^ 142 + 2 ^ 122

/-- A table word of a pass-through route. -/
def passWord : Nat := 2 ^ 143 + 2 ^ 142 + 2 ^ 141

/-- A frame sync route whose input frame started at `t`, with a whole frame in its buffer. -/
def tiedRoute (t : Nat) : State :=
  let s := withRoute frameSyncWord State.reset
  { s with prom := { s.prom with runs := [(3, { buffered := true, inputAt := t })] } }

theorem witness_PromenadeAndClaims :
    ((cmdState (rec 0xB010 [])).Takes 0 0xB010 (rec 0xB010 []) ∧ (cmdState (rec 0xB010 [])).mode = modeBoot) ∧
    ((inRun (cmdState (rec 0xB010 []))).Takes 0 0xB010 (rec 0xB010 []) ∧ (inRun (cmdState (rec 0xB010 []))).mode = modeRun) ∧
    (let s := withRoute 0 (cmdState (exitRec 0))
     s.Takes 0 0xB011 (exitRec 0) ∧ s.mode = modePromenade ∧ s.exitCauses = 0 ∧ s.causesRecur = 0 ∧ recByte (exitRec 0) 8 = 0 ∧
      recByte (exitRec 1) 8 = 1 ∧ 1 < recByte (exitRec 2) 8 ∧ (s.wr PRM_PENDING 8).exitCauses ≠ 0 ∧
      (s.wr PRM_STATUS_CTX_INTACT 1).isSet PRM_STATUS_CTX_INTACT = true ∧ (s.wr PRM_STATUS_CTX_INTACT 0).isSet PRM_STATUS_CTX_INTACT = false) ∧
    (State.reset.modes.promReqLow = none ∧
      ({ State.reset with modes := { State.reset.modes with promReqLow := some 0 } } : State).modes.promReqLow ≠ none) ∧
    ((withRoute frameSyncWord State.reset).route 3 = some frameSyncWord ∧ (withRoute 0 State.reset).route 2 = none ∧
      routeKind frameSyncWord = 2 ∧ (withRoute frameSyncWord State.reset).rdAt PRM_ROUTE_UP 3 = 0 ∧
      ((withRoute frameSyncWord State.reset).wrAt PRM_ROUTE_UP 3 1).rdAt PRM_ROUTE_UP 3 = 1 ∧
      (withRoute frameSyncWord State.reset).routeMayUp 3 frameSyncWord = true ∧
      (withRoute passWord State.reset).route 3 = some passWord ∧ (withRoute passWord State.reset).routeMayUp 3 passWord = false) ∧
    ((withRoute frameSyncWord State.reset).outputStarts 3 = false ∧
      State.outputStarts { withRoute frameSyncWord State.reset with pending := [.frameSyncOutputFrame 3 true {}] } 3 = true ∧
      (withRoute frameSyncWord State.reset).routeTie 3 = false ∧ (tiedRoute 0).routeTie 3 = true ∧
      (tiedRoute 0).route 3 = some frameSyncWord) ∧
    ((cmdState (claimRec 191 3)).Takes 0 0xE001 (claimRec 191 3) ∧ recByte (claimRec 191 3) 8 ≤ 191 ∧
      recByte (claimRec 191 3) 9 = 3 ∧ 191 < recByte (claimRec 192 3) 8 ∧ recByte (claimRec 0 1) 9 ≠ 2 ∧ recByte (claimRec 0 1) 9 ≠ 3 ∧
      7 < recByte (claimRec 8 2) 8 ∧ recByte (claimRec 7 2) 8 ≤ 7 ∧ recByte (claimRec 7 2) 9 = 2) ∧
    (State.reset.tableLocked = false ∧ (State.reset.wr RES_ERR_TABLE_LOCKED 1).tableLocked = true ∧
      State.reset.landClaimed 191 = false ∧ (State.reset.wrAt RES_LAND_CLAIMED 191 1).landClaimed 191 = true ∧
      (State.reset.wrAt RES_LAND_CLAIMED 191 1).landHostHeld 191 = false ∧
      ((State.reset.wrAt RES_LAND_CLAIMED 191 1).wrAt RES_LAND_HOLDER 191 1).landHostHeld 191 = true ∧
      ((State.reset.wrAt RES_LAND_CLAIMED 191 1).wrAt RES_LAND_HOLDER 191 1).landOwnedBy 191 3 = false ∧
      (((State.reset.wrAt RES_LAND_CLAIMED 191 1).wrAt RES_LAND_HOLDER 191 1).wrAt RES_LAND_OWNER 191 3).landOwnedBy 191 3 = true) ∧
    ((cmdState (rec 0xE002 [191])).Takes 0 0xE002 (rec 0xE002 [191]) ∧ 191 < recByte (rec 0xE002 [192]) 8 ∧
      recByte (rec 0xE002 [191]) 8 = 191) := by
  refine ⟨⟨⟨?_, ?_, ?_⟩, ?_⟩, ⟨⟨?_, ?_, ?_⟩, ?_⟩, ⟨⟨?_, ?_, ?_⟩, ?_⟩, ?_, ?_, ?_, ⟨⟨?_, ?_, ?_⟩, ?_⟩, ?_, ⟨?_, ?_, ?_⟩, ?_⟩ <;> decide +kernel

/-- A whole frame exists for every route. -/
theorem witness_whole_frame : (List.replicate (routeWords frameSyncWord) (0, false)).length = routeWords frameSyncWord :=
  List.length_replicate ..

/-! ### life -/

/-- A record of LCS_KEY_WRITE. -/
def keyRec (slot : Nat) : List Nat := rec 0xC003 [slot]

/-- A record of LCS_TRANSITION or of REPEAT_TRANSITION. -/
def lcsRec (op target slot : Nat) : List Nat := rec op [target, slot]

/-- The life cycle state `n`. -/
def inLife (n : Nat) : State := State.reset.wr LCS_STATE_STATE n

/-- A transition to SCRAP has begun and its first step runs. -/
def scrapping : State := withSteward ((State.reset.wr LCS_PROGRESS_SCR_BEGUN 1).wr LCS_PROGRESS_CUR_STEP 1)

/-- The same with the mark of its first step weak. -/
def weakScrapping : State := { scrapping with life := { scrapping.life with weakMarks := 2 ^ 7 } }

/-- A row whose second group is partial. -/
def partialRow : State := State.reset.setGroup 2 { cells := 1, auth := 1 }

theorem witness_LifeCycleCommands :
    ((cmdState (rec 0xC001 [])).Takes 0 0xC001 (rec 0xC001 [])) ∧ ((cmdState (rec 0xC002 [])).Takes 0 0xC002 (rec 0xC002 [])) ∧
    ((State.reset.notePulse { startedAt := 0, keySlot := some 1 }).pulsing = true ∧ State.reset.pulsing = false) ∧
    ((cmdState (keyRec 3)).Takes 0 0xC003 (keyRec 3) ∧ 3 < recByte (keyRec 4) 8 ∧ recByte (keyRec 3) 8 ≤ 3 ∧
      (cmdState (keyRec 3)).pulsing = false ∧ (inLife 15).rd LCS_STATE_STATE = 0xF ∧ (inLife 4).rd LCS_STATE_STATE ∈ [1, 4, 5, 6] ∧
      (inLife 2).rd LCS_STATE_STATE = 2 ∧ (State.reset.keySlot 3).code = 0 ∧ (State.reset.killSlot 3 |>.keySlot 3).code ≠ 0 ∧
      (State.reset.keySlot 3).weak = false) ∧
    (slotNamed 4 = false ∧ slotNamed 0xF = true ∧ slotNamed 3 = true ∧ (State.reset.wr LCS_STATE_PENDING 1).isSet LCS_STATE_PENDING = true ∧
      (State.reset.wr LCS_STATE_PENDING 1).rd LCS_STATE_STATE ≠ 0xF ∧ (inLife 2).isSet LCS_STATE_PENDING = false ∧
      (inLife 2).privTarget = none ∧ transitionPermitted 2 4 = false ∧ (inLife 2).rd LCS_STATE_STATE ≠ 0xF ∧
      transitionPermitted 2 6 = true ∧ transitionPermitted 2 3 = true ∧ (inLife 2).anyKeyed = false ∧ (inLife 2).mode ≠ modeService ∧
      transitionPermitted 1 2 = true ∧ transitionPermitted 3 4 = true ∧ ((inLife 2).wr LCS_KEYS 1).anyKeyed = true) ∧
    (let s := cmdState (lcsRec 0xC004 3 0)
     s.Takes 0 0xC004 (lcsRec 0xC004 3 0) ∧ s.pulsing = false ∧ privilegedTarget (recByte (lcsRec 0xC004 3 0) 8) = false ∧
      privilegedTarget 6 = true ∧ (s.transitionRefusal 3 0).isSome = true ∧
      (((s.wr LCS_STATE_STATE 2).wr LCS_KEYS 1).transitionRefusal 3 0) = none ∧ (withSteward s).stewardReady = true) ∧
    ((State.reset.rowGroup 2).weak = 0 ∧ (State.reset.rowGroup 2).auth = 0 ∧ (State.reset.rowGroup 2).authPart = 0 ∧
      (partialRow.rowGroup 2).bars 1 = true) ∧
    ((cmdState (lcsRec 0xC005 0 0)).Takes 0 0xC005 (lcsRec 0xC005 0 0) ∧ slotNamed (recByte (lcsRec 0xC005 0 4) 9) = false ∧
      slotNamed (recByte (lcsRec 0xC005 0 0) 9) = true ∧ partialRow.partialGroup = some 2 ∧ State.reset.partialGroup = none) ∧
    (State.reset.privTarget = none ∧ scrapping.privTarget = some 6 ∧ scrapping.rd LCS_PROGRESS_CUR_STEP = 1 ∧
      scrapping.stewardReady = true ∧ (scrapping.privWork 6 1).privVerified 6 1 = true ∧
      (scrapping.privWork 6 1).markWeak 6 1 = false ∧ (weakScrapping.privWork 6 1).markWeak 6 1 = true ∧
      (scrapping.setGroup 2 { weak := 1 } |>.privWork 6 5).privVerified 6 5 = false) := by
  refine ⟨⟨?_, ?_, ?_⟩, ⟨?_, ?_, ?_⟩, ?_, ⟨⟨?_, ?_, ?_⟩, ?_⟩, ?_, ⟨⟨?_, ?_, ?_⟩, ?_⟩, ?_, ⟨⟨?_, ?_, ?_⟩, ?_⟩, ?_⟩ <;> decide +kernel

/-! ### debug -/

/-- Debug as the life cycle permits it at a level, with or without an unlock. -/
def debugState (level unlocked : Nat) (s : State) : State :=
  (((s.wr LCS_DEBUG_JTAG_EN 1).wr LCS_DEBUG_LEVEL level).wr LCS_STATE_STATE 3).wr LCS_DEBUG_UNLOCKED unlocked

/-- A challenge waits for the host. -/
def challenged : State := { State.reset with life := { State.reset.life with hostChallenge := some 5 } }

/-- In RUN, a capture with HALT is taken in this tick. -/
def haltingCapture : State :=
  let s := debugState 3 0 (inRun State.reset)
  { s with
    pending := [.captureTaken]
    ctx := { s.ctx with capture := some { mask := 1, clock := 0, halt := true, issued := 0 } } }

theorem witness_DebugInstructions :
    (State.reset.life.hostChallenge = none ∧ challenged.life.hostChallenge = some 5 ∧
      challenged.isSet LCS_AUTH_LOCKOUT = false ∧ (challenged.wr LCS_AUTH_LOCKOUT 1).isSet LCS_AUTH_LOCKOUT = true ∧ challenged.slotKeyed 3 = false ∧
      (challenged.wr LCS_KEYS 64).slotKeyed 3 = true) ∧
    offState.mode = modeOff ∧
    (State.reset.mode ≠ modeOff ∧ State.reset.mode ≠ modeDeepSleep ∧ (debugState 0 0 offState).debugPermitted false = false ∧
      (debugState 0 0 State.reset).debugPermitted false = false ∧ (debugState 0 0 State.reset).debugPermitted true = true ∧
      (debugState 3 0 State.reset).debugPermitted false = true ∧
      ((debugState 0 0 State.reset).wr LCS_DEBUG_JTAG_EN 0).debugPermitted true = false) ∧
    ((debugState 3 1 (inRun State.reset)).running = true ∧ (debugState 3 1 State.reset).running = false ∧
      (debugState 3 1 (State.reset.wr GLB_MODE_MODE modeHalted)).mode = modeHalted ∧ State.reset.mode ≠ modeHalted ∧
      (debugState 3 1 State.reset).isSet LCS_DEBUG_UNLOCKED = true ∧ (debugState 3 0 State.reset).isSet LCS_DEBUG_UNLOCKED = false ∧
      (debugState 3 1 (inRun State.reset)).captureHalts = false ∧ haltingCapture.captureHalts = true ∧ haltingCapture.running = true ∧
      haltingCapture.debugPermitted false = true) := by
  refine ⟨?_, ?_, ?_, ?_⟩ <;> decide +kernel

/-! ### bus -/

/-- DEEP_SLEEP with the wake by PERST_N enabled. -/
def sleepy : State := (State.reset.wr GLB_MODE_MODE modeDeepSleep).wr PWR_CTRL_PERST_WAKE_EN 1

theorem witness_RegisterAccess :
    (sleepy.mode = modeDeepSleep ∧ State.reset.busUp = true ∧ ¬ (2 = 4 ∧ 0 % 4 = 0) ∧ ¬ (2 = 8 ∧ 0 % 8 = 0) ∧ 1 % 4 ≠ 0) ∧
    (0x3FFFFFC % 4 = 0 ∧ windowAt 0x3FFFFFC = none ∧ isDecoded 0x3FFFFFC = false) ∧
    (windowAt 0x10008 = none ∧ isDecoded 0x10008 = true ∧ isWide 0x10008 = false ∧ isWide (0x10008 - 4) = false ∧
      State.reset.writeA 0x10008 (0 % 2 ^ 32) = none ∧ State.reset.writeB 0x10008 (0 % 2 ^ 32) = none) ∧
    (windowAt 0x10010 = none ∧ isDecoded 0x10010 = true ∧ isWide 0x10010 = true ∧ windowAt 0x10014 = none ∧
      isDecoded 0x10014 = true ∧ isWide 0x10014 = false ∧ 0x10010 % 8 = 0 ∧ SMap.find State.reset.latches 0x10010 = none ∧
      SMap.find State.reset.holds 0x10010 = none ∧
      SMap.find ({ State.reset with latches := [(0x10010, 7)] } : State).latches 0x10010 = some 7 ∧
      SMap.find ({ State.reset with holds := [(0x10010, 7)] } : State).holds 0x10010 = some 7) ∧
    (State.reset.mode ≠ modeDeepSleep ∧ sleepy.isSet PWR_CTRL_PERST_WAKE_EN = true ∧ sleepy.mgmt.perstN = false) ∧
    (GLB_IDCODE.acc = .ro ∧ MBX_CMD_TAIL.acc = .rw ∧ MBX_ERR_UNMAPPED.acc = .w1c ∧ LCS_DEBUG_JTAG_EN.acc = .rwl) := by
  refine ⟨?_, ?_, ?_, ?_, ?_, ?_⟩ <;> decide +kernel

/-- The PCIe link out of its reset. -/
def linked : State := { State.reset with mgmt := { State.reset.mgmt with perstN := true } }

theorem witness_FlashWindowAndSideBuses :
    (linked.busUp = true ∧ linked.mgmt.perstN = true ∧ offState.busUp = false ∧ 905969664 ≤ 905969664 ∧ 905969663 < 905969664 ∧
      State.reset.mgmt.perstN = false) ∧
    (let s := linked.wrAt FLC_BANK_BUSY 2 1
     s.busUp = true ∧ s.mgmt.perstN = true ∧ s.startingOp (226492416 / 113246208) = none ∧
       s.flashRuns (226492416 / 113246208) = true) ∧
    (linked.flashRuns 7 = false ∧ (linked.bar2Words 0 1 [.bad]).1 = none ∧ (linked.bar2Words 0 0 []).1 = some []) ∧
    (let s := linked.setFlashOp 7 { someErase with begun := true }
     s.busUp = true ∧ s.mgmt.perstN = true ∧ s.startingOp 7 = some { someErase with begun := true }) ∧
    ((State.reset.hostReadBus 0 4).reply.abort = false ∧ ({ State.reset with mgmt := { State.reset.mgmt with
      spad := [(0x8000, { data := 0, poison := true })] } }.hostReadBus 0x1040000 4).reply.abort = true) ∧
    ((withSteward State.reset).stewardReady = true ∧ State.reset.stewardReady = false) ∧
    (offState.mode = modeOff ∧ State.reset.mode ≠ modeOff ∧ State.reset.smbusCode 0x50 = none ∧ State.reset.mode ≠ modeDeepSleep ∧
      State.reset.rd MBX_SMB_ADDR ≠ alertResponseAddress ∧ 0x7F ≠ State.reset.rd MBX_SMB_ADDR ∧
      ({ State.reset with mgmt := { State.reset.mgmt with smbAlertN := false } } : State).mgmt.smbAlertN = false) ∧
    ((State.reset.wr GLB_MODE_MODE modeDeepSleep).mode = modeDeepSleep ∧
      (State.reset.wr GLB_MODE_MODE modeDeepSleep).rd MBX_SMB_ADDR ≠ alertResponseAddress) := by
  refine ⟨?_, ?_, ?_, ?_, ?_, ?_, ?_, ?_⟩ <;> decide +kernel

/-! ### steward -/

/-- The steward in a restart that ends at `t`. -/
def restarting (t : Nat) : State := { State.reset with mgmt := { State.reset.mgmt with steward := .restarting t } }

/-- A NOP in flight at its TIMEOUT. -/
def lateNop : State :=
  { cmdState (rec 0xD001 []) with caller := { State.reset.caller with mono := 2000000000 } }

/-- A STREAM_STAGE of 64 bytes in flight. -/
def stageRec64 : List Nat := rec 0x6001 (bytesOf 8 0 ++ bytesOf 4 0 ++ bytesOf 4 64)

theorem witness_StewardAndTimeouts :
    ((Instr.stewardLockstepMismatch, 1) ∈ [(Instr.stewardWatchdogExpiry, 0), (Instr.stewardLockstepMismatch, 1),
      (Instr.stewardPoisonedFetch, 2)] ∧ (withSteward State.reset).mgmt.steward = .running ∧
      ({ State.reset with mgmt := { State.reset.mgmt with steward := .booting } } : State).mgmt.steward = .booting ∧
      ({ State.reset with mgmt := { State.reset.mgmt with steward := .stopped } } : State).mgmt.steward = .stopped) ∧
    ((restarting 0).mgmt.steward = .restarting 0 ∧ 0 ≤ (restarting 0).now ∧ (restarting 1).now < 1) ∧
    (State.reset.cmd 0 = none ∧ lateNop.cmd 0 = some nopFlight ∧ nopFlight.expiresAt < lateNop.now ∧
      (cmdState nopRec).cmd 0 = some nopFlight ∧ (cmdState nopRec).now ≤ nopFlight.expiresAt ∧
      lateNop.cfg.load = none ∧ lateNop.modes.entry = none ∧ nopFlight.id = 0) ∧
    (let s : State := { lateNop with modes := (entering 1 true 0).modes }
     s.cmd 0 = some nopFlight ∧ nopFlight.expiresAt < s.now ∧ s.cfg.load = none ∧
       s.modes.entry = some { id := 0, target := 1, mode := modeRun, since := 0, window := true }) ∧
    (let s : State := { lateNop with cfg := { lateNop.cfg with load := some (someLoad false none) } }
     s.cmd 0 = some nopFlight ∧ nopFlight.expiresAt < s.now ∧ s.cfg.load = some (someLoad false none) ∧
       (someLoad false none).id = nopFlight.id) ∧
    (let c : InFlight := { id := 0, ring := true, bytes := stageRec64, tick := 0 }
     let s := cmdState stageRec64
     s.cmd 0 = some c ∧ c.begun = false ∧ 63 < s.dmaLength c.bytes ∧ s.dmaLength c.bytes ≤ 64 ∧ recOpcode c.bytes ≠ 0x8002) := by
  refine ⟨?_, ?_, ?_, ?_, ?_, ?_⟩ <;> decide +kernel

/-! ### Worked examples of the spec -/

/-- 03, the example after R83: lines 1, 2 and 3 of G0 start at 14,830, 29,659 and 44,489 ns, frame 3 at 50,050,000 ns; 04, the
worked schedule: line 1,121 of frame 3, tick 100, is 66,674,115 ns. -/
theorem test_grid_lines :
    gridState.posAt 0 14829 = ⟨0, 0, 14829⟩ ∧ gridState.posAt 0 14830 = ⟨0, 1, 0⟩ ∧ gridState.posAt 0 29659 = ⟨0, 2, 0⟩ ∧
    gridState.posAt 0 44489 = ⟨0, 3, 0⟩ ∧ gridState.posAt 0 50050000 = ⟨3, 0, 0⟩ ∧
    gridState.posAt 0 66674115 = ⟨3, 1121, 100⟩ := by decide +kernel

/-- 04, the example after R541: on G2 with 1,125 lines and two fields, every-field entries at lines 20, 600 and 562. -/
theorem test_every_field :
    let s := (((State.reset.wrAt CLR_GRID_NUM 2 30000).wrAt CLR_GRID_DEN 2 1001).wrAt CLR_GRID_CTRL_LINES 2 1125).wrAt
      CLR_GRID_CTRL_FIELDS 2 1
    ([20, 600, 562].map fun l => s.entryLines (2 * 2 ^ 44 + 2 * 2 ^ 41 + l * 2 ^ 27)) = [[20, 583], [600, 37], [562]] := by
  decide +kernel

/-- 05 and 06, the worked examples: slots of a mixer input and of an audio flow. -/
theorem test_slots : slotsFor 691200 33366666 3240 (1001 * 1000000000) 60000 = 262440 ∧ slotsFor 32 250000 3 125000 1 = 15 := by
  decide

/-- 09, the example after R236: logical columns 394, 395 and 479 when physical column 0402 is retired. -/
theorem test_steering : physicalUnder [] 394 = 402 ∧ physicalUnder [402] 394 = 403 ∧ physicalUnder [402] 395 = 405 ∧
    physicalUnder [402] 479 = 488 := by decide +kernel

/-- 10, the example after R273: a gain of 4.0 saturates OUT at 0x7F_FFFF with SAT = 1, after five edges. -/
theorem test_mix_saturates :
    let go (m : MixSlice) (b : Nat) : MixSlice := m.clock 0 0 32 false true 0
      { ce := true, x := if b = 0 then 0 else 2097152, b := b, pre := 0, zsel := 0 }
    let m := [2 ^ 34, 0, 0, 0, 0, 0].foldl go {}
    ([2 ^ 34, 0, 0, 0, 0].foldl go {}).out = 0x7FFFFF ∧ m.out = 0 := by decide +kernel

/-- 15, the example after R419: B_VIN at 12, 15 and 16 V. -/
theorem test_budget_vin :
    ([12000, 15000, 16000].map fun v => ({ State.reset with modes := { State.reset.modes with vin := v } } : State).budgetVin / 18) =
      [161666, 203333, 217222] := by decide +kernel

/-- 17, R465: slots of a frame sync buffer by FMT. -/
theorem test_route_slots : routeSlots (2 ^ 142) = 38400 ∧ routeSlots (2 ^ 142 + 2 ^ 111) = 86400 ∧
    routeSlots (2 ^ 142 + 2 ^ 112) = 92160 := by decide +kernel

/-- 18, the example after R490: RES_LAND(0) reads 0xB000_0000 after RES_CLAIM of land 0 with USE 2. -/
theorem test_res_land :
    (match Sys2Proof.Machine.execResClaim 0 (cmdState (rec 0xE001 [0, 2])) with
     | .next t => t.regValue 0x20100
     | _ => 0) = 0xB0000000 := by decide +kernel

/-- 20, the example after R521: the lands of lane 37 and of the clock of its quad. -/
theorem test_lands_of_lane_37 : [padAt 8 11, padAt 8 12, padAt 10 11, padAt 10 12, padAt 12 12, padAt 12 13] =
    [.laneRx 37 .p, .laneRx 37 .n, .laneTx 37 .p, .laneTx 37 .n, .quadClock 9 .p, .quadClock 9 .n] := by decide

end
end

/-! The register file: what a field write does to reads, and its frame. -/

namespace Sys2Proof.Machine

/-- The frame of a field write: only the register file can differ. -/
theorem State.wrAt_changes_only_regs (s : State) (f : Field) (i v : Nat) :
    s.wrAt f i v = { s with regs := (s.wrAt f i v).regs } := rfl

/-- Settles O9: the read laws of a field write at its own bit address and at every other one, and the write's frame. -/
theorem fieldWriteReads : Obligations.FieldWriteReads := by
  intro s f g i j v
  refine ⟨?same, ?other, ?frame⟩
  case same => exact State.rdAt_wrAt_same s f i v
  case other => exact State.rdAt_wrAt_other s f g i j v
  case frame => exact State.wrAt_changes_only_regs s f i v

end Sys2Proof.Machine

/-! The rings of the management plane (02 R34): what an index write, an enable write and a ring error do. -/

namespace Sys2Proof.Machine

open Sys2Proof

/-- An index below the ring's entry count is stored. -/
theorem State.ringIndex_of_lt (s : State) {entries v : Nat} (index enable : Field) (hv : v < 65536) (h : v < entries) :
    s.ringIndex entries index enable v = s.wr index v := by
  have hcut : v % 2 ^ 16 = v := Nat.mod_eq_of_lt hv
  rw [State.ringIndex, hcut, if_pos h]

/-- An index at or above the ring's entry count is not stored; the ring is disabled with a ring error. -/
theorem State.ringIndex_of_le (s : State) {entries v : Nat} (index enable : Field) (hv : v < 65536) (h : entries ≤ v) :
    s.ringIndex entries index enable v = (s.wr enable 0).ringError := by
  have hcut : v % 2 ^ 16 = v := Nat.mod_eq_of_lt hv
  rw [State.ringIndex, hcut, if_neg (Nat.not_lt.mpr h)]

/-- The enable bit is written as it stands when it is not set, or when the ring's size field lies in 4 to 16. -/
theorem State.enableRing_of_sizeOk (s : State) (enable size : Field) {b : Nat}
    (h : b ≠ 1 ∨ (4 ≤ s.rd size ∧ s.rd size ≤ 16)) : s.enableRing enable size b = s.wr enable b :=
  if_neg (by omega)

/-- Enabling a ring whose size field lies outside 4 to 16 disables it with a ring error. -/
theorem State.enableRing_one_of_badSize (s : State) (enable size : Field) (h : s.rd size < 4 ∨ 16 < s.rd size) :
    s.enableRing enable size 1 = (s.wr enable 0).ringError :=
  if_pos ⟨rfl, h⟩

/-- A ring error leaves MBX_ERR.CMD_RING_ERR set: event 0xD002, posted after it, does not touch that bit. -/
theorem State.rd_ringError_cmdRingErr (s : State) : s.ringError.rd MBX_ERR_CMD_RING_ERR = 1 := by
  have hkey : MBX_ERR_CMD_RING_ERR.key 0 ∉ eventKeys := by decide
  rw [State.ringError, State.rd_post _ _ _ _ _ _ hkey, State.rd_mbxErr_same _ _ rfl]

/-! The four commands by those operations: each ring has its own entry count, index field and enable bit. -/

theorem exec_cmdDoorbell (v : Nat) (s : State) :
    exec (.cmdDoorbell v) s = .next (s.ringIndex s.cmdEntries MBX_CMD_TAIL MBX_CTRL_CMD_EN v) := rfl

theorem exec_cplHeadWrite (v : Nat) (s : State) :
    exec (.cplHeadWrite v) s = .next (s.ringIndex s.cplEntries MBX_CPL_HEAD MBX_CTRL_CPL_EN v) := rfl

theorem exec_evtHeadWrite (v : Nat) (s : State) :
    exec (.evtHeadWrite v) s = .next (s.ringIndex s.evtEntries MBX_EVT_HEAD MBX_CTRL_EVT_EN v) := rfl

theorem exec_ringEnable (v : Nat) (s : State) :
    exec (.ringEnable v) s = .next ((((s.enableRing MBX_CTRL_CMD_EN MBX_RING_SIZE_CMD_LOG2 (bitOf v 0)).enableRing
      MBX_CTRL_CPL_EN MBX_RING_SIZE_CPL_LOG2 (bitOf v 1)).enableRing MBX_CTRL_EVT_EN MBX_RING_SIZE_EVT_LOG2
      (bitOf v 2)).wr MBX_CTRL_MB_EVT_EN (bitOf v 3)) := rfl

/-- Settles O10: each index write by `State.ringIndex` on its own ring, the enable write by `State.enableRing` on each ring in
turn, and the error bit read back after the event. -/
theorem ringIndexAndEnable : Obligations.RingIndexAndEnable := by
  refine ⟨?cmdBelow, ?cmdAbove, ?cplBelow, ?cplAbove, ?evtBelow, ?evtAbove, ?sizeOk, ?badSize, ?enable, ?errorBit⟩
  case cmdBelow => intro v s hv h; rw [exec_cmdDoorbell, State.ringIndex_of_lt s _ _ hv h]
  case cmdAbove => intro v s hv h; rw [exec_cmdDoorbell, State.ringIndex_of_le s _ _ hv h]
  case cplBelow => intro v s hv h; rw [exec_cplHeadWrite, State.ringIndex_of_lt s _ _ hv h]
  case cplAbove => intro v s hv h; rw [exec_cplHeadWrite, State.ringIndex_of_le s _ _ hv h]
  case evtBelow => intro v s hv h; rw [exec_evtHeadWrite, State.ringIndex_of_lt s _ _ hv h]
  case evtAbove => intro v s hv h; rw [exec_evtHeadWrite, State.ringIndex_of_le s _ _ hv h]
  case sizeOk => exact fun s e z b h => s.enableRing_of_sizeOk e z h
  case badSize => exact fun s e z h => s.enableRing_one_of_badSize e z h
  case enable => exact exec_ringEnable
  case errorBit => exact State.rd_ringError_cmdRingErr

end Sys2Proof.Machine

/-! Boundary scan (08 R228): where a driving instruction takes effect, what it drives, and the commands that select one. -/

namespace Sys2Proof.Machine

open Sys2Proof

theorem State.scanMode_iff (s : State) :
    s.scanMode = true ↔ s.mode = modeLoad ∨ s.mode = modeConfigFault ∨ s.mode = modeService := by
  simp [State.scanMode, or_assoc]

theorem State.scanMode_eq_false (s : State) (hload : s.mode ≠ modeLoad) (hfault : s.mode ≠ modeConfigFault)
    (hservice : s.mode ≠ modeService) : s.scanMode = false := by
  rw [Bool.eq_false_iff, Ne, s.scanMode_iff]
  exact not_or_intro hload (not_or_intro hfault hservice)

/-! A driving instruction that arrives: in SCRAP, in a scan mode, in any other mode. -/

theorem State.scan_of_scrapped (s : State) (i : JtagInstr) (h : s.scrapped = true) : s.scan i = s.setJtag .bypass :=
  if_pos h

theorem State.scan_of_scanMode (s : State) (i : JtagInstr) (hlife : s.scrapped = false) (h : s.scanMode = true) :
    s.scan i = s.setJtag i := by
  rw [State.scan, if_neg (Bool.eq_false_iff.mp hlife), if_pos (s.scanMode_iff.mp h)]

theorem State.scan_of_not_scanMode (s : State) (i : JtagInstr) (hlife : s.scrapped = false) (h : s.scanMode = false) :
    s.scan i = (s.setJtag .bypass).wr LNE_ERR_SCAN_REFUSED 1 := by
  rw [State.scan, if_neg (Bool.eq_false_iff.mp hlife), if_neg (mt s.scanMode_iff.mpr (Bool.eq_false_iff.mp h))]

/-! A driving instruction that is in force: its effect, and the end of a change of mode. -/

theorem State.jtagActs_of_scanMode (s : State) (h : s.scanMode = true) : s.jtagActs = s.lanes.jtag := by
  simp [State.jtagActs, h]

theorem State.jtagActs_of_not_scanMode (s : State) (hdrives : s.lanes.jtag.drives = true) (h : s.scanMode = false) :
    s.jtagActs = .bypass := by
  simp [State.jtagActs, hdrives, h]

theorem State.scanLeaves_of_not_scanMode (s : State) (hdrives : s.lanes.jtag.drives = true) (h : s.scanMode = false) :
    s.scanLeaves = s.wr LNE_ERR_SCAN_REFUSED 1 := by
  simp [State.scanLeaves, hdrives, h]

theorem State.landDriven_of_scan (s : State) {p : Nat} (hbank : s.bankDrives (p / 32) = true)
    (hscan : s.jtagActs.drives = true) : s.landDriven p = s.scanDriven p := by
  simp [State.landDriven, hbank, hscan]

theorem State.scanDriven_of_highz (s : State) (p : Nat) (h : s.jtagActs = .highz) : s.scanDriven p = none :=
  if_pos (Or.inl h)

/-! The commands by those operations. -/

/-- The rows of the five driving instructions are `State.scan` of the instruction each names. -/
theorem exec_scan (s : State) :
    exec .extest s = .next (s.scan .extest) ∧ exec .extestPulse s = .next (s.scan .extestPulse) ∧
    exec .extestTrain s = .next (s.scan .extestTrain) ∧ exec .clamp s = .next (s.scan .clamp) ∧
    exec .highz s = .next (s.scan .highz) :=
  ⟨rfl, rfl, rfl, rfl, rfl⟩

/-- One of the five rows, where nothing turns on which. -/
theorem exec_eq_scan (s : State) {i : Instr}
    (hi : i = .extest ∨ i = .extestPulse ∨ i = .extestTrain ∨ i = .clamp ∨ i = .highz) :
    ∃ j, exec i s = .next (s.scan j) := by
  obtain ⟨hextest, hpulse, htrain, hclamp, hhighz⟩ := exec_scan s
  rcases hi with rfl | rfl | rfl | rfl | rfl
  · exact ⟨_, hextest⟩
  · exact ⟨_, hpulse⟩
  · exact ⟨_, htrain⟩
  · exact ⟨_, hclamp⟩
  · exact ⟨_, hhighz⟩

/-- BYPASS, IDCODE and TRST_N ask neither the mode nor the life-cycle state. -/
theorem exec_bypass_idcode_jtagTrst (s : State) :
    exec .bypass s = .next (s.setJtag .bypass) ∧
    exec .idcode s = .next ((s.setJtag .idcode).answer (s.rd GLB_IDCODE)) ∧
    exec .jtagTrst s = .next (s.setJtag .idcode) :=
  ⟨rfl, rfl, rfl⟩

theorem exec_samplePreload (cs : List (Nat × Bool)) (s : State) :
    exec (.samplePreload cs) s = execSamplePreload cs s := rfl

/-- Outside SCRAP, SAMPLE/PRELOAD acts in every mode. -/
theorem execSamplePreload_of_not_scrapped (cs : List (Nat × Bool)) (s : State) (hlife : s.scrapped = false) :
    execSamplePreload cs s = .next
      { s with lanes := { s.lanes with
        jtag := .samplePreload, bypassBit := false, cells := putCells s.lanes.cells cs, captured := s.scanCaptured } } := by
  rw [execSamplePreload, if_neg (Bool.eq_false_iff.mp hlife)]
  rfl

@[simp] theorem State.setJtag_jtag (s : State) (j : JtagInstr) : (s.setJtag j).lanes.jtag = j := rfl

@[simp] theorem State.setJtag_regs (s : State) (j : JtagInstr) : (s.setJtag j).regs = s.regs := rfl

/-- Settles O39: an arriving instruction by `State.scan` in SCRAP, in a scan mode and elsewhere; one in force by
`State.jtagActs`; its lands by `State.scanDriven`. -/
theorem boundaryScan : Obligations.BoundaryScan := by
  refine ⟨?takes, ?refused, ?scrapped, ?actsBypass, ?acts, ?leaves, ?lands, ?highz, ?always, ?sample, ?select⟩
  case takes =>
    intro s hlife hmode
    have htakes (j : JtagInstr) : s.scan j = s.setJtag j := s.scan_of_scanMode j hlife (s.scanMode_iff.mpr hmode)
    simpa only [htakes] using exec_scan s
  case refused =>
    intro s i hlife hload hfault hservice hi
    obtain ⟨j, hj⟩ := exec_eq_scan s hi
    rw [hj, s.scan_of_not_scanMode j hlife (s.scanMode_eq_false hload hfault hservice)]
  case scrapped =>
    intro s i hlife hi
    obtain ⟨j, hj⟩ := exec_eq_scan s hi
    rw [hj, s.scan_of_scrapped j hlife]
  case actsBypass =>
    intro s hload hfault hservice hdrives
    exact s.jtagActs_of_not_scanMode hdrives (s.scanMode_eq_false hload hfault hservice)
  case acts =>
    intro s hmode
    exact s.jtagActs_of_scanMode (s.scanMode_iff.mpr hmode)
  case leaves =>
    intro s hdrives hload hfault hservice
    exact s.scanLeaves_of_not_scanMode hdrives (s.scanMode_eq_false hload hfault hservice)
  case lands => exact fun p s hbank hscan => s.landDriven_of_scan hbank hscan
  case highz => exact fun p s h => s.scanDriven_of_highz p h
  case always => exact exec_bypass_idcode_jtagTrst
  case sample =>
    intro cs s hlife
    rw [exec_samplePreload, execSamplePreload_of_not_scrapped cs s hlife]
  case select => exact fun s j => ⟨s.setJtag_jtag j, s.setJtag_regs j⟩

end Sys2Proof.Machine

/-! One step of the machine: what every command and the tick keep, that every command answers, and the reset state. -/

namespace Sys2Proof.Machine

open Sys2Proof

/-- Every command keeps the queue, the order of the free values and the canonical form: the arms of the dispatch in turn. -/
theorem exec_kept (c : Instr) (s : State) : Kept s (stateOf (exec c s) s) := by
  cases c with
  | registerWrite addr size data => exact execRegisterWrite_kept addr size data s
  | reg64LowRead addr size => exact execReg64LowRead_kept addr size s
  | reg64HighRead addr => exact execReg64HighRead_kept addr s
  | reg64LowWrite addr data => exact execReg64LowWrite_kept addr data s
  | reg64HighWrite addr data => exact execReg64HighWrite_kept addr data s
  | bar2Read offset length found => exact execBar2Read_kept offset length found s
  | cmdDoorbell tail => exact execCmdDoorbell_kept tail s
  | cplHeadWrite head => exact execCplHeadWrite_kept head s
  | evtHeadWrite head => exact execEvtHeadWrite_kept head s
  | ringEnable value => exact execRingEnable_kept value s
  | ringReset value => exact execRingReset_kept value s
  | commandFetch => exact execCommandFetch_kept s
  | commandDispatch => exact execCommandDispatch_kept s
  | commandTimeout id => exact execCommandTimeout_kept id s
  | completionWrite => exact execCompletionWrite_kept s
  | hostDmaFault kind => exact execHostDmaFault_kept kind s
  | commandDataDmaError id offset => exact execCommandDataDmaError_kept id offset s
  | eventRingWrite => exact execEventRingWrite_kept s
  | irqHoldoffExpiry vector => exact execIrqHoldoffExpiry_kept vector s
  | designIrqSet n => exact execDesignIrqSet_kept n s
  | pcieLinkChange up widthRate => exact execPcieLinkChange_kept up widthRate s
  | perstAssert => exact execPerstAssert_kept s
  | nop id => exact execNop_kept id s
  | logRead id found => exact execLogRead_kept id found s
  | stewardInfo id => exact execStewardInfo_kept id s
  | mailboxGo => exact execMailboxGo_kept s
  | mbEvtRead => exact execMbEvtRead_kept s
  | spiRead addr words lastWhole => exact execSpiRead_kept addr words lastWhole s
  | spiWrite addr groups => exact execSpiWrite_kept addr groups s
  | spiStatus => exact execSpiStatus_kept s
  | spiFrameError command => exact execSpiFrameError_kept command s
  | smbusRead target code => exact execSmbusRead_kept target code s
  | smbusAlertRead => exact execSmbusAlertRead_kept s
  | stewardWatchdogExpiry => exact execStewardWatchdogExpiry_kept s
  | stewardLockstepMismatch => exact execStewardLockstepMismatch_kept s
  | stewardPoisonedFetch => exact execStewardPoisonedFetch_kept s
  | stewardRestartDone => exact execStewardRestartDone_kept s
  | spadHostRead offset size found => exact execSpadHostRead_kept offset size found s
  | spadReadAbandon word => exact execSpadReadAbandon_kept word s
  | spadHostWrite offset size data found => exact execSpadHostWrite_kept offset size data found s
  | spadFabricAccess word access found => exact execSpadFabricAccess_kept word access found s
  | atomicAdd found => exact execAtomicAdd_kept found s
  | atomicSwap found => exact execAtomicSwap_kept found s
  | refclkLoss => exact execRefclkLoss_kept s
  | refclkReturn => exact execRefclkReturn_kept s
  | ptpMessage port message => exact execPtpMessage_kept port message s
  | announceTimeout port => exact execAnnounceTimeout_kept port s
  | refaEdge falling => exact execRefaEdge_kept falling s
  | refbEdge falling => exact execRefbEdge_kept falling s
  | hokutuTimeMessage bond lane frame alignErr => exact execHokutuTimeMessage_kept bond lane frame alignErr s
  | referenceLost slot => exact execReferenceLost_kept slot s
  | referenceValid slot => exact execReferenceValid_kept slot s
  | servoUpdate => exact execServoUpdate_kept s
  | holdoverExpiry => exact execHoldoverExpiry_kept s
  | reselect => exact execReselect_kept s
  | forceFreerun value => exact execForceFreerun_kept value s
  | setTime ns delay => exact execSetTime_kept ns delay s
  | timeNsRead => exact execTimeNsRead_kept s
  | posTickRead grid => exact execPosTickRead_kept grid s
  | gridEnable grid value => exact execGridEnable_kept grid value s
  | gridDisable grid value => exact execGridDisable_kept grid value s
  | pulseEnable output value => exact execPulseEnable_kept output value s
  | pulseOutputPulse output => exact execPulseOutputPulse_kept output s
  | alarmArm comparator value => exact execAlarmArm_kept comparator value s
  | alarmFire comparator => exact execAlarmFire_kept comparator s
  | timeMessageSend => exact execTimeMessageSend_kept s
  | dncEntryWordStage addr data => exact execDncEntryWordStage_kept addr data s
  | dncEntryCommit addr size data => exact execDncEntryCommit_kept addr size data s
  | dncCopy => exact execDncCopy_kept s
  | dncCopyDone => exact execDncCopyDone_kept s
  | dncEnable value => exact execDncEnable_kept value s
  | dncSwapArm value => exact execDncSwapArm_kept value s
  | dncSwapCheckDone => exact execDncSwapCheckDone_kept s
  | dncSwapCancel => exact execDncSwapCancel_kept s
  | dncBankSwap => exact execDncBankSwap_kept s
  | dncEntryDue => exact execDncEntryDue_kept s
  | dncTurn => exact execDncTurn_kept s
  | dncPark => exact execDncPark_kept s
  | dncUnpark => exact execDncUnpark_kept s
  | dncCapture => exact execDncCapture_kept s
  | dncWindow => exact execDncWindow_kept s
  | dncDeadline => exact execDncDeadline_kept s
  | dncRelease => exact execDncRelease_kept s
  | dncGpioSet => exact execDncGpioSet_kept s
  | dncGpioClear => exact execDncGpioClear_kept s
  | dncGpioPulse => exact execDncGpioPulse_kept s
  | gpioPulseEnd land => exact execGpioPulseEnd_kept land s
  | dncEvent => exact execDncEvent_kept s
  | dncAlarm => exact execDncAlarm_kept s
  | dncFence => exact execDncFence_kept s
  | dncLogWrite => exact execDncLogWrite_kept s
  | storeWrite requester number addr data poison => exact execStoreWrite_kept requester number addr data poison s
  | storeRead requester number addr found => exact execStoreRead_kept requester number addr found s
  | storeCorrectedWriteback => exact execStoreCorrectedWriteback_kept s
  | patrolRead far found => exact execPatrolRead_kept far found s
  | bufferDefine buffer value => exact execBufferDefine_kept buffer value s
  | bufferEffective buffer found => exact execBufferEffective_kept buffer found s
  | bufferRemove buffer value => exact execBufferRemove_kept buffer value s
  | storeInitDone far => exact execStoreInitDone_kept far s
  | relocationDone far unit found => exact execRelocationDone_kept far unit found s
  | admitFlow id => exact execAdmitFlow_kept id s
  | admissionCheckDone => exact execAdmissionCheckDone_kept s
  | withdraw id => exact execWithdraw_kept id s
  | withdrawDone flow => exact execWithdrawDone_kept flow s
  | contractQuery id => exact execContractQuery_kept id s
  | ticketCreate flow words => exact execTicketCreate_kept flow words s
  | ticketDelivered ticket => exact execTicketDelivered_kept ticket s
  | ticketDeadline ticket => exact execTicketDeadline_kept ticket s
  | recheckDone => exact execRecheckDone_kept s
  | flowTableWrite addr data => exact execFlowTableWrite_kept addr data s
  | pairRecordWrite addr data => exact execPairRecordWrite_kept addr data s
  | flowEnable id => exact execFlowEnable_kept id s
  | flowDisable id => exact execFlowDisable_kept id s
  | flowDisableDone flow => exact execFlowDisableDone_kept flow s
  | flowStats id => exact execFlowStats_kept id s
  | inject id => exact execInject_kept id s
  | injectFrameSend lane => exact execInjectFrameSend_kept lane s
  | injectTokenRefill => exact execInjectTokenRefill_kept s
  | ingressFrame lane frame => exact execIngressFrame_kept lane frame s
  | mergeSkewExpiry record => exact execMergeSkewExpiry_kept record s
  | pathLossTimeout record pathB => exact execPathLossTimeout_kept record pathB s
  | sdiLine flow line => exact execSdiLine_kept flow line s
  | substituteTicketCreate flow => exact execSubstituteTicketCreate_kept flow s
  | egressPacketSend flow found => exact execEgressPacketSend_kept flow found s
  | egressSdiLine flow found => exact execEgressSdiLine_kept flow found s
  | laneCtrlWrite lane value => exact execLaneCtrlWrite_kept lane value s
  | lanePrbsWrite lane value => exact execLanePrbsWrite_kept lane value s
  | quadPllLockChange quad pll lock => exact execQuadPllLockChange_kept quad pll lock s
  | laneUp lane sdiRate sdiFrac => exact execLaneUp_kept lane sdiRate sdiFrac s
  | laneLinkDown lane remote => exact execLaneLinkDown_kept lane remote s
  | laneFault lane trigger => exact execLaneFault_kept lane trigger s
  | laneTestDone lane pass => exact execLaneTestDone_kept lane pass s
  | bondEnable bond value => exact execBondEnable_kept bond value s
  | hokutuTrainReq bond position blocks turnaround => exact execHokutuTrainReq_kept bond position blocks turnaround s
  | hokutuTrainAck bond position blocks fixedDelay => exact execHokutuTrainAck_kept bond position blocks fixedDelay s
  | bondTrainingDone bond farMatches => exact execBondTrainingDone_kept bond farMatches s
  | bondRetrain bond => exact execBondRetrain_kept bond s
  | hokutuTicketReceive bond arrived => exact execHokutuTicketReceive_kept bond arrived s
  | bondSpareSwitch bond => exact execBondSpareSwitch_kept bond s
  | rawPcsReceive lane word => exact execRawPcsReceive_kept lane word s
  | gpioWrite land value => exact execGpioWrite_kept land value s
  | viobFault bank millivolts => exact execViobFault_kept bank millivolts s
  | viobRestore bank millivolts => exact execViobRestore_kept bank millivolts s
  | bypass => exact execBypass_kept s
  | idcode => exact execIdcode_kept s
  | samplePreload cells => exact execSamplePreload_kept cells s
  | extest => exact execExtest_kept s
  | extestPulse => exact execExtestPulse_kept s
  | extestTrain => exact execExtestTrain_kept s
  | clamp => exact execClamp_kept s
  | highz => exact execHighz_kept s
  | jtagTrst => exact execJtagTrst_kept s
  | fpllLock pll => exact execFpllLock_kept pll s
  | fpllRefLost pll => exact execFpllRefLost_kept pll s
  | fpllRealignDone pll => exact execFpllRealignDone_kept pll s
  | expressConflict column row tap => exact execExpressConflict_kept column row tap s
  | gsrRelease region => exact execGsrRelease_kept region s
  | tileMemoryAccess region tile a b sameCycle bLater foundA foundB =>
    exact execTileMemoryAccess_kept region tile a b sameCycle bLater foundA foundB s
  | tileEccWriteback region tile portB => exact execTileEccWriteback_kept region tile portB s
  | mixSliceEdge column slice input => exact execMixSliceEdge_kept column slice input s
  | packFifoWrite port data wend wbytes => exact execPackFifoWrite_kept port data wend wbytes s
  | packFifoReaderTake port => exact execPackFifoReaderTake_kept port s
  | packFifoNotice port => exact execPackFifoNotice_kept port s
  | deliveryPortPlace port ticket found => exact execDeliveryPortPlace_kept port ticket found s
  | deliveryPortRead port => exact execDeliveryPortRead_kept port s
  | bufferReadRequest port offset words => exact execBufferReadRequest_kept port offset words s
  | streamStage id => exact execStreamStage_kept id s
  | streamLoad id => exact execStreamLoad_kept id s
  | streamDiscard id => exact execStreamDiscard_kept id s
  | cfgDiscardWrite value => exact execCfgDiscardWrite_kept value s
  | loadChecksDone found => exact execLoadChecksDone_kept found s
  | fullLoadCommit found => exact execFullLoadCommit_kept found s
  | backgroundLoadCommit found => exact execBackgroundLoadCommit_kept found s
  | ctxTurn id => exact execCtxTurn_kept id s
  | ctxPark id => exact execCtxPark_kept id s
  | ctxUnpark id => exact execCtxUnpark_kept id s
  | ctxCapture id => exact execCtxCapture_kept id s
  | ctxResume id => exact execCtxResume_kept id s
  | ctxReadback id => exact execCtxReadback_kept id s
  | ctxGoldenSave id => exact execCtxGoldenSave_kept id s
  | goldenSaveDone ok => exact execGoldenSaveDone_kept ok s
  | turnEffect region => exact execTurnEffect_kept region s
  | turnNoClock region => exact execTurnNoClock_kept region s
  | parkEffect region => exact execParkEffect_kept region s
  | parkForced region => exact execParkForced_kept region s
  | unparkRelease region => exact execUnparkRelease_kept region s
  | captureTaken => exact execCaptureTaken_kept s
  | flashErase id => exact execFlashErase_kept id s
  | flashEraseDone bank verified => exact execFlashEraseDone_kept bank verified s
  | flashProgram id => exact execFlashProgram_kept id s
  | flashProgramDone bank failedWord => exact execFlashProgramDone_kept bank failedWord s
  | flashSuspend id => exact execFlashSuspend_kept id s
  | flashResume id => exact execFlashResume_kept id s
  | flashSectorInfo id => exact execFlashSectorInfo_kept id s
  | flashCalRead id => exact execFlashCalRead_kept id s
  | flashBootSwap id found => exact execFlashBootSwap_kept id found s
  | stewardOffBank => exact execStewardOffBank_kept s
  | recordSectorEraseDone sector => exact execRecordSectorEraseDone_kept sector s
  | frameUpsetDetect context physical frame found => exact execFrameUpsetDetect_kept context physical frame found s
  | frameSelfTestDone context physical frame found => exact execFrameSelfTestDone_kept context physical frame found s
  | columnRelocationDone region found => exact execColumnRelocationDone_kept region found s
  | guardTmrCorrect physical => exact execGuardTmrCorrect_kept physical s
  | guardFailed physical inactiveLimit => exact execGuardFailed_kept physical inactiveLimit s
  | stewardScrubMismatch context physical frame found => exact execStewardScrubMismatch_kept context physical frame found s
  | riserTransferError interface group => exact execRiserTransferError_kept interface group s
  | expressTapMismatch group => exact execExpressTapMismatch_kept group s
  | riserTestDone interface group failedSignal => exact execRiserTestDone_kept interface group failedSignal s
  | storeBankTestDone bank pass => exact execStoreBankTestDone_kept bank pass s
  | farChannelTestDone channel pass => exact execFarChannelTestDone_kept channel pass s
  | hltAffectedFlows id => exact execHltAffectedFlows_kept id s
  | hltRecords id => exact execHltRecords_kept id s
  | hltTest id => exact execHltTest_kept id s
  | vinMeasurement millivolts milliamps milliwatts => exact execVinMeasurement_kept millivolts milliamps milliwatts s
  | vinLockout => exact execVinLockout_kept s
  | vinPowerUp millivolts => exact execVinPowerUp_kept millivolts s
  | currentLimit holding => exact execCurrentLimit_kept holding s
  | budgetUpdate => exact execBudgetUpdate_kept s
  | powerSample rails regions => exact execPowerSample_kept rails regions s
  | droopSample rail droops => exact execDroopSample_kept rail droops s
  | flowSample millilitres => exact execFlowSample_kept millilitres s
  | tempSample readings => exact execTempSample_kept readings s
  | clearSuspect => exact execClearSuspect_kept s
  | policyEvaluate => exact execPolicyEvaluate_kept s
  | glbResetWrite value => exact execGlbResetWrite_kept value s
  | coldReset => exact execColdReset_kept s
  | warmReset => exact execWarmReset_kept s
  | railsGood => exact execRailsGood_kept s
  | stewardBootDone found => exact execStewardBootDone_kept found s
  | contextRestoreDone found => exact execContextRestoreDone_kept found s
  | bootTagVerified found => exact execBootTagVerified_kept found s
  | bootDone => exact execBootDone_kept s
  | pwrEnter id => exact execPwrEnter_kept id s
  | pwrQuiesceDone => exact execPwrQuiesceDone_kept s
  | pwrCommit => exact execPwrCommit_kept s
  | pwrExit id => exact execPwrExit_kept id s
  | serviceEnter id => exact execServiceEnter_kept id s
  | wakeInput level => exact execWakeInput_kept level s
  | wakeDone => exact execWakeDone_kept s
  | firstAccessWake far stallNs => exact execFirstAccessWake_kept far stallNs s
  | farStoreIdleTimeout => exact execFarStoreIdleTimeout_kept s
  | promReqInput low => exact execPromReqInput_kept low s
  | promEnter id => exact execPromEnter_kept id s
  | promExit id => exact execPromExit_kept id s
  | frameSyncInputFrame route whole crosses words => exact execFrameSyncInputFrame_kept route whole crosses words s
  | frameSyncOutputFrame route crosses found => exact execFrameSyncOutputFrame_kept route crosses found s
  | resClaim id => exact execResClaim_kept id s
  | resRelease id => exact execResRelease_kept id s
  | lcsInfo id => exact execLcsInfo_kept id s
  | lcsChallenge id => exact execLcsChallenge_kept id s
  | lcsKeyWrite id => exact execLcsKeyWrite_kept id s
  | lcsTransition id => exact execLcsTransition_kept id s
  | repeatTransition id => exact execRepeatTransition_kept id s
  | privilegedStepDone => exact execPrivilegedStepDone_kept s
  | dbgChallenge => exact execDbgChallenge_kept s
  | dbgResponse slot tag => exact execDbgResponse_kept slot tag s
  | dbgAccess write offset data => exact execDbgAccess_kept write offset data s
  | dbgHalt => exact execDbgHalt_kept s
  | dbgResume => exact execDbgResume_kept s
  | dbgReset => exact execDbgReset_kept s
  | dbgLock => exact execDbgLock_kept s
  | perstRelease => exact execPerstRelease_kept s
  | alwaysOnPowerLoss millivolts => exact execAlwaysOnPowerLoss_kept millivolts s
  | routeStateChange route up => exact execRouteStateChange_kept route up s
  | qrefclkPresenceChange quad kilohertz => exact execQrefclkPresenceChange_kept quad kilohertz s
  | patrolPeriodElapsed far => exact execPatrolPeriodElapsed_kept far s

/-- Every arm of the dispatch ends in a next state. -/
theorem exec_answers (c : Instr) (s : State) : ∃ t, exec c s = .next t := by
  cases c <;> exact ⟨_, rfl⟩

/-- A step that answers keeps what every command keeps, of the state whose queue has lost its front. -/
theorem step_kept {s t : State} (h : step s = .next t) : Kept { s with pending := s.pending.tail } t := by
  unfold step at h
  split at h
  next hempty =>
    obtain rfl : s.tick = t := by simpa using h
    have hqueue : { s with pending := s.pending.tail } = s := by
      rw [hempty]
      exact congrArg (fun q => { s with pending := q }) hempty.symm
    exact hqueue.symm ▸ s.tick_kept
  next c rest hfront =>
    have hkept := exec_kept c { s with pending := rest }
    rw [h] at hkept
    rw [hfront]
    exact hkept

/-- Settles O3: the queue is no part of the three maps, so the step's `Kept` carries their form. -/
theorem stepKeepsCanonicalForm : Obligations.StepKeepsCanonicalForm :=
  fun _ _ hcanon hstep => (step_kept hstep).canon hcanon

/-- Settles O4: the queue and the count of free values are two parts of `Kept`. -/
theorem stepTakesOneCommand : Obligations.StepTakesOneCommand :=
  fun _ _ hstep => ⟨(step_kept hstep).queue, (step_kept hstep).fresh⟩

/-- Settles O5: each command's row by `exec_answers`. -/
theorem everyCommandAnswers : Obligations.EveryCommandAnswers := exec_answers

/-- Settles O1: a step reads the front of the queue and nothing else of it. -/
theorem stepRunsFrontCommand : Obligations.StepRunsFrontCommand := fun _ _ _ => rfl

/-! The tick's parts where there is nothing for them to do. -/

theorem step_of_empty {s : State} (h : s.pending = []) : step s = .next s.tick := by
  simp [step, h]

theorem State.serveUnits_of_none_waiting {s : State} (h : s.store.waiting = []) : s.serveUnits = s := by
  simp [State.serveUnits, h]

theorem State.keepLevels_of_no_keeper {s : State} (h : ∀ p < 192, s.rdAt LNE_GPIO_PULL p ≠ 3) : s.keepLevels = s := by
  have hnone : (List.range 192).filter (fun p => s.rdAt LNE_GPIO_PULL p == 3) = [] := by
    simpa [List.filter_eq_nil_iff] using h
  rw [State.keepLevels, hnone, List.foldl_nil]

theorem State.wakeLevels_of_awake {s : State} (hdeep : s.mode ≠ modeDeepSleep) (hsleep : s.mode ≠ modeSleep)
    (hidle : s.mode ≠ modeIdle) : s.wakeLevels = s := by
  simp [State.wakeLevels, hdeep, hsleep, hidle]

/-- Settles O2: the tick by its four parts, each of them idle under its own condition. -/
theorem emptyQueueTicks : Obligations.EmptyQueueTicks := by
  refine ⟨?ticks, ?counts, ?serves, ?keeps, ?wakes, ?off⟩
  case ticks => intro s hempty hon; rw [step_of_empty hempty, State.tick, if_neg hon]
  case counts => exact fun _ => rfl
  case serves => exact fun _ => State.serveUnits_of_none_waiting
  case keeps => exact fun _ => State.keepLevels_of_no_keeper
  case wakes => exact fun _ => State.wakeLevels_of_awake
  case off => intro s hempty hoff; rw [step_of_empty hempty, State.tick, if_pos hoff]

/-- Settles O6: the three maps of the reset state list nothing. -/
theorem resetIsCanonical : Obligations.ResetIsCanonical :=
  ⟨⟨SMap.wf_nil _, SMap.wf_nil _, SMap.wf_nil _⟩, rfl⟩

/-- A field that the register file does not list reads its Reset value, and the reset state lists none. -/
theorem State.rdAt_reset (f : Field) (i : Nat) : State.reset.rdAt f i = f.reset i :=
  Nat.zero_xor _

/-- Settles O7: every field by `State.rdAt_reset`. -/
theorem resetReadsResetValues : Obligations.ResetReadsResetValues :=
  ⟨fun f _ i _ => State.rdAt_reset f i, State.rdAt_reset GLB_MODE_MODE 0, rfl⟩

end Sys2Proof.Machine

/-! The register map: no bit belongs to two fields. -/

namespace Sys2Proof.Machine

/-- The instances of `f` and `g` share no bit, for a reason that does not list them: all of the one lie below all of the other; or
both repeat at one stride, and within a period the bits of `g` begin outside those of `f`; or they are one field, whose instances do
not reach into each other. -/
def Field.Apart (f g : Field) : Prop :=
  (f.key (f.count - 1) + f.width ≤ g.key 0 ∨ g.key (g.count - 1) < f.key 0) ∨
  (f.stride = g.stride ∧ 0 < f.stride ∧ f.key 0 % (8 * f.stride) + f.width ≤ 8 * f.stride ∧
    (g.key 0 % (8 * f.stride) < f.key 0 % (8 * f.stride) ∨
      f.key 0 % (8 * f.stride) + f.width ≤ g.key 0 % (8 * f.stride))) ∨
  (f.addr = g.addr ∧ f.lo = g.lo ∧ f.width = g.width ∧ f.stride = g.stride ∧
    (f.count = 1 ∧ g.count = 1 ∨ f.width ≤ 8 * f.stride))

theorem Field.key_eq (f : Field) (i : Nat) : f.key i = f.key 0 + 8 * f.stride * i := by
  simp only [Field.key]; ring

theorem Field.key_mono (f : Field) {i j : Nat} (h : i ≤ j) : f.key i ≤ f.key j := by
  rw [f.key_eq i, f.key_eq j]
  gcongr

/-- Two numbers that differ by less than a period's rest leave remainders that differ as much. -/
theorem mod_add_of_lt {a d n : Nat} (h : a % n + d < n) : (a + d) % n = a % n + d := by
  rw [Nat.add_mod, Nat.mod_eq_of_lt (by omega : d < n), Nat.mod_eq_of_lt h]

/-- The bits of `g` at `j` begin outside those of `f` at `i`, unless both are the same place of one field. -/
theorem Field.Apart.instances {f g : Field} (h : f.Apart g) {i j : Nat} (hi : i < f.count) (hj : j < g.count)
    (hlow : f.key i ≤ g.key j) (hhigh : g.key j < f.key i + f.width) :
    f.addr = g.addr ∧ f.lo = g.lo ∧ f.width = g.width ∧ i = j := by
  have hfirst : f.key 0 ≤ f.key i ∧ g.key 0 ≤ g.key j := ⟨f.key_mono i.zero_le, g.key_mono j.zero_le⟩
  have hlast : f.key i ≤ f.key (f.count - 1) ∧ g.key j ≤ g.key (g.count - 1) :=
    ⟨f.key_mono (by omega), g.key_mono (by omega)⟩
  rcases h with (hbelow | habove) | ⟨hstride, -, hfits, hout⟩ | ⟨haddr, hlo, hwidth, hstride, hone⟩
  · omega
  · omega
  · have hf : f.key i % (8 * f.stride) = f.key 0 % (8 * f.stride) := by rw [f.key_eq i, Nat.add_mul_mod_self_left]
    have hg : g.key j % (8 * f.stride) = g.key 0 % (8 * f.stride) := by
      rw [g.key_eq j, ← hstride, Nat.add_mul_mod_self_left]
    obtain ⟨d, hd⟩ := Nat.exists_eq_add_of_le hlow
    have hoff : g.key j % (8 * f.stride) = f.key i % (8 * f.stride) + d := by rw [hd]; exact mod_add_of_lt (by omega)
    omega
  · refine ⟨haddr, hlo, hwidth, ?_⟩
    rcases hone with ⟨hcf, hcg⟩ | hstep
    · omega
    · have hkeys : g.key j = f.key 0 + 8 * f.stride * j := by rw [g.key_eq j]; simp only [Field.key, haddr, hlo, hstride, mul_zero]
      rw [f.key_eq i] at hlow hhigh
      rw [hkeys] at hlow hhigh
      rcases lt_trichotomy i j with hlt | heq | hgt
      · have := Nat.mul_le_mul_left (8 * f.stride) (show i + 1 ≤ j from hlt)
        rw [Nat.mul_add_one] at this
        omega
      · exact heq
      · have := Nat.mul_le_mul_left (8 * f.stride) (show j + 1 ≤ i from hgt)
        rw [Nat.mul_add_one] at this
        omega

/-- A register block: the bytes that its registers lie in, and its fields. -/
structure RegBlock where
  first : Nat
  limit : Nat
  fields : List Field

/-- The blocks of the register map, in ascending order of address (00, address map). -/
def regBlocks : List RegBlock :=
  [⟨0x0, 0x10000, glbFields⟩, ⟨0x10000, 0x20000, mbxFields⟩, ⟨0x20000, 0x100000, resFields⟩, ⟨0x100000, 0x200000, clrFields⟩,
   ⟨0x200000, 0x300000, dncFields⟩, ⟨0x300000, 0x340000, strFields⟩, ⟨0x340000, 0x380000, admFields⟩,
   ⟨0x380000, 0x3C0000, flwFields⟩, ⟨0x3C0000, 0x400000, lneFields⟩, ⟨0x400000, 0x408000, fabFields⟩,
   ⟨0x408000, 0x440000, hbFields⟩, ⟨0x440000, 0x480000, cfgFields⟩, ⟨0x480000, 0x4C0000, ctxFields⟩,
   ⟨0x4C0000, 0x500000, flcFields⟩, ⟨0x500000, 0x540000, hltFields⟩, ⟨0x540000, 0x580000, thmFields⟩,
   ⟨0x580000, 0x5C0000, pwrFields⟩, ⟨0x5C0000, 0x600000, prmFields⟩, ⟨0x600000, 0x640000, lcsFields⟩]

theorem allFields_eq : allFields = regBlocks.flatMap RegBlock.fields := by
  simp [allFields, regBlocks]

/-- Each field lies within its block. -/
theorem regBlocks_bounds : ∀ b ∈ regBlocks, ∀ f ∈ b.fields,
    8 * b.first ≤ f.key 0 ∧ f.key (f.count - 1) + f.width ≤ 8 * b.limit ∧ 0 < f.width := by
  decide +kernel

/-- No block reaches into a later one. -/
theorem regBlocks_ascending : regBlocks.Pairwise fun b c => b.limit ≤ c.first := by
  decide

/-- Within a block every two fields are apart. -/
theorem regBlocks_apart : ∀ b ∈ regBlocks, ∀ f ∈ b.fields, ∀ g ∈ b.fields, f.Apart g := by
  unfold Field.Apart
  decide +kernel

/-- Every two fields of the register map are apart: those of one block by that block's own check, those of two by the order of the
blocks. -/
theorem allFields_apart {f g : Field} (hf : f ∈ allFields) (hg : g ∈ allFields) : f.Apart g := by
  rw [allFields_eq, List.mem_flatMap] at hf hg
  obtain ⟨b, hb, hf⟩ := hf
  obtain ⟨c, hc, hg⟩ := hg
  obtain ⟨hf0, hf1, hfw⟩ := regBlocks_bounds b hb f hf
  obtain ⟨hg0, hg1, hgw⟩ := regBlocks_bounds c hc g hg
  obtain ⟨m, hm, rfl⟩ := List.getElem_of_mem hb
  obtain ⟨n, hn, rfl⟩ := List.getElem_of_mem hc
  have hascending := List.pairwise_iff_getElem.mp regBlocks_ascending
  rcases lt_trichotomy m n with hlt | rfl | hgt
  · have := hascending m n hm hn hlt
    exact .inl (.inl (by omega))
  · exact regBlocks_apart _ hb f hf g hg
  · have := hascending n m hn hm hgt
    exact .inl (.inr (by omega))

/-- Settles O8: any two fields of the map lie apart (`Field.Apart`), for a reason that covers every place of both at once. -/
theorem registerFieldsDoNotOverlap : Obligations.RegisterFieldsDoNotOverlap :=
  fun _ hf _ hg _ hi _ hj => (allFields_apart hf hg).instances hi hj

end Sys2Proof.Machine

/-! The management plane (02): rings, dispatch, events, interrupts, the link, and the three commands of its own. -/

namespace Sys2Proof.Machine

open Sys2Proof

/-- A command that has been marked by a ring reset leaves the commands in flight; what it answers goes to `putCompletion` marked. -/
theorem State.complete_discarded {s : State} {id : Nat} {f : InFlight} (c : Completion) (hcmd : s.cmd id = some f)
    (hmarked : f.discard = true) (htie : s.now ≠ f.expiresAt) :
    s.complete id c = State.putCompletion { s with mgmt := { s.mgmt with
      inFlight := s.mgmt.inFlight.filter fun x => x.id != id } } f.ring true
      (completionRecord (recTag f.bytes) (f.answerAt s.now c).status (f.answerAt s.now c).detail (f.answerAt s.now c).result) := by
  simp [State.complete, hcmd, hmarked, htie]

theorem exec_ringReset_of_set {v : Nat} (h : bitOf v 8 = 1) (s : State) : exec (.ringReset v) s = .next s.ringReset :=
  congrArg Host.Outcome.next (if_pos h)

theorem exec_ringReset_of_clear {v : Nat} (h : bitOf v 8 ≠ 1) (s : State) : exec (.ringReset v) s = .next s :=
  congrArg Host.Outcome.next (if_neg h)

/-- After the rings' reset all six indices read 0: each is written 0, and neither the later writes nor the event touch it. -/
theorem State.ringReset_indices (s : State) :
    s.ringReset.rd MBX_CMD_HEAD = 0 ∧ s.ringReset.rd MBX_CMD_TAIL = 0 ∧ s.ringReset.rd MBX_CPL_HEAD = 0 ∧
    s.ringReset.rd MBX_CPL_TAIL = 0 ∧ s.ringReset.rd MBX_EVT_HEAD = 0 ∧ s.ringReset.rd MBX_EVT_TAIL = 0 := by
  unfold State.ringReset
  refine ⟨?_, ?_, ?_, ?_, ?_, ?_⟩ <;> rw [State.rd_post _ _ _ _ _ _ (by decide)] <;>
    simp [State.rd_wr_other, Field.key, MBX_CMD_HEAD, MBX_CMD_TAIL, MBX_CPL_HEAD, MBX_CPL_TAIL, MBX_EVT_HEAD, MBX_EVT_TAIL]

/-- Settles O11: the reset by `State.ringReset`, what a marked command leaves by `State.complete_discarded`. -/
theorem ringResetDiscards : Obligations.RingResetDiscards := by
  refine ⟨?resets, ?leaves, ?marked, ?nowhere, ?clear⟩
  case resets => exact fun v s h => exec_ringReset_of_set h s
  case leaves =>
    intro v s h
    refine ⟨s.ringReset, exec_ringReset_of_set h s, ?_, ?_, ?_, ?_, s.ringReset_indices⟩ <;> simp [State.ringReset]
  case marked => exact fun s id f c hcmd hmarked htie => s.complete_discarded c hcmd hmarked htie
  case nowhere => exact fun _ _ => rfl
  case clear => exact fun v s h => exec_ringReset_of_clear h s

/-! Fetch and completion. -/

theorem State.cmdRun_eq_true_iff (s : State) : s.cmdRun = true ↔
    s.mgmt.perstN = true ∧ s.rd MBX_CTRL_CMD_EN = 1 ∧ s.rd MBX_CMD_HEAD ≠ s.rd MBX_CMD_TAIL ∧ s.cplFull = false := by
  simp [State.cmdRun, State.isSet, and_assoc]

theorem exec_commandFetch_of_run {s : State} (h : s.cmdRun = true) :
    exec .commandFetch s = .next (State.wr { s with mgmt := { s.mgmt with
      fetched := s.mgmt.fetched ++ [s.hostRead (4096 * s.rd MBX_CMD_BASE + 64 * s.rd MBX_CMD_HEAD) 64] } }
      MBX_CMD_HEAD ((s.rd MBX_CMD_HEAD + 1) % s.cmdEntries)) :=
  congrArg Host.Outcome.next (if_pos h)

theorem exec_commandFetch_of_stopped {s : State} (h : ¬ s.cmdRun = true) : exec .commandFetch s = .next s :=
  congrArg Host.Outcome.next (if_neg h)

/-- Settles O12: the ring runs or stands (`State.cmdRun`), and each side has its rule. -/
theorem ringFetchAndCompletion : Obligations.RingFetchAndCompletion := by
  refine ⟨?fetch, ?noFetch, ?completion, ?noCompletion, ?block, ?noBlock⟩
  case fetch => exact fun s hperst hen hne hroom => exec_commandFetch_of_run (s.cmdRun_eq_true_iff.mpr ⟨hperst, hen, hne, hroom⟩)
  case noFetch =>
    intro s h
    refine exec_commandFetch_of_stopped (mt s.cmdRun_eq_true_iff.mp ?_)
    rintro ⟨hperst, hen, hne, hroom⟩
    simp_all
  case completion =>
    intro s r rest hperst hwait hen hroom
    simp [exec, execCompletionWrite, State.completionWrite, State.isSet, hperst, hwait, hen, hroom]
  case noCompletion =>
    intro s h
    cases hwait : s.mgmt.cplWait with
    | nil => simp [exec, execCompletionWrite, State.completionWrite, hwait]
    | cons r rest =>
      have hbar : (s.mgmt.perstN && s.isSet MBX_CTRL_CPL_EN && !s.cplFull) = false := by
        rcases h with h | h | h | h <;> simp_all [State.isSet]
      simp [exec, execCompletionWrite, State.completionWrite, hwait, hbar]
  case block => exact fun s h => if_neg h
  case noBlock => exact fun s h => if_pos h

end Sys2Proof.Machine

/-! Dispatch, the events' way out, interrupts, the link (02 R28, R35 to R38, R45 to R49, R54, R55). -/

namespace Sys2Proof.Machine

open Sys2Proof

/-- The mailbox command goes before the ring's records: it may be dispatched, no record with FENCE stands before it, and it does
not fence off records that were fetched before it. -/
theorem exec_commandDispatch_mailbox {s : State} {r : List Nat} (hbox : s.mgmt.mailbox = some r)
    (hmay : s.mayDispatch r = true) (hfence : s.fenceBefore = false) (hown : recFence r = false ∨ s.mgmt.mailboxBehind = 0) :
    exec .commandDispatch s = .next
      (((State.wr { s with mgmt := { s.mgmt with mailbox := none } } MBX_MB_CTRL_GO 0).wr MBX_MB_CTRL_BUSY 1).dispatch false r) := by
  have hgo : (s.mayDispatch r && !s.fenceBefore && (!recFence r || s.mgmt.mailboxBehind == 0)) = true := by
    simpa [hmay, hfence] using hown
  simp only [exec, execCommandDispatch, hbox, hgo, if_true]

/-- The ring's oldest record is next: no mailbox command waits, or one that waits without holding the ring's records back. -/
theorem exec_commandDispatch_ring {s : State} (h : s.mgmt.mailbox = none ∨ ∃ r, s.mgmt.mailbox = some r ∧
    (s.mayDispatch r = false ∧ recFence r = false ∨ s.fenceBefore = true ∧ s.mgmt.mailboxBehind ≠ 0)) :
    exec .commandDispatch s = .next s.ringDispatch := by
  rcases h with hnone | ⟨r, hbox, hwaits⟩
  · simp only [exec, execCommandDispatch, hnone]
  · have hstays : (s.mayDispatch r && !s.fenceBefore && (!recFence r || s.mgmt.mailboxBehind == 0)) = false := by
      rcases hwaits with ⟨hmay, -⟩ | ⟨hfence, -⟩ <;> simp [*]
    have hpasses : (recFence r && s.mgmt.mailboxBehind == 0) = false := by
      rcases hwaits with ⟨-, hfree⟩ | ⟨-, hbehind⟩ <;> simp [*]
    simp [exec, execCommandDispatch, hbox, hstays, hpasses]

theorem State.ringDispatch_of_may {s : State} {r : List Nat} {rest : List (List Nat)} (hnext : s.mgmt.fetched = r :: rest)
    (hmay : s.mayDispatch r = true) : s.ringDispatch =
      State.dispatch { s with mgmt := { s.mgmt with fetched := rest, mailboxBehind := s.mgmt.mailboxBehind - 1 } } true r := by
  simp [State.ringDispatch, hnext, hmay]

theorem State.ringDispatch_of_waits {s : State} {r : List Nat} {rest : List (List Nat)} (hnext : s.mgmt.fetched = r :: rest)
    (hmay : s.mayDispatch r = false) : s.ringDispatch = s := by
  simp [State.ringDispatch, hnext, hmay]

theorem State.mayDispatch_eq_true_iff (s : State) (r : List Nat) : s.mayDispatch r = true ↔ s.mgmt.inFlight.length < 32 ∧
    (recFence r = true → s.mgmt.inFlight = []) ∧
    (stewardCommand r = true → s.mgmt.steward = .running ∨ s.mgmt.steward = .stopped) := by
  cases hfence : recFence r <;> cases hsteward : stewardCommand r <;> simp [State.mayDispatch, hfence, hsteward, and_assoc]

/-- Settles O13: the mailbox's record goes first (`exec_commandDispatch_mailbox`), else the ring's oldest; what may go is dispatched. -/
theorem dispatchInOrder : Obligations.DispatchInOrder := by
  refine ⟨?mailbox, ?ring, ?ringWaits, ?fenced, ?ringPasses, ?may, ?dispatched, ?unknown, ?badLength, ?go, ?busy⟩
  case mailbox => exact fun s r => exec_commandDispatch_mailbox
  case ring =>
    intro s r rest hbox hnext hmay
    rw [exec_commandDispatch_ring (.inl hbox), State.ringDispatch_of_may hnext hmay]
  case ringWaits =>
    intro s r rest hbox hnext hmay
    rw [exec_commandDispatch_ring (.inl hbox), State.ringDispatch_of_waits hnext hmay]
  case fenced =>
    intro s r hbox hmay hfence hbehind
    simp [exec, execCommandDispatch, hbox, hmay, hfence, hbehind]
  case ringPasses =>
    intro s r q rest hbox hwaits hnext hmay
    rw [exec_commandDispatch_ring (.inr ⟨r, hbox, hwaits⟩), State.ringDispatch_of_may hnext hmay]
  case may => exact State.mayDispatch_eq_true_iff
  case dispatched =>
    intro s ring r s1
    refine ⟨fun hgood => ?_, fun c hbad => ?_⟩
    · simp only [State.dispatch, s1] at hgood ⊢
      rw [hgood]
    · simp only [State.dispatch, s1] at hbad ⊢
      rw [hbad]
  case unknown => intro s r hop; simp [State.dispatchCheck, hop]
  case badLength => intro s r i hop hlen; simp [State.dispatchCheck, hop, hlen]
  case go => intro s hfree hbox; simp [exec, execMailboxGo, State.isSet, hfree, hbox]
  case busy =>
    intro s h
    have hbar : (s.isSet MBX_MB_CTRL_BUSY || s.mgmt.mailbox.isSome) = true := by
      rcases h with h | h
      · simp [State.isSet, h]
      · simp [Option.isSome_iff_ne_none, h]
    simp [exec, execMailboxGo, hbar]

/-- A one-bit field reads 0 or 1. -/
theorem State.isSet_eq_true_iff (s : State) (f : Field) : s.isSet f = true ↔ s.rd f = 1 := by simp [State.isSet]

/-- The event ring takes records: PERST_N is high, the ring is enabled and has room. -/
def State.eventRingOpen (s : State) : Bool := s.mgmt.perstN && s.isSet MBX_CTRL_EVT_EN && !s.evtFull

theorem State.eventRingOpen_of {s : State} (hperst : s.mgmt.perstN = true) (hen : s.rd MBX_CTRL_EVT_EN = 1)
    (hroom : s.evtFull = false) : s.eventRingOpen = true := by
  simp [State.eventRingOpen, State.isSet, hperst, hen, hroom]

theorem exec_eventRingWrite_of_shut {s : State} (h : s.eventRingOpen = false) : exec .eventRingWrite s = .next s :=
  congrArg Host.Outcome.next (if_neg (Bool.eq_false_iff.mp h))

/-- Settles O14: the ring is open or shut (`State.eventRingOpen`); open, lost records go before queued ones. -/
theorem eventsLeaveOldestFirst : Obligations.EventsLeaveOldestFirst := by
  refine ⟨?oldest, ?lost, ?shut, ?nothing, ?put, ?read, ?readEmpty⟩
  case oldest =>
    intro s r rest hperst hen hroom hlost hqueue
    have hopen := State.eventRingOpen_of hperst hen hroom
    rw [State.eventRingOpen] at hopen
    simp [exec, execEventRingWrite, hopen, hlost, hqueue]
  case lost =>
    intro s hperst hen hroom hlost r
    have hopen := State.eventRingOpen_of hperst hen hroom
    rw [State.eventRingOpen] at hopen
    simp [exec, execEventRingWrite, hopen, hlost, sat32, r]
  case shut =>
    intro s h
    refine exec_eventRingWrite_of_shut ?_
    rcases h with h | h | h <;> simp [State.eventRingOpen, State.isSet, h]
  case nothing =>
    intro s hlost hqueue
    simp [exec, execEventRingWrite, hlost, hqueue]
  case put => exact fun _ _ => rfl
  case read => intro s r rest hmb; simp [exec, execMbEvtRead, hmb, State.answer]
  case readEmpty => intro s hmb; simp [exec, execMbEvtRead, hmb, State.answer]

/-- After a host DMA error the error bit reads 1 and the three enable bits 0: vector, log and mailbox write none of them. -/
theorem State.dmaFault_bits (s : State) (d : Nat) :
    (s.dmaFault d).rd MBX_ERR_DMA_FAULT = 1 ∧ (s.dmaFault d).rd MBX_CTRL_CMD_EN = 0 ∧
    (s.dmaFault d).rd MBX_CTRL_CPL_EN = 0 ∧ (s.dmaFault d).rd MBX_CTRL_EVT_EN = 0 := by
  have hrest (f : Field) (hf : f.key 0 ∉ eventKeys) : (s.dmaFault d).rd f =
      ((((s.wr MBX_ERR_DMA_FAULT 1).wr MBX_CTRL_CMD_EN 0).wr MBX_CTRL_CPL_EN 0).wr MBX_CTRL_EVT_EN 0).rd f := by
    show (s.dmaFault d).rdAt f 0 = _
    rw [State.dmaFault, State.rdAt_mailboxPut _ _ _ _ hf, State.rdAt_logEvent, State.rdAt_raise]
    rfl
  refine ⟨?_, ?_, ?_, ?_⟩ <;> rw [hrest _ (by decide)] <;>
    simp [State.rd_wr_other, Field.key, MBX_ERR_DMA_FAULT, MBX_CTRL_CMD_EN, MBX_CTRL_CPL_EN, MBX_CTRL_EVT_EN]

/-- Settles O15: the fault's bits by `State.dmaFault_bits`, the interrupts by the vector's state. -/
theorem dmaFaultAndInterrupts : Obligations.DmaFaultAndInterrupts := by
  refine ⟨?fault, ?after, ?mailbox, ?sent, ?masked, ?again, ?ends, ?early, ?none, ?design, ?notDesign⟩
  case fault => exact fun _ _ => rfl
  case after =>
    intro k s
    obtain ⟨herr, hcmd, hcpl, hevt⟩ := s.dmaFault_bits (dmaCode k)
    exact ⟨s.dmaFault (dmaCode k), rfl, herr, hcmd, hcpl, hevt, by simp [State.dmaFault], by simp [State.dmaFault]⟩
  case mailbox => exact fun s r h => if_pos h
  case sent => intro s n hperst hmask; simp [State.raise, hperst, hmask]
  case masked => intro s n hperst hmask; simp [State.raise, hperst, hmask]
  case again =>
    intro v e s hends hdue harrived
    simp [exec, execIrqHoldoffExpiry, hends, Nat.not_lt.mpr hdue, harrived]
  case ends =>
    intro v e s hends hdue harrived
    simp [exec, execIrqHoldoffExpiry, hends, Nat.not_lt.mpr hdue, harrived]
  case early => intro v e s hends hearly; simp [exec, execIrqHoldoffExpiry, hends, hearly]
  case none => intro v s hends; simp [exec, execIrqHoldoffExpiry, hends]
  case design => exact fun n s hlow hhigh => congrArg Host.Outcome.next (if_pos ⟨hlow, hhigh⟩)
  case notDesign => exact fun n s h => congrArg Host.Outcome.next (if_neg (by omega))

/-- Settles O16. -/
theorem pcieLink : Obligations.PcieLink := by
  refine ⟨?up, ?held, ?down, ?perst⟩
  case up => intro w s hperst; simp [exec, execPcieLinkChange, hperst]
  case held => intro w s hperst; simp [exec, execPcieLinkChange, hperst]
  case down => intro w s; simp [exec, execPcieLinkChange]
  case perst => exact fun _ => rfl

end Sys2Proof.Machine

/-! Commands that wait and complete (02 R38, R40, R42, R47; 16 R446). -/

namespace Sys2Proof.Machine

open Sys2Proof

/-- The row of opcode `op` may take the command: no earlier one that keeps it waiting is left among those in flight. -/
theorem State.ready_eq_true_iff {s : State} {id op : Nat} {c : InFlight} (hcmd : s.cmd id = some c) : s.ready id op = true ↔
    recOpcode c.bytes = op ∧ c.begun = false ∧ s.now ≤ c.expiresAt ∧ ∀ d ∈ s.mgmt.inFlight,
      c.ring = true ∧ d.ring = true ∨ op / 0x1000 = 3 → d.begun = false → d.id < id →
        recOpcode d.bytes / 0x1000 ≠ op / 0x1000 := by
  by_cases hboth : op / 0x1000 = 3 <;> cases hring : c.ring <;>
    simp [State.ready, hcmd, hboth, hring, and_assoc]

theorem State.ready_of_gone {s : State} {id : Nat} (op : Nat) (hcmd : s.cmd id = none) : s.ready id op = false := by
  simp [State.ready, hcmd]

/-- A ring command that ends after the expiry of its TIMEOUT: the record that waits for the ring says TIMEOUT. -/
theorem State.complete_expired {s : State} {id : Nat} {f : InFlight} {c : Completion} (hcmd : s.cmd id = some f)
    (hring : f.ring = true) (hkept : f.discard = false) (hlate : f.expiresAt < s.now) (hstatus : c.status ≠ 0x07) :
    s.complete id c = { s with mgmt := { s.mgmt with
      inFlight := s.mgmt.inFlight.filter fun x => x.id != id
      cplWait := s.mgmt.cplWait ++ [completionRecord (recTag f.bytes) 0x07 0 0] } } := by
  simp [State.complete, hcmd, hlate.ne', InFlight.answerAt, hlate, hstatus, State.putCompletion, hring, hkept]

/-- In the tick of its TIMEOUT a ring command's completion counts the tie. -/
theorem State.complete_tie {s : State} {id : Nat} {f : InFlight} (c : Completion) (hcmd : s.cmd id = some f)
    (htie : s.now = f.expiresAt) (hring : f.ring = true) :
    (s.complete id c).rd MBX_TIE_CNT = min (s.rd MBX_TIE_CNT + 1) (2 ^ MBX_TIE_CNT.width - 1) := by
  have hregs : (s.complete id c).regs = (s.incSat MBX_TIE_CNT).regs := by
    simp only [State.complete, hcmd, if_pos htie, State.putCompletion, hring, if_true]
    split <;> rfl
  have hfits : min (s.rdAt MBX_TIE_CNT 0 + 1) (2 ^ MBX_TIE_CNT.width - 1) < 2 ^ MBX_TIE_CNT.width := by
    have := Nat.two_pow_pos MBX_TIE_CNT.width
    omega
  show (s.complete id c).rdAt MBX_TIE_CNT 0 = _
  rw [State.rdAt_of_regs hregs, State.incSat, State.addSatAt, State.rdAt_wrAt_same, Nat.mod_eq_of_lt hfits]
  rfl

/-- Settles O18: what a row does while its command is not due, and `complete`'s rules for one that ends. -/
theorem commandsWaitAndComplete : Obligations.CommandsWaitAndComplete := by
  refine ⟨?notDue, ?notDueStart, ?barred, ?barredStart, ?gone, ?ready, ?completes, ?expired, ?tie, ?nothing⟩
  case notDue => exact fun s id op body h => State.runCmd_not_due h body
  case notDueStart => exact fun s id op body h => State.startCmd_not_due h body
  case barred => exact fun s id op body hready hbarred => State.runCmd_barred hready hbarred body
  case barredStart => exact fun s id op body hready hbarred => State.startCmd_barred hready hbarred body
  case gone => exact fun s id op h => State.ready_of_gone op h
  case ready => exact fun s id op c h => State.ready_eq_true_iff h
  case completes => exact fun s id f c hcmd hring hkept hearly => State.complete_ring c hcmd hring hkept hearly
  case expired => exact fun s id f c hcmd hring hkept hlate hstatus => State.complete_expired hcmd hring hkept hlate hstatus
  case tie => exact fun s id f c hcmd htie hring => State.complete_tie c hcmd htie hring
  case nothing => exact fun s id c h => State.complete_gone c h

/-! NOP, LOG_READ, STEWARD_INFO. -/

theorem exec_logRead_of_initialised {s : State} (hinit : s.rd STR_STATUS_FAR_INIT = 1) {id : Nat} {r : List Nat}
    (hcmd : s.Takes id 0xD002 r) (found : Found) : exec (.logRead id found) s = .next (
      if 1048575 < recField r 16 4 then s.complete id ⟨0x03, 16, 0⟩
      else if recField r 20 4 < 1 ∨ 65536 < recField r 20 4 then s.complete id ⟨0x03, 20, 0⟩
      else (((s.hostWrite (recField r 8 8) (s.logData found (recField r 16 4) (recField r 20 4))).senseWords found
        (logWords (recField r 16 4) (recField r 20 4))).tookN (2 ^ 32)).complete id
        ⟨0, 0, (recField r 16 4 + recField r 20 4) % 1048576⟩) := by
  have hserved : s.storeInit true = true := by simp [State.storeInit, State.isSet, hinit]
  simp only [exec, execLogRead, hserved, Bool.not_true, Bool.false_eq_true, if_false, State.runCmd_takes hcmd]
  split_ifs <;> rfl

/-- Settles O17. -/
theorem managementCommands : Obligations.ManagementCommands := by
  refine ⟨?nop, ?log, ?badFirst, ?badCount, ?waits, ?half, ?info⟩
  case nop => exact fun id r s hcmd => congrArg Host.Outcome.next (State.runCmd_takes hcmd _)
  case log =>
    intro id r found s hcmd hinit hfirst hsome hmany
    rw [exec_logRead_of_initialised hinit hcmd, if_neg (by omega), if_neg (by omega)]
  case badFirst =>
    intro id r found s hcmd hinit hfirst
    rw [exec_logRead_of_initialised hinit hcmd, if_pos hfirst]
  case badCount =>
    intro id r found s hcmd hinit hfirst hcount
    rw [exec_logRead_of_initialised hinit hcmd, if_neg (by omega), if_pos (by omega)]
  case waits => intro id found s hinit; simp [exec, execLogRead, State.storeInit, State.isSet, hinit]
  case half => intro s a hgood; simp [State.logHalf, State.viewWord, foundAt, foundBad, hgood]
  case info => exact fun id r s hcmd => congrArg Host.Outcome.next (State.runCmd_takes hcmd _)

end Sys2Proof.Machine

/-! The scratchpad (02 R59 to R63): what a read finds, what a write leaves, and the atomics. -/

namespace Sys2Proof.Machine

open Sys2Proof

/-- A good word read without error changes nothing. -/
theorem State.spadSense_good {s : State} {w : Nat} (hgood : (s.spadWord w).poison = false) : s.spadSense w .good = s := by
  simp [State.spadSense, hgood]

/-- The scratchpad after a write: the word written, every other word as before. -/
theorem State.spadWord_spadPut_same (s : State) (w : Nat) (x : SpadWord) : (s.spadPut w x).spadWord w = x :=
  SMap.read_store_same s.mgmt.spad (s.spadUnlisted w) w x

theorem State.spadWord_spadPut_other (s : State) {w v : Nat} (x : SpadWord) (h : v ≠ w) :
    (s.spadPut w x).spadWord v = s.spadWord v :=
  SMap.read_store_ne s.mgmt.spad (s.spadUnlisted w) (s.spadUnlisted v) w v x h

theorem State.spadSense_bad {s : State} {w : Nat} {f : SpadRead} (h : (s.spadWord w).poison = true ∨ f = .uncorrectable) :
    s.spadSense w f =
      ((s.spadPut w { s.spadWord w with poison := true }).incSat MBX_SPAD_ECC_UNCORR_CNT).post 0xD006 0xD00 3 w := by
  have hbad : ((s.spadWord w).poison || f == .uncorrectable) = true := by simpa using h
  rw [State.spadSense, if_pos hbad]

/-! The scratchpad's base is not touched by an event. -/

@[simp] theorem State.raise_mgmt_spadBase (s : State) (v : Nat) : (s.raise v).mgmt.spadBase = s.mgmt.spadBase := by
  unfold State.raise; split_ifs <;> rfl

@[simp] theorem State.mbxErr_mgmt_spadBase (s : State) (f : Field) : (s.mbxErr f).mgmt.spadBase = s.mgmt.spadBase := by
  unfold State.mbxErr; split_ifs <;> simp

@[simp] theorem State.toQueue_mgmt_spadBase (s : State) (r : Nat) : (s.toQueue r).mgmt.spadBase = s.mgmt.spadBase := by
  unfold State.toQueue; split_ifs <;> simp [State.incSat, State.addSatAt]

@[simp] theorem State.toMailbox_mgmt_spadBase (s : State) (r : Nat) : (s.toMailbox r).mgmt.spadBase = s.mgmt.spadBase := by
  unfold State.toMailbox State.mailboxPut; split_ifs <;> simp [State.incSat, State.addSatAt]

@[simp] theorem State.logEvent_mgmt_spadBase (s : State) (r : Nat) : (s.logEvent r).mgmt.spadBase = s.mgmt.spadBase := by
  unfold State.logEvent; split_ifs <;> rfl

@[simp] theorem State.post_mgmt_spadBase (s : State) (c o v d : Nat) : (s.post c o v d).mgmt.spadBase = s.mgmt.spadBase := by
  unfold State.post; dsimp only; split_ifs <;> simp

/-- A word found bad keeps its data and reads poisoned from then on. -/
theorem State.spadWord_spadSense_bad {s : State} {w : Nat} {f : SpadRead}
    (h : (s.spadWord w).poison = true ∨ f = .uncorrectable) :
    (s.spadSense w f).spadWord w = { s.spadWord w with poison := true } := by
  rw [State.spadSense_bad h]
  have hpost (x : State) (c o v d : Nat) : (x.post c o v d).spadWord w = x.spadWord w := by
    simp [State.spadWord, State.spadUnlisted]
  rw [hpost]
  exact s.spadWord_spadPut_same w _

theorem goodSize_eight {o : Nat} (h : o % 8 = 0) : goodSize o 8 = true := by simp [goodSize, h]

theorem goodSize_four {o : Nat} (h : o % 4 = 0) : goodSize o 4 = true := by simp [goodSize, h]

/-! The host's read: a word that is good after the read is answered, a bad one ends in an abort. -/

theorem exec_spadHostRead_bad {o n : Nat} {f : SpadRead} {s : State} (hsize : goodSize o n = true)
    (h : (s.spadWord (o / 8 % 65536)).poison = true ∨ f = .uncorrectable) : exec (.spadHostRead o n f) s =
      .next { s.spadSense (o / 8 % 65536) f with reply := { abort := true, poison := true } } := by
  simp [exec, execSpadHostRead, hsize, State.spadWord_spadSense_bad h]

theorem exec_spadHostRead_good {o n : Nat} {s : State} (hsize : goodSize o n = true)
    (hgood : (s.spadWord (o / 8 % 65536)).poison = false) : exec (.spadHostRead o n .good) s =
      .next (if n = 8 then s.answer (s.spadWord (o / 8 % 65536)).data
        else s.answer ((s.spadWord (o / 8 % 65536)).data / 2 ^ (8 * (o % 8 / 4 * 4)) % 2 ^ 32)) := by
  simp [exec, execSpadHostRead, hsize, State.spadSense_good hgood, hgood]

/-- Settles O19: each clause by the check of the request that it names. -/
theorem scratchpadAccess : Obligations.ScratchpadAccess := by
  refine ⟨?badSizeRead, ?badSizeWrite, ?read8, ?read4, ?readBad, ?senseBad, ?senseSingle, ?abandon, ?closed, ?write8, ?write4,
    ?write4Bad, ?fabricRead, ?fabricReadBad, ?fabricWrite, ?fabricClosed, ?word⟩
  case badSizeRead => intro o n f s hsize; simp [exec, execSpadHostRead, hsize, State.answer]
  case badSizeWrite => intro o n d f s hsize; simp [exec, execSpadHostWrite, hsize]
  case read8 =>
    intro o s ho hgood
    rw [exec_spadHostRead_good (goodSize_eight ho) hgood, if_pos rfl, State.answer]
  case read4 =>
    intro o s ho hgood
    have hhalf : 8 * (o % 8 / 4 * 4) = 32 * (o / 4 % 2) := by omega
    rw [exec_spadHostRead_good (goodSize_four ho) hgood, if_neg (by decide), hhalf, State.answer]
  case readBad => exact fun o n f s => exec_spadHostRead_bad
  case senseBad => exact fun w f s => State.spadSense_bad
  case senseSingle => intro w s hgood; simp [State.spadSense, hgood]
  case abandon => exact fun _ _ => rfl
  case closed => intro o n d f s hsize hclosed; simp [exec, execSpadHostWrite, hsize, hclosed]
  case write8 => intro o d f s ho hopen; simp [exec, execSpadHostWrite, goodSize_eight ho, hopen]
  case write4 =>
    intro o d s ho hopen hgood
    have hlow : o % 8 < 4 ↔ o % 8 = 0 := by omega
    simp [exec, execSpadHostWrite, goodSize_four ho, hopen, State.spadSense_good hgood, hgood, hlow]
  case write4Bad =>
    intro o d f s ho hopen hbad
    simp [exec, execSpadHostWrite, goodSize_four ho, hopen, State.spadWord_spadSense_bad hbad]
  case fabricRead =>
    intro w s hw hgood
    simp [exec, execSpadFabricAccess, Nat.mod_eq_of_lt hw, State.spadSense_good hgood, hgood]
  case fabricReadBad =>
    intro w f s hw hbad
    simp [exec, execSpadFabricAccess, Nat.mod_eq_of_lt hw, State.spadWord_spadSense_bad hbad]
  case fabricWrite => intro w d f s hw hopen; simp [exec, execSpadFabricAccess, Nat.mod_eq_of_lt hw, hopen]
  case fabricClosed => intro w d f s hw hclosed; simp [exec, execSpadFabricAccess, Nat.mod_eq_of_lt hw, hclosed]
  case word => exact fun s w v x => ⟨s.spadWord_spadPut_same w x, s.spadWord_spadPut_other x⟩

/-- An atomic on a good word: the old value, and the word with the sum or the operand. -/
theorem State.spadAtomic_good {s : State} {w : Nat} (add : Bool) (x : Nat) (hgood : (s.spadWord w).poison = false) :
    s.spadAtomic w add x .good = (s.spadWord w, s.spadPut w
      { data := (if add then (s.spadWord w).data + x else x) % 2 ^ 64, poison := false }) := by
  cases add <;> simp [State.spadAtomic, State.spadSense_good hgood, hgood]

theorem State.hostAtomic_good {s : State} (add : Bool) (hopen : spadOpen (s.rd MBX_ATOM_ADDR) = true)
    (hgood : (s.spadWord (s.rd MBX_ATOM_ADDR)).poison = false) : s.hostAtomic add .good =
      (s.spadPut (s.rd MBX_ATOM_ADDR) { data := (if add then (s.spadWord (s.rd MBX_ATOM_ADDR)).data + s.rd MBX_ATOM_OPND
        else s.rd MBX_ATOM_OPND) % 2 ^ 64, poison := false }).wr MBX_ATOM_OLD (s.spadWord (s.rd MBX_ATOM_ADDR)).data := by
  simp [State.hostAtomic, hopen, State.spadAtomic_good add _ hgood]

theorem State.hostAtomic_closed {s : State} (add : Bool) (f : SpadRead) (hclosed : spadOpen (s.rd MBX_ATOM_ADDR) = false) :
    s.hostAtomic add f = s.mbxErr MBX_ERR_SPAD_PROT := by
  simp [State.hostAtomic, hclosed]

/-- Settles O20. -/
theorem scratchpadAtomics : Obligations.ScratchpadAtomics := by
  refine ⟨?add, ?swap, ?closed, ?fabricAdd, ?fabricSwap⟩
  case add => exact fun s hopen hgood => congrArg Host.Outcome.next (State.hostAtomic_good true hopen hgood)
  case swap => exact fun s hopen hgood => congrArg Host.Outcome.next (State.hostAtomic_good false hopen hgood)
  case closed =>
    exact fun f s hclosed => ⟨congrArg Host.Outcome.next (State.hostAtomic_closed true f hclosed),
      congrArg Host.Outcome.next (State.hostAtomic_closed false f hclosed)⟩
  case fabricAdd =>
    intro w x s hw hopen hgood
    simp [exec, execSpadFabricAccess, Nat.mod_eq_of_lt hw, hopen, State.spadAtomic_good true x hgood, hgood]
  case fabricSwap =>
    intro w x s hw hopen hgood
    simp [exec, execSpadFabricAccess, Nat.mod_eq_of_lt hw, hopen, State.spadAtomic_good false x hgood, hgood]

end Sys2Proof.Machine

/-! Grids (03 R79, R80): where a line starts, and which line a nanosecond belongs to. -/

namespace Sys2Proof.Machine

open Sys2Proof

/-- A line starts at or before `t` exactly when it is not later than the line of `t`. -/
theorem State.lineStart_le_iff {s : State} {g : Nat} (hD : 0 < s.gridD g) (hQ : 0 < s.gridQ g) (m t : Int) :
    s.lineStart g m ≤ t ↔ m ≤ s.lineAt g t := by
  have hD' : (0 : Int) < 2 * s.gridD g := by omega
  have hQ' : (0 : Int) < 2 * s.gridQ g := by omega
  have hline : m ≤ s.lineAt g t ↔ m * (2 * s.gridD g) ≤ (2 * (t - s.gridA g) + 1) * s.gridQ g - 1 :=
    Int.le_ediv_iff_mul_le hD'
  have hstart : s.lineStart g m ≤ t ↔ 2 * m * s.gridD g + s.gridQ g < (t - s.gridA g + 1) * (2 * s.gridQ g) := by
    rw [← Int.ediv_lt_iff_lt_mul hQ', State.lineStart]
    omega
  rw [hline, hstart]
  constructor <;> intro h <;> linarith [h]

/-- A line starts within half a nanosecond of `m` line periods after the alignment offset. -/
theorem State.lineStart_rounds {s : State} {g : Nat} (hQ : 0 < s.gridQ g) (m : Int) :
    2 * (s.lineStart g m - s.gridA g) * s.gridQ g ≤ 2 * m * s.gridD g + s.gridQ g ∧
    2 * m * s.gridD g < 2 * (s.lineStart g m - s.gridA g) * s.gridQ g + s.gridQ g := by
  have hQ' : (0 : Int) < 2 * s.gridQ g := by omega
  have hlow := Int.ediv_mul_le (2 * m * s.gridD g + s.gridQ g) hQ'.ne'
  have hhigh := Int.lt_ediv_add_one_mul_self (2 * m * s.gridD g + s.gridQ g) hQ'
  have hoffset : s.lineStart g m - s.gridA g = (2 * m * s.gridD g + s.gridQ g) / (2 * s.gridQ g) := by
    rw [State.lineStart]; ring
  rw [hoffset]
  constructor <;> linarith

/-- The spec's worked example: 60,000 / 1,001 frames of 1,125 lines, no offset (after 03 R83). -/
theorem State.posAt_worked_example {s : State} (hnum : s.rdAt CLR_GRID_NUM 0 = 60000) (hden : s.rdAt CLR_GRID_DEN 0 = 1001)
    (hlines : s.rdAt CLR_GRID_CTRL_LINES 0 = 1125) (halign : s.rdAt CLR_GRID_ALIGN 0 = 0) :
    s.posAt 0 1750000000000000000 = { frame := 104895104895, line := 118, tick := 104 } := by
  simp only [State.posAt, State.lineAt, State.lineStart, State.gridA, State.gridQ, State.gridD, State.gridL, hnum, hden, hlines,
    halign]
  decide

/-- Settles O21: `lineAt` inverts `lineStart` (`State.lineStart_le_iff`). -/
theorem gridPositions : Obligations.GridPositions := by
  refine ⟨?latest, ?rounds, ?worked⟩
  case latest =>
    intro s g t hD hQ
    refine ⟨(State.lineStart_le_iff hD hQ _ t).mpr le_rfl, not_le.mp fun h => ?_⟩
    exact absurd ((State.lineStart_le_iff hD hQ _ t).mp h) (by omega)
  case rounds => exact fun s g m _ hQ => State.lineStart_rounds hQ m
  case worked => exact fun s => State.posAt_worked_example

end Sys2Proof.Machine

/-! The central store's memory and the accesses to it (05 R118 to R129). -/

namespace Sys2Proof.Machine

open Sys2Proof

theorem State.storeWord_storePut_same (s : State) (a : Nat) (w : StoreWord) : (s.storePut a w).storeWord a = w :=
  SMap.read_store_same s.store.mem {} a w

theorem State.storeWord_storePut_other (s : State) {a b : Nat} (w : StoreWord) (h : b ≠ a) :
    (s.storePut a w).storeWord b = s.storeWord b :=
  SMap.read_store_other s.store.mem {} a b w h

/-- A unit that is free in this tick serves the access that comes next. -/
theorem State.serveUnit_of_next {s : State} {far : Bool} {u : Nat} {x : StoreAccess}
    (hfree : SMap.find s.store.served (unitCode far u) ≠ some s.now) (hnext : s.nextAccess far u = some x) :
    s.serveUnit far u = State.serveAccess { s with store := { s.store with
      waiting := s.store.waiting.erase x, served := SMap.put s.store.served (unitCode far u) s.now } } x := by
  rw [State.serveUnit, if_neg hfree, hnext]

/-- An access that its unit can serve now, with none waiting and the unit free in this tick, is served. -/
theorem State.present_served {s : State} {x : StoreAccess} (hstore : inStore x.addr = true) (hserves : s.storeServes x.addr = true)
    (hnone : s.store.waiting = []) (hfree : SMap.find s.store.served (unitCode (inFar x.addr) (s.unitAt x.addr)) ≠ some s.now) :
    s.present x = State.serveAccess { s with store := { s.store with
      waiting := [], served := SMap.put s.store.served (unitCode (inFar x.addr) (s.unitAt x.addr)) s.now } } x := by
  have hnext : State.nextAccess { s with store := { s.store with waiting := [x] } } (inFar x.addr) (s.unitAt x.addr) = some x := by
    have hunit : State.unitAt { s with store := { s.store with waiting := [x] } } x.addr = s.unitAt x.addr := rfl
    have hserved : State.storeServes { s with store := { s.store with waiting := [x] } } x.addr = true := hserves
    simp [State.nextAccess, firstOfEach, hunit, hserved, sortBy, insertBy]
  rw [State.present, if_pos hstore, hnone, List.nil_append]
  refine (State.serveUnit_of_next (s := { s with store := { s.store with waiting := [x] } }) hfree hnext).trans ?_
  simp only [List.erase_cons_head]
  rfl

/-- An access whose unit has served one in this tick waits behind those that wait. -/
theorem State.present_waits {s : State} {x : StoreAccess} (hstore : inStore x.addr = true)
    (hbusy : SMap.find s.store.served (unitCode (inFar x.addr) (s.unitAt x.addr)) = some s.now) :
    s.present x = { s with store := { s.store with waiting := s.store.waiting ++ [x] } } := by
  rw [State.present, if_pos hstore, State.serveUnit]
  exact if_pos hbusy

theorem exec_storeWrite_permitted {r : Requester} {a : Nat} {s : State} (h : s.accessRefusal r a = none) (n d : Nat) (p : Bool) :
    exec (.storeWrite r n a d p) s = .next (s.present
      { requester := r, number := n, addr := a, write := some { data := d % 2 ^ 72, poison := p }, arrived := s.now }) := by
  simp only [exec, execStoreWrite, h]

theorem exec_storeRead_permitted {r : Requester} {a : Nat} {s : State} (h : s.accessRefusal r a = none) (n : Nat) (x : Syndrome) :
    exec (.storeRead r n a x) s =
      .next (s.present { requester := r, number := n, addr := a, found := x, arrived := s.now }) := by
  simp only [exec, execStoreRead, h]

/-- Settles O29: the memory's read-over-write rules, and `present` for an access that is served, waits or is refused. -/
theorem storeReadsWhatWasWritten : Obligations.StoreReadsWhatWasWritten := by
  refine ⟨?memory, ?write, ?read, ?good, ?poisoned, ?waits, ?writeRefused, ?readRefused, ?path, ?fixed, ?outside, ?back⟩
  case memory => exact fun s a b w => ⟨s.storeWord_storePut_same a w, s.storeWord_storePut_other w⟩
  case write =>
    intro r n a d p s hmay hstore hserves hnone hfree
    rw [exec_storeWrite_permitted hmay]
    exact congrArg Host.Outcome.next (State.present_served hstore hserves hnone hfree)
  case read =>
    intro r n a x s hmay hstore hserves hnone hfree
    rw [exec_storeRead_permitted hmay]
    exact congrArg Host.Outcome.next (State.present_served hstore hserves hnone hfree)
  case good => intro x s hread hfound hgood; simp [State.serveAccess, State.storeSense, hread, hfound, hgood]
  case poisoned => intro x s hread hbad; simp [State.serveAccess, State.storeSense, hread, hbad]
  case waits =>
    intro r n a d p s hmay hstore hbusy
    rw [exec_storeWrite_permitted hmay]
    exact congrArg Host.Outcome.next (State.present_waits hstore hbusy)
  case writeRefused => intro r n a d k p s hrefused; simp only [exec, execStoreWrite, hrefused]
  case readRefused => intro r n a k x s hrefused; simp only [exec, execStoreRead, hrefused]
  case path => intro r a s hpath; simp [State.accessRefusal, hpath]
  case fixed => intro r a s hpath hfixed; simp [State.accessRefusal, hpath, hfixed]
  case outside =>
    intro r a s hr hfixed hout
    have hpath : ownPath r = false := by rcases hr with rfl | rfl <;> rfl
    have hconfined : confined r = true := by rcases hr with rfl | rfl <;> rfl
    simp [State.accessRefusal, hpath, hconfined, hfixed, hout]
  case back => exact fun _ => rfl

end Sys2Proof.Machine

/-! Tile memory lanes and the arithmetic of a mix slice (10 R261, R262, R269, R272). -/

namespace Sys2Proof.Machine

open Sys2Proof

/-- `putBits` keeps what lies below and above the bits it replaces. -/
theorem putBits_eq (v k n x : Nat) : putBits v k n x = 2 ^ k * (2 ^ n * (v / 2 ^ k / 2 ^ n) + x % 2 ^ n) + v % 2 ^ k := by
  have hlow := Nat.div_add_mod v (2 ^ k)
  have hmid := Nat.div_add_mod (v / 2 ^ k) (2 ^ n)
  have hsplit : v = 2 ^ k * (2 ^ n * (v / 2 ^ k / 2 ^ n)) + v / 2 ^ k % 2 ^ n * 2 ^ k + v % 2 ^ k := by
    calc v = 2 ^ k * (v / 2 ^ k) + v % 2 ^ k := hlow.symm
      _ = 2 ^ k * (2 ^ n * (v / 2 ^ k / 2 ^ n) + v / 2 ^ k % 2 ^ n) + v % 2 ^ k := by rw [hmid]
      _ = _ := by ring
  have hput : putBits v k n x = 2 ^ k * (2 ^ n * (v / 2 ^ k / 2 ^ n)) + v % 2 ^ k + x % 2 ^ n * 2 ^ k := by
    unfold putBits; omega
  rw [hput]; ring

theorem testBit_putBits (v k n x j : Nat) :
    (putBits v k n x).testBit j = if k ≤ j ∧ j < k + n then x.testBit (j - k) else v.testBit j := by
  have hk := Nat.mod_lt v (Nat.two_pow_pos k)
  have hn := Nat.mod_lt x (Nat.two_pow_pos n)
  rw [putBits_eq, Nat.testBit_two_pow_mul_add _ hk]
  by_cases hlow : j < k
  · simp [hlow, Nat.not_le.mpr hlow, Nat.testBit_mod_two_pow]
  · rw [if_neg hlow, Nat.testBit_two_pow_mul_add _ hn]
    by_cases hmid : j - k < n
    · have : j < k + n := by omega
      simp [hmid, Nat.not_lt.mp hlow, this, Nat.testBit_mod_two_pow]
    · have hout : ¬ j < k + n := by omega
      have hsum : n + (j - k - n) = j - k := by omega
      have hsum' : k + (j - k) = j := by omega
      simp [hmid, hout, Nat.testBit_div_two_pow, hsum, hsum', Nat.add_comm]

/-- Lanes of `n` bits: `putBits` of lane `k` changes that lane alone. -/
theorem putBits_lane (v n k i x : Nat) : putBits v (n * k) n x / 2 ^ (n * i) % 2 ^ n =
    if i = k then x % 2 ^ n else v / 2 ^ (n * i) % 2 ^ n := by
  refine Nat.eq_of_testBit_eq fun j => ?_
  rw [Nat.testBit_mod_two_pow, Nat.testBit_div_two_pow, testBit_putBits]
  by_cases hj : j < n
  · by_cases hik : i = k
    · subst hik
      have hin : n * i ≤ j + n * i ∧ j + n * i < n * i + n := by omega
      simp [hj, hin, Nat.testBit_mod_two_pow]
    · have hout : ¬ (n * k ≤ j + n * i ∧ j + n * i < n * k + n) := by
        rintro ⟨hlow, hhigh⟩
        rcases Nat.lt_or_gt_of_ne hik with hlt | hgt
        · have := Nat.mul_le_mul_left n (show i + 1 ≤ k from hlt)
          rw [Nat.mul_add_one] at this
          omega
        · have := Nat.mul_le_mul_left n (show k + 1 ≤ i from hgt)
          rw [Nat.mul_add_one] at this
          omega
      simp [hj, hik, hout, Nat.testBit_mod_two_pow, Nat.testBit_div_two_pow]
  · by_cases hik : i = k <;> simp [hj, hik, Nat.testBit_mod_two_pow]

/-- The byte enables of the one-lane aspect, taken up to byte `m`: each enabled byte is written, each other one stays. -/
theorem byteWrites_lane (we din old m i : Nat) :
    (List.range m).foldl (fun v k => if bitOf we k = 1 then putBits v (9 * k) 9 (din / 2 ^ (9 * k)) else v) old /
      2 ^ (9 * i) % 2 ^ 9 =
    if i < m ∧ bitOf we i = 1 then din / 2 ^ (9 * i) % 2 ^ 9 else old / 2 ^ (9 * i) % 2 ^ 9 := by
  induction m with
  | zero => simp
  | succ m ih =>
    rw [List.range_succ, List.foldl_append, List.foldl_cons, List.foldl_nil]
    by_cases hen : bitOf we m = 1
    · rw [if_pos hen, putBits_lane, ih]
      by_cases him : i = m
      · simp [him, hen]
      · have : i < m + 1 ↔ i < m := by omega
        simp [him, this]
    · rw [if_neg hen, ih]
      by_cases him : i = m
      · simp [him, hen]
      · have : i < m + 1 ↔ i < m := by omega
        simp [this]

/-! Saturation: a value in range, above it, below it. -/

theorem clampInt_of_mem {lo hi x : Int} (hlow : lo ≤ x) (hhigh : x ≤ hi) : clampInt lo hi x = x := by
  rw [clampInt, if_neg (by omega), if_neg (by omega)]

theorem clampInt_of_gt {lo hi x : Int} (hrange : lo ≤ hi) (hhigh : hi < x) : clampInt lo hi x = hi := by
  rw [clampInt, if_neg (by omega), if_pos hhigh]

theorem clampInt_of_lt {lo hi x : Int} (hlow : x < lo) : clampInt lo hi x = lo := if_pos hlow

/-- `2 ^ w` as twice the half that bounds a signed value. -/
theorem two_pow_eq_double_half {w : Nat} (hw : 0 < w) : (2 : Nat) ^ w = 2 * 2 ^ (w - 1) := by
  rw [← pow_succ', Nat.sub_add_cancel hw]

theorem ofInt_of_lt {w : Nat} {x : Int} (hlow : 0 ≤ x) (hhigh : x < (2 ^ w : Nat)) : ofInt w x = x.toNat := by
  rw [ofInt, Int.emod_eq_of_lt hlow hhigh]

theorem ofInt_neg_half {w : Nat} (hw : 0 < w) : ofInt w (-(2 ^ (w - 1) : Nat)) = 2 ^ (w - 1) := by
  have hpos : 0 < 2 ^ (w - 1) := Nat.two_pow_pos _
  rw [ofInt, two_pow_eq_double_half hw, ← Int.add_emod_right, Int.emod_eq_of_lt] <;> omega

theorem mixSaturate_in_range {w : Nat} {v : Int} (hlow : -(2 ^ (w - 1) : Int) ≤ v) (hhigh : v < 2 ^ (w - 1)) :
    mixSaturate w true v = (ofInt w v, false) := by
  have hclamp : clampInt (-(2 ^ (w - 1) : Nat)) ((2 ^ (w - 1) : Nat) - 1) v = v :=
    clampInt_of_mem (by push_cast; omega) (by push_cast; omega)
  simp only [mixSaturate, if_true, hclamp]
  simp

theorem mixSaturate_above {w : Nat} (hw : 0 < w) {v : Int} (hhigh : 2 ^ (w - 1) ≤ v) :
    mixSaturate w true v = (2 ^ (w - 1) - 1, true) := by
  have hpos : 0 < 2 ^ (w - 1) := Nat.two_pow_pos _
  have hv : ((2 ^ (w - 1) : Nat) : Int) ≤ v := by exact_mod_cast hhigh
  have hclamp : clampInt (-(2 ^ (w - 1) : Nat)) ((2 ^ (w - 1) : Nat) - 1) v = (2 ^ (w - 1) : Nat) - 1 :=
    clampInt_of_gt (by omega) (by omega)
  have hout : ofInt w (((2 ^ (w - 1) : Nat) : Int) - 1) = 2 ^ (w - 1) - 1 := by
    rw [ofInt_of_lt (by omega) (by rw [two_pow_eq_double_half hw]; omega)]
    omega
  simp only [mixSaturate, if_true, hclamp, hout]
  simp only [Prod.mk.injEq, true_and, bne_iff_ne]
  omega

theorem mixSaturate_below {w : Nat} (hw : 0 < w) {v : Int} (hlow : v < -(2 ^ (w - 1) : Int)) :
    mixSaturate w true v = (2 ^ (w - 1), true) := by
  have hv : v < -((2 ^ (w - 1) : Nat) : Int) := by exact_mod_cast hlow
  simp only [mixSaturate, if_true, clampInt_of_lt hv, ofInt_neg_half hw]
  simp only [Prod.mk.injEq, true_and, bne_iff_ne]
  omega

theorem mixSaturate_unsigned_negative (w : Nat) {v : Int} (hneg : v < 0) : mixSaturate w false v = (0, true) := by
  simp [mixSaturate, clampInt_of_lt hneg, ofInt, hneg.ne']

/-! Rounding of a value by `s` bits. -/

theorem mixRound_floor (s : Nat) (v : Int) :
    (2 ^ s : Int) * mixRound 0 s v ≤ v ∧ v < 2 ^ s * (mixRound 0 s v + 1) := by
  have hpos : (0 : Int) < 2 ^ s := by positivity
  have hq : mixRound 0 s v = v / 2 ^ s := by simp [mixRound]
  rw [hq]
  exact ⟨Int.mul_ediv_self_le hpos.ne', by rw [mul_comm]; exact Int.lt_ediv_add_one_mul_self v hpos⟩

theorem mixRound_half_up (s : Nat) (v : Int) :
    2 * (2 ^ s : Int) * mixRound 1 s v ≤ 2 * v + 2 ^ s ∧ 2 * v + 2 ^ s < 2 * 2 ^ s * (mixRound 1 s v + 1) := by
  cases s with
  | zero => simp [mixRound]; omega
  | succ k =>
    have hpos : (0 : Int) < 2 ^ (k + 1) := by positivity
    have hdouble : (2 : Int) ^ (k + 1) = 2 * 2 ^ k := pow_succ' 2 k
    have hq : mixRound 1 (k + 1) v = (v + 2 ^ k) / 2 ^ (k + 1) := by simp [mixRound]
    have hlow := Int.mul_ediv_self_le (x := v + 2 ^ k) hpos.ne'
    have hhigh := Int.lt_ediv_add_one_mul_self (v + 2 ^ k) hpos
    rw [hq]
    constructor <;> linarith

/-- Convergent rounding: the remainder over the quotient `q` rounded down decides between `q` and `q + 1`, and a tie goes to the
even one. -/
theorem mixRound_convergent (s : Nat) (v : Int) :
    -(2 ^ s : Int) ≤ 2 * (v - 2 ^ s * mixRound 2 s v) ∧ 2 * (v - 2 ^ s * mixRound 2 s v) ≤ 2 ^ s ∧
    ((2 * (v - 2 ^ s * mixRound 2 s v) = 2 ^ s ∨ 2 * (v - 2 ^ s * mixRound 2 s v) = -(2 ^ s : Int)) →
      mixRound 2 s v % 2 = 0) := by
  have hpos : (0 : Int) < 2 ^ s := by positivity
  have hlow := Int.mul_ediv_self_le (x := v) hpos.ne'
  have hhigh := Int.lt_ediv_add_one_mul_self v hpos
  have hround : mixRound 2 s v =
      if 2 * (v - v / 2 ^ s * 2 ^ s) < 2 ^ s then v / 2 ^ s
      else if 2 ^ s < 2 * (v - v / 2 ^ s * 2 ^ s) then v / 2 ^ s + 1
      else if v / 2 ^ s % 2 = 0 then v / 2 ^ s else v / 2 ^ s + 1 := by
    simp [mixRound]
  rw [hround]
  generalize hq : v / 2 ^ s = q at *
  generalize hd : (2 : Int) ^ s = d at *
  have hprod : d * (q + 1) = d * q + d := by ring
  have hcomm : q * d = d * q := mul_comm q d
  have hexpand : (q + 1) * d = d * q + d := by ring
  rw [hexpand] at hhigh
  rw [hcomm]
  split_ifs <;> (try rw [hprod]) <;> generalize d * q = p at * <;> omega

/-! The pre-adder. -/

theorem preAdd_sum {x : Nat} (hlow : -8388608 ≤ toSigned 24 x + toSigned 24 (x / 2 ^ 24))
    (hhigh : toSigned 24 x + toSigned 24 (x / 2 ^ 24) ≤ 8388607) :
    preAdd 1 x = (ofInt 24 (toSigned 24 x + toSigned 24 (x / 2 ^ 24)), false) := by
  simp only [preAdd, clampInt_of_mem hlow hhigh, bne_self_eq_false]

theorem preAdd_difference_above {x : Nat} (hhigh : 8388607 < toSigned 24 x - toSigned 24 (x / 2 ^ 24)) :
    preAdd 2 x = (8388607, true) := by
  have hclamp : clampInt (-8388608) 8388607 (toSigned 24 x - toSigned 24 (x / 2 ^ 24)) = 8388607 :=
    clampInt_of_gt (by decide) hhigh
  simp only [preAdd, hclamp, Prod.mk.injEq, bne_iff_ne]
  exact ⟨rfl, hhigh.ne⟩

/-- Settles O42: the lanes by bit extraction, saturation and rounding by their arithmetic lemmas. -/
theorem tileLanesAndMixArithmetic : Obligations.TileLanesAndMixArithmetic := by
  refine ⟨?lane, ?bytes, ?inRange, ?above, ?below, ?unsigned, ?floor, ?halfUp, ?convergent, ?sum, ?difference⟩
  case lane =>
    intro aspect i old x haspect _ _
    simp only [tileMerge, Bool.false_eq_true, if_false, if_neg haspect.ne']
    exact putBits_lane _ _ _ _ _
  case bytes =>
    intro i old x hi
    have h := byteWrites_lane x.we x.din old 8 i
    rw [if_congr (and_iff_right hi) rfl rfl] at h
    exact h
  case inRange => exact fun w v _ hlow hhigh => mixSaturate_in_range hlow hhigh
  case above => exact fun w v hw hhigh => mixSaturate_above hw hhigh
  case below => exact fun w v hw hlow => mixSaturate_below hw hlow
  case unsigned => exact fun w v hneg => mixSaturate_unsigned_negative w hneg
  case floor => exact mixRound_floor
  case halfUp => exact mixRound_half_up
  case convergent => exact mixRound_convergent
  case sum => exact fun x hlow hhigh => preAdd_sum hlow hhigh
  case difference => exact fun x hhigh => preAdd_difference_above hhigh

end Sys2Proof.Machine

/-! The power budget and the policy ladder (15 R416, R426 to R430). -/

namespace Sys2Proof.Machine

open Sys2Proof

/-- The least term, and the term that LIMIT names. -/
theorem State.budgetLimit_names_least (s : State) :
    let b := min (min s.budgetVin s.budgetInlet) (min s.budgetFlow s.budgetCap)
    b ≤ s.budgetVin ∧ b ≤ s.budgetInlet ∧ b ≤ s.budgetFlow ∧ b ≤ s.budgetCap ∧
    (s.budgetLimit = 1 → b = s.budgetVin) ∧ (s.budgetLimit = 2 → b = s.budgetInlet) ∧
    (s.budgetLimit = 3 → b = s.budgetFlow) ∧ (s.budgetLimit = 4 → b = s.budgetCap) ∧
    1 ≤ s.budgetLimit ∧ s.budgetLimit ≤ 4 := by
  unfold State.budgetLimit
  generalize s.budgetVin = v
  generalize s.budgetInlet = i
  generalize s.budgetFlow = f
  generalize s.budgetCap = c
  dsimp only
  split_ifs <;> omega

/-- The flow term between its floor and its ceiling: above 300 mL/min it rises by 12,600 eighteenths of a milliwatt for each
mL/min, up to 600 mL/min. -/
theorem State.budgetFlow_bounds (s : State) : 35000 * 18 ≤ s.budgetFlow ∧ s.budgetFlow ≤ 245000 * 18 := by
  unfold State.budgetFlow
  dsimp only
  split_ifs with hfloor hceiling
  · omega
  · omega
  · push Not at hfloor hceiling
    have hslope : (s.flowFraction.1 - 300 * s.flowFraction.2) * 12600 / s.flowFraction.2 ≤ 300 * 12600 := by
      refine Nat.div_le_of_le_mul ?_
      have := hfloor.2
      omega
    exact ⟨Nat.le_add_right _ _, Nat.add_le_add_left hslope _⟩

theorem State.budgetInlet_bounds (s : State) : 35000 * 18 ≤ s.budgetInlet ∧ s.budgetInlet ≤ 245000 * 18 := by
  unfold State.budgetInlet
  dsimp only
  split_ifs <;> omega

/-- The budget register after the budget was recomputed: LIMIT and event 0xA002 leave it. -/
theorem State.rd_budgetNow (s : State) : (s.budgetNow).rd THM_BUDGET_BUDGET_MW =
    min (min s.budgetVin s.budgetInlet) (min s.budgetFlow s.budgetCap) / 18 % 2 ^ 18 := by
  have hwritten (x : State) (b k : Nat) : ((x.wr THM_BUDGET_BUDGET_MW b).wr THM_BUDGET_LIMIT k).rd THM_BUDGET_BUDGET_MW =
      b % 2 ^ 18 := by
    rw [State.rd_wr_other _ _ _ _ (by decide), State.rd_wr_same]
    rfl
  unfold State.budgetNow
  extract_lets b k old s1 s2
  split_ifs
  · rw [State.rd_post _ _ _ _ _ _ (by decide)]
    exact hwritten _ _ _
  · exact hwritten _ _ _

/-! The ladder. -/

theorem State.stepLeft_le (s : State) (k : Nat) : s.stepLeft k ≤ k := by
  induction k with
  | zero => exact le_rfl
  | succ n ih =>
    rw [State.stepLeft]
    split_ifs
    · exact ih.trans n.le_succ
    · exact le_rfl

/-- Promenade's step is not left by the ladder. -/
theorem State.stepLeft_four (s : State) : s.stepLeft 4 = 4 := by simp [State.stepLeft]

theorem State.stepWanted_le (s : State) : s.stepWanted ≤ 4 := by
  unfold State.stepWanted
  split_ifs <;> omega

theorem State.climb_of_four {s : State} (h : s.rd THM_STATUS_STEP = 4) : s.climb = s := by
  simp [State.climb, h, s.stepWanted_le, State.stepLeft_four]

/-- Settles O52: the least term by `State.budgetLimit_names_least`, the ladder by `stepLeft` and `stepWanted`. -/
theorem budgetAndLadder : Obligations.BudgetAndLadder := by
  refine ⟨?least, ?bounds, ?lost, ?shown, ?evaluate, ?left, ?promenade, ?up, ?cleared, ?notCleared, ?powerLost, ?powerKept⟩
  case least => exact State.budgetLimit_names_least
  case bounds =>
    intro s
    obtain ⟨hflow, hflow'⟩ := s.budgetFlow_bounds
    obtain ⟨hinlet, hinlet'⟩ := s.budgetInlet_bounds
    exact ⟨hflow, hflow', hinlet, hinlet'⟩
  case lost => intro s h; simp [State.budgetFlow, h]
  case shown => exact State.rd_budgetNow
  case evaluate => exact fun s h => congrArg Host.Outcome.next (if_pos h)
  case left => exact fun s => ⟨s.stepLeft_four, s.stepLeft_le⟩
  case promenade => exact fun s => State.climb_of_four
  case up => exact fun s h => if_pos h
  case cleared =>
    intro s hset hold hbelow
    exact congrArg Host.Outcome.next (if_pos ⟨hset, hbelow, by simp [hold]⟩)
  case notCleared =>
    intro s h
    refine congrArg Host.Outcome.next (if_neg ?_)
    rintro ⟨hset, hbelow, hold⟩
    rcases h with h | h | h
    · simp [h] at hset
    · simp [h] at hold
    · omega
  case powerLost => exact fun mv s hoff hlow => congrArg Host.Outcome.next (if_pos ⟨hoff, hlow⟩)
  case powerKept =>
    intro mv s h
    exact congrArg Host.Outcome.next (if_neg (by rintro ⟨hoff, hlow⟩; rcases h with h | h; exacts [h hoff, by omega]))

end Sys2Proof.Machine

/-! The Caller: reference clock, FREERUN, HOLDOVER (03 R68, R73, R76). -/

namespace Sys2Proof.Machine

open Sys2Proof

/-- The registers after a change of lock state to FREERUN: STATE, and event 0x1001. -/
theorem State.setLock_zero_regs {s : State} (h : s.lock ≠ 0) :
    (s.setLock 0).regs = ((s.wr CLR_STATUS_STATE 0).post 0x1001 0x100 2 (4 * s.lock + 0)).regs := by
  simp [State.setLock, h]

theorem State.rd_setLock_zero (s : State) {f : Field} (hevent : f.key 0 ∉ eventKeys) (hstate : f.key 0 ≠ CLR_STATUS_STATE.key 0) :
    (s.setLock 0).rd f = s.rd f := by
  by_cases h : s.lock = 0
  · exact congrArg (fun x : State => x.rd f) (if_pos h)
  · exact (State.rdAt_of_regs (State.setLock_zero_regs h) f 0).trans
      ((State.rd_post _ _ _ _ _ f hevent).trans (State.rd_wr_other _ _ _ _ hstate))

theorem State.lock_setLock_zero (s : State) : (s.setLock 0).lock = 0 := by
  by_cases h : s.lock = 0
  · exact (congrArg State.lock (if_pos h)).trans h
  · exact (State.rdAt_of_regs (State.setLock_zero_regs h) CLR_STATUS_STATE 0).trans
      ((State.rd_post _ _ _ _ _ CLR_STATUS_STATE (by decide)).trans (State.rd_wr_same _ _ _))

theorem State.rd_updateUpstream (s : State) {f : Field} (hf : f.key 0 ≠ CLR_STATUS_UPSTREAM_STATE.key 0) :
    s.updateUpstream.rd f = s.rd f := by
  rw [State.updateUpstream]
  split_ifs
  · rfl
  · exact State.rd_wr_other _ _ _ _ hf

/-- FREERUN sets three fields; each other one reads as before, but for the event counters. -/
theorem State.rd_toFreerun (s : State) (keep : Bool) {f : Field} (hup : f.key 0 ≠ CLR_STATUS_UPSTREAM_STATE.key 0)
    (htod : f.key 0 ≠ CLR_STATUS_TOD_VALID.key 0 ∨ keep = true) :
    (s.toFreerun keep).rd f = ((s.setLock 0).wr CLR_STATUS_ACTIVE_SLOT 7).rd f := by
  rw [State.toFreerun]
  cases keep with
  | true => exact State.rd_updateUpstream _ hup
  | false =>
    have hother := htod.resolve_right Bool.false_ne_true
    exact (State.rd_wr_other _ _ _ _ hother).trans (State.rd_updateUpstream _ hup)

theorem State.toFreerun_lock (s : State) (keep : Bool) : (s.toFreerun keep).lock = 0 := by
  rw [State.lock, State.rd_toFreerun _ _ (by decide) (.inl (by decide)), State.rd_wr_other _ _ _ _ (by decide)]
  exact s.lock_setLock_zero

theorem State.toFreerun_activeSlot (s : State) (keep : Bool) : (s.toFreerun keep).rd CLR_STATUS_ACTIVE_SLOT = 7 := by
  rw [State.rd_toFreerun _ _ (by decide) (.inl (by decide)), State.rd_wr_same]
  rfl

theorem State.toFreerun_keeps_todValid (s : State) :
    (s.toFreerun true).rd CLR_STATUS_TOD_VALID = s.rd CLR_STATUS_TOD_VALID := by
  rw [State.rd_toFreerun _ _ (by decide) (.inr rfl), State.rd_wr_other _ _ _ _ (by decide),
    State.rd_setLock_zero _ (by decide) (by decide)]

theorem State.toFreerun_drops_todValid (s : State) : (s.toFreerun false).rd CLR_STATUS_TOD_VALID = 0 :=
  State.rd_wr_same _ CLR_STATUS_TOD_VALID 0

/-- A free correction lies within its limit either way. -/
theorem State.freeAdjust_bounds (s : State) (lim : Nat) : -(lim : Int) ≤ s.freeAdjust lim ∧ s.freeAdjust lim ≤ lim := by
  have := Nat.mod_lt (s.free 64) (show 0 < 2 * lim + 1 by omega)
  unfold State.freeAdjust
  omega

/-- Settles O22. -/
theorem freerunAndBackup : Obligations.FreerunAndBackup := by
  refine ⟨?loss, ?lossAgain, ?back, ?backUnused, ?shift, ?freerun, ?tod, ?force, ?release, ?expiry, ?early⟩
  case loss => intro s h; simp [exec, execRefclkLoss, h]
  case lossAgain => intro s h; simp [exec, execRefclkLoss, h]
  case back => intro s h; simp [exec, execRefclkReturn, h]
  case backUnused => intro s h; simp [exec, execRefclkReturn, h]
  case shift =>
    intro s
    obtain ⟨hlow, hhigh⟩ := s.freeAdjust_bounds 10
    have hshift : s.phaseShift.caller.shift = s.caller.shift + s.freeAdjust 10 := rfl
    exact ⟨by omega, by omega, rfl, rfl, rfl⟩
  case freerun => exact fun s b => ⟨s.toFreerun_lock b, s.toFreerun_activeSlot b⟩
  case tod => exact fun s => ⟨s.toFreerun_keeps_todValid, s.toFreerun_drops_todValid⟩
  case force => intro s h; simp [exec, execForceFreerun, State.forceFreerun, h]
  case release => intro s; simp [exec, execForceFreerun, State.forceFreerun]
  case expiry => exact fun s hlock hdue => congrArg Host.Outcome.next (if_pos ⟨hlock, hdue⟩)
  case early => exact fun s h => congrArg Host.Outcome.next (if_neg (by omega))

end Sys2Proof.Machine

/-! The Caller: references and the servo (03 R69 to R75). -/

namespace Sys2Proof.Machine

open Sys2Proof

theorem State.mem_lostSlots {s : State} {k : Nat} (hk : k < 4) (hvalid : s.refValid k = true) (hgone : s.refGone k = true) :
    k ∈ s.lostSlots := by
  simp [State.lostSlots, hk, hvalid, hgone]

/-- Settles O23. -/
theorem referencesAndServo : Obligations.ReferencesAndServo := by
  refine ⟨?valid, ?lostOther, ?lostActive, ?notLost, ?mark, ?reselectAcquire, ?reselectLocked, ?timeout, ?timeoutEarly,
    ?timeoutNone, ?refaCounts, ?refaMeasures, ?refaOther, ?refb, ?refbOther, ?measures, ?ignores, ?steers, ?steps, ?idle, ?drops⟩
  case valid => exact fun k s hk husable hgone => congrArg Host.Outcome.next (if_pos ⟨hk, husable, by simp [hgone]⟩)
  case lostOther =>
    intro k s hk hvalid hgone hactive
    simp [exec, execReferenceLost, State.loseGone, hk, hvalid, hgone, -List.contains_eq_mem, hactive]
  case lostActive =>
    intro k s hk hvalid hgone hactive
    simp [exec, execReferenceLost, State.loseGone, hk, hvalid, hgone, -List.contains_eq_mem, hactive]
  case notLost =>
    intro k s h
    refine congrArg Host.Outcome.next (if_neg ?_)
    rintro ⟨-, hvalid, hgone⟩
    rcases h with h | h
    · exact absurd hvalid (by simp [h])
    · exact absurd hgone (by simp [h])
  case mark => exact fun _ _ => rfl
  case reselectAcquire => intro s hlock hbest hother; simp [exec, execReselect, hlock, hbest, hother]
  case reselectLocked => intro s hlock hbest hother; simp [exec, execReselect, hlock, hbest, hother]
  case timeout => intro p x s hport hdue; simp [exec, execAnnounceTimeout, hport, hdue]
  case timeoutEarly => intro p x s hport hearly; simp [exec, execAnnounceTimeout, hport, Nat.not_le.mpr hearly]
  case timeoutNone => intro p s hport; simp [exec, execAnnounceTimeout, hport]
  case refaCounts => intro b s hedge hmore; simp [exec, execRefaEdge, hedge, hmore]
  case refaMeasures => intro b s hedge hlast; simp [exec, execRefaEdge, hedge, Nat.not_lt.mpr hlast]
  case refaOther => intro b s hedge; simp [exec, execRefaEdge, hedge]
  case refb => intro b s hedge; simp [exec, execRefbEdge, hedge]
  case refbOther => intro b s hedge; simp [exec, execRefbEdge, hedge]
  case measures => exact fun s k x hactive hkind => if_pos ⟨hactive, hkind⟩
  case ignores => intro s k x h; exact if_neg (by rintro ⟨hactive, hkind⟩; rcases h with h | h; exacts [hactive h, h hkind])
  case steers =>
    intro m s hmeasured hlock hstay
    have hnostep : ¬ (s.caller.stepPending = true ∧ s.isSet CLR_CTRL_STEP_EN = true ∧
        s.rd CLR_STEP_THRESH < (s.reduceBy (s.rd CLR_STATUS_ACTIVE_SLOT) m).natAbs) := by
      rintro ⟨hpending, hen, hbeyond⟩
      rcases hstay with h | h | h
      · simp [h] at hpending
      · simp [h] at hen
      · omega
    simp only [exec, execServoUpdate, hmeasured, if_pos hlock, if_neg hnostep]
  case steps =>
    intro m s hmeasured hlock hpending hen hbeyond
    simp only [exec, execServoUpdate, hmeasured, if_pos hlock, if_pos (And.intro hpending (And.intro hen hbeyond))]
  case idle => intro s hmeasured; simp [exec, execServoUpdate, hmeasured]
  case drops =>
    intro m s hmeasured hlock
    have hneither : ¬ (s.lock = 1 ∨ s.lock = 2) := by omega
    simp only [exec, execServoUpdate, hmeasured, if_neg hneither]

end Sys2Proof.Machine

/-! The Caller: time set and read, PTP messages, time messages (03 R71, R76, R83; 08 R217). -/

namespace Sys2Proof.Machine

open Sys2Proof

/-- A side-channel frame on a bond of the device that is UP, with a good CRC, in time, and asking for no spare. -/
theorem exec_hokutuTimeMessage_good {b w : Nat} {a : Int} {s : State} (hb : b < 16) (hup : s.bondUp b = true)
    (hcrc : (sideFields w).crcOk = true) (hspare : 16 ≤ (sideFields w).spareCmd) (halign : a.natAbs ≤ 4) (l : Nat) :
    exec (.hokutuTimeMessage b l w a) s =
      .next (if l = s.timeLane b then s.frameGood b (sideFields w) else s) := by
  have hasked (x : State) : x.spareAsked b (sideFields w).spareCmd = x := if_neg (by omega)
  have haligned (x : State) : x.alignmentLost b l a = x := if_neg (by omega)
  simp [exec, execHokutuTimeMessage, hup, hcrc, Nat.not_le.mpr hb, hasked, haligned]

/-- Settles O24. -/
theorem timeSetAndRead : Obligations.TimeSetAndRead := by
  refine ⟨?set, ?refused, ?timeRead, ?posRead, ?posNone, ?portOff, ?announce, ?interval, ?sync, ?followUp, ?notTaken, ?send,
    ?sendDown, ?badCrc, ?timeLane, ?otherLane, ?bondDown⟩
  case set => exact fun n d s hlock hn => congrArg Host.Outcome.next (if_pos ⟨hlock, hn⟩)
  case refused => exact fun n d s h => congrArg Host.Outcome.next (if_neg (by omega))
  case timeRead => exact fun _ => rfl
  case posRead => exact fun g s h => congrArg Host.Outcome.next (if_pos h)
  case posNone => intro g s h; simp [exec, execPosTickRead, h]
  case portOff =>
    intro p m s h
    have hoff : (!(decide (p < 4) && s.isSetAt CLR_PTP_PORT_EN p)) = true := by
      rcases h with h | h
      · simp [Nat.not_lt.mpr (Nat.succ_le_of_lt h)]
      · simp [h]
    simp only [exec, execPtpMessage, hoff, if_true]
  case announce => intro p h m s hp hen htakes; simp [exec, execPtpMessage, hp, hen, htakes]
  case interval => exact fun p h m s hout => if_pos hout
  case sync =>
    intro p h o c x s hp hen htakes hlow hhigh hport
    simp [exec, execPtpMessage, hp, hen, htakes, hport, not_lt.mpr hlow, not_lt.mpr hhigh]
  case followUp =>
    intro p h o c t x s hp hen htakes hport hwaiting
    simp [exec, execPtpMessage, hp, hen, htakes, hport, hwaiting]
  case notTaken =>
    intro p h m o c b s htakes hm
    cases hport : SMap.find s.caller.ptp p with
    | none =>
      rcases hm with rfl | rfl | ⟨a, rfl⟩
      · simp [exec, execPtpMessage, hport]
      · simp [exec, execPtpMessage, hport]
      · simp [exec, execPtpMessage, htakes]
    | some x =>
      rcases hm with rfl | rfl | ⟨a, rfl⟩
      · simp [exec, execPtpMessage, htakes, hport]
      · cases hwaiting : x.waiting <;> simp [exec, execPtpMessage, htakes, hport, hwaiting]
      · simp [exec, execPtpMessage, htakes]
  case send => exact fun _ => rfl
  case sendDown => intro s b hdown; simp [State.sendTime, hdown]
  case badCrc =>
    intro b l w a s hb hup hcrc
    simp [exec, execHokutuTimeMessage, hup, hcrc, Nat.not_le.mpr hb]
  case timeLane =>
    intro b l w a s hb hup hcrc hlane hspare halign
    rw [exec_hokutuTimeMessage_good hb hup hcrc hspare halign, if_pos hlane]
  case otherLane =>
    intro b l w a s hb hup hcrc hlane hspare halign
    rw [exec_hokutuTimeMessage_good hb hup hcrc hspare halign, if_neg hlane]
  case bondDown => intro b l w a s hdown; simp [exec, execHokutuTimeMessage, hdown]

end Sys2Proof.Machine

/-! The Caller: pulse outputs, comparators, grids, lane reference clocks (03 R78, R81, R84 to R87; 08 R205; 18 R479, R485). -/

namespace Sys2Proof.Machine

open Sys2Proof

/-- What every step of a fold leaves unchanged, the fold leaves unchanged. -/
theorem foldl_frame {α β : Type} {g : State → α → State} {read : State → β} (h : ∀ x a, read (g x a) = read x) (l : List α)
    (s : State) : read (l.foldl g s) = read s := by
  induction l generalizing s with
  | nil => rfl
  | cons a r ih => exact (ih _).trans (h s a)

/-- The fields that the firing of comparator `a` writes. -/
def alarmFireKeys (a : Nat) : List Nat :=
  [ALM_STAT_FIRED.key a, ALM_FIRE_CNT.key a, ALM_STAT_ARMED_PAST.key a, ALM_STAT_DISC_FIRED.key a, ALM_TGT_HI.key a,
   ALM_TGT_LINE.key a, ALM_CTRL_ARM.key a]

theorem State.rd_alarmRepeat (s : State) {a : Nat} {f : Field} (hf : f.key 0 ∉ alarmFireKeys a) :
    (s.alarmRepeat a).rd f = s.rd f := by
  simp only [alarmFireKeys, List.mem_cons, List.not_mem_nil, or_false, not_or] at hf
  obtain ⟨-, -, -, -, htarget, hline, harm⟩ := hf
  have hwr {x : State} {g : Field} {v : Nat} (h : f.key 0 ≠ g.key a) : (x.wrAt g a v).rd f = x.rd f :=
    x.rdAt_wrAt_other g f a 0 v h
  unfold State.alarmRepeat
  dsimp only
  split
  · exact hwr htarget
  · split_ifs
    · rw [hwr hline, hwr htarget]
    · rw [hwr hline, hwr htarget]
    · rw [hwr hline, hwr htarget]
  · exact hwr harm

theorem State.pulseFrom_regs (a : Nat) (s : State) (n : Nat) : (State.pulseFrom a s n).regs = s.regs := by
  unfold State.pulseFrom
  split_ifs <;> rfl

/-- A firing comparator leaves every field but its own and the event counters. -/
theorem State.rd_alarmFire (s : State) {a : Nat} {f : Field} (hf : f.key 0 ∉ alarmFireKeys a) (hevent : f.key 0 ∉ eventKeys) :
    (s.alarmFire a).rd f = s.rd f := by
  have hpulses (x : State) : ((List.range 8).foldl (State.pulseFrom a) x).rd f = x.rd f :=
    State.rdAt_of_regs (foldl_frame (State.pulseFrom_regs a) _ x) f 0
  have hrepeat (x : State) := x.rd_alarmRepeat hf
  simp only [alarmFireKeys, List.mem_cons, List.not_mem_nil, or_false, not_or] at hf
  obtain ⟨hfired, hcount, hpast, hdisc, -, -, -⟩ := hf
  have hwr {x : State} {g : Field} {v : Nat} (h : f.key 0 ≠ g.key a) : (x.wrAt g a v).rd f = x.rd f :=
    x.rdAt_wrAt_other g f a 0 v h
  unfold State.alarmFire
  extract_lets past disc s1 s2 s3 s4 s5
  have h1 : s1.rd f = s.rd f := (hwr hcount).trans (hwr hfired)
  have h2 : s2.rd f = s.rd f := by
    unfold s2
    split_ifs
    · exact (hwr hpast).trans h1
    · exact h1
  have h3 : s3.rd f = s.rd f := by
    unfold s3
    split_ifs
    · exact (hwr hdisc).trans h2
    · exact h2
  have h4 : s4.rd f = s.rd f := by
    unfold s4
    split_ifs
    · exact (State.rd_post _ _ _ _ _ f hevent).trans h3
    · exact h3
  exact (hrepeat s5).trans ((hpulses s4).trans h4)

/-- The host may write comparator 24 and those from 27 on. -/
theorem hostAlarm_iff (a : Nat) : hostAlarm a = true ↔ a = 24 ∨ 27 ≤ a := by simp [hostAlarm]

/-- A host write of one of the host's comparators. -/
theorem exec_alarmArm_host {a : Nat} (ha : a = 24 ∨ 27 ≤ a ∧ a ≤ 31) (v : Nat) (s : State) : exec (.alarmArm a v) s =
    .next (if bitOf v 31 = 1 then (s.alarmFields a v).alarmArm a ((s.alarmFields a v).alarmPast a)
      else (s.alarmFields a v).wrAt ALM_CTRL_ARM a 0) := by
  have hrange : ¬ 31 < a := by omega
  have hhost : hostAlarm a = true := (hostAlarm_iff a).mpr (by omega)
  simp [exec, execAlarmArm, hrange, hhost]

/-- The condition under which a lane reference clock shows as present. -/
theorem exec_qrefclkPresenceChange {q : Nat} (hq : q < 32) (k : Nat) (s : State) : exec (.qrefclkPresenceChange q k) s =
    .next (s.wrAt LNE_Q_PRESENT q (flag (decide
      ((k - s.rdAt LNE_Q_REF_KHZ q + (s.rdAt LNE_Q_REF_KHZ q - k)) * 1000000 ≤ 100 * s.rdAt LNE_Q_REF_KHZ q)))) :=
  congrArg Host.Outcome.next (if_pos hq)

/-- Settles O25. -/
theorem pulsesAlarmsGrids : Obligations.PulsesAlarmsGrids := by
  refine ⟨?claims, ?owned, ?refused, ?off, ?pulse, ?noPulse, ?length, ?outside, ?arm, ?unarm, ?badTarget, ?fires, ?firesNoWake,
    ?notDue, ?gridOn, ?gridBad, ?gridStarts, ?gridStops, ?gridOff, ?present, ?absent⟩
  case claims =>
    intro n v s hn hen hload _ hfree
    simp [exec, execPulseEnable, Nat.not_lt.mpr hn, hen, hload, hfree]
  case owned =>
    intro n v s hn hen hload hclaimed howned
    simp [exec, execPulseEnable, Nat.not_lt.mpr hn, hen, hload, hclaimed, howned]
  case refused =>
    intro n v s hn hen h
    rcases h with hload | ⟨hclaimed, hother⟩
    · simp [exec, execPulseEnable, Nat.not_lt.mpr hn, hen, hload]
    · simp [exec, execPulseEnable, Nat.not_lt.mpr hn, hen, hclaimed, hother]
  case off => intro n v s hn hen; simp [exec, execPulseEnable, Nat.not_lt.mpr hn, hen]
  case pulse => exact fun n s hn hen howned hdue => congrArg Host.Outcome.next (if_pos ⟨hn, hen, howned, hdue⟩)
  case noPulse =>
    intro n s h
    refine congrArg Host.Outcome.next (if_neg ?_)
    rintro ⟨-, hen, howned, hdue⟩
    rcases h with h | h | h <;> simp_all
  case length =>
    intro n s
    unfold State.pulseLength
    dsimp only
    split_ifs
    · exact min_le_left _ _
    · exact le_rfl
    · exact min_le_left _ _
  case outside =>
    intro a v s ha
    have hrange : ¬ 31 < a := by omega
    have hhost : hostAlarm a = false := Bool.eq_false_iff.mpr (mt (hostAlarm_iff a).mp (by omega))
    simp [exec, execAlarmArm, hrange, hhost, State.alarmRefuse]
  case arm => intro a v s ha hv; rw [exec_alarmArm_host ha, if_pos hv]
  case unarm => intro a v s ha hv; rw [exec_alarmArm_host ha, if_neg (by omega)]
  case badTarget => exact fun a b s h => if_pos h
  case fires => intro a s ha h24 hdue; simp [exec, execAlarmFire, ha, h24, hdue]
  case firesNoWake =>
    intro s hdue hwake
    have hstill : State.isSet { s.alarmFire 24 with modes := { (s.alarmFire 24).modes with alarmAt := some s.now } }
        PWR_CTRL_ALARM_WAKE_EN = false := by
      have hkept : (s.alarmFire 24).rd PWR_CTRL_ALARM_WAKE_EN = s.rd PWR_CTRL_ALARM_WAKE_EN :=
        s.rd_alarmFire (by decide) (by decide)
      exact (congrArg (· == 1) hkept).trans hwake
    have hdue' : 24 < 32 ∧ s.alarmDue 24 = true := ⟨by decide, hdue⟩
    have hother : ¬ (24 ≠ 24) := by decide
    exact congrArg Host.Outcome.next ((if_pos hdue').trans ((if_neg hother).trans (if_neg (Bool.eq_false_iff.mp hstill))))
  case notDue => intro a s hdue; simp [exec, execAlarmFire, hdue]
  case gridOn => intro g v s hg hv hen; simp [exec, execGridEnable, State.gridCtrlWrite, hg, hv, hen]
  case gridBad => intro g v k s hg hv hen hlimit; simp [exec, execGridEnable, State.gridCtrlWrite, hg, hv, hen, hlimit]
  case gridStarts => intro g v s hg hv hen hlimit; simp [exec, execGridEnable, State.gridCtrlWrite, hg, hv, hen, hlimit]
  case gridStops => intro g v s hg hv hen; simp [exec, execGridDisable, State.gridCtrlWrite, hg, hv, hen]
  case gridOff => intro g v s hg hv hen; simp [exec, execGridDisable, State.gridCtrlWrite, hg, hv, hen]
  case present => intro q k s hq hnear; rw [exec_qrefclkPresenceChange hq, decide_eq_true hnear]; rfl
  case absent => intro q k s hq hfar; rw [exec_qrefclkPresenceChange hq, decide_eq_false (Nat.not_le.mpr hfar)]; rfl

end Sys2Proof.Machine

/-! The dance card engine (04): its banks, their swap, its actions. -/

namespace Sys2Proof.Machine

open Sys2Proof

theorem State.danceBank_setDanceBank (s : State) (b : Nat) (m : SMap Nat) : (s.setDanceBank b m).danceBank b = m := by
  unfold State.setDanceBank State.danceBank
  split_ifs <;> rfl

/-- A commit stores the entry's four words, whether or not some of them were staged. -/
theorem State.danceBank_danceCommit (s : State) (b e d : Nat) : (s.danceCommit b e d).danceBank b =
    SMap.store (s.danceBank b) 0 e (s.commitWord b e 0 + s.commitWord b e 1 * 2 ^ 32 + s.commitWord b e 2 * 2 ^ 64 +
      d % 2 ^ 32 * 2 ^ 96) := by
  unfold State.danceCommit
  extract_lets v s1
  have hstored : s1.danceBank b = SMap.store (s.danceBank b) 0 e v := s.danceBank_setDanceBank b _
  split_ifs
  · exact hstored
  · exact hstored

/-- Settles O26. -/
theorem danceBankWrites : Obligations.DanceBankWrites := by
  refine ⟨?refused, ?active, ?locked, ?staged, ?commit, ?commit64, ?otherEntries, ?entry, ?copy, ?noCopy, ?copyDone, ?copyRuns,
    ?view, ?viewPlain, ?enable, ?disable⟩
  case refused =>
    intro a d f s h
    simp [exec, execDncEntryWordStage, execDncEntryCommit, h]
  case active => exact fun s b h => if_pos h
  case locked => intro s b h hlock; simp [State.danceRefuse, h, hlock]
  case staged => intro a d s h hword; simp [exec, execDncEntryWordStage, h, hword]
  case commit => intro a d s h; simp [exec, execDncEntryCommit, h]
  case commit64 => intro a d s h; simp [exec, execDncEntryCommit, h]
  case otherEntries =>
    intro s b e j d hj
    rw [State.danceBank_danceCommit]
    exact SMap.read_store_other _ _ _ _ _ hj
  case entry =>
    intro s b e d
    rw [State.danceBank_danceCommit]
    exact SMap.read_store_same _ _ _ _
  case copy => intro s h; simp [exec, execDncCopy, h]
  case noCopy => intro s h; simp [exec, execDncCopy, h]
  case copyDone =>
    intro s n b h hend
    simp [exec, execDncCopyDone, h, Nat.not_lt.mpr hend]
  case copyRuns => intro s n b h hend; simp [exec, execDncCopyDone, h, hend]
  case view =>
    intro s n b c h hc
    unfold State.bankView
    rw [h]
    exact if_neg hc
  case viewPlain => intro s c h; simp [State.bankView, h]
  case enable =>
    intro v s h
    have hkeep : (s.isSet DNC_CTRL_EN && bitOf v 0 == 0) = false := by
      rcases h with h | h <;> simp [h]
    exact congrArg Host.Outcome.next (if_neg (ne_true_of_eq_false hkeep))
  case disable => intro v s hen hv; simp [exec, execDncEnable, hen, hv]

/-- What a refused swap shows. -/
theorem State.rd_swapRefuse (s : State) (e c : Nat) : (s.swapRefuse e c).rd DNC_SWAP_STAT_STATE = 3 ∧
    (s.swapRefuse e c).rd DNC_SWAP_STAT_ERR_ENTRY = e % 2 ^ DNC_SWAP_STAT_ERR_ENTRY.width ∧
    (s.swapRefuse e c).rd DNC_SWAP_STAT_ERR_CODE = c % 2 ^ DNC_SWAP_STAT_ERR_CODE.width := by
  unfold State.swapRefuse
  refine ⟨?_, ?_, ?_⟩
  · rw [State.rd_post _ _ _ _ _ _ (by decide), State.rd_wr_other _ _ _ _ (by decide), State.rd_wr_other _ _ _ _ (by decide),
      State.rd_wr_other _ _ _ _ (by decide), State.rd_wr_same]
    decide
  · rw [State.rd_post _ _ _ _ _ _ (by decide), State.rd_wr_other _ _ _ _ (by decide), State.rd_wr_same]
  · rw [State.rd_post _ _ _ _ _ _ (by decide), State.rd_wr_same]

/-- Settles O27. -/
theorem danceSwap : Obligations.DanceSwap := by
  refine ⟨?arm, ?cancelBit, ?armIgnored, ?bad, ?entry, ?past, ?armed, ?cancel, ?noCancel, ?refused, ?swap, ?noSwap, ?due, ?notDue⟩
  case arm => intro v s hcancel harm hchecking harmed; simp [exec, execDncSwapArm, hcancel, harm, hchecking, harmed]
  case cancelBit => exact fun v s h => congrArg Host.Outcome.next (if_pos h)
  case armIgnored =>
    intro v s hcancel h
    have hno : ¬ bitOf v 1 = 1 := by omega
    exact congrArg Host.Outcome.next ((if_neg hno).trans (if_pos h))
  case bad => intro s h hbad; simp [exec, execDncSwapCheckDone, h, hbad]
  case entry => intro s e c h hbad herr; simp [exec, execDncSwapCheckDone, h, hbad, herr]
  case past => intro s h hbad herr hpast; simp [exec, execDncSwapCheckDone, h, hbad, herr, hpast]
  case armed => intro s h hbad herr hpast; simp [exec, execDncSwapCheckDone, h, hbad, herr, hpast]
  case cancel => exact fun s h => congrArg Host.Outcome.next (if_pos h)
  case noCancel => exact fun s h1 h2 => congrArg Host.Outcome.next (if_neg (not_or.mpr ⟨h1, h2⟩))
  case refused => exact State.rd_swapRefuse
  case swap => exact fun s h => congrArg Host.Outcome.next (if_pos h)
  case noSwap => exact fun s h => congrArg Host.Outcome.next (if_neg (ne_true_of_eq_false h))
  case due =>
    intro s hrun honce
    have hdue : (s.danceRunning && s.dance.dueDone != some s.now) = true := by simp [hrun, honce]
    exact ⟨_, congrArg Host.Outcome.next (if_pos hdue), rfl, rfl, rfl⟩
  case notDue =>
    intro s h
    refine congrArg Host.Outcome.next (if_neg ?_)
    rcases h with h | h <;> simp [h]

/-- An action next in the queue acts on the state from which it has been taken. -/
theorem State.runAction_of_next {s t : State} {code : Nat} {q : QueuedAction} {body : QueuedAction → State → State}
    (h : s.nextAction code = some q) (ht : body q (s.actionTaken q) = t) :
    (Host.Outcome.next (s.runAction code body) : Result) = .next t :=
  congrArg _ ((State.runAction_next h body).trans ht)

/-- Once four actions have executed in a tick, none is next. -/
theorem State.nextAction_of_four {s : State} (code : Nat) (h : 4 ≤ s.executedNow) : s.nextAction code = none := by
  unfold State.nextAction
  split
  · rfl
  · simp [Nat.not_lt.mpr h]

/-- Settles O28. -/
theorem danceActions : Obligations.DanceActions := by
  refine ⟨?turn, ?park, ?unpark, ?capture, ?captureRefused, ?window, ?deadline, ?release, ?noRelease, ?gpioSet, ?gpioClear,
    ?pulse, ?noPulse, ?event, ?alarm, ?fence, ?noAction, ?four, ?logWrite, ?pulseEnd, ?pulseRuns⟩
  case turn => exact fun s q h => State.runAction_of_next h rfl
  case park => exact fun s q h => State.runAction_of_next h rfl
  case unpark => exact fun s q h => State.runAction_of_next h rfl
  case capture => exact fun s q h hcap => State.runAction_of_next h (by simp only [hcap])
  case captureRefused => exact fun s q k h hcap => State.runAction_of_next h (by simp only [hcap])
  case window => exact fun s q h => State.runAction_of_next h rfl
  case deadline => exact fun s q h => State.runAction_of_next h rfl
  case release => exact fun s q h hen => State.runAction_of_next h (if_pos hen)
  case noRelease => exact fun s q h hen => State.runAction_of_next h (if_neg (ne_true_of_eq_false hen))
  case gpioSet => exact fun s q h => State.runAction_of_next h rfl
  case gpioClear => exact fun s q h => State.runAction_of_next h rfl
  case pulse => exact fun s q h hland => State.runAction_of_next h (if_pos hland)
  case noPulse => exact fun s q h hland => State.runAction_of_next h (if_neg (ne_true_of_eq_false hland))
  case event => exact fun s q h => State.runAction_of_next h rfl
  case alarm => exact fun s q h => State.runAction_of_next h rfl
  case fence => exact fun s q h => State.runAction_of_next h rfl
  case noAction => exact fun s code body h => State.runAction_none h body
  case four => exact fun s code h => State.nextAction_of_four code h
  case logWrite => intro s r rest h; simp [exec, execDncLogWrite, h]
  case pulseEnd => intro l p s h hend; simp [exec, execGpioPulseEnd, h, Nat.not_lt.mpr hend]
  case pulseRuns => intro l p s h hend; simp [exec, execGpioPulseEnd, h, hend]

end Sys2Proof.Machine

/-! The store's patrol, buffers and initialisation, and a unit's relocation (05 R126 to R142; 18 R483). -/

namespace Sys2Proof.Machine

open Sys2Proof

theorem State.rdAt_bufEffect (s : State) (b : Nat) : (s.bufEffect b).rdAt STR_BUF_VALID b = 1 :=
  (State.rdAt_wrAt_same _ _ _ _).trans (by decide)

theorem State.rdAt_bufRemove (s : State) (b len : Nat) : (s.bufRemove b len).rdAt STR_BUF_VALID b = 0 := by
  unfold State.bufRemove
  rw [State.rdAt_wrAt_other _ _ _ _ _ _ (by simp [Field.key, STR_BUF_VALID, STR_BUF_LEN]), State.rdAt_wrAt_same]
  decide

/-- With no unit of the store lost, no slot of a buffer lies on a lost unit. -/
theorem State.lostInBuffer_of_none {s : State} {b : Nat} (h : s.lostUnits (inFar (s.bufFirst b)) = 0) : s.lostInBuffer b = [] :=
  if_pos h

/-- A buffer in no other's hands is defined by BASE and LEN as written. -/
theorem exec_bufferDefine_of_free {b v : Nat} {s : State} (hb : b < 256) (hv : bitOf v 31 = 1)
    (hclaim : s.rdBit CFG_CLAIM_BUF b = false) : exec (.bufferDefine b v) s = .next (s.bufDefine b (v % 2 ^ 26)) := by
  simp [exec, execBufferDefine, State.bufLenWrite, State.bufGuarded, hb, hv, hclaim]

/-- While the moves of a retired unit have room, no best-effort ticket is discarded for them. -/
theorem State.discardFor_of_room {s : State} {far : Bool} {u : Nat} (h : s.relocationShort far u = 0) (l : List Nat) :
    s.discardFor far u l = (0, s) := by
  cases l with
  | nil => rfl
  | cons i r => exact if_pos h

/-- Settles O30. -/
theorem patrolBuffersRelocation : Obligations.PatrolBuffersRelocation := by
  refine ⟨?patrol, ?passEnds, ?patrolOff, ?late, ?notLate, ?defined, ?pending, ?defineRefused, ?valid, ?effect, ?removed,
    ?claimed, ?effective, ?notPending, ?nearInit, ?farInit, ?noRails, ?noRelocation, ?relocated⟩
  case patrol =>
    intro x s hen hserves hn
    have hnext : (s.isSet STR_CTRL_PATROL_EN && s.storeServes (s.patrolPos false)) = true := by simp [State.patrolPos, hen, hserves]
    exact congrArg Host.Outcome.next ((if_pos hnext).trans (if_pos hn))
  case passEnds =>
    intro x s hen hserves hn
    have hnext : (s.isSet STR_CTRL_PATROL_EN && s.storeServes (s.patrolPos true)) = true := by simp [State.patrolPos, hen, hserves]
    exact congrArg Host.Outcome.next ((if_pos hnext).trans (if_neg (Nat.not_lt.mpr hn)))
  case patrolOff => intro far x s h; simp [exec, execPatrolRead, h]
  case late => intro far s hen hend; simp [exec, execPatrolPeriodElapsed, hen, Nat.not_lt.mpr hend]
  case notLate =>
    intro far s h
    rcases h with h | h
    · exact congrArg Host.Outcome.next (if_pos h)
    · simp [exec, execPatrolPeriodElapsed, h]
  case defined =>
    intro b v s hb hv hclaim hfree hgood hslots
    rw [exec_bufferDefine_of_free hb hv hclaim]
    generalize v % 2 ^ 26 = len at *
    simp [State.bufDefine, hfree, hgood, hslots]
  case pending =>
    intro b v s hb hv hclaim hfree hgood hslots
    rw [exec_bufferDefine_of_free hb hv hclaim]
    generalize v % 2 ^ 26 = len at *
    simp [State.bufDefine, hfree, hgood, hslots]
  case defineRefused =>
    intro b v n s hb hv hclaim hfree hbad
    rw [exec_bufferDefine_of_free hb hv hclaim]
    generalize v % 2 ^ 26 = len at *
    simp [State.bufDefine, hfree, hbad]
  case valid => exact fun b s => s.rdAt_bufEffect b
  case effect =>
    intro b s h
    unfold State.bufEffect
    rw [State.lostInBuffer_of_none h]
  case removed =>
    intro b v s hb hv hclaim
    exact ⟨by simp [exec, execBufferRemove, State.bufLenWrite, State.bufGuarded, hb, hv, hclaim], s.rdAt_bufRemove b _⟩
  case claimed =>
    intro b v s hb hv hclaim
    simp [exec, execBufferRemove, State.bufLenWrite, State.bufGuarded, hb, hv, hclaim]
  case effective =>
    intro b f s h
    exact congrArg Host.Outcome.next (if_pos (List.contains_iff_mem.mpr h))
  case notPending => exact fun b f s h => congrArg Host.Outcome.next (if_neg (mt List.contains_iff_mem.mp h))
  case nearInit => intro s hgood hinit; simp [exec, execStoreInitDone, hgood, hinit]
  case farInit => intro s hgood hinit; simp [exec, execStoreInitDone, hgood, hinit]
  case noRails => intro far s h; simp [exec, execStoreInitDone, h]
  case noRelocation => exact fun far u f s h => congrArg Host.Outcome.next (if_neg (mt List.contains_iff_mem.mp h))
  case relocated =>
    intro u f s h hroom
    refine congrArg Host.Outcome.next ((if_pos (List.contains_iff_mem.mpr h)).trans ?_)
    rw [State.discardFor_of_room hroom]
    rfl

end Sys2Proof.Machine

/-! Admission, tickets and rechecks (06). -/

namespace Sys2Proof.Machine

open Sys2Proof

/-- A row that takes its command and ends it. -/
theorem State.runCmd_of {s t : State} {id op : Nat} {r : List Nat} {c : Completion}
    {body : List Nat → State → Completion × State} (h : s.Takes id op r) (hbody : body r s = (c, t)) :
    (Host.Outcome.next (s.runCmd id op body) : Result) = .next (t.complete id c) := by
  rw [State.runCmd_takes h, hbody]

/-- A row that takes its command and ends it at once. -/
theorem State.startCmd_of_end {s t : State} {id op : Nat} {r : List Nat} {c : Completion}
    {body : List Nat → State → Option Completion × State} (h : s.Takes id op r) (hbody : body r s = (some c, t)) :
    (Host.Outcome.next (s.startCmd id op body) : Result) = .next (t.complete id c) := by
  rw [State.startCmd_ends h (congrArg Prod.fst hbody), hbody]

/-- A row that takes its command, which goes on after it. -/
theorem State.startCmd_of_begin {s t : State} {id op : Nat} {r : List Nat}
    {body : List Nat → State → Option Completion × State} (h : s.Takes id op r) (hbody : body r s = (none, t)) :
    (Host.Outcome.next (s.startCmd id op body) : Result) = .next (t.begin id) := by
  rw [State.startCmd_goes_on h (congrArg Prod.fst hbody), hbody]

/-- An ADMIT's parameters are good exactly in their ranges. -/
theorem admitBadParam_eq_none_iff (r : List Nat) : admitBadParam r = none ↔ bitsOf (recField r 10 2) 5 4 ≠ 3 ∧
    1 ≤ recField r 12 4 ∧ recField r 12 4 ≤ 16777215 ∧ 1000 ≤ recField r 16 4 ∧ 1 ≤ recField r 20 4 ∧
    recField r 20 4 ≤ 196608 := by
  unfold admitBadParam
  split_ifs with hunit hrate hdeadline hquota
  · simp [hunit]
  · exact iff_of_false (by simp) (by omega)
  · exact iff_of_false (by simp) (by omega)
  · exact iff_of_false (by simp) (by omega)
  · exact iff_of_true rfl ⟨hunit, by omega⟩

theorem State.contract_setContract (s : State) (f : Nat) (c : Contract) : (s.setContract f c).contract f = some c :=
  SMap.find_put_same _ _ _

/-- An admitted contract stands at once; the tickets of the tick follow the one before it. -/
theorem State.contractTakes_contracts (s : State) (f : Nat) (c : Contract) : (s.contractTakes f c).contract f = some c ∧
    (s.contractTakes f c).ticketContract f = s.ticketContract f := by
  refine ⟨s.contract_setContract f c, ?_⟩
  have hdecided : SMap.find (s.contractTakes f c).adm.decidedAt f = some (s.contractTakes f c).now := SMap.find_put_same _ _ _
  have hbefore : SMap.find (s.contractTakes f c).adm.before f = s.ticketContract f := by
    unfold State.contractTakes
    dsimp only
    cases s.ticketContract f with
    | some o => exact SMap.find_put_same _ _ _
    | none => exact SMap.find_erase_same _ _
  exact (if_pos hdecided).trans hbefore

/-- Settles O31. -/
theorem admissionCommands : Obligations.AdmissionCommands := by
  refine ⟨?notRunning, ?badParam, ?asked, ?ranges, ?unit, ?halted, ?fails, ?passes, ?refused, ?trial, ?takes, ?waits,
    ?noContract, ?withdraw, ?ends, ?nothing, ?query, ?queryNone⟩
  case notRunning => exact fun id r s h hrun => State.startCmd_of_end h (by simp [hrun]; rfl)
  case badParam => exact fun id b r s h hrun hbad => State.startCmd_of_end h (by simp [hrun, hbad]; rfl)
  case asked => exact fun id r s h hrun hgood => State.startCmd_of_begin h (by simp [hrun, hgood])
  case ranges => exact admitBadParam_eq_none_iff
  case unit => exact fun r h => if_pos h
  case halted =>
    intro q rest s hq hchecks hmode
    simp [exec, execAdmissionCheckDone, hq, hchecks, hmode]
    rfl
  case fails =>
    intro q rest x s hq hchecks hhalted hpromenade hcheck
    simp [exec, execAdmissionCheckDone, hq, hchecks, hhalted, hpromenade, hcheck]
  case passes =>
    intro q rest s hq hchecks hhalted hpromenade hcheck
    simp [exec, execAdmissionCheckDone, hq, hchecks, hhalted, hpromenade, hcheck]
  case refused => intro q x s h; simp [State.admitRefused, h]
  case trial => exact fun q c s h => if_pos h
  case takes => exact fun f c s => s.contractTakes_contracts f c
  case waits =>
    intro s h
    rcases h with h | h
    · simp [exec, execAdmissionCheckDone, h]
    · cases hq : s.adm.requests <;> simp [exec, execAdmissionCheckDone, hq, h]
  case noContract =>
    exact fun id r s h hf hc => State.startCmd_of_end h (by simp [Nat.not_lt.mpr hf, hc])
  case withdraw =>
    exact fun id r c s h hf hc hstate => State.startCmd_of_begin h (by simp [Nat.not_lt.mpr hf, hc, hstate, State.withdraw])
  case ends => intro f c s hc hstate hheld; simp [exec, execWithdrawDone, hc, hstate, hheld, State.withdrawEnds]
  case nothing => intro f s hc; simp [exec, execWithdrawDone, hc]
  case query => exact fun id r c s h hf hc => State.runCmd_of h (by simp [Nat.not_lt.mpr hf, hc]; rfl)
  case queryNone => exact fun id r s h hf hc => State.runCmd_of h (by simp [Nat.not_lt.mpr hf, hc]; rfl)

/-- A ticket handed over before its deadline counts nothing. -/
theorem State.deliverTicket_on_time {s : State} {i : Nat} {t : Ticket} (h : SMap.find s.adm.tickets i = some t)
    (hearly : s.now < t.deadline) : s.deliverTicket i = (s.keepHold t).releaseTicket i := by
  simp [State.deliverTicket, h, Nat.not_lt.mpr hearly.le, hearly.ne']

/-- Settles O32. -/
theorem ticketsAndRechecks : Obligations.TicketsAndRechecks := by
  refine ⟨?create, ?contracted, ?stalled, ?noCreate, ?delivered, ?onTime, ?notDelivered, ?late, ?notLate, ?recheck, ?noRecheck⟩
  case create => exact fun f n s hen hn => congrArg Host.Outcome.next (if_pos ⟨hen, hn⟩)
  case contracted =>
    intro t c s hmode hc hstate hquota hrate hslots
    simp [State.createTicket, hmode, hc, hstate, Nat.not_le.mpr hquota, Nat.not_le.mpr hrate, Nat.not_lt.mpr hslots]
  case stalled => intro t c s hmode hc hstate hquota; simp [State.createTicket, hmode, hc, hstate, hquota]
  case noCreate =>
    intro f n s h
    refine congrArg Host.Outcome.next (if_neg ?_)
    rintro ⟨hen, hn⟩
    rcases h with h | h
    · exact Bool.false_ne_true (h.symm.trans hen)
    · omega
  case delivered => intro i t s h hclosed; simp [exec, execTicketDelivered, h, hclosed]
  case onTime => exact fun i t s h hearly => State.deliverTicket_on_time h hearly
  case notDelivered => intro i t s h hclosed; simp [exec, execTicketDelivered, h, hclosed]
  case late => intro i t c s h hc hdiscard hhanded hdue; simp [exec, execTicketDeadline, h, hc, hdiscard, hhanded, hdue]
  case notLate =>
    intro i t c s h hc hnot
    rcases hnot with hnot | hnot | hnot
    · simp [exec, execTicketDeadline, h, hc, hnot]
    · simp [exec, execTicketDeadline, h, hc, hnot]
    · simp [exec, execTicketDeadline, h, hc, Nat.not_lt.mpr hnot]
  case recheck => intro r rest s h; simp only [exec, execRecheckDone, h]
  case noRecheck => intro s h; simp [exec, execRecheckDone, h]

end Sys2Proof.Machine

/-! Flow tables and commands, ingress, egress (07). -/

namespace Sys2Proof.Machine

open Sys2Proof

/-- A host write of word `n` of flow table entry `f`. -/
theorem exec_flowTableWrite {f n : Nat} (hf : f < 16384) (hn : n < 16) (v : Nat) (s : State) :
    exec (.flowTableWrite (0xC00000 + 64 * f + 4 * n) v) s = .next (s.flowTableWrite f n v) := by
  have hrange : 0xC00000 ≤ 0xC00000 + 64 * f + 4 * n ∧ 0xC00000 + 64 * f + 4 * n < 0xD00000 := by omega
  have hentry : (0xC00000 + 64 * f + 4 * n - 0xC00000) / 4 / 16 = f := by omega
  have hword : (0xC00000 + 64 * f + 4 * n - 0xC00000) / 4 % 16 = n := by omega
  simp only [exec, execFlowTableWrite, if_pos hrange, hentry, hword]

/-- A host write of word `n` of pair record `p`. -/
theorem exec_pairRecordWrite {p n : Nat} (hp : p < 256) (hn : n < 16) (v : Nat) (s : State) :
    exec (.pairRecordWrite (0x390000 + 64 * p + 4 * n) v) s = .next (s.pairRecordWrite p n v) := by
  have hrange : 0x390000 ≤ 0x390000 + 64 * p + 4 * n ∧ 0x390000 + 64 * p + 4 * n < 0x394000 := by omega
  have hrecord : (0x390000 + 64 * p + 4 * n - 0x390000) / 4 / 16 = p := by omega
  have hword : (0x390000 + 64 * p + 4 * n - 0x390000) / 4 % 16 = n := by omega
  simp only [exec, execPairRecordWrite, if_pos hrange, hrecord, hword]

theorem State.flowWord_setFlowWord_same (s : State) (f n v : Nat) : (s.setFlowWord f n v).flowWord f n = v % 2 ^ 32 :=
  SMap.read_store_same _ _ _ _

theorem State.flowWord_setFlowWord_other (s : State) (f n g m v : Nat) (h : 16 * g + m ≠ 16 * f + n) :
    (s.setFlowWord f n v).flowWord g m = s.flowWord g m :=
  SMap.read_store_other _ _ _ _ _ h

/-- INJECT takes its command while its lane holds no frame. -/
theorem exec_inject_of_free {s : State} {id : Nat} {r : List Nat} (h : s.Takes id 0x4004 r)
    (hfree : SMap.find s.flows.inject (recByte r 12) = none) : exec (.inject id) s = .next (s.runCmd id 0x4004 fun r s =>
      if recField r 10 2 < 60 ∨ 1514 < recField r 10 2 then (.badParam 10, s)
      else if !s.injectLane (recByte r 12) then (⟨0x59, 0, 0⟩, s)
      else if s.rd FLW_INJ_TOKENS = 0 then (⟨0x58, 0, 0⟩, s.incSat FLW_INJ_REFUSE_CNT)
      else (.ok, ({ s with flows := { s.flows with
        inject := SMap.put s.flows.inject (recByte r 12) (s.hostRead (recField r 16 8) (recField r 10 2)) } }).wr
        FLW_INJ_TOKENS (s.rd FLW_INJ_TOKENS - 1))) := by
  obtain ⟨_, _, rfl⟩ := h
  simp only [exec, execInject, hfree, Option.isSome_none, Bool.false_eq_true, if_false]

/-- Settles O33. -/
theorem flowCommands : Obligations.FlowCommands := by
  refine ⟨?word, ?word0, ?entryLocked, ?pair, ?pairLocked, ?enableBad, ?enableRefused, ?enable, ?disabled, ?fed, ?stop,
    ?withdraw, ?ends, ?notEnds, ?stats, ?statsClear, ?injectWaits, ?injectLength, ?injectLane, ?inject, ?noToken, ?table⟩
  case word =>
    intro f n v s hf hn1 hn hen
    rw [exec_flowTableWrite hf hn]
    simp [State.flowTableWrite, hen, Nat.ne_of_gt hn1]
  case word0 =>
    intro f v s hf hen
    refine (exec_flowTableWrite (n := 0) hf (by decide) v s).trans ?_
    simp [State.flowTableWrite, hen]
  case entryLocked =>
    intro f n v s hf hn hen
    rw [exec_flowTableWrite hf hn]
    simp [State.flowTableWrite, hen]
  case pair =>
    intro p n v s hp hn hvalid
    rw [exec_pairRecordWrite hp hn]
    simp [State.pairRecordWrite, hvalid]
  case pairLocked =>
    intro p n v s hp hn hvalid hen hpair
    rw [exec_pairRecordWrite hp hn]
    simp [State.pairRecordWrite, hvalid, hen, hpair]
  case enableBad => exact fun id r s h hf => State.runCmd_of h (by simp [hf, Completion.badParam])
  case enableRefused => exact fun id x r s h hf hbad => State.runCmd_of h (by simp [Nat.not_lt.mpr hf, hbad])
  case enable => exact fun id r s h hf hgood hpair => State.runCmd_of h (by simp [Nat.not_lt.mpr hf, hgood, hpair, Completion.ok])
  case disabled => exact fun id r s h hf hen => State.startCmd_of_end h (by simp [Nat.not_lt.mpr hf, hen, Completion.ok])
  case fed => exact fun id r s h hf hen hfed => State.startCmd_of_end h (by simp [Nat.not_lt.mpr hf, hen, hfed])
  case stop => exact fun id r s h hf hen hfed hc => State.startCmd_of_begin h (by simp [Nat.not_lt.mpr hf, hen, hfed, hc])
  case withdraw =>
    exact fun id r c s h hf hen hfed hc hstate =>
      State.startCmd_of_begin h (by simp [Nat.not_lt.mpr hf, hen, hfed, hc, hstate])
  case ends => intro f s hwait hbusy; simp [exec, execFlowDisableDone, hwait, hbusy]
  case notEnds =>
    intro f s h
    rcases h with h | h
    · simp [exec, execFlowDisableDone, h]
    · simp [exec, execFlowDisableDone, h]
  case stats =>
    intro id r s h hf hkeep
    have hno : ¬ (recByte r 10 % 2 = 1 ∧ s.flowEn (recField r 8 2) = true) := by
      rintro ⟨hclear, hen⟩
      rcases hkeep with hkeep | hkeep
      · omega
      · exact Bool.false_ne_true (hkeep.symm.trans hen)
    exact State.runCmd_of h (by simp only [if_neg (Nat.not_lt.mpr hf), if_neg hno]; rfl)
  case statsClear =>
    exact fun id r s h hf hclear hen => State.runCmd_of h (by simp [Nat.not_lt.mpr hf, hclear, hen, Completion.ok])
  case injectWaits => exact fun id s h => congrArg Host.Outcome.next (if_pos h)
  case injectLength =>
    intro id r s h hfree hlength
    rw [exec_inject_of_free h hfree]
    exact State.runCmd_of h (by simp only [if_pos hlength]; rfl)
  case injectLane =>
    intro id r s h hfree hmin hmax hlane
    rw [exec_inject_of_free h hfree]
    exact State.runCmd_of h (by simp [Nat.not_lt.mpr hmin, Nat.not_lt.mpr hmax, hlane])
  case inject =>
    intro id r s h hfree hmin hmax hlane htoken
    rw [exec_inject_of_free h hfree]
    exact State.runCmd_of h (by simp [Nat.not_lt.mpr hmin, Nat.not_lt.mpr hmax, hlane, htoken, Completion.ok])
  case noToken =>
    intro id r s h hfree hmin hmax hlane htoken
    rw [exec_inject_of_free h hfree]
    exact State.runCmd_of h (by simp [Nat.not_lt.mpr hmin, Nat.not_lt.mpr hmax, hlane, htoken])
  case table => exact fun s f n g m v => ⟨s.flowWord_setFlowWord_same f n v, s.flowWord_setFlowWord_other f n g m v⟩

/-- A frame on a lane that receives Ethernet. -/
theorem exec_ingressFrame_of_up {n : Nat} {s : State} (hn : n < 128) (hup : s.rdAt LNE_LN_STATUS_STATE n = 2)
    (hproto : s.rdAt LNE_LN_CTRL_PROTO n = 1) (x : Frame) : exec (.ingressFrame n x) s = .next (s.receiveFrame n x) :=
  congrArg Host.Outcome.next (if_pos ⟨hn, hup, hproto⟩)

/-- A frame that fails no check passes the first ones. -/
theorem early_of_not_badFrame {x : Frame} (h : badFrame x = false) :
    (!x.fcsOk || decide (9216 < x.length) || x.isMacControl) = false := by
  unfold badFrame at h
  simp only [Bool.or_eq_false_iff] at h ⊢
  exact h.1.1.1.1

/-- Settles O34. -/
theorem flowIngress : Obligations.FlowIngress := by
  refine ⟨?down, ?early, ?ptp, ?bad, ?unmatched, ?passed, ?merged, ?injected, ?notInjected, ?token, ?noToken, ?skew, ?noSkew,
    ?noneHeld, ?lossA, ?lossB, ?noLoss, ?sdiOff, ?sdiUnlocked, ?sdiLine, ?anc⟩
  case down =>
    intro n x s h
    refine congrArg Host.Outcome.next (if_neg ?_)
    rintro ⟨-, hup, hproto⟩
    rcases h with h | h
    · exact h hup
    · exact h hproto
  case early =>
    intro n x s hn hup hproto hbad
    rw [exec_ingressFrame_of_up hn hup hproto]
    have hearly : (!x.fcsOk || decide (9216 < x.length) || x.isMacControl) = true := by
      rcases hbad with h | h | h <;> simp [h]
    exact congrArg Host.Outcome.next (if_pos hearly)
  case ptp =>
    intro n x s hn hup hproto hgood hptp hlane
    rw [exec_ingressFrame_of_up hn hup hproto]
    simp only [State.receiveFrame, early_of_not_badFrame hgood, hptp, hlane, Bool.and_self, Bool.false_eq_true, if_false, if_true]
  case bad =>
    intro n x s hn hup hproto hbad hptp
    rw [exec_ingressFrame_of_up hn hup hproto]
    simp only [State.receiveFrame, hbad, hptp, Bool.false_and, Bool.false_eq_true, if_false, if_true, ite_self]
  case unmatched =>
    intro n x s hn hup hproto hgood hptp hmatch
    rw [exec_ingressFrame_of_up hn hup hproto]
    simp only [State.receiveFrame, early_of_not_badFrame hgood, hgood, hptp, Bool.false_and, Bool.false_eq_true, if_false,
      hmatch]
  case passed =>
    intro n f x s hn hup hproto hgood hptp hmatch hpair
    rw [exec_ingressFrame_of_up hn hup hproto]
    simp only [State.receiveFrame, early_of_not_badFrame hgood, hgood, hptp, Bool.false_and, Bool.false_eq_true, if_false,
      hmatch, hpair]
  case merged =>
    intro n f p x s hn hup hproto hgood hptp hmatch hpair hrecord
    rw [exec_ingressFrame_of_up hn hup hproto]
    simp only [State.receiveFrame, early_of_not_badFrame hgood, hgood, hptp, Bool.false_and, Bool.false_eq_true, if_false,
      hmatch, hpair, hrecord, if_true]
  case injected =>
    intro n x s h hup hfree hfirst hpaced
    simp [exec, execInjectFrameSend, h, hup, hfree, hfirst, hpaced]
  case notInjected =>
    intro n s h
    cases hframe : SMap.find s.flows.inject n with
    | none => simp [exec, execInjectFrameSend, hframe]
    | some x =>
      have hno : ¬ (s.rdAt LNE_LN_STATUS_STATE n = 2 ∧ s.laneFree n ∧ (s.laneFirst n).isNone ∧ !s.pacedDue n) := by
        rintro ⟨hup, hfree, hfirst, hpaced⟩
        rcases h with h | h | h | h | h <;> simp_all
      simp only [exec, execInjectFrameSend, hframe, if_neg hno]
  case token => exact fun s h => congrArg Host.Outcome.next (if_neg (Nat.not_lt.mpr h))
  case noToken => exact fun s h => congrArg Host.Outcome.next (if_pos h)
  case skew => intro p h rest s hheld hend; simp [exec, execMergeSkewExpiry, hheld, Nat.not_lt.mpr hend]
  case noSkew => intro p h rest s hheld hend; simp [exec, execMergeSkewExpiry, hheld, hend]
  case noneHeld => intro p s hheld; simp [exec, execMergeSkewExpiry, hheld]
  case lossA => intro p s hup hend; simp [exec, execPathLossTimeout, hup, hend, flag]
  case lossB => intro p s hup hend; simp [exec, execPathLossTimeout, hup, hend, flag]
  case noLoss =>
    intro p s h
    rcases h with h | h
    · simp [exec, execPathLossTimeout, h]
    · simp [exec, execPathLossTimeout, Nat.not_lt.mpr h]
  case sdiOff => intro f l s h; simp [exec, execSdiLine, h]
  case sdiUnlocked =>
    intro f l s hen hegress hkind hstart hup hanc hcrc hlock
    simp [exec, execSdiLine, hen, hegress, hkind, hstart, hup, hanc, protoOf, State.lineReceived, State.tellsLines, hcrc, hlock]
    split <;> rfl
  case sdiLine =>
    intro f k l s hen hegress hkind hstart hup hanc hcrc hindex hdisabling hlock
    simp [exec, execSdiLine, hen, hegress, hkind, hstart, hup, hanc, protoOf, State.lineReceived, State.tellsLines, hcrc, hlock,
      hindex, hdisabling]
  case anc =>
    intro f l a s hen hegress hkind hstart hup hanc hdisabling hlock
    simp [exec, execSdiLine, hen, hegress, hkind, hstart, hup, hanc, protoOf, hlock, hdisabling]

/-- Settles O35. -/
theorem flowEgress : Obligations.FlowEgress := by
  refine ⟨?subst, ?noSubst, ?sent, ?waits, ?pacing, ?paced, ?notUp, ?down, ?sdiNot, ?sdiActive, ?sdiLate, ?sdiBlank⟩
  case subst => intro f s hin hnew; simp [exec, execSubstituteTicketCreate, hin, hnew]
  case noSubst =>
    intro f s h
    rcases h with h | h
    · simp [exec, execSubstituteTicketCreate, h]
    · simp [exec, execSubstituteTicketCreate, h]
  case sent => intro g i t d s hup ht hready hpace hturn; simp [exec, execEgressPacketSend, hup, ht, hready, hpace, hturn]
  case waits =>
    intro g i t d s hup ht h
    rcases h with h | ⟨hpace, hturn⟩
    · simp [exec, execEgressPacketSend, hup, ht, h]
    · simp [exec, execEgressPacketSend, hup, ht, hpace, hturn]
  case pacing =>
    intro g i t d s hup ht hready hpace start s1 hearly
    simp only [exec, execEgressPacketSend, hup, ht, hready, hpace, Bool.not_true, Bool.false_eq_true, if_false, if_true]
    exact congrArg Host.Outcome.next (if_pos hearly)
  case paced =>
    intro g i t d s hup ht hready hpace start s1 hdue
    simp only [exec, execEgressPacketSend, hup, ht, hready, hpace, Bool.not_true, Bool.false_eq_true, if_false, if_true]
    exact congrArg Host.Outcome.next (if_neg (not_lt.mpr hdue))
  case notUp =>
    intro g d s h
    rcases h with h | h
    · simp [exec, execEgressPacketSend, h]
    · cases hup : s.egressUp g <;> simp [exec, execEgressPacketSend, hup, h]
  case down =>
    intro g s h
    unfold State.egressUp State.enabledEgressNow
    rcases h with h | h | h | h
    · simp [h]
    · simp [h]
    · simp [h]
    · have hnone : (s.flowLanes g).any (s.carries g) = false := List.any_eq_false.mpr fun n hn => by simp [h n hn]
      simp [hnone]
  case sdiNot =>
    intro g d s h
    rcases h with h | h | h | h <;> simp [exec, execEgressSdiLine, h]
  case sdiActive =>
    intro g k d s hen hkind hup hline hindex hanc
    simp [exec, execEgressSdiLine, hen, hkind, hup, hline, hindex, hanc, State.sendAncs]
  case sdiLate =>
    intro g d s hlate hnone
    simp [State.takeLine, State.dropLateLines, hlate, hnone]
  case sdiBlank =>
    intro g d s hen hkind hup hline hindex hanc
    simp [exec, execEgressSdiLine, hen, hkind, hup, hline, hindex, hanc, State.sendAncs]

end Sys2Proof.Machine

/-! Lanes, bonds, lands (08), and the fabric's clocks (09). -/

namespace Sys2Proof.Machine

open Sys2Proof

/-- Noting what a lane's registers hold changes none. -/
theorem State.noteLane_regs (s : State) (n : Nat) : (s.noteLane n).regs = s.regs := by
  unfold State.noteLane
  split
  · split_ifs <;> rfl
  · rfl

/-- A lane that is neither UP nor the promenade crossbar's has no fault. -/
theorem State.laneFault_of_idle {s : State} {n : Nat} (h2 : s.lane n ≠ 2) (h5 : s.lane n ≠ 5) (t : Nat) : s.laneFault n t = s := by
  simp [State.laneFault, State.routeBond, h2, h5]

/-- Settles O36. -/
theorem laneCommands : Obligations.LaneCommands := by
  refine ⟨?writes, ?noted, ?refused, ?written, ?unclaimed, ?prbs, ?lock0, ?lock1, ?noLock, ?unlock0, ?unlock1, ?up, ?noSdi,
    ?notUp, ?linkDown, ?down, ?fault, ?noFault, ?faultWaits, ?testPassed, ?testFailed, ?raw, ?rawLost, ?reclock⟩
  case writes => exact fun n v s hn => ⟨congrArg Host.Outcome.next (if_pos hn), congrArg Host.Outcome.next (if_pos hn)⟩
  case noted => exact fun n s => s.noteLane_regs n
  case refused => intro n v why s h; simp only [State.laneCtrlWrite, h]
  case written => intro n v s h; simp only [State.laneCtrlWrite, h]
  case unclaimed =>
    intro n v s h
    have hbarred : (!s.laneClaimed n || s.lane n == 5) = true := by rcases h with h | h <;> simp [h]
    exact ⟨if_pos hbarred, if_pos hbarred⟩
  case prbs => intro n v s hclaimed hlane; simp [State.lanePrbsWrite, hclaimed, hlane]
  case lock0 =>
    intro q s hq hen hmin hmax
    simp [exec, execQuadPllLockChange, Nat.not_lt.mpr (Nat.le_of_lt_succ hq), hen, hmin, hmax]
  case lock1 =>
    intro q s hq hen hmin hmax
    simp [exec, execQuadPllLockChange, Nat.not_lt.mpr (Nat.le_of_lt_succ hq), hen, hmin, hmax]
  case noLock =>
    intro q s h
    have hno : ¬ (s.isSetAt LNE_Q_PLL0_EN q ∧ 1250000 ≤ s.rdAt LNE_Q_PLL0_RATE_KBPS q ∧
        s.rdAt LNE_Q_PLL0_RATE_KBPS q ≤ 28125000) := by
      rintro ⟨hen, hmin, hmax⟩
      rcases h with h | h | h
      · exact Bool.false_ne_true (h.symm.trans hen)
      · omega
      · omega
    by_cases hq : 31 < q
    · exact congrArg Host.Outcome.next (if_pos (Or.inl hq))
    · have hrange : ¬ (31 < q ∨ 1 < 0) := by omega
      exact congrArg Host.Outcome.next ((if_neg hrange).trans ((if_pos rfl).trans (if_neg hno)))
  case unlock0 => intro q s hq; simp [exec, execQuadPllLockChange, Nat.not_lt.mpr (Nat.le_of_lt_succ hq)]
  case unlock1 => intro q s hq; simp [exec, execQuadPllLockChange, Nat.not_lt.mpr (Nat.le_of_lt_succ hq)]
  case up =>
    exact fun n r fr s hn hlane hclaimed hen hproto hlock =>
      congrArg Host.Outcome.next (if_pos ⟨hn, hlane, hclaimed, hen, hproto, hlock⟩)
  case noSdi => exact fun n r fr s h => if_pos h
  case notUp =>
    intro n r fr s h
    refine congrArg Host.Outcome.next (if_neg ?_)
    rintro ⟨-, hlane, -, -, -, hlock⟩
    rcases h with h | h
    · exact Bool.false_ne_true (h.symm.trans hlock)
    · exact h hlane
  case linkDown => exact fun n remote s hn hlane => congrArg Host.Outcome.next (if_pos ⟨hn, hlane⟩)
  case down => intro n k why s h; simp [State.laneDown, h]
  case fault => intro n t s hn hwait hlane; simp [exec, execLaneFault, hn, hwait, State.laneFault, hlane]
  case noFault =>
    intro n t remote s hlane
    refine ⟨congrArg Host.Outcome.next (if_neg fun h => hlane h.2), fun hcrossbar => ?_⟩
    simp [exec, execLaneFault, State.laneFault_of_idle hlane hcrossbar]
  case faultWaits => intro n t s h; simp [exec, execLaneFault, h]
  case testPassed =>
    exact fun n pass s hn htest hpass => congrArg Host.Outcome.next ((if_pos ⟨hn, htest⟩).trans (if_pos hpass))
  case testFailed =>
    exact fun n pass s hn htest hfail => congrArg Host.Outcome.next ((if_pos ⟨hn, htest⟩).trans (if_neg hfail))
  case raw =>
    intro n w p s hn hlane hproto hp hbind htarget hroom hregion
    subst hp
    simp [exec, execRawPcsReceive, hn, hlane, hproto, hbind, htarget, hroom, hregion]
  case rawLost =>
    intro n w p s hn hlane hproto hp h
    subst hp
    refine congrArg Host.Outcome.next ((if_pos ⟨hn, hlane, hproto⟩).trans (if_neg ?_))
    rintro ⟨hbind, htarget, hroom, -⟩
    rcases h with h | h | h
    · exact h hbind
    · exact h htarget
    · omega
  case reclock => intro n w r s hlane hroute; simp [exec, execRawPcsReceive, hlane, hroute]

/-- Settles O37. -/
theorem bondCommands : Obligations.BondCommands := by
  refine ⟨?stop, ?keep, ?start, ?trainReq, ?noTrainReq, ?trainAck, ?exchange, ?noTrainAck, ?trained, ?trainedAs, ?failed,
    ?training, ?retrain, ?noRetrain, ?switch, ?moved, ?noSwitch, ?tickets, ?ticket, ?ticketError, ?noTickets⟩
  case stop => intro b v s hb hen hv; simp [exec, execBondEnable, State.bondCtrlWrite, hb, hen, hv]
  case keep => intro b v s hb hen hv; simp [exec, execBondEnable, State.bondCtrlWrite, hb, hen, hv]
  case start =>
    intro b v s hb hen hv s1
    refine ⟨fun why hwhy => ?_, fun hgood => ?_⟩
    · simp only [exec, execBondEnable, State.bondCtrlWrite, hb, hen, hv, if_true, Bool.false_eq_true, if_false, Nat.one_ne_zero]
      simp only [s1] at hwhy
      simp only [hwhy]
    · simp only [exec, execBondEnable, State.bondCtrlWrite, hb, hen, hv, if_true, Bool.false_eq_true, if_false, Nat.one_ne_zero]
      simp only [s1] at hgood
      simp only [hgood, s1]
  case trainReq => intro b p t l x s hen hlast hcode; simp [exec, execHokutuTrainReq, hen, hlast, hcode]
  case noTrainReq => intro b p t l s hen; simp [exec, execHokutuTrainReq, hen]
  case trainAck => intro b p d l x s hstate hlast hcode; simp [exec, execHokutuTrainAck, hstate, hlast, hcode]
  case exchange => exact fun b p t s h => if_pos h
  case noTrainAck => intro b p d l s hstate; simp [exec, execHokutuTrainAck, hstate]
  case trained => intro b m s hstate hgood; simp [exec, execBondTrainingDone, hstate, hgood]
  case trainedAs => intro b s hb; simp only [State.bondTrained, if_pos hb]
  case failed =>
    intro b why m s hstate hwhy hend
    simp [exec, execBondTrainingDone, hstate, hwhy, Nat.not_lt.mpr hend]
  case training => intro b why m s hstate hwhy hend; simp [exec, execBondTrainingDone, hstate, hwhy, hend]
  case retrain => intro b s hstate hen hend; simp [exec, execBondRetrain, State.bondIdle, hstate, hen, hend]
  case noRetrain =>
    intro b s hb hstate
    simp [exec, execBondRetrain, State.bondIdle, hstate, Nat.not_le.mpr hb]
  case switch => intro b p n m s hwanted hspare hstate hfault; simp [exec, execBondSpareSwitch, hwanted, hspare, hstate, hfault]
  case moved => exact fun b p n m s hb => if_neg (Nat.not_le.mpr hb)
  case noSwitch =>
    intro b s h
    cases hwanted : (s.bondRun b).spareWanted with
    | none => simp [exec, execBondSpareSwitch, hwanted]
    | some w =>
      cases hspare : (s.bondRun b).spare with
      | none => simp [exec, execBondSpareSwitch, hwanted, hspare]
      | some m =>
        have hno : ¬ (s.bondState b = 2 ∧ (s.bondRun b).faultAt < s.now) := by
          rintro ⟨hstate, hfault⟩
          rcases h with h | h | h | h
          · simp [hwanted] at h
          · simp [hspare] at h
          · exact h hstate
          · omega
        simp [exec, execBondSpareSwitch, hwanted, hspare, hno]
  case tickets => exact fun b l s hb hup => congrArg Host.Outcome.next ((if_pos hup).trans (if_pos hb))
  case ticket =>
    intro b f t s herror hwait hlane hflow
    have hcrc : t.crcOk = true := by
      simp only [HokutuTicket.inError, Bool.or_eq_false_iff, Bool.not_eq_false'] at herror
      exact herror.1.2
    simp [State.linkTicket, hwait, hlane, hcrc, herror, hflow]
  case ticketError =>
    intro b t s hflag hcrc hwait hlane hflow
    have herror : t.inError = true := by simp [HokutuTicket.inError, hflag]
    have htype : ticketErrorType t = 1 := by simp [ticketErrorType, hcrc, hflag]
    simp [State.linkTicket, hwait, hlane, hcrc, herror, htype, hflow]
  case noTickets => exact fun b l s hup => congrArg Host.Outcome.next (if_neg (ne_true_of_eq_false hup))

/-- Settles O38. -/
theorem landCommands : Obligations.LandCommands := by
  refine ⟨?refused, ?written, ?keeper, ?fault, ?noRestore, ?noFault, ?restore, ?noSupply, ?highZ, ?pair, ?single, ?unclaimed,
    ?down, ?up⟩
  case refused => intro p v s hp howned; simp [exec, execGpioWrite, State.gpioWrite, hp, howned]
  case written => intro p v s hp howned; simp [exec, execGpioWrite, State.gpioWrite, hp, howned]
  case keeper =>
    intro p w s h
    refine if_neg ?_
    rintro ⟨hpull, hwas⟩
    rcases h with h | h
    · exact h hpull
    · exact hwas h
  case fault => exact fun b mv s hb hmv => congrArg Host.Outcome.next (if_pos ⟨hb, hmv⟩)
  case noRestore => exact fun b mv s hb hmv => congrArg Host.Outcome.next (if_neg (by omega))
  case noFault => exact fun b mv s hb hmin hmax => congrArg Host.Outcome.next (if_neg (by omega))
  case restore =>
    exact fun b mv s hb hmin hmax hok =>
      congrArg Host.Outcome.next ((if_pos ⟨hb, hmin, hmax⟩).trans (if_neg (ne_true_of_eq_false hok)))
  case noSupply => intro b s h; simp [State.bankDrives, h]
  case highZ => intro p s h; simp [State.landDriven, h]
  case pair => intro p s hbank hjtag hlvds hok; simp [State.landDriven, hbank, hjtag, hlvds, hok]
  case single => intro p s hbank hjtag hlvds; simp [State.landDriven, hbank, hjtag, hlvds]
  case unclaimed =>
    intro p s hdriven hclaimed
    cases hboard : Config.boardLevel s.now p <;>
      simp [State.landLevel, State.landHeld, State.landPulled, hdriven, hboard, hclaimed]
  case down =>
    intro p s hdriven hclaimed hmode hpull
    cases hboard : Config.boardLevel s.now p <;>
      simp [State.landLevel, State.landHeld, State.landPulled, hdriven, hboard, hclaimed, hmode, hpull, modeRun, modeLoad,
        modeConfigFault, modeDeepSleep, modePromenade]
  case up =>
    intro p s hdriven hclaimed hmode hpull
    cases hboard : Config.boardLevel s.now p <;>
      simp [State.landLevel, State.landHeld, State.landPulled, hdriven, hboard, hclaimed, hmode, hpull, modeRun, modeLoad,
        modeConfigFault, modeDeepSleep, modePromenade]

/-- Settles O40. -/
theorem fabricCommands : Obligations.FabricCommands := by
  refine ⟨?lock, ?noLock, ?noGrid, ?refLost, ?noRef, ?realign, ?aligned, ?release, ?noClock, ?conflict, ?noConflict⟩
  case lock =>
    intro p s hp hclock hen hlock hmode hgrid hlost
    have hgrids : (s.rdAt FAB_PLL_CTRL_MODE p != 0) = true := by simp [hmode]
    have hlocks : p < 16 ∧ s.fabricClocked ∧ s.isSetAt FAB_PLL_CTRL_EN p ∧ s.rdAt FAB_PLL_STATUS_LOCK p = 0 ∧
        (!true || (s.gridActive (s.rdAt FAB_PLL_CTRL_GRID p) && s.rdAt FAB_PLL_STATUS_GRID_LOST p == 0)) := by
      simp [hp, hclock, hen, hlock, hgrid, hlost]
    simp only [exec, execFpllLock, hgrids]
    exact congrArg Host.Outcome.next (if_pos hlocks)
  case noLock =>
    intro p s h
    refine congrArg Host.Outcome.next (if_neg ?_)
    rintro ⟨-, hclock, hen, hlock, -⟩
    rcases h with h | h | h
    · exact Bool.false_ne_true (h.symm.trans hen)
    · omega
    · exact Bool.false_ne_true (h.symm.trans hclock)
  case noGrid =>
    intro p s hmode h
    refine congrArg Host.Outcome.next (if_neg ?_)
    rintro ⟨-, -, -, -, hgrid⟩
    rcases h with h | h <;> simp [hmode, h] at hgrid
  case refLost =>
    exact fun p s hp hen hmode href hlock => congrArg Host.Outcome.next (if_pos ⟨hp, hen, hmode, href, hlock⟩)
  case noRef =>
    exact fun p s href => congrArg Host.Outcome.next (if_neg fun h => h.2.2.2.1 href)
  case realign =>
    intro p g s hp hg hon hlock haligned hgrid hlost
    subst hg
    exact congrArg Host.Outcome.next (if_pos ⟨hp, hon, hlock, haligned, hgrid, hlost⟩)
  case aligned =>
    intro p s haligned
    refine congrArg Host.Outcome.next (if_neg ?_)
    rintro ⟨-, -, -, hnot, -⟩
    omega
  case release =>
    intro r s hr hheld hwait hclock hregion hrun
    simp [exec, execGsrRelease, hr, hheld, hwait, hclock, hregion, hrun]
  case noClock => intro r s h; simp [exec, execGsrRelease, h]
  case conflict => intro c row t p rest s h; simp [exec, execExpressConflict, h]
  case noConflict => intro c row t s h; simp [exec, execExpressConflict, h]

end Sys2Proof.Machine

/-! Tile memories, mix slices, pack FIFOs and delivery ports at work (10). -/

namespace Sys2Proof.Machine

open Sys2Proof

/-- Settles O41. -/
theorem tileAndMixEdges : Obligations.TileAndMixEdges := by
  refine ⟨?bothWrite, ?aWrites, ?apart, ?stopped, ?writeback, ?noWriteback, ?edge, ?held, ?noMix⟩
  case bothWrite =>
    intro r m a b l fa fb s hr hm hruns ha hb haddr hrange hwa hwb
    simp [exec, execTileMemoryAccess, hr, hm, hruns, ha, hb, haddr, haddr ▸ hrange, hwa, hwb]
  case aWrites =>
    intro r m a b same fa fb s hr hm hruns hclock ha hb haddr hrange hwa hwb
    simp [exec, execTileMemoryAccess, hr, hm, hruns, hclock, ha, hb, haddr, haddr ▸ hrange, hwa, hwb]
  case apart =>
    intro r m a b same fa fb s hr hm hruns h
    rcases h with h | h | h
    · simp [exec, execTileMemoryAccess, hr, hm, hruns, h]
    · simp [exec, execTileMemoryAccess, hr, hm, hruns, h]
    · simp [exec, execTileMemoryAccess, hr, hm, hruns, h]
  case stopped => intro r m a b same l fa fb s hruns; simp [exec, execTileMemoryAccess, hruns]
  case writeback =>
    intro r m b s hruns hwait
    simp [exec, execTileEccWriteback, hruns, Option.isSome_iff_ne_none.mpr hwait]
  case noWriteback => intro r m b s h; simp [exec, execTileEccWriteback, h]
  case edge =>
    intro c k i s hc htype hk hruns hce
    simp [exec, execMixSliceEdge, hc, htype, hk, hruns, hce]
  case held =>
    intro c k i s hc htype hk hruns hce
    simp [exec, execMixSliceEdge, hc, htype, hk, hruns, hce]
  case noMix => exact fun c k i s htype => congrArg Host.Outcome.next (if_neg fun h => htype h.2.1)

/-- A notice of a packet whose words are all taken, of a FIFO bound to a flow. -/
theorem exec_packFifoNotice_of_taken {p : Nat} {c : PackClosed} {rest : List PackClosed} {s : State}
    (hclosed : (s.pack p).closed = c :: rest) (htaken : c.words ≤ (s.pack p).taken) (hbind : s.rdAt PF_CFG_BIND p = 1)
    (hwords : 0 < c.words) : exec (.packFifoNotice p) s = .next (
      let s1 := s.setPack p { s.pack p with closed := rest, taken := 0, slots := [], drop := false }
      if (s.pack p).drop || !s.flowEn (s.rdAt PF_CFG_TARGET p) || !s.flowEgress (s.rdAt PF_CFG_TARGET p) then
        (s1.flowStat (s.rdAt PF_CFG_TARGET p) 3 1).packCount p c
      else if (s1.packTicket (s.rdAt PF_CFG_TARGET p) (s.pack p).slots c).1 = .stalled then s.stall (s.rdAt PF_CFG_TARGET p)
      else (s1.packTicket (s.rdAt PF_CFG_TARGET p) (s.pack p).slots c).2.packCount p c) := by
  have hbound : ¬ (s.rdAt PF_CFG_BIND p ≠ 1 ∨ c.words = 0) := by omega
  simp only [exec, execPackFifoNotice, hclosed, if_neg (Nat.not_lt.mpr htaken), if_neg hbound]
  split_ifs with hdrop hstall
  · rfl
  · simp only [hstall]
  · split
    · contradiction
    · rfl

/-- Settles O43. -/
theorem packAndDelivery : Obligations.PackAndDelivery := by
  refine ⟨?full, ?closes, ?unbound, ?takenFlow, ?takenRaw, ?rawWaits, ?takenBuffer, ?noWord, ?notice, ?noticeDropped,
    ?noticeTicket, ?noticeWaits, ?placeTicket, ?placeRead, ?portFull, ?read, ?readEmpty, ?request, ?noRequest⟩
  case full => intro p d n s hp hbind hruns hfull; simp [exec, execPackFifoWrite, hp, hbind, hruns, hfull]
  case closes =>
    intro p d n s hp hbind hraw hruns hroom q hq
    have hn : (if 0 < n % 4 then min (n % 4) (s.rdAt PF_CFG_WIDTH p + 1) else s.rdAt PF_CFG_WIDTH p + 1) =
        (if (true && s.rdAt PF_CFG_BIND p != 2) && decide (0 < n % 4) then min (n % 4) (s.rdAt PF_CFG_WIDTH p + 1)
          else s.rdAt PF_CFG_WIDTH p + 1) := by simp [hraw]
    rw [hn] at hq
    simp only [exec, execPackFifoWrite]
    rw [if_pos ⟨hp, hbind, hruns⟩, if_neg (ne_true_of_eq_false hroom), hq]
    simp [hraw]
  case unbound => exact fun p d n e s hbind => congrArg Host.Outcome.next (if_neg fun h => h.2.1 hbind)
  case takenFlow =>
    intro p s hword hbind
    simp only [exec, execPackFifoReaderTake, hword, hbind, Bool.not_true, Bool.false_eq_true, if_false]
    split_ifs with hfirst
    · simp [hfirst]
    · rfl
  case takenRaw =>
    intro p t s hword hbind ht hsends
    subst ht
    simp [exec, execPackFifoReaderTake, hword, hbind, hsends]
  case rawWaits =>
    intro p s hbind hsends
    simp [exec, execPackFifoReaderTake, hbind, hsends]
  case takenBuffer =>
    intro p t a s hword hbind ht ha hvalid hend
    subst ht
    subst ha
    simp [exec, execPackFifoReaderTake, hword, hbind, hvalid, hend]
  case noWord => intro p s h; simp [exec, execPackFifoReaderTake, h]
  case notice =>
    intro p c rest s hclosed htaken hbind
    simp [exec, execPackFifoNotice, hclosed, Nat.not_lt.mpr htaken, hbind]
  case noticeDropped =>
    intro p g c rest s hclosed htaken hbind hwords hg h
    subst hg
    rw [exec_packFifoNotice_of_taken hclosed htaken hbind hwords]
    refine congrArg Host.Outcome.next (if_pos ?_)
    rcases h with h | h | h <;> simp [h]
  case noticeTicket =>
    intro p g c rest s t o hclosed htaken hbind hwords hg hdrop hen hegress hticket hcreated
    subst hg
    rw [exec_packFifoNotice_of_taken hclosed htaken hbind hwords]
    simp only [hticket, hdrop, hen, hegress, if_neg hcreated, Bool.not_true, Bool.or_self, Bool.false_eq_true, if_false]
  case noticeWaits => intro p c rest s hclosed htaken; simp [exec, execPackFifoNotice, hclosed, htaken]
  case placeTicket =>
    intro p i t f s hp hroom hregion hbind hticket
    simp [exec, execDeliveryPortPlace, hp, hroom, hregion, hbind, hticket]
  case placeRead =>
    intro p i q rest f s hp hroom hregion hbind hreads
    simp [exec, execDeliveryPortPlace, hp, hroom, hregion, hbind, hreads]
  case portFull => exact fun p i f s h => congrArg Host.Outcome.next (if_neg fun hplace => by omega)
  case read => intro p w rest s hp hruns hwords; simp [exec, execDeliveryPortRead, hp, hruns, hwords]
  case readEmpty => intro p s h; simp [exec, execDeliveryPortRead, h]
  case request =>
    exact fun p o n s hp hbind hruns hroom hn => congrArg Host.Outcome.next (if_pos ⟨hp, hbind, hruns, hroom, hn⟩)
  case noRequest =>
    intro p o n s h
    refine congrArg Host.Outcome.next (if_neg ?_)
    rintro ⟨-, -, -, hroom, hn⟩
    omega

end Sys2Proof.Machine

/-! Configuration streams, requests of regions, captures and golden saves (11, 12). -/

namespace Sys2Proof.Machine

open Sys2Proof

/-- STREAM_STAGE, once the far store is initialised. -/
theorem exec_streamStage_of_init {s t : State} {id : Nat} {r : List Nat} {c : Completion} (h : s.Takes id 0x6001 r)
    (hinit : s.storeInit true = true)
    (hbody : (if recField r 16 4 % 8 ≠ 0 then (Completion.badParam 16, s)
      else if recField r 20 4 % 4 ≠ 0 ∨ recField r 20 4 < 4 ∨ 16777216 < recField r 20 4 then (.badParam 20, s)
      else if 268435456 < recField r 16 4 + recField r 20 4 then (.badParam 16, s)
      else if s.cfg.load.isSome then (.busy, s)
      else
        let s1 := State.stageBytes (recField r 20 4) s (recField r 16 4 / 8) (s.hostRead (recField r 8 8) (recField r 20 4))
        (.ok, (s1.wr CFG_STAGE_LEN (max (s1.rd CFG_STAGE_LEN) (recField r 16 4 + recField r 20 4))).wr CFG_STATUS_STAGED 1)) =
      (c, t)) : exec (.streamStage id) s = .next (t.complete id c) := by
  simp only [exec, execStreamStage, hinit, Bool.not_true, Bool.false_eq_true, if_false]
  exact State.runCmd_of h hbody

/-- The host discards what is staged. -/
theorem State.discardStaging_host (s : State) : s.discardStaging false =
    ((s.wr CFG_STAGE_LEN 0).wr CFG_STATUS_STAGED 0).post 0x6004 0x600 1 0 := by
  simp [State.discardStaging, flag]

/-- Settles O44. -/
theorem streamCommands : Obligations.StreamCommands := by
  refine ⟨?badOffset, ?badLength, ?staged, ?beyond, ?stageBusy, ?notInit, ?discardBusy, ?discard, ?discardWrite,
    ?noDiscardWrite, ?refused, ?load, ?notRunning, ?noLoad, ?trust, ?parse, ?check, ?checked, ?full, ?background, ?promenade⟩
  case badOffset => exact fun id r s h hinit hoff => exec_streamStage_of_init h hinit (if_pos hoff)
  case badLength =>
    intro id r s h hinit hoff hlength
    exact exec_streamStage_of_init h hinit ((if_neg (not_not.mpr hoff)).trans (if_pos hlength))
  case staged =>
    intro id o n r s h hinit ho hn hoff hwords hmin hmax hend hload
    subst ho hn
    have hlength : ¬ (recField r 20 4 % 4 ≠ 0 ∨ recField r 20 4 < 4 ∨ 16777216 < recField r 20 4) := by omega
    refine exec_streamStage_of_init h hinit ((if_neg (not_not.mpr hoff)).trans ((if_neg hlength).trans
      ((if_neg (Nat.not_lt.mpr hend)).trans (if_neg ?_))))
    simp [hload]
  case beyond =>
    intro id o n r s h hinit ho hn hoff hwords hmin hmax hend
    subst ho hn
    have hlength : ¬ (recField r 20 4 % 4 ≠ 0 ∨ recField r 20 4 < 4 ∨ 16777216 < recField r 20 4) := by omega
    exact exec_streamStage_of_init h hinit ((if_neg (not_not.mpr hoff)).trans ((if_neg hlength).trans (if_pos hend)))
  case stageBusy =>
    intro id o n l r s h hinit ho hn hoff hwords hmin hmax hend hload
    subst ho hn
    have hlength : ¬ (recField r 20 4 % 4 ≠ 0 ∨ recField r 20 4 < 4 ∨ 16777216 < recField r 20 4) := by omega
    refine exec_streamStage_of_init h hinit ((if_neg (not_not.mpr hoff)).trans ((if_neg hlength).trans
      ((if_neg (Nat.not_lt.mpr hend)).trans (if_pos ?_))))
    simp [hload]
  case notInit => intro id s h; simp [exec, execStreamStage, h]
  case discardBusy => exact fun id l r s h hload => State.runCmd_of h (by simp [hload]; rfl)
  case discard =>
    exact fun id r s h hload => State.runCmd_of h (by simp [hload, State.discardStaging_host, Completion.ok])
  case discardWrite =>
    intro v s hv hload
    simp [exec, execCfgDiscardWrite, hv, hload, State.discardStaging_host]
  case noDiscardWrite =>
    intro v s h
    rcases h with h | h
    · simp [exec, execCfgDiscardWrite, h]
    · simp [exec, execCfgDiscardWrite, h]
  case refused => exact fun id c r s h hrefused => State.startCmd_of_end h (by simp only [hrefused])
  case load =>
    intro id r s l h hl hgood hclash
    subst hl
    exact State.startCmd_of_begin h (by simp only [hgood, hclash, Bool.false_eq_true, if_false])
  case notRunning =>
    intro b f k n s hb hrun hpriv hk hn
    simp [State.loadRefusal, hb, hrun, hpriv, Nat.not_lt.mpr hk, Nat.not_lt.mpr hn]
  case noLoad =>
    intro f s h
    refine ⟨?_, ?_, ?_⟩
    · simp [exec, execLoadChecksDone, h]
    · simp [exec, execFullLoadCommit, h]
    · simp [exec, execBackgroundLoadCommit, h]
  case trust =>
    intro l f x s hload himage hfail
    have hnew : l.image.isSome = false := by rw [himage]; rfl
    simp only [exec, execLoadChecksDone, hload, hnew, Bool.false_eq_true, if_false, hfail]
  case parse =>
    intro l k f x s hload himage hk htrust hfail
    subst hk
    have hnew : l.image.isSome = false := by rw [himage]; rfl
    simp only [exec, execLoadChecksDone, hload, hnew, Bool.false_eq_true, if_false, htrust, hfail]
  case check =>
    intro l k f x s hload himage hk htrust hparse hfail
    subst hk
    have hnew : l.image.isSome = false := by rw [himage]; rfl
    simp only [exec, execLoadChecksDone, hload, hnew, Bool.false_eq_true, if_false, htrust, hparse, hfail]
  case checked =>
    intro l k f s t hload himage hk ht htrust hparse hcheck
    subst hk
    subst ht
    have hnew : l.image.isSome = false := by rw [himage]; rfl
    simp only [exec, execLoadChecksDone, hload, hnew, Bool.false_eq_true, if_false, htrust, hparse, hcheck]
  case full =>
    intro l k m f s t hload himage hkind hwait hk ht
    subst hk
    subst ht
    refine ⟨?_, ?_⟩
    · simp only [exec, execFullLoadCommit, hload, himage, hkind, hwait, Bool.or_self, Bool.false_eq_true, if_false] <;> rfl
    · simp [exec, execBackgroundLoadCommit, hload, himage, hkind]
  case background =>
    intro l k m f s t hload himage hkind hwait hk ht
    subst hk
    subst ht
    refine ⟨?_, ?_⟩
    · simp only [exec, execBackgroundLoadCommit, hload, himage, hkind, hwait, Bool.not_true, Bool.or_self, Bool.false_eq_true,
        if_false] <;> rfl
    · simp [exec, execFullLoadCommit, hload, himage, hkind]
  case promenade =>
    intro f s hwait
    cases hload : s.cfg.load with
    | none => simp [exec, execFullLoadCommit, execBackgroundLoadCommit, hload]
    | some l => cases himage : l.image <;> simp [exec, execFullLoadCommit, execBackgroundLoadCommit, hload, himage, hwait]

/-- Settles O45. -/
theorem regionRequests : Obligations.RegionRequests := by
  refine ⟨?noRegion, ?regions, ?refused, ?turnWaits, ?turnNow, ?notRunning, ?notLoaded, ?locked, ?parkNow, ?unparkNow, ?turn,
    ?park, ?noClock, ?noUnpark, ?tooLate, ?overdue, ?nothingOverdue, ?forced, ?notForced, ?release⟩
  case noRegion =>
    exact fun id r s hm => ⟨fun h => State.startCmd_of_end h (if_pos hm), fun h => State.startCmd_of_end h (if_pos hm),
      fun h => State.startCmd_of_end h (if_pos hm)⟩
  case regions =>
    intro id m r s hm hne s1
    subst hm
    exact ⟨fun h => State.startCmd_of_begin h (if_neg hne), fun h => State.startCmd_of_begin h (if_neg hne),
      fun h => State.startCmd_of_begin h (if_neg hne)⟩
  case refused => intro r st q s h; simp only [State.turnArrives, h]
  case turnWaits => intro r q s h hparked; simp [State.turnArrives, h, hparked]
  case turnNow => intro r q s h hparked; simp [State.turnArrives, h, hparked]
  case notRunning => intro r k s h; simp [State.turnRefusal, h]
  case notLoaded => intro r k s hrun h; simp [State.turnRefusal, hrun, h]
  case locked => intro r k s hrun hloaded hlocked hwait; simp [State.turnRefusal, hrun, hloaded, hlocked, hwait]
  case parkNow => intro r q s hrun hparked hnone; simp [State.parkArrives, hrun, hparked, hnone]
  case unparkNow => intro r q s hrun hparked hnone; simp [State.unparkArrives, hrun, hparked, hnone]
  case turn => intro r s hr hwait hparked hclock; simp [exec, execTurnEffect, hr, hwait, hparked, hclock]
  case park => intro r s hr hwait hparked hclock; simp [exec, execParkEffect, hr, hwait, hparked, hclock]
  case noClock => intro r s h; simp [exec, execTurnEffect, execParkEffect, h]
  case noUnpark => intro r s hr hwait; simp [exec, execUnparkRelease, hr, hwait]
  case tooLate => exact fun r s hr => congrArg Host.Outcome.next (if_pos hr)
  case overdue =>
    intro r n q s hone hkind hdue hempty
    simp [State.noClock, State.overdue, hone, hkind, hdue, hempty]
  case nothingOverdue => intro r n s hturns hunparks; simp [State.noClock, hturns, hunparks]
  case forced => intro r s hr hlate hparked; simp [exec, execParkForced, hr, hlate, hparked]
  case notForced => intro r s hlate; simp [exec, execParkForced, hlate]
  case release =>
    intro r s t hr ht hwait hparked hclock hstill hlast
    subst ht
    simp [exec, execUnparkRelease, hr, hwait, hparked, hclock, hstill, hlast]

/-- With no flash operation under way, a golden save waits for none. -/
theorem State.flashOp_of_idle {s : State} (h : s.flash.ops = []) (b : Nat) : s.flashOp b = none := by
  simp [State.flashOp, h, SMap.find]

/-- Settles O46. -/
theorem captureAndGolden : Obligations.CaptureAndGolden := by
  refine ⟨?cancelNone, ?cancel, ?refused, ?armed, ?taken, ?noClock, ?noCapture, ?notHalted, ?resume, ?denied, ?badKind, ?cells,
    ?frames, ?goldenRefused, ?golden, ?saved, ?noSave⟩
  case cancelNone => exact fun id r s h hn hcapture => State.startCmd_of_end h (by simp [hn, hcapture, Completion.ok])
  case cancel => exact fun id x r s h hn hcapture hcmd => State.startCmd_of_end h (by simp [hn, hcapture, hcmd, Completion.ok])
  case refused =>
    intro id k r s h hn hrefused
    refine State.startCmd_of_end h ?_
    simp only [if_neg hn, hrefused]
    by_cases hk : k = 3
    · subst hk; rfl
    · simp [hk]
  case armed => exact fun id r s h hn hgood => State.startCmd_of_begin h (by simp [hn, hgood])
  case taken =>
    intro x s seen hcapture hclock hedge hhalt hseen
    subst hseen
    refine ⟨fun hcmd => ?_, fun id hcmd => ?_⟩
    · simp [exec, execCaptureTaken, hcapture, hclock, hedge, hhalt, hcmd, flag]
    · simp [exec, execCaptureTaken, hcapture, hclock, hedge, hhalt, hcmd, flag, Completion.ok]
  case noClock => intro x s hcapture hclock; simp [exec, execCaptureTaken, hcapture, hclock]
  case noCapture => intro s h; simp [exec, execCaptureTaken, h]
  case notHalted => exact fun id r s h hmode => State.runCmd_of h (if_neg hmode)
  case resume => exact fun id r s h hmode => State.runCmd_of h (if_pos hmode)
  case denied => exact fun id r s h hstate => State.runCmd_of h (if_pos hstate)
  case badKind =>
    intro id r s h hstate hkind
    have hread : ¬ (s.rd LCS_STATE_STATE = 4 ∨ s.rd LCS_STATE_STATE = 0xF ∨ s.rd LCS_STATE_STATE = 6) := by omega
    refine State.runCmd_of h ((if_neg hread).trans ?_)
    split
    · omega
    · omega
    · omega
    · rfl
  case cells =>
    intro id r s h hstate hkind
    have hread : ¬ (s.rd LCS_STATE_STATE = 4 ∨ s.rd LCS_STATE_STATE = 0xF ∨ s.rd LCS_STATE_STATE = 6) := by omega
    exact State.runCmd_of h ((if_neg hread).trans (by simp only [hkind]))
  case frames =>
    intro id r s h hstate hkind
    have hread : ¬ (s.rd LCS_STATE_STATE = 4 ∨ s.rd LCS_STATE_STATE = 0xF ∨ s.rd LCS_STATE_STATE = 6) := by omega
    exact State.runCmd_of h ((if_neg hread).trans (by simp only [hkind]))
  case goldenRefused =>
    exact fun id c r s h hready hrefused =>
      (congrArg Host.Outcome.next (if_pos hready)).trans (State.startCmd_of_end h (by simp only [hrefused]))
  case golden =>
    exact fun id r s h hready hgood =>
      (congrArg Host.Outcome.next (if_pos hready)).trans (State.startCmd_of_begin h (by simp only [hgood]))
  case saved =>
    intro id k mask s hgolden hidle
    refine ⟨?_, ?_⟩
    · simp [exec, execGoldenSaveDone, hgolden, State.flashOp_of_idle hidle, State.goldenFail]
    · simp [exec, execGoldenSaveDone, hgolden, State.flashOp_of_idle hidle]
  case noSave => intro ok s h; simp [exec, execGoldenSaveDone, h]

end Sys2Proof.Machine

/-! Flash: erase and program, suspend and resume, records, the boot swap (13). -/

namespace Sys2Proof.Machine

open Sys2Proof

/-- Settles O47: the refusals in their order, then the operation's start, end and suspension. -/
theorem flashOperations : Obligations.FlashOperations := by
  refine ⟨?eraseRefused, ?erase, ?badCount, ?badRange, ?program, ?badBank, ?badSector, ?protectedArea, ?move, ?begins,
    ?eraseDone, ?noOp, ?programDone, ?programFails, ?suspend, ?notSuspended, ?resume, ?offBank, ?noMove⟩
  case eraseRefused => exact fun id c r s h hc => State.startCmd_of_end h (by simp only [hc])
  case erase => exact fun id r s h hc => State.startCmd_of_begin h (by simp only [hc])
  case badCount => exact fun id r s h hk => State.startCmd_of_end h (if_pos hk)
  case badRange =>
    intro id r s h hmin hmax hend
    have hcount : ¬ (recField r 14 2 = 0 ∨ 256 < recField r 14 2) := by omega
    exact State.startCmd_of_end h ((if_neg hcount).trans (if_pos hend))
  case program =>
    intro id r s h hmin hmax hend hnone
    have hcount : ¬ (recField r 14 2 = 0 ∨ 256 < recField r 14 2) := by omega
    refine ⟨fun hstate => State.startCmd_of_end h ?_, fun hstate => State.startCmd_of_begin h ?_⟩
    · exact (if_neg hcount).trans ((if_neg (Nat.not_lt.mpr hend)).trans (by simp only [hnone]; exact if_pos hstate))
    · exact (if_neg hcount).trans ((if_neg (Nat.not_lt.mpr hend)).trans
        (by simp only [hnone]; exact if_neg (by omega)))
  case badBank => exact fun b n s hb => if_pos hb
  case badSector => exact fun b n s hb hn => (if_neg (Nat.not_lt.mpr hb)).trans (if_pos hn)
  case protectedArea =>
    intro b n s hb hn hpriv hmode hprotected
    simp [State.flashRefusal, Nat.not_lt.mpr hb, Nat.not_lt.mpr hn, hpriv, hmode, hprotected]
  case move => exact fun b x s h => if_pos h
  case begins =>
    intro b x s hsteward herase hgolden
    simp [State.flashStart, State.beginOp, State.markSector, hsteward, herase, hgolden]
  case eraseDone =>
    intro b x s hop herase hruns hgolden hrecord
    refine ⟨?_, ?_⟩ <;> simp [exec, execFlashEraseDone, hop, herase, hruns, hgolden, hrecord, Completion.ok]
  case noOp => intro b v w s hop; simp [exec, execFlashEraseDone, execFlashProgramDone, hop]
  case programDone =>
    intro b n x w s t hop herase hruns hgolden hwords
    simp [exec, execFlashProgramDone, hop, herase, hruns, hgolden, hwords]
  case programFails =>
    intro b n x w s t hop herase hruns hgolden hwords
    simp [exec, execFlashProgramDone, hop, herase, hruns, hgolden, hwords]
  case suspend =>
    intro id x r s h hb hmode hop herase hruns hgolden hends
    exact State.runCmd_of h (by simp [Nat.not_lt.mpr hb, hmode, hop, herase, hruns, hgolden, hends, Completion.ok])
  case notSuspended =>
    intro id r s hb hmode hop
    exact ⟨fun h => State.runCmd_of h (by simp [Nat.not_lt.mpr hb, hmode, hop]),
      fun h => State.startCmd_of_end h (by simp [Nat.not_lt.mpr hb, hmode, hop])⟩
  case resume =>
    intro id x r s h hb hmode hop hsuspended hheld
    exact State.startCmd_of_begin h (by simp [Nat.not_lt.mpr hb, hmode, hop, hsuspended, hheld])
  case offBank =>
    intro s hmove hready hoff
    exact congrArg Host.Outcome.next (if_pos (by simp [hmove, hready, hoff]))
  case noMove => intro s hmove; simp [exec, execStewardOffBank, hmove]

/-- FLASH_BOOT_SWAP once its block is another than the active one. -/
theorem exec_flashBootSwap_of_other {s t : State} {id : Nat} {f : Found} {r : List Nat} {c : Completion} {u : State}
    (h : s.Takes id 0x8007 r) (hready : s.stewardReady = true) (hblock : recByte r 8 = 1 ∨ recByte r 8 = 2)
    (hmode : s.flashMode = true) (hother : s.rd FLC_BOOT_ACTIVE_BLOCK ≠ recByte r 8)
    (ht : t = s.senseSwap f (recByte r 8 - 1))
    (hbody : (match t.blockFault f (recByte r 8 - 1) with
      | some why => ((⟨0x35, why, 0⟩ : Completion), t)
      | none =>
        if !t.blockTag f (recByte r 8 - 1) then (⟨0x35, 4, 0⟩, t)
        else if t.isSetAt FLC_BANK_LOAD_LOCK 7 then (⟨0x37, 0, 0⟩, t)
        else if (t.flashOp 7).isSome then (.busy, t)
        else
          match t.recordPlace f with
          | none => (.busy, t)
          | some p =>
            (⟨0, 0, t.rd FLC_BOOT_SEQ + 1⟩,
              (((t.writeSwap p.1 p.2 (t.rd FLC_BOOT_SEQ + 1) (recByte r 8)).showRecords f).loadLifeline f).post 0x8006 0x808 1
                (recByte r 8 + (t.rd FLC_BOOT_SEQ + 1) % 2 ^ 30 * 4))) = (c, u)) :
    exec (.flashBootSwap id f) s = .next (u.complete id c) := by
  subst ht
  have hk : ¬ (recByte r 8 ≠ 1 ∧ recByte r 8 ≠ 2) := by omega
  refine (congrArg Host.Outcome.next (if_pos hready)).trans (State.runCmd_of h ?_)
  refine (if_neg hk).trans ((if_neg ?_).trans ((if_neg hother).trans hbody))
  simp [hmode]

/-- Settles O48: the order of the checks; the boot swap by `exec_flashBootSwap_of_other`. -/
theorem flashRecords : Obligations.FlashRecords := by
  refine ⟨?infoBank, ?infoSector, ?info, ?calibration, ?notCalibration, ?badBlock, ?activeBlock, ?faultyBlock, ?swap,
    ?recordErased, ?noErase⟩
  case infoBank => exact fun id r s h hb => State.runCmd_of h (if_pos hb)
  case infoSector => exact fun id r s h hb hn => State.runCmd_of h ((if_neg (Nat.not_lt.mpr hb)).trans (if_pos hn))
  case info =>
    intro id r s h hb hn hboot hload
    have hmode : s.flashMode = true := by simp [State.flashMode, hboot, hload]
    exact State.runCmd_of h ((if_neg (Nat.not_lt.mpr hb)).trans ((if_neg (Nat.not_lt.mpr hn)).trans (by
      rw [hmode]; rfl)))
  case calibration => exact fun id r s h hmode => State.runCmd_of h (if_pos hmode)
  case notCalibration => exact fun id r s h hboot hservice => State.runCmd_of h (if_neg (by simp [hboot, hservice]))
  case badBlock =>
    exact fun id f r s h hready hone htwo =>
      (congrArg Host.Outcome.next (if_pos hready)).trans (State.runCmd_of h (if_pos ⟨hone, htwo⟩))
  case activeBlock =>
    intro id f r s h hready hblock hmode hactive
    have hk : ¬ (recByte r 8 ≠ 1 ∧ recByte r 8 ≠ 2) := by omega
    refine (congrArg Host.Outcome.next (if_pos hready)).trans (State.runCmd_of h ?_)
    exact (if_neg hk).trans ((if_neg (by simp [hmode])).trans (if_pos hactive))
  case faultyBlock =>
    intro id why f r s t h hready hblock hmode hother ht hfault
    exact exec_flashBootSwap_of_other h hready hblock hmode hother ht (by simp only [hfault])
  case swap =>
    intro id n w f r s t h hready hblock hmode hother ht hfault htag hlock hop hplace
    refine exec_flashBootSwap_of_other h hready hblock hmode hother ht ?_
    simp [hfault, htag, hlock, hop, hplace]
  case recordErased =>
    intro k x s hk hop herase hruns hsector
    simp [exec, execRecordSectorEraseDone, hop, herase, hruns, hsector, hk]
  case noErase => intro k s hop; simp [exec, execRecordSectorEraseDone, hop]

end Sys2Proof.Machine

/-! Guards: upsets, tests that end, retirements, the commands of the HLT block (14). -/

namespace Sys2Proof.Machine

open Sys2Proof

/-- The class that a test's end reports is the verdict of its resource. -/
theorem State.endTest_verdict (kind index : Nat) (pass : Bool) (s : State) :
    (s.endTest kind index pass).1 = s.verdict (resourceKey kind index) pass := by
  simp only [State.endTest]
  cases (SMap.find s.guard.tests (resourceKey kind index)).bind fun t => t.cmd with
  | some id => rfl
  | none => rfl

/-- A test that fails is of class FAILED. -/
theorem State.endTest_failed (kind index : Nat) (s : State) : (s.endTest kind index false).1 = .failed := by
  rw [State.endTest_verdict]
  rfl

/-- Settles O49: each row by the guard of its fault; a test's class by `State.verdict`. -/
theorem guardFaults : Obligations.GuardFaults := by
  refine ⟨?upset, ?scrub, ?unread, ?repaired, ?unrepairable, ?corrected, ?guardFailed, ?noGuard, ?riser, ?tap, ?once, ?failed,
    ?marginal, ?transient, ?frameTransient, ?column, ?signal, ?relocated, ?noRelocation⟩
  case upset => intro k p f c d s hguarded hfailed; simp [exec, execFrameUpsetDetect, hguarded, hfailed]
  case scrub =>
    intro k p f c d s hguarded hfailed hready
    simp [exec, execFrameUpsetDetect, execStewardScrubMismatch, hguarded, hfailed, hready]
  case unread =>
    intro k p f d s hguarded
    simp [exec, execFrameUpsetDetect, execStewardScrubMismatch, hguarded]
  case repaired => intro k p c f d x s t hsource ht; simp only [State.upset, hsource, ht]
  case unrepairable => intro k p c f d s t hsource ht; simp only [State.upset, hsource, ht]
  case corrected => exact fun p s hp hrun hgood => congrArg Host.Outcome.next (if_pos ⟨hp, hrun, by simp [hgood]⟩)
  case guardFailed =>
    intro p b s t hp hrun hgood ht
    subst ht
    exact congrArg Host.Outcome.next (if_pos ⟨hp, hrun, by simp [hgood]⟩)
  case noGuard => intro p b s hrun; simp [exec, execGuardFailed, execGuardTmrCorrect, hrun]
  case riser =>
    exact fun i g s hi hg hlive => congrArg Host.Outcome.next (if_pos ⟨hi, hg, by rw [hlive]; rfl⟩)
  case tap => exact fun g s hg hlive => congrArg Host.Outcome.next (if_pos ⟨hg, by rw [hlive]; rfl⟩)
  case once => exact fun kind index cause cmd s h => if_pos h
  case failed => exact fun key s => rfl
  case marginal => exact fun key s h => if_pos h
  case transient => exact fun key s h => if_neg (Nat.not_le.mpr h)
  case frameTransient =>
    intro k p f x s hk hp hf htest hclass
    exact congrArg Host.Outcome.next ((if_pos ⟨hk, hp, hf, htest⟩).trans (if_pos hclass))
  case column =>
    intro k p f x s t v hk hp hf htest hend hclass hsignal _ hactive
    refine congrArg Host.Outcome.next ((if_pos ⟨hk, hp, hf, htest⟩).trans ?_)
    simp only [hend, hclass, if_false]
    cases x with
    | signal i n => exact absurd rfl (hsignal i n)
    | pass => simp only [State.framePermanent, hactive, if_true]
    | cell => simp only [State.framePermanent, hactive, if_true]
  case signal =>
    intro k p f i n s t hk hp hf htest hend
    refine congrArg Host.Outcome.next ((if_pos ⟨hk, hp, hf, htest⟩).trans ?_)
    simp only [hend, reduceCtorEq, if_false]
    rfl
  case relocated => intro r t x d s hfind hstart; simp [exec, execColumnRelocationDone, hfind, hstart]
  case noRelocation => intro r d s hfind; simp [exec, execColumnRelocationDone, hfind]

/-- The march of a unit of the store finds it failed. -/
theorem State.unitTestDone_failed {far : Bool} {u : Nat} {s : State} (hu : u < storeUnits far)
    (htest : s.underTest (unitKind far) u = true) : s.unitTestDone far u false =
      (s.endTest (unitKind far) u false).2.retireUnit far u (s.testCause (unitKind far) u .failed) := by
  simp [State.unitTestDone, hu, htest, State.endTest_failed]

/-- The march of a unit that is under no test does nothing. -/
theorem State.unitTestDone_of_not_under {far : Bool} {u : Nat} {p : Bool} {s : State}
    (htest : s.underTest (unitKind far) u = false) : s.unitTestDone far u p = s := by
  simp [State.unitTestDone, htest]

/-- Settles O50: a test's end by its verdict (`State.endTest_failed`); HLT_TEST by the order of its checks. -/
theorem guardTestsAndCommands : Obligations.GuardTestsAndCommands := by
  refine ⟨?riserPasses, ?riserFails, ?riserMarginal, ?noTest, ?bankFails, ?bankPasses, ?channelFails, ?noUnitTest, ?flows,
    ?records, ?noSteward, ?badKind, ?hltTest⟩
  case riserPasses =>
    intro i g s hg htest hclass
    refine congrArg Host.Outcome.next ((if_pos ⟨hg, htest⟩).trans ?_)
    simp [hclass]
  case riserFails =>
    intro i g n s hg htest
    refine congrArg Host.Outcome.next ((if_pos ⟨hg, htest⟩).trans ?_)
    simp [State.endTest_failed]
  case riserMarginal =>
    intro i g s hg htest hclass
    refine congrArg Host.Outcome.next ((if_pos ⟨hg, htest⟩).trans ?_)
    simp [hclass]
  case noTest => intro i g x s htest; simp [exec, execRiserTestDone, htest]
  case bankFails => exact fun u s hu htest => congrArg Host.Outcome.next (State.unitTestDone_failed (far := false) hu htest)
  case bankPasses =>
    exact fun u s hu htest hclass => congrArg Host.Outcome.next ((if_pos ⟨hu, htest⟩).trans (if_pos hclass))
  case channelFails => exact fun u s hu htest => congrArg Host.Outcome.next (State.unitTestDone_failed (far := true) hu htest)
  case noUnitTest =>
    exact fun u p s => ⟨fun h => congrArg Host.Outcome.next (State.unitTestDone_of_not_under (far := false) h),
      fun h => congrArg Host.Outcome.next (State.unitTestDone_of_not_under (far := true) h)⟩
  case flows => exact fun id r s h hready => (congrArg Host.Outcome.next (if_pos hready)).trans (State.runCmd_of h rfl)
  case records => exact fun id r s h hready => (congrArg Host.Outcome.next (if_pos hready)).trans (State.runCmd_of h rfl)
  case noSteward => intro id s hready; simp [exec, execHltAffectedFlows, execHltRecords, hready]
  case badKind =>
    intro id k r s h hk h3 h6 h7 h8
    subst hk
    exact State.startCmd_of_end h (if_pos ⟨h3, h6, h7, h8⟩)
  case hltTest =>
    intro id k r s h hk hkind
    subst hk
    have hlisted : ¬ (recByte r 8 % 16 ≠ 3 ∧ recByte r 8 % 16 ≠ 6 ∧ recByte r 8 % 16 ≠ 7 ∧ recByte r 8 % 16 ≠ 8) := by omega
    refine ⟨?badIndex, ?mode, ?busy, ?starts, ?lane⟩
    case badIndex =>
      exact fun htarget => State.startCmd_of_end h ((if_neg hlisted).trans (if_pos (by simp [htarget])))
    case mode =>
      exact fun htarget hrun hmode => State.startCmd_of_end h ((if_neg hlisted).trans ((if_neg (by simp [htarget])).trans
        (if_pos ⟨by simp [hrun], hmode⟩)))
    case busy =>
      exact fun htarget hrun htest => State.startCmd_of_end h ((if_neg hlisted).trans ((if_neg (by simp [htarget])).trans
        ((if_neg (by simp [hrun])).trans (if_pos htest))))
    case starts =>
      intro htarget hrun htest hlane
      refine State.startCmd_of_begin h ((if_neg hlisted).trans ((if_neg (by simp [htarget])).trans
        ((if_neg (by simp [hrun])).trans ((if_neg (by simp [htest])).trans ?_))))
      simp [hlane, kindLane]
    case lane =>
      intro htarget hrun htest hlane
      refine State.startCmd_of_begin h ((if_neg hlisted).trans ((if_neg (by simp [htarget])).trans
        ((if_neg (by simp [hrun])).trans ((if_neg (by simp [htest])).trans ?_))))
      simp [hlane, kindLane]

end Sys2Proof.Machine

/-! Input power, the budget, and the samples of the power and thermal policy (15). -/

namespace Sys2Proof.Machine

open Sys2Proof

/-- Since when VIN has been above 60 V, after a measurement. -/
theorem State.vinRange_overSince (mv ma mw : Nat) (s : State) :
    (s.vinRange mv ma mw).power.overSince = holdSince (decide (60000 < mv)) s.power.overSince s.now := by
  unfold State.vinRange
  dsimp only
  split
  · rfl
  · exact congrArg Power.overSince (State.post_power _ _ _ _ _)

/-- Settles O51: the time above 60 V by `State.vinRange_overSince`, the samples by whether the policy runs. -/
theorem policySamples : Obligations.PolicySamples := by
  refine ⟨?vinOff, ?vin, ?overvolt, ?lockoutOff, ?lockout, ?powerUp, ?noPowerUp, ?limitOnset, ?limitEnds, ?budget, ?railsOff,
    ?power, ?droop, ?flow, ?temp⟩
  case vinOff => exact fun mv ma mw s hoff => congrArg Host.Outcome.next (if_pos hoff)
  case vin =>
    intro mv ma mw s hon hmv
    refine congrArg Host.Outcome.next ((if_neg hon).trans (if_neg ?_))
    simp [State.vinRange_overSince, Nat.not_lt.mpr hmv, holdSince, heldFor]
  case overvolt =>
    intro mv ma mw t s hon hmv hsince hheld
    refine congrArg Host.Outcome.next ((if_neg hon).trans (if_pos ?_))
    simp [State.vinRange_overSince, hmv, hsince, holdSince, heldFor, hheld]
  case lockoutOff => exact fun s hoff => congrArg Host.Outcome.next (if_pos hoff)
  case lockout => exact fun s hon => congrArg Host.Outcome.next (if_neg hon)
  case powerUp => exact fun mv s hoff hlow hmv => congrArg Host.Outcome.next (if_pos ⟨hoff, hlow, hmv⟩)
  case noPowerUp =>
    intro mv s h
    refine congrArg Host.Outcome.next (if_neg ?_)
    rintro ⟨hoff, _, hmv⟩
    rcases h with h | h
    · exact h hoff
    · exact Nat.not_le.mpr h hmv
  case limitOnset =>
    intro s hon hlimit
    refine congrArg Host.Outcome.next ((if_neg hon).trans (if_pos ?_))
    simp [hlimit]
  case limitEnds => exact fun s hon => congrArg Host.Outcome.next (if_neg hon)
  case budget => exact fun s hruns => congrArg Host.Outcome.next (if_pos hruns)
  case railsOff =>
    intro s rs gs ds rail ml ts hruns
    simp [exec, execBudgetUpdate, execPowerSample, execDroopSample, execFlowSample, execTempSample, execPolicyEvaluate, hruns]
  case power => exact fun rs gs s hruns => congrArg Host.Outcome.next (if_pos hruns)
  case droop =>
    intro rail ds s hrail hruns hworst hdeep hgood
    refine congrArg Host.Outcome.next ((if_pos ⟨hrail, hruns⟩).trans ?_)
    simp [holdAt, holdSince, heldFor, hdeep, Nat.not_le.mpr hworst, hgood, SMap.find_put_same, SMap.find_erase_same]
  case flow =>
    intro ml s hruns s1 s2 hlow
    refine congrArg Host.Outcome.next ((if_pos hruns).trans (congrArg (fun x : State => x.setFlowState s2.flowNext) (if_neg ?_)))
    intro htie
    have hflow := (Bool.and_eq_true_iff.mp (Bool.and_eq_true_iff.mp htie).1).1
    exact absurd (of_decide_eq_true hflow) (Nat.not_le.mpr hlow)
  case temp =>
    intro ts s hruns s1
    refine ⟨fun hcool => ?_, fun hhot hagain => ?_⟩
    · have hn : (if 880 ≤ s1.tpol then s1.power.hot + 1 else 0) = 0 := if_neg (Int.not_le.mpr hcool)
      refine congrArg Host.Outcome.next ((if_pos hruns).trans ((if_neg ?_).trans ?_))
      · exact fun h => absurd (hn ▸ h : 2 ≤ 0) (by decide)
      · exact congrArg (fun n => ({ s1 with power := { s1.power with hot := n } } : State)) hn
    · have hn : (if 880 ≤ s1.tpol then s1.power.hot + 1 else 0) = s1.power.hot + 1 := if_pos hhot
      refine congrArg Host.Outcome.next ((if_pos hruns).trans ((if_pos ?_).trans ?_))
      · exact le_of_le_of_eq (Nat.succ_le_succ hagain) hn.symm
      · exact congrArg (fun n => State.hardShutdown { s1 with power := { s1.power with hot := n } } 1) hn

end Sys2Proof.Machine

/-! Resets and the rows of the start-up (16). -/

namespace Sys2Proof.Machine

open Sys2Proof

/-- The start-up under way in BOOT. -/
theorem State.booting_of {s : State} {b : BootRun} (hmode : s.mode = modeBoot) (hboot : s.modes.boot = some b) :
    s.booting = some b := by simp [State.booting, hmode, hboot]

/-- No start-up is under way outside BOOT. -/
theorem State.booting_outside {s : State} (hmode : s.mode ≠ modeBoot) : s.booting = none := if_neg hmode

/-- A cold reset records its cause: the lanes that it stopped, told last, change no register of the reset. -/
theorem State.rd_resetCold_cause (s : State) (cause : Nat) (h : 3 ≤ cause) (hmax : cause < 16) :
    (s.resetCold cause).rd GLB_RESET_CAUSE = cause := by
  have htold := foldl_frame (g := fun (x : State) n => x.post 0x5002 (0x500 + n) 2 6) (read := fun x => x.rd GLB_RESET_CAUSE)
    (fun x n => State.rd_post _ _ _ _ _ _ (by decide)) ((List.range 128).filter fun n => s.lane n == 2)
  have hcause : (if cause < 3 ∧ s.isSet THM_TRIP_VALID then 6 else cause) = cause := if_neg (by omega)
  refine (htold _).trans ((State.rd_wr_same _ _ _).trans ?_)
  rw [hcause]
  exact Nat.mod_eq_of_lt hmax

/-- Settles O53: the rows of the start-up by what `State.booting` says of the row before. -/
theorem resetsAndStartUp : Obligations.ResetsAndStartUp := by
  refine ⟨?keyed, ?ignored, ?due, ?notDue, ?noReset, ?cause, ?rails, ?railsAgain, ?noBlock, ?stewardBoots, ?notBooting,
    ?noGolden, ?restored, ?verified, ?done, ?notReady, ?outside⟩
  case keyed =>
    intro v s hkey hoff hdeep
    refine ⟨fun hkind => ?_, fun hkind => ?_⟩
    · refine congrArg Host.Outcome.next ((if_pos ⟨hkey, hoff, hdeep⟩).trans ?_)
      simp [hkind]
    · refine congrArg Host.Outcome.next ((if_pos ⟨hkey, hoff, hdeep⟩).trans ?_)
      simp [hkind]
  case ignored =>
    intro v s h
    refine congrArg Host.Outcome.next (if_neg ?_)
    rintro ⟨hkey, hoff, hdeep⟩
    rcases h with h | h | h
    · exact h hkey
    · exact hoff h
    · exact hdeep h
  case due =>
    intro d s hreset hdue
    refine ⟨fun hcold => ?_, fun hcold => ?_⟩ <;>
      simp [exec, execColdReset, execWarmReset, State.dueReset, hreset, hcold, hdue]
  case notDue =>
    intro d s hreset hdue
    simp [exec, execColdReset, execWarmReset, State.dueReset, hreset, Nat.not_le.mpr hdue]
  case noReset => intro s hreset; simp [exec, execColdReset, execWarmReset, State.dueReset, hreset]
  case cause => exact fun c s hmin hmax => State.rd_resetCold_cause s c hmin hmax
  case rails =>
    intro b s hmode hboot hrails hprom
    simp [exec, execRailsGood, State.booting_of hmode hboot, hrails, hprom, State.setBoot]
  case railsAgain => intro b s hmode hboot hrails; simp [exec, execRailsGood, State.booting_of hmode hboot, hrails]
  case noBlock =>
    intro b f s t hmode hboot hrails hsteward hdone ht hchoice
    subst ht
    simp [exec, execStewardBootDone, State.booting_of hmode hboot, hrails, hsteward, Nat.not_lt.mpr hdone, hchoice]
  case stewardBoots =>
    intro b f k s t hmode hboot hrails hsteward hdone hchoice ht
    subst ht
    simp [exec, execStewardBootDone, State.booting_of hmode hboot, hrails, hsteward, Nat.not_lt.mpr hdone, hchoice]
  case notBooting =>
    intro b f s hmode hboot h
    rcases h with h | h <;> simp [exec, execStewardBootDone, State.booting_of hmode hboot, h]
  case noGolden =>
    intro b f s hmode hboot hsteward hrestored houtcome hmask
    simp [exec, execContextRestoreDone, State.booting_of hmode hboot, hsteward, hrestored, houtcome, hmask]
  case restored =>
    intro b f m s t hmode hboot hsteward hrestored houtcome hm hmask ht
    simp only [exec, execContextRestoreDone, State.booting_of hmode hboot, hsteward, hrestored, houtcome, ← hm, hmask, ← ht]
    rfl
  case verified =>
    intro b f s t hmode hboot hrestored hverified htwo hfive ht
    subst ht
    refine ⟨fun hrecord => ?_, fun m hrecord => ?_⟩ <;>
      simp [exec, execBootTagVerified, State.booting_of hmode hboot, hrestored, hverified, htwo, hfive, hrecord]
  case done => intro b s hmode hboot hready; simp [exec, execBootDone, State.booting_of hmode hboot, hready]
  case notReady => intro b s hmode hboot hready; simp [exec, execBootDone, State.booting_of hmode hboot, hready]
  case outside =>
    intro f s hmode
    simp [exec, execRailsGood, execStewardBootDone, execContextRestoreDone, execBootTagVerified, execBootDone,
      State.booting_outside hmode]

end Sys2Proof.Machine

/-! Power states: entry, quiesce, commit, exit, wakes (16). -/

namespace Sys2Proof.Machine

open Sys2Proof

/-- The modes in which clocks run are no power state. -/
theorem State.rest_of_running {s : State} (h : s.running = true) : s.mode ≠ modeSleep ∧ s.mode ≠ modeIdle := by
  constructor
  · intro hmode
    simp [State.running, hmode, modeSleep] at h
    exact absurd h (by decide)
  · intro hmode
    simp [State.running, hmode, modeIdle] at h
    exact absurd h (by decide)

/-- With no entry there is nothing to abort. -/
theorem State.pwrAbort_of_idle {s : State} {code : Nat} (h : s.modes.entry = none) : s.pwrAbort code = s := by
  simp [State.pwrAbort, h]

/-- With no entry there is no window. -/
theorem State.inWindow_of_idle {s : State} (h : s.modes.entry = none) : s.inWindow = false := by
  simp [State.inWindow, h]

/-- Settles O54: an entry by its refusers and its window; a wake with no entry aborts none. -/
theorem powerStates : Obligations.PowerStates := by
  refine ⟨?badTarget, ?enter, ?waits, ?refused, ?window, ?completed, ?noEntry, ?early, ?commit, ?exitRunning, ?exitSleep,
    ?serviceMode, ?service, ?wakeOff, ?wakeEdge, ?wakeDone, ?noWake, ?inWindow, ?farAccess, ?access, ?refresh, ?noRefresh⟩
  case badTarget => exact fun id r s h ht => State.startCmd_of_end h (if_pos ht)
  case enter =>
    intro id d r s h hmin hmax hdepth
    have hlisted : ¬ (recByte r 8 = 0 ∨ 4 < recByte r 8) := by omega
    refine ⟨?shallow, ?busy, ?refuses, ?runs⟩
    case shallow =>
      exact fun ht => State.startCmd_of_end h ((if_neg hlisted).trans (by simp only [hdepth]; exact if_pos ht))
    case busy =>
      intro ht hentry
      have hsome : s.modes.entry.isSome = true := Option.isSome_iff_ne_none.mpr hentry
      refine State.startCmd_of_end h ((if_neg hlisted).trans ?_)
      simp only [hdepth, if_neg (Nat.not_le.mpr ht), hsome, if_true]
      rfl
    case refuses =>
      intro code ht hentry hrefuser
      refine State.startCmd_of_end h ((if_neg hlisted).trans ?_)
      simp only [hdepth, if_neg (Nat.not_le.mpr ht), hentry, Option.isSome_none, Bool.false_eq_true, if_false, hrefuser]
    case runs =>
      intro ht hentry hrefuser
      refine State.startCmd_of_begin h ((if_neg hlisted).trans ?_)
      simp only [hdepth, if_neg (Nat.not_le.mpr ht), hentry, Option.isSome_none, Bool.false_eq_true, if_false, hrefuser]
  case waits =>
    intro e s hentry h
    rcases h with h | h <;> simp [exec, execPwrQuiesceDone, hentry, h]
  case refused =>
    intro e code s hentry hwindow hcommands hrefuser
    simp [exec, execPwrQuiesceDone, hentry, hwindow, hcommands, hrefuser]
  case window =>
    intro e s hentry hwindow hcommands hrefuser htarget
    simp [exec, execPwrQuiesceDone, hentry, hwindow, hcommands, hrefuser, Nat.not_le.mpr htarget]
  case completed =>
    intro e s t hentry hwindow hcommands hrefuser htarget ht
    subst ht
    simp [exec, execPwrQuiesceDone, hentry, hwindow, hcommands, hrefuser, htarget]
  case noEntry => intro s hentry; simp [exec, execPwrQuiesceDone, execPwrCommit, hentry]
  case early =>
    intro e s hentry h
    rcases h with h | h | h <;> simp [exec, execPwrCommit, hentry, h]
  case commit =>
    intro e s t hentry hwindow hsince hreset ht
    subst ht
    simp [exec, execPwrCommit, hentry, hwindow, Nat.not_lt.mpr hsince, hreset]
  case exitRunning =>
    intro id r s h hrun
    obtain ⟨hsleep, hidle⟩ := State.rest_of_running hrun
    exact State.startCmd_of_end h (if_neg (by simp [hsleep, hidle]))
  case exitSleep =>
    intro id r s h hmode hentry
    refine State.startCmd_of_begin h ((if_pos (.inl hmode)).trans ?_)
    simp [State.inWindow_of_idle hentry, State.pwrAbort_of_idle hentry]
  case serviceMode => exact fun id r s h hidle hfault => State.runCmd_of h (if_pos ⟨hidle, hfault⟩)
  case service =>
    intro id r s h hmode hentry hwaking
    refine State.runCmd_of h ((if_neg ?_).trans (if_neg ?_))
    · rintro ⟨hidle, hfault⟩
      rcases hmode with hmode | hmode
      · exact hidle hmode
      · exact hfault hmode
    · simp [hentry, hwaking]
  case wakeOff => exact fun l s hoff => congrArg Host.Outcome.next (if_pos (by simp [hoff]))
  case wakeEdge =>
    intro l s hon hl hedge
    have hactive : State.wakeActive { s with modes := { s.modes with wakeHigh := l } } = true := beq_iff_eq.mpr hl
    refine congrArg Host.Outcome.next ((if_neg ?_).trans (if_neg ?_))
    · simp only [hon, hactive, Bool.not_true, Bool.or_self, Bool.false_eq_true, not_false_eq_true]
    · simp [hedge]
  case wakeDone =>
    intro c s hwaking hentry hmode
    simp [exec, execWakeDone, hwaking, hentry, hmode]
  case noWake => intro s hwaking; simp [exec, execWakeDone, hwaking]
  case inWindow => exact fun far ns s h => congrArg Host.Outcome.next (if_pos h)
  case farAccess =>
    intro ns s hentry hmode hrefresh
    simp [exec, execFirstAccessWake, State.inWindow_of_idle hentry, State.pwrAbort_of_idle hentry, hmode, hrefresh]
  case access =>
    intro ns s hentry hmode hconfigured
    simp [exec, execFirstAccessWake, State.inWindow_of_idle hentry, State.pwrAbort_of_idle hentry, hmode, hconfigured]
  case refresh => exact fun s hmode hrefresh hsince => congrArg Host.Outcome.next (if_pos ⟨hmode, hrefresh, hsince⟩)
  case noRefresh =>
    intro s h
    refine congrArg Host.Outcome.next (if_neg ?_)
    rintro ⟨hmode, _, hsince⟩
    rcases h with h | h
    · exact h hmode
    · exact Nat.not_le.mpr h hsince

end Sys2Proof.Machine

/-! Promenade, its routes and frame sync, the claims of lands (17, 18). -/

namespace Sys2Proof.Machine

open Sys2Proof

/-- A frame sync output frame has every word of its format. -/
theorem State.routeFrame_length {n w : Nat} {d : Found} {s : State} (h : s.routeTie n = false) :
    (s.routeFrame n w d).1.length = routeWords w := by
  unfold State.routeFrame
  split
  · simp only [State.routeView, h, Bool.false_eq_true, if_false, State.routeAddrs, List.length_map, List.length_range]
  · exact List.length_replicate

/-- An input frame of a frame sync route. -/
theorem exec_frameSyncInputFrame_of_route {n w : Nat} {whole crosses : Bool} {ws : List (Nat × Bool)} {s : State}
    (hroute : s.route n = some w) (hkind : routeKind w = 2) : exec (.frameSyncInputFrame n whole crosses ws) s =
    .next (if crosses && !s.outputStarts n then s.frameSlip n false
      else if !whole || ws.length != routeWords w then s
      else s.routeInput n w ws) := by
  simp only [exec, execFrameSyncInputFrame, hroute, hkind, ne_eq, not_true_eq_false, if_false]

/-- An input frame that crosses no output of its tick is not dropped. -/
theorem State.not_crosses {n : Nat} {crosses : Bool} {s : State} (h : crosses = false ∨ s.outputStarts n = true) :
    (crosses && !s.outputStarts n) = false := by
  rcases h with h | h <;> simp [h]

/-- An output frame of a frame sync route. -/
theorem exec_frameSyncOutputFrame_of_route {n w : Nat} {crosses : Bool} {d : Found} {s u : State} (hroute : s.route n = some w)
    (hkind : routeKind w = 2)
    (hu : u = State.addSatAt { (if s.routeHolds n w then s.senseWords d (s.routeAddrs n w) else s) with
      prom := { (if s.routeHolds n w then s.senseWords d (s.routeAddrs n w) else s).prom with
        lastFrame := some (n, (s.routeFrame n w d).1) } } PRM_ROUTE_POISON_CNT n (s.routeFrame n w d).2) :
    exec (.frameSyncOutputFrame n crosses d) s = .next (if crosses && !s.routeTie n then u.frameSlip n true else u) := by
  subst hu
  simp only [exec, execFrameSyncOutputFrame, hroute, hkind, ne_eq, not_true_eq_false, if_false]

/-- Settles O55: the exit and the claims by the order of their checks, frame sync by its route's rule. -/
theorem promenadeAndClaims : Obligations.PromenadeAndClaims := by
  refine ⟨?enter, ?exit, ?noRecurrence, ?request, ?routeStays, ?routeChange, ?noSync, ?syncInput, ?syncOutput, ?wholeFrame,
    ?claim, ?release⟩
  case enter =>
    intro id r s h
    refine ⟨fun hmode => State.runCmd_of h (if_pos hmode), fun hoff hdeep hboot hservice => State.runCmd_of h (if_neg ?_)⟩
    simp [hoff, hdeep, hboot, hservice]
  case exit =>
    intro id r s h
    refine ⟨?elsewhere, ?badPath, ?barred, ?load, ?boot⟩
    case elsewhere => exact fun hmode => State.startCmd_of_end h (if_pos hmode)
    case badPath =>
      exact fun hmode hpath => State.startCmd_of_end h ((if_neg (not_not.mpr hmode)).trans (if_pos hpath))
    case barred =>
      exact fun hmode hpath hcauses => State.startCmd_of_end h ((if_neg (not_not.mpr hmode)).trans
        ((if_neg (Nat.not_lt.mpr hpath)).trans (if_pos hcauses)))
    case load =>
      intro hmode hcauses hpath hintact
      exact State.startCmd_of_begin h ((if_neg (not_not.mpr hmode)).trans ((if_neg (by omega)).trans
        ((if_neg (not_not.mpr hcauses)).trans (if_pos ⟨hpath, hintact⟩))))
    case boot =>
      intro hmode hcauses hpath
      refine State.startCmd_of_begin h ((if_neg (not_not.mpr hmode)).trans ((if_neg (by omega)).trans
        ((if_neg (not_not.mpr hcauses)).trans (if_neg ?_))))
      rintro ⟨hzero, hintact⟩
      rcases hpath with hone | ⟨_, hlost⟩
      · omega
      · exact absurd (hlost.symm.trans hintact) Bool.false_ne_true
  case noRecurrence => intro s h; rw [State.exitCauses, h, Nat.or_zero]
  case request =>
    intro s
    refine ⟨fun hhigh => ?_, fun hlow => ?_, rfl⟩
    · simp [exec, execPromReqInput, hhigh]
    · simp [exec, execPromReqInput, Option.isSome_iff_ne_none.mpr hlow]
  case routeStays =>
    intro n up s h
    cases hroute : s.route n with
    | none => simp [exec, execRouteStateChange, hroute]
    | some w =>
      have hup : s.rdAt PRM_ROUTE_UP n = flag up := h.resolve_left (by simp [hroute])
      simp [exec, execRouteStateChange, hroute, hup]
  case routeChange =>
    intro n w s hroute
    refine ⟨fun hdown hmay => ?_, fun hmay => ?_, fun hup => ?_⟩
    · simp [exec, execRouteStateChange, hroute, hdown, hmay, State.routeChange, flag]
    · simp [exec, execRouteStateChange, hroute, hmay]
    · simp [exec, execRouteStateChange, hroute, hup, State.routeChange, flag]
  case noSync =>
    intro n whole crosses ws f s h
    cases hroute : s.route n with
    | none => simp [exec, execFrameSyncInputFrame, execFrameSyncOutputFrame, hroute]
    | some w => simp [exec, execFrameSyncInputFrame, execFrameSyncOutputFrame, hroute, h w hroute]
  case syncInput =>
    intro n w whole crosses ws s hroute hkind
    rw [exec_frameSyncInputFrame_of_route hroute hkind]
    refine ⟨fun hcrosses houtput => ?_, fun hties h => ?_, fun hties hwhole hlength => ?_⟩
    · simp [hcrosses, houtput, State.frameSlip, flag]
    · rw [State.not_crosses hties]
      refine congrArg Host.Outcome.next ((if_neg Bool.false_ne_true).trans (if_pos ?_))
      rcases h with h | h <;> simp [h]
    · rw [State.not_crosses hties]
      refine congrArg Host.Outcome.next ((if_neg Bool.false_ne_true).trans (if_neg ?_))
      simp [hwhole, hlength]
  case syncOutput =>
    intro n w d f s t hroute hkind hf ht u
    subst hf ht
    refine ⟨exec_frameSyncOutputFrame_of_route hroute hkind rfl, fun htie => ?_, fun htie => ?_⟩
    · exact (exec_frameSyncOutputFrame_of_route hroute hkind rfl).trans (congrArg Host.Outcome.next (if_neg (by simp [htie])))
    · exact (exec_frameSyncOutputFrame_of_route hroute hkind rfl).trans (congrArg Host.Outcome.next (if_pos (by simp [htie])))
  case wholeFrame => exact fun n w d s h => State.routeFrame_length h
  case claim =>
    intro id r s h
    refine ⟨?badLand, ?badUse, ?locked, ?notCaller, ?claims⟩
    case badLand => exact fun hp => State.runCmd_of h (if_pos hp)
    case badUse =>
      exact fun hp htwo hthree => State.runCmd_of h ((if_neg (Nat.not_lt.mpr hp)).trans (if_pos ⟨htwo, hthree⟩))
    case locked =>
      exact fun hp huse hlocked => State.runCmd_of h ((if_neg (Nat.not_lt.mpr hp)).trans ((if_neg (by omega)).trans
        (if_pos hlocked)))
    case notCaller =>
      intro hp hland huse hlocked
      exact State.runCmd_of h ((if_neg (Nat.not_lt.mpr hp)).trans ((if_neg (by omega)).trans
        ((if_neg (by simp [hlocked])).trans (if_pos ⟨huse, hland⟩))))
    case claims =>
      intro hp huse hlocked
      have huse' : ¬ (recByte r 9 ≠ 2 ∧ recByte r 9 ≠ 3) := by omega
      have hcaller : ¬ (recByte r 9 = 2 ∧ 7 < recByte r 8) := by omega
      refine ⟨fun hclaimed hheld => ?_, fun hclaimed hheld howned => ?_, fun hfree => ?_⟩
      · refine State.runCmd_of h ((if_neg (Nat.not_lt.mpr hp)).trans ((if_neg huse').trans
          ((if_neg (by simp [hlocked])).trans ((if_neg hcaller).trans (if_pos ?_)))))
        simp [hclaimed, hheld]
      · refine State.runCmd_of h ((if_neg (Nat.not_lt.mpr hp)).trans ((if_neg huse').trans
          ((if_neg (by simp [hlocked])).trans ((if_neg hcaller).trans ((if_neg ?_).trans (if_pos howned))))))
        simp [hheld]
      · refine State.runCmd_of h ((if_neg (Nat.not_lt.mpr hp)).trans ((if_neg huse').trans
          ((if_neg (by simp [hlocked])).trans ((if_neg hcaller).trans ((if_neg ?_).trans (if_neg ?_))))))
        · rcases hfree with hfree | ⟨hheld, _⟩
          · simp [hfree]
          · simp [hheld]
        · rcases hfree with hfree | ⟨_, howned⟩
          · simp [State.landOwnedBy, hfree]
          · simp [howned]
  case release =>
    intro id r s h
    refine ⟨?badLand, ?locked, ?notHeld, ?releases⟩
    case badLand => exact fun hp => State.runCmd_of h (if_pos hp)
    case locked => exact fun hp hlocked => State.runCmd_of h ((if_neg (Nat.not_lt.mpr hp)).trans (if_pos hlocked))
    case notHeld =>
      exact fun hp hlocked hheld => State.runCmd_of h ((if_neg (Nat.not_lt.mpr hp)).trans
        ((if_neg (by simp [hlocked])).trans (if_neg (by simp [hheld]))))
    case releases =>
      exact fun hp hlocked hheld => State.runCmd_of h ((if_neg (Nat.not_lt.mpr hp)).trans
        ((if_neg (by simp [hlocked])).trans (if_pos hheld)))

end Sys2Proof.Machine

/-! The life cycle: keys, transitions, privileged steps (19). -/

namespace Sys2Proof.Machine

open Sys2Proof

/-- A row that takes its command ends it with what its body answers. -/
theorem State.runCmd_ends {s : State} {id op : Nat} {r : List Nat} {body : List Nat → State → Completion × State}
    (h : s.Takes id op r) :
    (Host.Outcome.next (s.runCmd id op body) : Result) = .next ((body r s).2.complete id (body r s).1) :=
  State.runCmd_of h rfl

/-- Counting in one field leaves the others. -/
theorem State.rd_incSat_other (s : State) (f g : Field) (h : g.key 0 ≠ f.key 0) : (s.incSat f).rd g = s.rd g :=
  State.rdAt_wrAt_other _ _ _ _ _ _ h

/-- A group replaced reads as its new content. -/
theorem State.rowGroup_setGroup_same (s : State) (g : Nat) (x : RowGroup) : (s.setGroup g x).rowGroup g = x :=
  SMap.read_store_same _ _ _ _

/-- What shows the row leaves the row as it is. -/
@[simp] theorem State.showRow_life (s : State) : s.showRow.life = s.life := rfl

/-- The effective state is not among what shows the row. -/
theorem State.rd_showRow_state (s : State) : s.showRow.rd LCS_STATE_STATE = s.rd LCS_STATE_STATE := by
  rw [State.showRow, State.rd_wr_other _ _ _ _ (by decide), State.rd_wr_other _ _ _ _ (by decide),
    State.rd_wr_other _ _ _ _ (by decide), State.rd_wr_other _ _ _ _ (by decide)]

/-- Sixteen cells that all program are full. -/
theorem RowGroup.pulsed_full {x : RowGroup} (h : x.weak = 0) : x.pulsed.full = true := by
  simp [RowGroup.pulsed, RowGroup.full, h]

/-- A group whose cells all program, pulsed. -/
theorem State.pulseGroup_of_strong {s : State} {g : Nat} (h : (s.rowGroup g).weak = 0) :
    s.pulseGroup g = (true, (s.setGroup g (s.rowGroup g).pulsed).showRow) := by
  simp only [State.pulseGroup, RowGroup.pulsed_full h, if_true]

/-- A group with no authority mark bars no key. -/
theorem RowGroup.not_bars {x : RowGroup} {slot : Nat} (hauth : x.auth = 0) (hpart : x.authPart = 0) : x.bars slot = false := by
  simp [RowGroup.bars, hauth, hpart]

/-- The authority cell of a group with no weak cell programs. -/
theorem RowGroup.authorised_of_strong {x : RowGroup} {a : Nat} (hweak : x.weak = 0) (hauth : x.auth = 0) (hpart : x.authPart = 0) :
    x.authorised a = { x with auth := 2 ^ a, authPart := 0 } := by
  simp [RowGroup.authorised, bitOf, hweak, hauth, hpart]

/-- A bit alone reads 1. -/
theorem bitOf_two_pow (a : Nat) : bitOf (2 ^ a) a = 1 := by
  rw [bitOf, Nat.div_self (Nat.two_pow_pos a)]

/-- A plain transition whose cells all program. -/
theorem State.plainTransition_of_strong {s : State} {t slot : Nat} (hweak : (s.rowGroup (t - 1)).weak = 0)
    (hauth : (s.rowGroup (t - 1)).auth = 0) (hpart : (s.rowGroup (t - 1)).authPart = 0) :
    (s.plainTransition t slot).1 = ⟨0, 0, 0⟩ ∧ ((s.plainTransition t slot).2.rowGroup (t - 1)).full = true ∧
      (s.plainTransition t slot).2.rd LCS_STATE_STATE = s.rd LCS_STATE_STATE := by
  have hbit : ¬ bitOf (2 ^ authBit slot) (authBit slot) = 0 := by rw [bitOf_two_pow]; decide
  have hgroup (p : Pulse) (y : RowGroup) : ((s.setGroup (t - 1) y).notePulse p).rowGroup (t - 1) = y :=
    State.rowGroup_setGroup_same _ _ _
  simp only [State.plainTransition, RowGroup.not_bars hauth hpart, Bool.false_eq_true, if_false,
    RowGroup.authorised_of_strong hweak hauth hpart, if_neg hbit]
  rw [State.programGroup, State.pulseGroup_of_strong (by rw [hgroup]; exact hweak), hgroup]
  refine ⟨rfl, ?full, ?state⟩
  case full =>
    have hlife (u : State) : ((u.incSat LCS_TRANS_CNT).post 0xC001 0xC00 1 (t + slot * 2 ^ 4)).life = u.life :=
      (State.post_life _ _ _ _ _).trans (State.incSat_life _ _)
    rw [State.rowGroup, if_pos rfl, hlife, State.showRow_life]
    exact (congrArg RowGroup.full (State.rowGroup_setGroup_same _ _ _)).trans (RowGroup.pulsed_full hweak)
  case state =>
    rw [if_pos rfl, State.rd_post _ _ _ _ _ _ (by decide), State.rd_incSat_other _ _ _ (by decide), State.rd_showRow_state]
    rfl

/-- Settles O56: the order of the checks, then `plainTransition` on cells that all program. -/
theorem lifeCycleCommands : Obligations.LifeCycleCommands := by
  refine ⟨?info, ?challenge, ?waits, ?keyWrite, ?badSlot, ?refusals, ?transition, ?programs, ?barred, ?repeats, ?noStep,
    ?step⟩
  case info => exact fun id r s h => State.runCmd_of h rfl
  case challenge => exact fun id r s h => State.runCmd_of h rfl
  case waits => intro id s h; simp [exec, execLcsKeyWrite, execLcsTransition, execRepeatTransition, h]
  case keyWrite =>
    intro id r s h hpulse
    have hrow {c : Completion} {u : State} (hbody : (if 3 < recByte r 8 then (Completion.badParam 8, s)
        else if s.lifeState = lcsLocked then (⟨0x86, 0, 0⟩, s)
        else if s.lifeState ≠ lcsBlank ∧ s.lifeState ≠ lcsOwned then (.denied, s)
        else if (s.keySlot (recByte r 8)).code ≠ 0 then (⟨0x84, 0, 0⟩, s)
        else s.keyWrite (recByte r 8) (recField r 16 32)) = (c, u)) :
        exec (.lcsKeyWrite id) s = .next (u.complete id c) :=
      (congrArg Host.Outcome.next (if_neg (by simp [hpulse]))).trans (State.runCmd_of h hbody)
    have hopen (hstate : s.rd LCS_STATE_STATE = 2 ∨ s.rd LCS_STATE_STATE = 3) :
        s.lifeState ≠ lcsLocked ∧ ¬ (s.lifeState ≠ lcsBlank ∧ s.lifeState ≠ lcsOwned) := by
      rcases hstate with h | h <;> simp [State.lifeState, lcsLocked, lcsBlank, lcsOwned, h]
    refine ⟨?slot, ?locked, ?denied, ?used, ?written⟩
    case slot => exact fun hk => hrow (if_pos hk)
    case locked => exact fun hk hstate => hrow ((if_neg (Nat.not_lt.mpr hk)).trans (if_pos hstate))
    case denied =>
      intro hk hstate
      refine hrow ((if_neg (Nat.not_lt.mpr hk)).trans ((if_neg ?_).trans (if_pos ?_)))
      · intro hlocked
        rw [State.lifeState] at hlocked
        rw [hlocked] at hstate
        exact absurd hstate (by decide)
      · constructor
        · intro hblank
          rw [State.lifeState] at hblank
          rw [hblank] at hstate
          exact absurd hstate (by decide)
        · intro howned
          rw [State.lifeState] at howned
          rw [howned] at hstate
          exact absurd hstate (by decide)
    case used =>
      intro hk hstate hcode
      exact hrow ((if_neg (Nat.not_lt.mpr hk)).trans ((if_neg (hopen hstate).1).trans ((if_neg (hopen hstate).2).trans
        (if_pos hcode))))
    case written =>
      intro hk hstate hcode hweak
      exact hrow ((if_neg (Nat.not_lt.mpr hk)).trans ((if_neg (hopen hstate).1).trans ((if_neg (hopen hstate).2).trans
        ((if_neg (not_not.mpr hcode)).trans (if_neg (by simp [hweak]))))))
  case badSlot => intro t slot s h; simp [State.transitionRefusal, h, Completion.badParam]
  case refusals =>
    intro t slot s hslot
    refine ⟨?locked, ?pending, ?forbidden, ?permitted⟩
    case locked => intro hstate; simp [State.transitionRefusal, State.lifeState, lcsLocked, hslot, hstate]
    case pending => intro hstate hpending; simp [State.transitionRefusal, State.lifeState, lcsLocked, hslot, hstate, hpending]
    case forbidden =>
      intro hstate hpending hpriv hforbidden
      simp [State.transitionRefusal, State.lifeState, lcsLocked, hslot, hstate, hpending, hpriv, hforbidden]
    case permitted =>
      intro hpending hpriv hpermitted hstate
      refine ⟨?mode, ?noKey, ?passes⟩
      case mode =>
        intro ht hmode
        have hprivileged : privilegedTarget t = true := by rcases ht with rfl | rfl <;> rfl
        simp [State.transitionRefusal, State.lifeState, lcsLocked, hslot, hstate, hpending, hpriv, hpermitted, hprivileged,
          hmode, Completion.notInMode]
      case noKey =>
        intro ht hkeyed
        subst ht
        simp [State.transitionRefusal, State.lifeState, lcsLocked, hslot, hstate, hpending, hpriv, hpermitted, privilegedTarget,
          lcsReturn, lcsScrap, lcsOwned, hkeyed]
      case passes =>
        intro ht
        have hplain : privilegedTarget t = false := by rcases ht with rfl | rfl | ⟨rfl, _⟩ <;> rfl
        have hkey : ¬ (t = lcsOwned ∧ (!s.anyKeyed) = true) := by
          rintro ⟨howned, hkeyed⟩
          rcases ht with rfl | rfl | ⟨_, hany⟩
          · exact absurd howned (by decide)
          · exact absurd howned (by decide)
          · rw [hany] at hkeyed
            exact absurd hkeyed (by decide)
        exact (if_neg (by simp [hslot])).trans ((if_neg hstate).trans ((if_neg (by simp [hpending, hpriv])).trans
          ((if_neg (by rw [State.lifeState, hpermitted]; decide)).trans ((if_neg (by simp [hplain])).trans (if_neg hkey)))))
  case transition =>
    intro id r s h hpulse hsteward
    have hwaits : ¬ (s.pulsing || (privilegedTarget (recByte (s.record id) 8) &&
        (s.mode == modeService && !s.stewardReady && s.mgmt.steward != .stopped))) = true := by
      rw [h.record, hpulse]
      rcases hsteward with h | h | h | h <;> simp [h]
    refine ⟨fun c hc => ?_, ?_⟩
    · exact (congrArg Host.Outcome.next (if_neg hwaits)).trans (State.runCmd_of h (by simp only [State.transition, hc]))
    · intro hnone a
      refine (congrArg Host.Outcome.next (if_neg hwaits)).trans ((State.runCmd_ends h).trans (congrArg Host.Outcome.next ?_))
      simp only [State.transition, hnone, a, Bool.not_eq_true']
      split_ifs <;> rfl
  case programs => exact fun s t slot _ _ hweak hauth hpart => State.plainTransition_of_strong hweak hauth hpart
  case barred => exact fun s t slot h => if_pos h
  case repeats =>
    intro id r s h hpulse
    have hfree : ¬ s.pulsing = true := by simp [hpulse]
    refine ⟨fun hslot => ?_, fun hslot hgroup => ?_, ?_⟩
    · exact (congrArg Host.Outcome.next (if_neg hfree)).trans (State.runCmd_of h (if_pos (by simp [hslot])))
    · exact (congrArg Host.Outcome.next (if_neg hfree)).trans (State.runCmd_of h
        ((if_neg (by simp [hslot])).trans (by simp only [hgroup])))
    · intro g hslot hgroup a p
      refine (congrArg Host.Outcome.next (if_neg hfree)).trans ((State.runCmd_ends h).trans (congrArg Host.Outcome.next ?_))
      simp only [hslot, hgroup, Bool.not_true, Bool.false_eq_true, if_false]
      split_ifs <;> rfl
  case noStep =>
    intro s h
    unfold exec execPrivilegedStepDone
    cases htarget : s.privTarget with
    | none => rfl
    | some t =>
      refine congrArg Host.Outcome.next (if_pos ?_)
      rcases h with h | h | h
      · simp [htarget] at h
      · exact .inl h
      · exact .inr (by simp [h])
  case step =>
    intro t s htarget hstep hready k
    have hruns : ¬ (k = 0 ∨ (!s.stewardReady) = true) := by simp [k, hstep, hready]
    have hrow : exec .privilegedStepDone s = .next (if !(s.privWork t k).privVerified t k then s.privWork t k
        else if (s.privWork t k).markWeak t k then (s.privWork t k).cellFailed 3 k
        else (s.privWork t k).markStep t k) := by
      simp only [exec, execPrivilegedStepDone, htarget]
      exact congrArg Host.Outcome.next (if_neg hruns)
    rw [hrow]
    refine ⟨fun hverified => ?_, fun hverified hweak => ?_, fun hverified hweak => ?_⟩
    · exact congrArg Host.Outcome.next (if_pos (by simp [hverified]))
    · exact congrArg Host.Outcome.next ((if_neg (by simp [hverified])).trans (if_pos hweak))
    · exact congrArg Host.Outcome.next ((if_neg (by simp [hverified])).trans (if_neg (by simp [hweak])))

end Sys2Proof.Machine

/-! Authentication and debug instructions (19). -/

namespace Sys2Proof.Machine

open Sys2Proof

/-- Where the management plane is on and the state permits the instruction, it acts. -/
theorem State.debug_of_permitted {s : State} {o : Bool} {act : State → State} (hoff : s.mode ≠ modeOff)
    (hdeep : s.mode ≠ modeDeepSleep) (h : s.debugPermitted o = true) : s.debug o act = act (s.setJtag .debug) :=
  (if_neg (by simp [hoff, hdeep])).trans (if_pos h)

/-- Where the state does not permit the instruction, JTAG goes to BYPASS and the refusal is counted. -/
theorem State.debug_of_denied {s : State} {o : Bool} {act : State → State} (hoff : s.mode ≠ modeOff)
    (hdeep : s.mode ≠ modeDeepSleep) (h : s.debugPermitted o = false) :
    s.debug o act = (s.setJtag .bypass).incSat LCS_DBG_REFUSE_CNT :=
  (if_neg (by simp [hoff, hdeep])).trans (if_neg (by simp [h]))

/-- Settles O57: every instruction by `State.debug_of_permitted` or `State.debug_of_denied`. -/
theorem debugInstructions : Obligations.DebugInstructions := by
  refine ⟨?noChallenge, ?challenge, ?permitted, ?planeOff, ?deniedOwner, ?denied, ?response, ?access, ?control⟩
  case noChallenge => intro op t slot tag s h; simp [State.authenticate, h]
  case challenge =>
    intro op t slot tag c s h s1
    refine ⟨fun hlockout => ?_, fun hlockout hslot hkey => ?_, fun hlockout hslot hkey => ?_, fun hlockout => ?_⟩
    · simp [State.authenticate, h, hlockout]
    · have hnamed : slot ≠ 0xF := by omega
      simp [State.authenticate, h, hlockout, State.authKey, hnamed, hkey, State.useChallenge, s1]
    · have hnamed : slot ≠ 0xF := by omega
      simp [State.authenticate, h, hlockout, State.authKey, hnamed, hkey, State.useChallenge, s1]
    · simp [State.authenticate, h, hlockout, State.authKey, State.useChallenge, s1]
  case permitted => intro o s; simp [State.debugPermitted, State.lifeState, lcsOwned]
  case planeOff =>
    intro slot tag offset data write s h
    have hnothing (o : Bool) (act : State → State) : (Host.Outcome.next (s.debug o act) : Result) = .next s :=
      congrArg Host.Outcome.next (if_pos h)
    exact ⟨hnothing _ _, hnothing _ _, hnothing _ _, hnothing _ _, hnothing _ _, hnothing _ _, hnothing _ _⟩
  case deniedOwner =>
    intro slot tag s hoff hdeep h
    have hrefused (act : State → State) := congrArg (Host.Outcome.next : State → Result) (State.debug_of_denied (act := act) hoff hdeep h)
    exact ⟨hrefused _, hrefused _⟩
  case denied =>
    intro offset data write s hoff hdeep h
    have hrefused (act : State → State) := congrArg (Host.Outcome.next : State → Result) (State.debug_of_denied (act := act) hoff hdeep h)
    exact ⟨hrefused _, hrefused _, hrefused _, hrefused _, hrefused _⟩
  case response =>
    intro slot tag s hoff hdeep h
    exact ⟨congrArg Host.Outcome.next (State.debug_of_permitted hoff hdeep h),
      congrArg Host.Outcome.next (State.debug_of_permitted hoff hdeep h)⟩
  case access =>
    intro offset data s hoff hdeep h
    exact ⟨congrArg Host.Outcome.next (State.debug_of_permitted hoff hdeep h),
      congrArg Host.Outcome.next (State.debug_of_permitted hoff hdeep h)⟩
  case control =>
    intro s hoff hdeep h
    have hacts {act : State → State} {t : State} (ht : act (s.setJtag .debug) = t) :
        (Host.Outcome.next (s.debug false act) : Result) = .next t :=
      congrArg Host.Outcome.next ((State.debug_of_permitted hoff hdeep h).trans ht)
    refine ⟨?halt, ?noHalt, ?resume, ?noResume, hacts rfl, ?lock, ?noLock⟩
    case halt =>
      intro hrun hcapture
      refine hacts (if_pos ?_)
      exact (Bool.and_eq_true _ _).mpr ⟨hrun, by rw [Bool.not_eq_true']; exact hcapture⟩
    case noHalt =>
      intro h
      refine hacts (if_neg fun hhalt => ?_)
      obtain ⟨hrun, hcapture⟩ := (Bool.and_eq_true _ _).mp hhalt
      rcases h with h | h
      · exact absurd (h.symm.trans hrun) Bool.false_ne_true
      · exact absurd ((Bool.not_eq_true' _).mp hcapture |>.symm.trans h) Bool.false_ne_true
    case resume => exact fun hmode => hacts (if_pos hmode)
    case noResume => exact fun hmode => hacts (if_neg hmode)
    case lock => exact fun hunlocked => hacts (if_pos hunlocked)
    case noLock =>
      intro hlocked
      exact hacts (if_neg fun hset => absurd (hlocked.symm.trans hset) Bool.false_ne_true)

end Sys2Proof.Machine

/-! The host's register accesses (00; 02). -/

namespace Sys2Proof.Machine

open Sys2Proof

/-- The bus is down exactly in OFF and DEEP_SLEEP. -/
theorem State.busUp_eq_false {s : State} (h : s.mode = modeOff ∨ s.mode = modeDeepSleep) : s.busUp = false := by
  rcases h with h | h <;> simp [State.busUp, h]

/-- An access while the bus is down does nothing. -/
theorem State.hostBus_down {s : State} (h : s.busUp = false) (a n v : Nat) : s.hostWriteBus a n v = s ∧ s.hostReadBus a n = s := by
  simp [State.hostWriteBus, State.hostReadBus, h]

/-- An aligned write of 32 bits. -/
theorem State.hostWriteBus_word {s : State} {a : Nat} (hup : s.busUp = true) (ha : a % 4 = 0) (v : Nat) :
    s.hostWriteBus a 4 v = s.write32 a (v % 2 ^ 32) :=
  (if_neg (by simp [hup])).trans (if_pos ⟨rfl, ha⟩)

/-- An aligned read of 32 bits. -/
theorem State.hostReadBus_word {s : State} {a : Nat} (hup : s.busUp = true) (ha : a % 4 = 0) : s.hostReadBus a 4 = s.read32 a :=
  (if_neg (by simp [hup])).trans (if_pos ⟨rfl, ha⟩)

/-- A write of a word that no block decodes. -/
theorem State.write32_unmapped {s : State} {a : Nat} (hwindow : windowAt a = none) (hdecoded : isDecoded a = false) (v : Nat) :
    s.write32 a v = s.mbxErr MBX_ERR_UNMAPPED := by
  simp only [State.write32, hwindow, hdecoded, Bool.not_false, if_true]

/-- A read of a word that no block decodes. -/
theorem State.read32_unmapped {s : State} {a : Nat} (hwindow : windowAt a = none) (hdecoded : isDecoded a = false) :
    s.read32 a = (s.mbxErr MBX_ERR_UNMAPPED).answer 0 := by
  simp only [State.read32, hwindow, hdecoded, Bool.not_false, if_true]

/-- A write of a register of 32 bits. -/
theorem State.write32_narrow {s : State} {a : Nat} (hwindow : windowAt a = none) (hdecoded : isDecoded a = true)
    (hwide : isWide a = false) (hhigh : isWide (a - 4) = false) (v : Nat) : s.write32 a v = s.regWrite a v := by
  simp only [State.write32, hwindow, hdecoded, hwide, hhigh, Bool.not_true, Bool.false_eq_true, if_false]

/-- A write of the low word of a 64-bit register is held. -/
theorem State.write32_low {s : State} {a : Nat} (hwindow : windowAt a = none) (hdecoded : isDecoded a = true)
    (hwide : isWide a = true) (v : Nat) : s.write32 a v = { s with holds := SMap.put s.holds a v } := by
  simp only [State.write32, hwindow, hdecoded, hwide, Bool.not_true, Bool.false_eq_true, if_false, if_true]

/-- A write of the high word of a 64-bit register writes both words. -/
theorem State.write32_high {s : State} {a : Nat} (hwindow : windowAt (a + 4) = none) (hdecoded : isDecoded (a + 4) = true)
    (hhigh : isWide (a + 4) = false) (hwide : isWide a = true) (v : Nat) : s.write32 (a + 4) v =
      State.regWrite { s with holds := SMap.erase s.holds a } a
        ((SMap.find s.holds a).getD (s.keepValue a % 2 ^ 32) + v * 2 ^ 32) := by
  simp only [State.write32, hwindow, hdecoded, hhigh, Nat.add_sub_cancel, hwide, Bool.not_true, Bool.false_eq_true, if_false,
    if_true]

/-- A read of the low word of a 64-bit register latches the high word. -/
theorem State.read32_low {s : State} {a : Nat} (hwindow : windowAt a = none) (hdecoded : isDecoded a = true)
    (hwide : isWide a = true) : s.read32 a = State.answer
      { s.readEffect a with latches := SMap.put s.latches a (s.regValue a / 2 ^ 32) } (s.regValue a % 2 ^ 32) := by
  simp only [State.read32, hwindow, hdecoded, hwide, Bool.not_true, Bool.false_eq_true, if_false, if_true]

/-- A read of the high word of a 64-bit register answers the latch, or where it is empty the word itself. -/
theorem State.read32_high {s : State} {a : Nat} (hwindow : windowAt (a + 4) = none) (hdecoded : isDecoded (a + 4) = true)
    (hhigh : isWide (a + 4) = false) (hwide : isWide a = true) :
    (∀ h, SMap.find s.latches a = some h →
      s.read32 (a + 4) = State.answer { s with latches := SMap.erase s.latches a } h) ∧
    (SMap.find s.latches a = none → s.read32 (a + 4) = s.answer (s.regValue a / 2 ^ 32)) := by
  simp only [State.read32, hwindow, hdecoded, hhigh, Nat.add_sub_cancel, hwide, Bool.not_true, Bool.false_eq_true, if_false,
    if_true]
  exact ⟨fun h hlatch => by simp only [hlatch], fun hlatch => by simp only [hlatch]⟩

/-- A register whose write only sets fields. -/
theorem State.regWrite_plain {s : State} {a v : Nat} (ha : s.writeA a v = none) (hb : s.writeB a v = none) :
    s.regWrite a v = s.plainWrite a v := by
  simp only [State.regWrite, ha, hb]

/-- JTAG_EN may be written in FACTORY, BLANK, OWNED and RETURN. -/
theorem State.jtagEnWritable_iff (s : State) : s.jtagEnWritable = true ↔ s.rd LCS_STATE_STATE ∈ [1, 2, 3, 5] :=
  List.contains_iff_mem

/-- What a field's access code makes of a value written to it. -/
theorem State.fieldWrite_cases (s : State) (f : Field) (i v : Nat) :
    (f.acc = .ro ∨ f.acc = .wo → s.fieldWrite f i v = s) ∧
    (f.acc = .rw ∨ f.acc = .rws → s.fieldWrite f i v = s.wrAt f i (clampNat f.vmin f.vmax v)) ∧
    (f.acc = .w1c → s.fieldWrite f i v = s.wrAt f i (s.rdAt f i - (s.rdAt f i &&& v))) ∧
    (f.acc = .w1s → s.fieldWrite f i v = s.wrAt f i (s.rdAt f i ||| v)) ∧
    (f.acc = .rwl → s.fieldWrite f i v = if s.rd LCS_STATE_STATE ∈ [1, 2, 3, 5] then s.wrAt f i v else s) := by
  refine ⟨?readOnly, ?writable, fun h => ?_, fun h => ?_, ?locked⟩
  case readOnly =>
    intro h
    rcases h with h | h <;> simp only [State.fieldWrite, h]
  case writable =>
    intro h
    rcases h with h | h <;> simp only [State.fieldWrite, h]
  · simp only [State.fieldWrite, h]
  · simp only [State.fieldWrite, h]
  case locked =>
    intro h
    simp only [State.fieldWrite, h]
    exact if_congr s.jtagEnWritable_iff rfl rfl

/-- Settles O58: each access by the rule of the word that it meets: unmapped, narrow, low or high. -/
theorem registerAccess : Obligations.RegisterAccess := by
  refine ⟨?busDown, ?badWrite, ?badRead, ?unmapped, ?plain, ?codes, ?lowRead, ?highRead, ?lowWrite, ?highHeld, ?highAlone,
    ?wholeRead, ?wholeWrite, ?released, ?wakes⟩
  case busDown =>
    intro a size v s h
    have hdown := State.hostBus_down (State.busUp_eq_false h)
    exact ⟨congrArg Host.Outcome.next (hdown _ _ _).1, congrArg Host.Outcome.next (hdown _ _ 0).2,
      congrArg Host.Outcome.next (hdown _ _ 0).2, congrArg Host.Outcome.next (hdown _ _ _).1,
      congrArg Host.Outcome.next (hdown _ _ _).1⟩
  case badWrite =>
    exact fun a size v s hup hword hdouble =>
      congrArg Host.Outcome.next ((if_neg (by simp [hup])).trans ((if_neg hword).trans (if_neg hdouble)))
  case badRead =>
    exact fun a n s hup hword hdouble =>
      congrArg Host.Outcome.next ((if_neg (by simp [hup])).trans ((if_neg hword).trans (if_neg hdouble)))
  case unmapped =>
    intro a v s hup ha hwindow hdecoded
    exact ⟨congrArg Host.Outcome.next ((State.hostWriteBus_word hup ha v).trans (State.write32_unmapped hwindow hdecoded _)),
      congrArg Host.Outcome.next ((State.hostReadBus_word hup ha).trans (State.read32_unmapped hwindow hdecoded))⟩
  case plain =>
    intro a v s hup ha hwindow hdecoded hwide hhigh hA hB
    exact congrArg Host.Outcome.next ((State.hostWriteBus_word hup ha v).trans
      ((State.write32_narrow hwindow hdecoded hwide hhigh _).trans (State.regWrite_plain hA hB)))
  case codes => exact State.fieldWrite_cases
  case lowRead =>
    exact fun a s hup ha hwindow hdecoded hwide =>
      congrArg Host.Outcome.next ((State.hostReadBus_word hup ha).trans (State.read32_low hwindow hdecoded hwide))
  case highRead =>
    intro a s hup ha hwindow hdecoded hhigh hwide
    obtain ⟨hlatched, hempty⟩ := State.read32_high (s := s) hwindow hdecoded hhigh hwide
    have hread := State.hostReadBus_word (a := a + 4) hup (by omega)
    exact ⟨fun h hlatch => congrArg Host.Outcome.next (hread.trans (hlatched h hlatch)),
      fun hlatch => congrArg Host.Outcome.next (hread.trans (hempty hlatch))⟩
  case lowWrite =>
    exact fun a v s hup ha hwindow hdecoded hwide =>
      congrArg Host.Outcome.next ((State.hostWriteBus_word hup ha v).trans (State.write32_low hwindow hdecoded hwide _))
  case highHeld =>
    intro a v low s hup ha hwindow hdecoded hhigh hwide hheld
    refine congrArg Host.Outcome.next ((State.hostWriteBus_word (a := a + 4) hup (by omega) v).trans ?_)
    rw [State.write32_high hwindow hdecoded hhigh hwide, hheld, Option.getD_some]
  case highAlone =>
    intro a v s hup ha hwindow hdecoded hhigh hwide hheld
    refine congrArg Host.Outcome.next ((State.hostWriteBus_word (a := a + 4) hup (by omega) v).trans ?_)
    rw [State.write32_high hwindow hdecoded hhigh hwide, hheld, Option.getD_none]
  case wholeRead =>
    intro a s hup ha hwindow hwide
    refine congrArg Host.Outcome.next ((if_neg (by simp [hup])).trans ((if_neg (by simp)).trans ((if_pos ⟨rfl, ha⟩).trans ?_)))
    exact (if_neg (by simp [hwindow])).trans (if_pos hwide)
  case wholeWrite =>
    intro a v s hup ha hwindow hwide
    refine congrArg Host.Outcome.next ((if_neg (by simp [hup])).trans ((if_neg (by simp)).trans ((if_pos ⟨rfl, ha⟩).trans ?_)))
    simp only [State.write64, hwindow, hwide, if_true]
  case released =>
    intro s h
    refine congrArg Host.Outcome.next (if_neg ?_)
    rintro ⟨hmode, hwake, hlow⟩
    rcases h with h | h | h
    · exact h hmode
    · exact absurd (h.symm.trans hwake) Bool.false_ne_true
    · exact absurd (hlow.symm.trans h) Bool.false_ne_true
  case wakes => exact fun s hmode hwake hlow => congrArg Host.Outcome.next (if_pos ⟨hmode, hwake, hlow⟩)

end Sys2Proof.Machine

/-! The flash window, SPI frames, SMBus (02, 13). -/

namespace Sys2Proof.Machine

open Sys2Proof

/-- A read of the flash window while the endpoint answers. -/
theorem exec_bar2Read_of_inside {s : State} {a n : Nat} {found : List FlashRead} (hup : s.busUp = true)
    (hperst : s.mgmt.perstN = true) (ha : a < 905969664) : exec (.bar2Read a n found) s =
    .next (match s.startingOp (a / 113246208) with
      | some x => ((s.unmarkSector (a / 113246208) x).bar2Answer a n found).markSector (a / 113246208) x
      | none => if s.flashRuns (a / 113246208) then s.busyRead (a / 113246208) else s.bar2Answer a n found) :=
  congrArg Host.Outcome.next ((if_neg (by simp [hup, hperst])).trans (if_neg (Nat.not_le.mpr ha)))

/-- A bank that runs no operation has none that starts. -/
theorem State.startingOp_of_idle {s : State} {b : Nat} (h : s.flashRuns b = false) : s.startingOp b = none :=
  if_neg (by simp [h])

/-- A read of a code that the target has, at its address. -/
theorem exec_smbusRead_of_code {s : State} {t c : Nat} {x : Bool × List Nat} (hmode : s.mode ≠ modeOff)
    (halert : t ≠ alertResponseAddress) (ht : t = s.rd MBX_SMB_ADDR) (hcode : s.smbusCode c = some x) :
    exec (.smbusRead t c) s =
      .next ((if c = 0x40 ∧ s.mode ≠ modeDeepSleep then s.smbusRelease else if c = 0x01 then s.tookN 2 else s).answerBytes
        (s.smbusShown x)) := by
  refine congrArg Host.Outcome.next ((if_neg hmode).trans ((if_neg fun h => halert h.1).trans
    ((if_neg (not_not.mpr ht)).trans ?_)))
  simp only [hcode]

/-- Settles O59: the flash window by its bank's operation, SMBus by the code's content. -/
theorem flashWindowAndSideBuses : Obligations.FlashWindowAndSideBuses := by
  refine ⟨?beyond, ?busy, ?words, ?starting, ?endpointReset, ?busDown, ?spiRead, ?spiWord, ?spiAbort, ?spiWrite, ?spiStatus,
    ?spiError, ?smbusOff, ?notAcknowledged, ?alertAddress, ?deepSleep, ?smbus⟩
  case beyond =>
    exact fun a n found s hup hperst ha =>
      congrArg Host.Outcome.next ((if_neg (by simp [hup, hperst])).trans (if_pos ha))
  case busy =>
    intro a n found s hup hperst ha hstarting hruns
    rw [exec_bar2Read_of_inside hup hperst ha, hstarting]
    exact congrArg Host.Outcome.next (if_pos hruns)
  case words =>
    intro a n found s hup hperst ha hidle r
    have hread : exec (.bar2Read a n found) s = .next (s.bar2Answer a n found) := by
      rw [exec_bar2Read_of_inside hup hperst ha, State.startingOp_of_idle hidle]
      exact congrArg Host.Outcome.next (if_neg (by simp [hidle]))
    rw [hread, State.bar2Answer]
    exact ⟨fun bs hr => by simp only [r] at hr; simp only [hr, r], fun hr => by simp only [r] at hr; simp only [hr, r]⟩
  case starting =>
    intro a n b x found s hup hperst ha hb hstarting
    subst hb
    rw [exec_bar2Read_of_inside hup hperst ha, hstarting]
  case endpointReset => exact fun a n found s hperst => congrArg Host.Outcome.next (if_pos (by simp [hperst]))
  case busDown =>
    intro a n c g found l s hdown
    refine ⟨congrArg Host.Outcome.next (if_pos (by simp [hdown])), congrArg Host.Outcome.next (if_pos (by simp [hdown])),
      congrArg Host.Outcome.next (if_neg (by simp [hdown])), congrArg Host.Outcome.next (if_neg (by simp [hdown])), ?_⟩
    exact congrArg Host.Outcome.next (State.hostBus_down hdown _ _ _).1
  case spiRead =>
    exact fun a n s hup => ⟨congrArg Host.Outcome.next (if_neg (by simp [hup])),
      congrArg Host.Outcome.next (if_neg (by simp [hup]))⟩
  case spiWord => exact fun a n s h => if_neg (by simp [h])
  case spiAbort => exact fun a n s h => if_pos h
  case spiWrite => exact fun a g gs s => ⟨rfl, rfl⟩
  case spiStatus =>
    intro s hup
    refine ⟨fun hready => ?_, fun hready => ?_⟩ <;> simp [exec, execSpiStatus, hup, hready, flag]
  case spiError => exact fun c s hup => congrArg Host.Outcome.next (if_pos hup)
  case smbusOff =>
    exact fun t c s hmode => ⟨congrArg Host.Outcome.next (if_pos hmode), congrArg Host.Outcome.next (if_pos hmode)⟩
  case notAcknowledged =>
    intro t c s hmode halert h
    refine congrArg Host.Outcome.next ((if_neg hmode).trans ((if_neg fun h => halert h.1).trans ?_))
    by_cases ht : t = s.rd MBX_SMB_ADDR
    · have hcode : s.smbusCode c = none := h.resolve_left (not_not.mpr ht)
      refine (if_neg (not_not.mpr ht)).trans ?_
      simp only [hcode]
    · exact if_pos ht
  case alertAddress =>
    exact fun c s hmode halert => congrArg Host.Outcome.next ((if_neg hmode).trans (if_pos ⟨rfl, halert⟩))
  case deepSleep =>
    intro t s hdeep halert ht
    have hmode : s.mode ≠ modeOff := by rw [hdeep]; decide
    have hread {c : Nat} {x : Bool × List Nat} (hcode : s.smbusCode c = some x) (hc : c ≠ 0x01) :
        exec (.smbusRead t c) s = .next (s.answerBytes (s.smbusShown x)) := by
      rw [exec_smbusRead_of_code hmode halert ht hcode, if_neg (fun h => h.2 hdeep), if_neg hc]
    refine ⟨congrArg Host.Outcome.next ((if_neg hmode).trans (if_pos hdeep)), ?_, ?_, ?_⟩
    · rw [hread rfl (by decide), State.smbusShown, if_pos ⟨hdeep, rfl⟩]
    · rw [hread rfl (by decide), State.smbusShown, if_pos ⟨hdeep, rfl⟩]
    · rw [hread rfl (by decide), State.smbusShown, if_neg (fun h => Bool.false_ne_true h.2), hdeep]
  case smbus =>
    intro t s hmode hdeep halert ht
    have hshown (x : Bool × List Nat) : s.smbusShown x = x.2 := if_neg fun h => hdeep h.1
    have hread {c : Nat} {x : Bool × List Nat} (hcode : s.smbusCode c = some x) (halertCode : c ≠ 0x40) (hc : c ≠ 0x01) :
        exec (.smbusRead t c) s = .next (s.answerBytes x.2) := by
      rw [exec_smbusRead_of_code hmode halert ht hcode, if_neg (fun h => halertCode h.1), if_neg hc, hshown]
    have hrelease : exec .smbusAlertRead s = .next (s.smbusRelease.answerBytes [s.rd THM_ALERT]) :=
      congrArg Host.Outcome.next ((if_neg hmode).trans (if_neg hdeep))
    refine ⟨hrelease, ?_, hread (c := 0x30) rfl (by decide) (by decide), hread (c := 0x20) rfl (by decide) (by decide),
      hread (c := 0x12) rfl (by decide) (by decide)⟩
    rw [hrelease, exec_smbusRead_of_code hmode halert ht rfl, if_pos ⟨rfl, hdeep⟩, hshown]

end Sys2Proof.Machine

/-! The steward's restarts, TIMEOUT of a command, DMA errors of a command's own data (02). -/

namespace Sys2Proof.Machine

open Sys2Proof

/-- The three rows that restart the steward do it with their own cause. -/
theorem exec_stewardRestart {c : Instr} {k : Nat} (h : (c, k) ∈ [(Instr.stewardWatchdogExpiry, 0),
    (Instr.stewardLockstepMismatch, 1), (Instr.stewardPoisonedFetch, 2)]) (s : State) :
    exec c s = .next (s.stewardRestart k) := by
  simp only [List.mem_cons, Prod.mk.injEq, List.not_mem_nil, or_false] at h
  rcases h with ⟨rfl, rfl⟩ | ⟨rfl, rfl⟩ | ⟨rfl, rfl⟩ <;> rfl

/-- The TIMEOUT row of a command whose TIMEOUT has expired. -/
theorem exec_commandTimeout_of_expired {id : Nat} {c : InFlight} {s : State} (hcmd : s.cmd id = some c)
    (hexpired : c.expiresAt < s.now) : exec (.commandTimeout id) s = .next (s.timeOut c) := by
  simp only [exec, execCommandTimeout, hcmd, hexpired, if_true]

/-- Settles O60: the restarts by the steward's state, the expiry by what the command is part of. -/
theorem stewardAndTimeouts : Obligations.StewardAndTimeouts := by
  refine ⟨?restart, ?done, ?notDone, ?noRestart, ?noCommand, ?notExpired, ?expired, ?load, ?entry, ?noError, ?error, ?rings⟩
  case restart =>
    intro c k s hrow
    rw [exec_stewardRestart hrow]
    refine ⟨?stopped, ?running, ?booting, ?bootsAgain, ?restarting, ?restartsAgain⟩
    case stopped => intro h; simp only [State.stewardRestart, h]
    case running => intro h s1; simp only [State.stewardRestart, h, s1]
    case booting => intro h hk; simp only [State.stewardRestart, h, hk, if_true]
    case bootsAgain => intro h hk s1; simp only [State.stewardRestart, h, hk, if_false, s1]
    case restarting => intro t h hk; simp only [State.stewardRestart, h, hk, if_true]
    case restartsAgain => intro t h hk s1; simp only [State.stewardRestart, h, hk, if_false, s1]
  case done => intro t s h ht; simp only [exec, execStewardRestartDone, h, ht, if_true]
  case notDone => intro t s h ht; simp only [exec, execStewardRestartDone, h, Nat.not_le.mpr ht, if_false]
  case noRestart =>
    intro s h
    rcases h with h | h | h <;> simp only [exec, execStewardRestartDone, h]
  case noCommand =>
    intro id s hcmd
    refine ⟨?_, fun n => ?_⟩
    · simp only [exec, execCommandTimeout, hcmd]
    · simp only [exec, execCommandDataDmaError, hcmd]
  case notExpired =>
    intro id c s hcmd hnow
    simp only [exec, execCommandTimeout, hcmd, Nat.not_lt.mpr hnow, if_false]
  case expired =>
    intro id c s hcmd hexpired hload hentry hid
    subst hid
    rw [exec_commandTimeout_of_expired hcmd hexpired]
    simp only [State.timeOut, hload, hentry]
  case load =>
    intro id c l s hcmd hexpired hload hid
    rw [exec_commandTimeout_of_expired hcmd hexpired]
    simp only [State.timeOut, hload, hid, if_true]
  case entry =>
    intro id c e s hcmd hexpired hload hentry hid
    rw [exec_commandTimeout_of_expired hcmd hexpired]
    simp only [State.timeOut, hload, hentry, hid, if_true]
  case noError =>
    intro id n c s hcmd h
    rcases h with h | h <;> simp [exec, execCommandDataDmaError, hcmd, h]
  case error =>
    intro id n c s hcmd hbegun hn hop t p
    have hrow : exec (.commandDataDmaError id n) s = .next (if c.begun || !((t.cmd id).isNone && t.lastStatus c.ring == 0) ||
        decide (s.dmaLength c.bytes ≤ n) then s else (p.2.complete id p.1).dmaFault 4) := by
      simp only [exec, execCommandDataDmaError, hcmd, if_neg hop, t, p]
    rw [hrow]
    by_cases hdone : t.cmd id = none ∧ t.lastStatus c.ring = 0
    · rw [if_pos hdone]
      exact congrArg Host.Outcome.next (if_neg (by simp [hbegun, hdone.1, hdone.2, hn]))
    · rw [if_neg hdone]
      refine congrArg Host.Outcome.next (if_pos ?_)
      have hrefused : ((t.cmd id).isNone && t.lastStatus c.ring == 0) = false := by
        simpa [Option.isNone_iff_eq_none] using hdone
      simp [hrefused]
  case rings =>
    intro s n
    obtain ⟨_, hcmd, hcpl, hevt⟩ := s.dmaFault_bits n
    exact ⟨hcmd, hcpl, hevt⟩

end Sys2Proof.Machine
